-- ==== Sys2Proof/Machine/Bits.lean ====
section
/-! DEFINITION. Bit fields, byte order and the small arithmetic the rest of the machine uses. -/

namespace Sys2Proof.Machine

/-- Bits `[hi:lo]` of `v`, as the spec writes bit ranges (00_scope, Register descriptions). -/
def bits (v hi lo : Nat) : Nat := (v / 2 ^ lo) % 2 ^ (hi + 1 - lo)

/-- Bit `n` of `v`. -/
def bit (v n : Nat) : Bool := (v / 2 ^ n) % 2 == 1

/-- 1 for true, 0 for false: how a flag stands in a register. -/
def b2n (b : Bool) : Nat := if b then 1 else 0

/-- `v` with bits `[hi:lo]` replaced by `x`. -/
def setBits (v hi lo x : Nat) : Nat :=
  v / 2 ^ (hi + 1) * 2 ^ (hi + 1) + x % 2 ^ (hi + 1 - lo) * 2 ^ lo + v % 2 ^ lo

/-- `v` with bit `n` set to `b`. -/
def setBit (v n : Nat) (b : Bool) : Nat := setBits v n n (b2n b)

/-- The positions below `n` whose bit of `v` is 1, lowest first. -/
def bitsSet (v n : Nat) : List Nat := (List.range n).filter (bit v)

/-- `a / b` rounded up. -/
def ceilDiv (a b : Nat) : Nat := (a + b - 1) / b

/-- The value of `n` bits read as two's complement. -/
def toSigned (n v : Nat) : Int :=
  let w := v % 2 ^ n
  if w < 2 ^ (n - 1) then (w : Int) else (w : Int) - (2 ^ n : Nat)

/-- An integer narrowed to `n` bits of two's complement. -/
def ofSigned (n : Nat) (i : Int) : Nat := (i % (2 ^ n : Nat)).toNat

/-- The little-endian number of a list of bytes (R5, Descriptors and tables in memory). -/
def leNat : List Nat → Nat
  | [] => 0
  | b :: bs => b % 256 + 256 * leNat bs

/-- The `n` bytes of `v`, least significant first. -/
def leBytes : Nat → Nat → List Nat
  | 0, _ => []
  | n + 1, v => v % 256 :: leBytes n (v / 256)

/-- Bytes `lo` to `hi` of a list as a little-endian number; bytes past its end read 0. -/
def bytesAt (bs : List Nat) (lo hi : Nat) : Nat := leNat ((bs.drop lo).take (hi + 1 - lo))

/-- Byte `i` of a list; past its end 0. -/
def byteAt (bs : List Nat) (i : Nat) : Nat := bs.getD i 0

/-- The sum of a list of numbers. -/
def sum (l : List Nat) : Nat := l.foldl (· + ·) 0

/-- `a - b`, never below 0. -/
def monus (a b : Nat) : Nat := a - b

/-- A keyed element put into a list in ascending key order, behind equal keys. -/
def insertBy {α : Type} (x : Nat × α) : List (Nat × α) → List (Nat × α)
  | [] => [x]
  | y :: r => if x.1 < y.1 then x :: y :: r else y :: insertBy x r

/-- A list of keyed elements in ascending key order; equal keys keep their order. -/
def sortBy {α : Type} (l : List (Nat × α)) : List (Nat × α) := l.foldl (fun a x => insertBy x a) []

/-- The lowest number at or above `lo` that is no key of a table. -/
def lowestFree {α : Type} (m : List (Nat × α)) (lo : Nat) : Nat :=
  (((List.range (m.length + 1)).map (lo + ·)).find? (fun k => !m.any (fun e => e.1 == k))).getD lo

end Sys2Proof.Machine
end

