-- ==== Sys2Proof/Machine/Packet.lean ====
section
/-! DEFINITION. Packets: the fabric header (R233), the TLP fields the spec names, and a packet as it stands in the
pipeline, in a queue and in the output log. -/

namespace Sys2Proof.Machine

/-- The fields of the 32 B fabric header (R233); LENGTH is the raw 12-bit field. -/
structure FabHdr where
  type : Nat := 0
  dst : Nat := 0
  src : Nat := 0
  stream : Nat := 0
  tag : Nat := 0
  length : Nat := 0
  drain : Bool := false
  reroutable : Bool := false
  ackReq : Bool := false
  prefetch : Bool := false
  timed : Bool := false
  yellow : Bool := false
  poison : Bool := false
  addr : Nat := 0
  ts : Nat := 0
deriving DecidableEq, Repr

/-- The header fields of the 256-bit number `h` (R233); reserved bits are ignored (R237). -/
def FabHdr.ofNat (h : Nat) : FabHdr :=
  { type := bits h 255 252, dst := bits h 251 240, src := bits h 239 228, stream := bits h 227 196,
    tag := bits h 195 180, length := bits h 179 168, drain := bit h 166, reroutable := bit h 165,
    ackReq := bit h 164, prefetch := bit h 163, timed := bit h 162, yellow := bit h 161, poison := bit h 160,
    addr := bits h 147 96, ts := bits h 95 32 }

/-- The 256-bit number of a header, reserved bits 0 (R233, R237). -/
def FabHdr.toNat (h : FabHdr) : Nat :=
  h.type * 2 ^ 252 + h.dst * 2 ^ 240 + h.src * 2 ^ 228 + h.stream * 2 ^ 196 + h.tag * 2 ^ 180 + h.length * 2 ^ 168
    + b2n h.drain * 2 ^ 166 + b2n h.reroutable * 2 ^ 165 + b2n h.ackReq * 2 ^ 164 + b2n h.prefetch * 2 ^ 163
    + b2n h.timed * 2 ^ 162 + b2n h.yellow * 2 ^ 161 + b2n h.poison * 2 ^ 160 + h.addr * 2 ^ 96 + h.ts * 2 ^ 32

/-- The 32 header bytes on the wire: byte j carries bits [255-8j : 248-8j] (R234). -/
def FabHdr.wire (h : FabHdr) : List Nat := (leBytes 32 h.toNat).reverse

/-- The header that 32 wire bytes spell (R234). -/
def FabHdr.ofWire (bs : List Nat) : FabHdr := FabHdr.ofNat (leNat (bs.take 32).reverse)

/-- Payload bytes that LENGTH names: 0 means 4,096 B (R233). -/
def FabHdr.lenBytes (h : FabHdr) : Nat := if h.length = 0 then 4096 else h.length * 4

/-- Whether LENGTH is a value R237 calls MALFORMED. -/
def FabHdr.lenBad (h : FabHdr) : Bool := decide (0x400 ≤ h.length)

/-- The LENGTH field for `n` payload bytes (R233, R379). -/
def lenField (n : Nat) : Nat := ceilDiv n 4 % 1024

/-- Requester ID of a stream ID (R81). -/
def streamReq (st : Nat) : Nat := bits st 31 16
/-- Host domain of a stream ID (R81). -/
def streamHd (st : Nat) : Nat := bits st 15 6
/-- Traffic class of a stream ID (R81). -/
def streamTc (st : Nat) : Nat := bits st 5 3
/-- The stream ID of a requester, domain and TC (R81). -/
def mkStream (req hd tc : Nat) : Nat := req % 2 ^ 16 * 2 ^ 16 + hd % 1024 * 64 + tc % 8 * 8

/-- Fabric packet types (R236). -/
def tWRITE : Nat := 0
def tREAD : Nat := 1
def tCOMPLETION : Nat := 2
def tMESSAGE : Nat := 3
def tMIRROR : Nat := 4
def tCUE : Nat := 5
def tINTERRUPT : Nat := 6
def tADMIN : Nat := 7

/-- The kinds of TLP the rules tell apart (R93, R97, R341, R380). -/
inductive TlpKind where
  | memRd | memWr | lockRd | ioRd | ioWr | cfgRd0 | cfgWr0 | cfgRd1 | cfgWr1 | msg | msgD | cpl | cplD | cplLk
  | fetchAdd | swap | cas | other
deriving DecidableEq, Repr

/-- The TLP fields that the rules read. `req` is the Requester ID field, `cplr` the Completer ID of a completion,
`addr` the address (for configuration and ID routing the target ID in [31:16] and the register in [11:0]). -/
structure Tlp where
  kind : TlpKind := .memWr
  req : Nat := 0
  cplr : Nat := 0
  tag : Nat := 0
  tc : Nat := 0
  addr : Nat := 0
  dw : Nat := 0
  fbe : Nat := 15
  lbe : Nat := 15
  ep : Bool := false
  td : Bool := false
  relaxed : Bool := false
  ido : Bool := false
  addrType : Nat := 0
  hdrDw : Nat := 4
  status : Nat := 0
  byteCount : Nat := 0
  msgCode : Nat := 0
  msgRoute : Nat := 0
  malformed : Bool := false
deriving DecidableEq, Repr

/-- Whether a TLP kind is a request that awaits a completion. -/
def TlpKind.nonPosted : TlpKind → Bool
  | .memRd | .lockRd | .ioRd | .ioWr | .cfgRd0 | .cfgWr0 | .cfgRd1 | .cfgWr1 | .fetchAdd | .swap | .cas => true
  | _ => false

/-- Whether a TLP kind is a completion. -/
def TlpKind.isCpl : TlpKind → Bool
  | .cpl | .cplD | .cplLk => true
  | _ => false

/-- Whether a TLP kind is an AtomicOp. -/
def TlpKind.atomic : TlpKind → Bool
  | .fetchAdd | .swap | .cas => true
  | _ => false

/-- Whether a TLP kind carries data. -/
def TlpKind.hasData : TlpKind → Bool
  | .memWr | .ioWr | .cfgWr0 | .cfgWr1 | .msgD | .cplD | .fetchAdd | .swap | .cas => true
  | _ => false

/-- Whether a TLP kind is a memory request or an AtomicOp. -/
def TlpKind.memory : TlpKind → Bool
  | .memRd | .memWr | .lockRd | .fetchAdd | .swap | .cas => true
  | _ => false

/-- Whether a TLP kind is routed by ID. -/
def TlpKind.byId : TlpKind → Bool
  | .cfgRd0 | .cfgWr0 | .cfgRd1 | .cfgWr1 | .cpl | .cplD | .cplLk => true
  | _ => false

/-- A TLP request that was bridged, as its answer needs it (R383, R397): where to answer, the bytes asked for, the
byte order of its window and the fabric address of its first byte. -/
structure HostReq where
  port : Nat := 0
  req : Nat := 0
  tag : Nat := 0
  tc : Nat := 0
  hd : Nat := 0
  addr : Nat := 0
  dw : Nat := 0
  fbe : Nat := 15
  lbe : Nat := 15
  order : Nat := 0
  unit : Nat := 0
  fab : Nat := 0
  cfg : Bool := false
  write : Bool := false
deriving DecidableEq, Repr

/-- Who a non-posted request of this device answers to, or who issued a packet. -/
inductive Owner where
  /-- no one at this device waits -/
  | none
  /-- descriptor at submission index `idx` of global QP `qp` -/
  | desc (qp idx : Nat)
  /-- fabric load of core `c`, slot `slot` -/
  | coreLoad (c slot : Nat)
  /-- fabric store of core `c`, entry `slot` -/
  | coreStore (c slot : Nat)
  /-- prefetch line -/
  | line (n : Nat)
  /-- a bridged request of a host or endpoint -/
  | host (r : HostReq)
  /-- request issued at a PCIe port for a fabric requester: source DID, stream, tag, first address, whether it is a
  configuration request, and the enables of a masked read -/
  | fabric (did stream tag addr : Nat) (cfg : Bool) (fbe lbe : Nat)
  /-- drain marker of move-table entry `n` -/
  | move (n : Nat)
  /-- merge of a dirty-log word of VF `v` -/
  | dirty (v word : Nat)
  /-- mirror binding of producer word `w` by the descriptor -/
  | mirror (qp idx w : Nat)
  /-- copy of session `s` -/
  | session (s : Nat)
  /-- launch-table entry `n` -/
  | launch (n : Nat)
  /-- acknowledgement owed to a fabric source when the packet is granted egress: DID, stream, tag -/
  | ack (did stream tag : Nat)
deriving DecidableEq, Repr

/-- A packet in its egress form, as it waits in a queue and as it leaves. -/
structure QPkt where
  id : Nat := 0
  ing : Nat := 255
  fab : Bool := true
  hdr : FabHdr := {}
  tlp : Tlp := {}
  data : List Nat := []
  le : Nat := 0
  colour : Nat := 0
  sl : Nat := 0
  sub : Nat := 0
  commitNs : Nat := 0
  len : Nat := 0
  ingFab : Bool := true
  bridged : Bool := false
  owner : Owner := .none
  /-- an answer that the device gives itself when it flushes or ends its own request (R262, R566) -/
  own : Bool := false
  flow : Option Nat := none
  held : Bool := false
deriving DecidableEq, Repr

/-- Buffer cells of a packet of `n` bytes (R77). -/
def cellsOf (n : Nat) : Nat := ceilDiv n 128

/-- The bytes a stored packet takes in the overflow memory: tail record and packet, padded to 64 B (R129). -/
def storedBytes (le : Nat) : Nat := ceilDiv (le + 16) 64 * 64

/-- The dwords that the Length field of a TLP counts: 0 stands for 1,024 (PCIe). -/
def Tlp.dws (t : Tlp) : Nat := if t.dw % 1024 = 0 then 1024 else t.dw % 1024

/-- The bytes that the Byte Count field of a completion counts: 0 stands for 4,096 (PCIe). -/
def Tlp.remaining (t : Tlp) : Nat := if t.byteCount % 4096 = 0 then 4096 else t.byteCount % 4096

/-- The length of a TLP with header and data, without framing (R77). -/
def Tlp.length (t : Tlp) : Nat := t.hdrDw * 4 + (if t.kind.hasData then t.dws * 4 else 0)

/-- The length of a fabric packet (R77): header and payload. -/
def fabLength (data : List Nat) : Nat := 32 + data.length

end Sys2Proof.Machine
end

