-- ==== Sys2Proof/Machine/SMap.lean ====
section
/-! DEFINITION. Sparse tables by number: a list of (key, value) pairs in one canonical form. Keys rise strictly,
and no entry holds the table's default, which is what an unlisted key reads as; so equal tables are equal lists. -/

namespace Sys2Proof.Machine

/-- A table of `α` by number. -/
abbrev SMap (α : Type) := List (Nat × α)

/-- What key `k` holds; `d` where no entry is listed. -/
def SMap.get {α : Type} (m : SMap α) (k : Nat) (d : α) : α :=
  match m with
  | [] => d
  | (k', v) :: r => if k' = k then v else SMap.get r k d

/-- The table without any entry for `k`. -/
def SMap.erase {α : Type} (m : SMap α) (k : Nat) : SMap α :=
  match m with
  | [] => []
  | (k', v) :: r => if k' = k then SMap.erase r k else (k', v) :: SMap.erase r k

/-- The table with `v` put in at key `k`, in order. -/
def SMap.insert {α : Type} (m : SMap α) (k : Nat) (v : α) : SMap α :=
  match m with
  | [] => [(k, v)]
  | (k', v') :: r =>
    if k < k' then (k, v) :: (k', v') :: r
    else if k = k' then (k, v) :: r
    else (k', v') :: SMap.insert r k v

/-- The table with key `k` holding `v`; writing the default removes the entry. -/
def SMap.set {α : Type} [DecidableEq α] (m : SMap α) (k : Nat) (v d : α) : SMap α :=
  if v = d then SMap.erase m k else SMap.insert m k v

/-- Keys rise strictly. -/
def SMap.sorted {α : Type} (m : SMap α) : Bool :=
  match m with
  | [] => true
  | [_] => true
  | a :: b :: r => decide (a.1 < b.1) && SMap.sorted (b :: r)

/-- The canonical form: keys rise strictly and no entry holds the default. -/
def SMap.wf {α : Type} [DecidableEq α] (m : SMap α) (d : α) : Bool :=
  SMap.sorted m && m.all (fun e => decide (e.2 ≠ d))

/-- The entries of the table with their keys. -/
def SMap.toList {α : Type} (m : SMap α) : List (Nat × α) := m

end Sys2Proof.Machine
end

