-- ==== Sys2Proof/Machine/StateChm.lean ====
section
/-! DEFINITION. State of the Chamois complex: the cores as the rules name them, the mover region store, accesses held
by an update hold, and applets (R480 to R517). -/

namespace Sys2Proof.Machine

/-- A memory access of a core (R505): kind 0 load, 1 store, 2 instruction fetch, 3 AMO; mode 0 user, 1 supervisor,
3 machine; `n` bytes; the data of a store or the operand of an AMO; `op` the AMO (funct5 of its encoding). -/
structure CoreAcc where
  kind : Nat := 0
  mode : Nat := 3
  addr : Nat := 0
  n : Nat := 4
  data : List Nat := []
  op : Nat := 0
deriving DecidableEq, Repr

/-- A fabric store that is not yet acknowledged (R484, R501): its TAG and the ticks it has waited. -/
structure CoreStore where
  tag : Nat := 0
  ticks : Nat := 0
deriving DecidableEq, Repr

/-- A Chamois core (R480 to R491, R501, R502, R515): fabric stores not acknowledged, the fabric load that waits, the
stores that a FENCE.SYS waits for and whether one was lost, mchstat, accesses held by the MPU, the frozen access and
when it was frozen, the reservation of LR, mcause and mtval, pending bits 16 and 13 of mip and bit 16 of mie, the
privilege mode, the counters, the watchdog's count, and the writes that wait for a tick hook to return. -/
structure Core where
  stores : List CoreStore := []
  load : Option (Nat × CoreAcc) := none
  fence : Option (List Nat) := none
  fenceLost : Bool := false
  barrierLoss : Bool := false
  lost : Nat := 0
  held : List CoreAcc := []
  frozenAcc : Option CoreAcc := none
  frozenAt : Nat := 0
  resv : Option (Nat × Nat) := none
  mcause : Nat := 0
  mtval : Nat := 0
  tickPending : Bool := false
  tickEnable : Bool := false
  ofPending : Bool := false
  mode : Nat := 3
  cycle : Nat := 0
  instret : Nat := 0
  hpm : SMap Nat := []
  hpmEvent : SMap Nat := []
  mcounteren : Nat := 0
  scounteren : Nat := 0
  wdt : Nat := 0
  hook : List (Nat × Nat) := []
deriving DecidableEq, Repr

/-- What START gives an applet (R488). -/
structure Applet where
  grant : Nat := 0
  owner : Nat := 0
deriving DecidableEq, Repr

/-- A mover step that an update hold keeps back (R508): the next accesses of a descriptor, and the release of a
launch-table entry. -/
inductive MoverHeld where
  | start (q idx : Nat)
  | release (n : Nat)
deriving DecidableEq, Repr

/-- CHAMOIS. `regions` holds the valid region images by PD × 16 + region; `held` the mover
steps that an update hold keeps back; `adaptAt` the queue at which the adaptation engine resumes and `scanAt` the flow entry (R492, R495);
`stagedMoves` the moves it staged: flow entry and hop. -/
structure ChmSt where
  cores : SMap Core := []
  regions : SMap Nat := []
  held : List MoverHeld := []
  applets : SMap Applet := []
  adaptAt : Nat := 0
  scanAt : Nat := 0
  stagedMoves : List (Nat × Nat) := []
deriving DecidableEq, Repr

end Sys2Proof.Machine
end

