-- ==== Sys2Proof/Machine/StateFault.lean ====
section
/-! DEFINITION. State of the fault collector beyond its registers, and the events that blocks raise. -/

namespace Sys2Proof.Machine

/-- What an event names (R539, R548): port, requester ID of an ingress stream, host domain, QP, core, slot channel,
and a block's own argument. -/
structure Subj where
  port : Option Nat := none
  stream : Option Nat := none
  hd : Option Nat := none
  qp : Option Nat := none
  core : Option Nat := none
  slot : Option Nat := none
  arg : Nat := 0
deriving DecidableEq, Repr

/-- An event raised and not yet taken by the collector; `remote` gives the origin DID of a notice. -/
structure Raise where
  src : Nat := 0
  subj : Subj := {}
  forced : Bool := false
deriving DecidableEq, Repr

/-- A frozen requester stream (R511): port, requester ID, domain if it has one, the source that froze it, and when. -/
structure StreamEnt where
  port : Nat := 0
  req : Nat := 0
  hd : Option Nat := none
  src : Nat := 0
  at_ : Nat := 0
deriving DecidableEq, Repr

/-- A record of the merge table (R562); its subject is its key. -/
structure NoticeRec where
  sev : Nat := 0
  src : Nat := 0
  remote : Bool := false
  reporters : Nat := 0
  tick : Nat := 0
  first : Nat := 0
deriving DecidableEq, Repr

/-- The fault collector beyond its registers: the closing tick of each open window, whether source 177 still has its
severity per cluster (R542), the fault log and the notice log by index as words of their tables (R568), the merge table by subject
(R562), whether an interrupt is due at the next edge (R557), and whether a FATAL action is pending (R552). -/
structure FltSt where
  close : SMap Nat := []
  perCluster : Bool := true
  log : SMap (List Nat) := []
  nlog : SMap (List Nat) := []
  merge : SMap (Option NoticeRec) := []
  irq : Bool := false
  fatalDue : Bool := false
deriving DecidableEq, Repr

end Sys2Proof.Machine
end

