-- ==== Sys2Proof/Machine/StateTime.lean ====
section
/-! DEFINITION. State of the TIME block and of the cue pins that the registers do not show. -/

namespace Sys2Proof.Machine

/-- What a TIME slot of a partner says (R43, R320): tick number of the next mark, period fields, pending change
(tick and period fields), UID of the time root, hop count, and the sender's state. -/
structure TimeSlot where
  tick : Nat := 0
  quanta : Nat := 0
  split : Nat := 0
  pendTick : Nat := 0
  pendQuanta : Nat := 0
  pendSplit : Nat := 0
  rootUid : Nat := 0
  hops : Nat := 0xFF
  state : Nat := 0
deriving DecidableEq, Repr

/-- Time synchronisation of one fabric port (R42 to R48). -/
structure TimePort where
  slot : Option TimeSlot := none
  calOk : Bool := false
  missed : Nat := 0
  markDue : Bool := false
  clockLost : Bool := false
  exchanges : List Nat := []
deriving DecidableEq, Repr

/-- A time-root election vector (R35): lower wins, compared priority, class, UID. -/
structure TimeVec where
  prio : Nat := 0xFF
  cls : Nat := 2
  uid : Nat := 0
  hops : Nat := 0
deriving DecidableEq, Repr

/-- What the clock is slewing towards (R36, R38, R51). -/
inductive Slew where
  | none | cellref | source | tickIn
deriving DecidableEq, Repr

/-- The TIME block (R28 to R66). `ct` is cell time in units of 2^-16 ns, `edge` the cell time in ns of the latest
tick edge, `tick` its number. `epoch` is the candidate epoch (R39), `cand` the source measured in HOLDOVER: octet,
offset in 2^-16 ns, cell time in ns and the source's tick number at the measurement; `root` marks the time root. -/
structure TimeSt where
  ct : Nat := 0
  tick : Nat := 0
  edge : Nat := 0
  pend : Option (Nat × Nat × Nat) := none
  epoch : Option (Nat × Nat) := none
  cls : Nat := 2
  onCellref : Bool := false
  slew : Slew := .none
  stepReq : Bool := false
  cand : Option (Nat × Int × Nat × Nat) := none
  root : Bool := false
  ports : SMap TimePort := []
  claims : SMap (Option TimeVec) := []
  claimSeen : Bool := false
  winSteps : Nat := 0
  quietSteps : Nat := 0
  quietDone : Bool := false
  lastView : Nat := 0
  tickOut : Bool := false
  tickInLast : Option Nat := none
  overruns : Nat := 0
  hookOpen : Nat := 0
deriving DecidableEq, Repr

/-- One edge queued on a cue pin (R58): time in ns, level, and the descriptor or packet that waits for it. -/
structure CueEdge where
  at_ : Nat := 0
  level : Bool := false
  last : Bool := true
  qp : Option (Nat × Nat) := none
  remote : Option (Nat × Nat × Nat) := none
deriving DecidableEq, Repr

/-- A cue pin (R58 to R60, R401, R402): mode in force, driven level, level before the latest driven edge and its time,
queued edges, and what a follow output drives at the next edge. -/
structure CuePin where
  mode : Nat := 3
  next : Bool := false
  level : Bool := false
  before : Bool := false
  edgeAt : Nat := 0
  queue : List CueEdge := []
deriving DecidableEq, Repr

/-- A mirror word (R404 to R411): role 0 free, 1 producer, 2 consumer; source; period; owner; its peer and the peer's
period; the tick of the latest accepted entry, and the tick since which none has come. -/
structure Mirror where
  role : Nat := 0
  source : Nat := 0
  period : Nat := 0
  owner : Nat := 0
  bound : Bool := false
  stale : Bool := false
  peerDid : Nat := 0
  peerWord : Nat := 0
  peerP : Nat := 0
  lastTick : Nat := 0
  since : Nat := 0
  due : Bool := false
deriving DecidableEq, Repr

/-- Cue pins and mirror words. -/
structure CueSt where
  pins : SMap CuePin := []
  mirrors : SMap Mirror := []
deriving DecidableEq, Repr

end Sys2Proof.Machine
end

