-- ==== Sys2Proof/Machine/Inputs.lean ====
section
/-! DEFINITION. Shapes of what commands carry into the device. -/

namespace Sys2Proof.Machine

end Sys2Proof.Machine
end

