-- ==== Sys2Proof/Word.lean ====
section
/-! DEFINITION. The words of the model: a byte and a 32-bit register word.
The spec's registers are 32 bits wide (R5) and its memories are byte-addressed; field values, counts,
addresses and times that the spec computes with as numbers are natural numbers, narrowed where the spec
says at which width they wrap. -/

namespace Sys2Proof

/-- One byte. -/
abbrev Byte := BitVec 8

/-- One 32-bit register word (R5). -/
abbrev Word := BitVec 32

end Sys2Proof
end

