-- ==== Sys2Proof/Syntax.lean ====
section
/-! DEFINITION. The commands of the device: one constructor for each row of the spec's table of effects, with what a
sender of the command gives. An operand `t` is the cell time, in ns, at which the command happens: the time the device
shows is never earlier than it. An operand `q idx` names a descriptor in progress by its QP and submission index. -/

namespace Sys2Proof
open Machine

inductive Instr where
  /-- A write to a setup register that has no row of its own replaces or sets its fields by their access codes (R5).
  Path 0 is the anchor PF BAR0, 1 an ADMIN packet, 2 SMBus, 3 JTAG, 4 + c core c, 16 + n the PF of upstream port
  number n, 0x1000 + f the register page of function f. -/
  | registerWrite (t path off v : Nat)
  /-- A read of the low word of a 64-bit pair captures the high word into a holding copy (R9). -/
  | lowWordRead (t path off : Nat)
  /-- A write of the high word of a 64-bit pair makes both held words take effect in one sample (R9). -/
  | highWordWrite (t path off v : Nat)
  /-- Cell time reaches a multiple of T_TICK, and the tick number increments and the per-tick jobs run (R29). `mask`
  names the jobs of this edge that will not have finished by the next: 0 hardware, 1 coalescing, 2 mirror, 3
  adaptation; `cues` the levels on the 48 cue balls. -/
  | tickEdge (mask cues : Nat)
  /-- A write of TICK_CHANGE_AT on the time root requests, replaces or withdraws a tick period change, or is rejected
  (R33). `v` is the 64-bit value of the pair. -/
  | tickChangeAtWrite (t path v : Nat)
  /-- At the requested change tick the new period takes effect and gate lists are re-examined (R33). -/
  | periodChangeEdge (t : Nat)
  /-- On a device issuing no tick edges, the XO-timed 31.25 µs interval runs the Herd discovery and election steps
  (R53). -/
  | acquiringInterval (t : Nat)
  /-- The time root loses CELLREF, enters HOLDOVER on XO_IN and raises CELLREF_LOSS (R36). -/
  | cellrefLoss (t : Nat)
  /-- CELLREF_OK returns and the time root leaves HOLDOVER, re-enters ROOT and slews onto CELLREF (R36). -/
  | cellrefReturn (t : Nat)
  /-- A change of TIME_CTRL.ENABLE ends the time-root role or keeps the loaded epoch and enters ACQUIRING (R39). `v`
  is the word written to TIME_CTRL. -/
  | timeEnableWrite (t path v : Nat)
  /-- A write of CELL_TIME_LOAD or TICK_NUM_LOAD stores the candidate epoch or is discarded with LOAD_REJECTED (R39).
  `v` is the 64-bit value of the pair; `tickNum` names TICK_NUM_LOAD. -/
  | cellTimeLoad (t path : Nat) (tickNum : Bool) (v : Nat)
  /-- A write of TIME_CTRL.STEP_NOW steps cell time to the source at the next tick sample (R52). `v` is the word
  written to TIME_CTRL. -/
  | stepNow (t path v : Nat)
  /-- A rising edge on TICK_IN aligns the root's ticks or acts as a wake source (R38). -/
  | tickInEdge (t : Nat)
  /-- A receiver accepts a tick mark on a clock lane and checks it against the TIME slot (R42). `t` is in units of
  2^-16 ns; `freq` is the frequency offset of the clock lane. -/
  | tickMark (t k freq : Nat)
  /-- Before each tick edge a fabric port sends the TIME_A and TIME_B slot pair (R320). -/
  | timeSlotSend (t k : Nat)
  /-- The source clock lane stops, marks go missing or the link goes down, and the device switches source or enters
  HOLDOVER (R49). `cause` is 0 the clock lane, 1 missing marks, 2 the link. -/
  | sourceLoss (t k cause : Nat)
  /-- A candidate becomes valid during HOLDOVER and the device measures its offset and slews or waits (R51). The
  offset is in 2^-16 ns, `n` the tick number of the source now. -/
  | candidateValid (t k : Nat) (off : Int) (n : Nat)
  /-- Slewing brings the offset within 1 ns and the device enters LOCKED (R51). -/
  | slewLocked (t : Nat)
  /-- Every PTM_CTRL.INTERVAL ticks an upstream port requests PTM time and stores HOST_OFFSET (R57). `host` is the PTM
  time of the host at the tick edge. -/
  | ptmRequester (t n host : Nat)
  /-- A downstream port answers a PTM request with cell time (R361). -/
  | ptmRequest (t p : Nat)
  /-- Cell time reaches a queued cue edge and the pin drives its level (R58). -/
  | cueEdgeDue (t pin : Nat)
  /-- The first header bytes of a packet arrive and are parsed, classified and keyed (R69). A fabric port takes the
  header `h`, a PCIe port the TLP. -/
  | packetParse (t p : Nat) (h : FabHdr) (tlp : Tlp)
  /-- A waiting header obtains a free speculation record of its pipeline (R70). -/
  | specRecordGrant (t id : Nat)
  /-- A lookup slot is granted and the flow, window, route and meter are looked up and the meter debited (R92). -/
  | lookupSlotGrant (t id : Nat)
  /-- Headroom cells become available and the packet's egress reservation is taken (R111). -/
  | headroomReserve (t id : Nat)
  /-- The last byte of a packet is checked and the decision order links, traps or discards it (R97). `ok`: the check
  passed; `data` is the payload. -/
  | packetCommit (t id : Nat) (ok ecrcOk : Bool) (data : List Nat)
  /-- A write of FWD_CTRL.CAPTURE_ARM arms capture of the next discard in LAST_DROP (R107). `v` is the word written to
  FWD_CTRL. -/
  | captureArm (t path v : Nat)
  /-- Setting SESS_CTRL.EN zeroes the session's SEQ and restarts sampling (R104). `v` is the word written to
  SESS_CTRL. -/
  | sessionEnable (t path n v : Nat)
  /-- FLOW_SET ADD places a new flow entry, moving resident entries if needed (R86). -/
  | flowSetAdd (t q idx : Nat)
  /-- FLOW_SET REPLACE changes an existing flow entry, through a move when its hop selection changes (R91). -/
  | flowSetReplace (t q idx : Nat)
  /-- FLOW_SET DELETE removes a flow entry, through a move when its hop selection changes (R91). -/
  | flowSetDelete (t q idx : Nat)
  /-- FLOW_SET READ returns the stored entry or an all-zero image (R85). -/
  | flowSetRead (t q idx : Nat)
  /-- The spill writer finishes writing a staged packet to its queue's DRAM tail and frees its staging cells (R119).
  -/
  | spillWriteDone (t q : Nat)
  /-- A spilled queue's on-chip occupancy falls below REFILL_THRESHOLD and refill reads are issued (R121). -/
  | refillStart (t q : Nat)
  /-- A refill read returns and the packet joins the end of the on-chip head (R121). `result` is 0 clean, 1 corrected,
  2 data bad, 3 tail record bad, 4 a link error. -/
  | refillComplete (t q ch result : Nat)
  /-- Every 1 ms the controller reads MR4, scales refresh and may stop spilling (R135). `hot` is the mask of channels
  above the operating range. -/
  | mr4Poll (t hot : Nat)
  /-- After SR_IDLE_TICKS idle ticks the DRAM channels enter self-refresh (R136). -/
  | dramSelfRefresh (t : Nat)
  /-- Channel training ends and READY is set, with failed channels removed (R132). `fail` is the mask of channels that
  failed. -/
  | dramTrainingDone (t fail : Nat)
  /-- A write of DRAM_CTRL.INIT clears READY and stops the channels (R133). `v` is the word written to DRAM_CTRL. -/
  | dramInit (t path v : Nat)
  /-- A write of DRAM_CFG while not READY starts a fresh initialisation (R133). `v` is the word written to DRAM_CFG.
  -/
  | dramCfgWrite (t path v : Nat)
  /-- METER_SET BIND binds meters to a profile and counter set and fills their buckets (R148). -/
  | meterBind (t q idx : Nat)
  /-- METER_SET PROFILE writes a profile and clamps the levels of its meters (R148). -/
  | meterProfile (t q idx : Nat)
  /-- METER_SET READ meter returns the meter and its profile (R166). -/
  | meterRead (t q idx : Nat)
  /-- METER_SET READ profile returns a profile image (R166). -/
  | meterProfileRead (t q idx : Nat)
  /-- SHAPER_SET writes a queue, node or port shaper and sets its tokens by RESET_MODE (R158). -/
  | shaperSet (t q idx : Nat)
  /-- SHAPER_SET with READ returns the shaper's pairs and token levels (R167). -/
  | shaperRead (t q idx : Nat)
  /-- QUEUE_MAP MAP binds a queue number to an egress triple or as default queue (R149). -/
  | queueMapMap (t q idx : Nat)
  /-- QUEUE_MAP UNMAP flushes a queue and frees its number (R153). -/
  | queueMapUnmap (t q idx : Nat)
  /-- QUEUE_MAP READ returns the queue map entry (R168). -/
  | queueMapRead (t q idx : Nat)
  /-- ADAPT_BOUNDS target 0x01 sets SHAPED bounds of a queue (R169). -/
  | adaptBoundsShaped (t q idx : Nat)
  /-- ADAPT_BOUNDS target 0x02 sets BULK overflow bounds of a queue (R169). -/
  | adaptBoundsBulk (t q idx : Nat)
  /-- ADAPT_BOUNDS target 0x03 deletes a queue's bounds (R163). -/
  | adaptBoundsDelete (t q idx : Nat)
  /-- A port can start a packet and the scheduler selects one, debits shapers and classes the slot (R159). `kind` is 0
  for packet data, 1 a TLP replay, 2 a slot of the link layer, 3 the management endpoint; `types` gives the
  flow-control credit of a PCIe port. -/
  | egressSlot (t p kind types : Nat)
  /-- The next entry of an operational gate list comes into force (R174). -/
  | gateEntryStart (t p : Nat)
  /-- GATE_LIST_LOAD loads entries into a port's admin list from a host array (R206). -/
  | gateListLoad (t q idx : Nat)
  /-- GATE_LIST_LOAD with READ copies a gate list to the host array (R205). -/
  | gateListRead (t q idx : Nat)
  /-- The host array read of a list load completes or fails, and the load completes (R206). `status` is that of the
  host completion: 0 SC, 1 UR, 4 CA, 7 none in time. -/
  | gateListFetchDone (t q idx status : Nat) (poison : Bool) (data : List Nat)
  /-- GATE_SWAP names a swap time and is accepted as pending or refused (R177). -/
  | gateSwap (t q idx : Nat)
  /-- At the arm edge the pending swap is checked again and armed or dropped (R179). -/
  | swapArm (t p : Nat)
  /-- At S the admin list becomes operational or the port enters OPEN, and the swap completes (R180). -/
  | swapTakeEffect (t p : Nat)
  /-- A TIMED_WRITE descriptor takes a launch-table entry (R194). -/
  | timedWrite (t q idx : Nat)
  /-- A TIMED_CUE descriptor takes a launch-table entry (R202). -/
  | timedCue (t q idx : Nat)
  /-- At a descriptor's release edge it is released: run-ahead obtained and data fetched, or cue edges queued or sent
  (R192). `n` is the launch-table entry. -/
  | timedRelease (t n : Nat)
  /-- The fetched data of a timed write arrives, or is discarded when late (R198). -/
  | timedFetchDone (t n status : Nat) (poison : Bool) (data : List Nat)
  /-- At L_t the timed write commits when its data is complete, or completes LATE (R197). -/
  | timedLaunch (t n : Nat)
  /-- A fabric CUE packet arrives and its edges are queued on the pin (R203). At port `p`. -/
  | cuePacket (t p : Nat) (h : FabHdr) (data : List Nat)
  /-- A write of OBS_PORT_CTRL.CLEAR zeroes the port's slot and programmable counters (R217). `v` is the word written
  to OBS_PORT_CTRL. -/
  | obsCounterClear (t path p v : Nat)
  /-- At a sample point the device records depth and sojourn of queues and writes sample ring entries (R223). `j`
  counts the sample points of the tick. -/
  | queueSamplePoint (t j : Nat)
  /-- Setting OBS_RING_CFG.EN zeroes the ring tail and sets PHASE to 1 (R226). `v` is the word written to
  OBS_RING_CFG. -/
  | sampleRingEnable (t path v : Nat)
  /-- SNAPSHOT with SCOPE 0x01 schedules a capture on this device at the next tick (R229). -/
  | snapshotLocal (t q idx : Nat)
  /-- SNAPSHOT with SCOPE 0x02 sends the capture request to the Herd root (R229). -/
  | snapshotFabric (t q idx : Nat)
  /-- At the edge of T the device copies the selected state into its snapshot bank (R230). -/
  | snapshotCapture (t : Nat)
  /-- A HELLO arrives on a fabric port and updates the adjacency (R243). On octet `k`. -/
  | hello (t k uid prio port flags depth : Nat)
  /-- Three ticks pass without a HELLO and the adjacency goes down (R243). -/
  | adjacencyTimeout (t k : Nat)
  /-- A CLAIM arrives and the device updates its best root vector and parent (R244). -/
  | claim (t k prio uid dist flags : Nat)
  /-- A TIME_CLAIM arrives and updates the time-root election (R35). -/
  | timeClaim (t k prio cls uid hops : Nat)
  /-- A root vector unchanged for 3 ticks makes the root established (R245). -/
  | rootEstablished (t : Nat)
  /-- The fabric with the worse root performs a Herd fabric reset at its next tick edge to join the winner (R245). -/
  | fabricMergeReset (t : Nat)
  /-- A device that has held the same root vector for 3 ticks sends JOIN towards the root (R246). -/
  | joinSend (t : Nat)
  /-- The root receives a JOIN and answers with an ASSIGN (R246). `req` is the DID field, `dist` the distance of the
  joining device. -/
  | join (t k uid req dist : Nat)
  /-- An ASSIGN arrives and gives the device its DID (R246). -/
  | assign (t k uid did seq : Nat)
  /-- An LSU arrives and replaces an older stored LSU; the root may announce an epoch (R250). -/
  | lsu (t k origin seq nbr oport nport cost delay flags : Nat)
  /-- At the epoch tick every device installs routes computed from its database (R252). -/
  | epochInstall (t : Nat)
  /-- A write of HERD_CTRL.REBALANCE rewrites every route's map (R255). `v` is the word written to HERD_CTRL. -/
  | rebalance (t path v : Nat)
  /-- A write of HERD_CTRL.APPLY_PENDING advertises held adjacencies as up (R256). `v` is the word written to
  HERD_CTRL. -/
  | applyPending (t path v : Nat)
  /-- A destination commits a drain marker and returns a COMPLETION to the marker's DID (R260). At port `p`. -/
  | drainMarker (t p : Nat) (h : FabHdr) (data : List Nat)
  /-- The drain marker's COMPLETION arrives and the flow entry is updated and HELD marks cleared (R259). At port `p`.
  -/
  | moveComplete (t p : Nat) (h : FabHdr) (data : List Nat)
  /-- A move's COMPLETION has not arrived after TIMEOUT ticks and the move is finished anyway (R261). -/
  | moveTimeout (t n : Nat)
  /-- A LOSS_NOTICE arrives and is delivered to the store's issuer (R263). At port `p`. -/
  | lossNotice (t p : Nat) (h : FabHdr) (data : List Nat)
  /-- A DOMAIN_CLAIM arrives and is forwarded to the parent or recorded at the root (R265). -/
  | domainClaim (t k uid hd port flags : Nat)
  /-- A DOMAIN message arrives and updates the domain table, or refuses an upstream port (R266). -/
  | domain (t k hd did port flags claimant seq : Nat)
  /-- HERD_GLOBAL_CMD OP BARRIER_ARRIVE registers this device's arrival at a barrier (R269). `v` is the word written
  to HERD_GLOBAL_CMD. -/
  | barrierArrive (t path v : Nat)
  /-- HERD_GLOBAL_CMD OP BROADCAST sends HERD_GLOBAL_ARG to the root for broadcast (R270). `v` is the word written to
  HERD_GLOBAL_CMD. -/
  | broadcast (t path v : Nat)
  /-- HERD_GLOBAL_CMD OP FABRIC_RESET_HERD requests a Herd fabric reset (R272). `v` is the word written to
  HERD_GLOBAL_CMD. -/
  | fabricResetHerd (t path v : Nat)
  /-- HERD_GLOBAL_CMD OP FABRIC_RESET_DEVICE requests a warm device reset of every device (R272). `v` is the word
  written to HERD_GLOBAL_CMD. -/
  | fabricResetDevice (t path v : Nat)
  /-- A GLOBAL_UP arrives and is merged and passed up, or handled at the root (R267). -/
  | globalUp (t k op id count status value : Nat)
  /-- A GLOBAL announcement or COMPLETE arrives and is forwarded down the tree (R267). -/
  | global (t k op arg value tick : Nat)
  /-- At the action tick every device performs the global operation (R267). -/
  | globalAction (t : Nat)
  /-- ROUTE_PIN PIN_DID writes a DID–UID pin into the DID table (R275). -/
  | routePinDid (t q idx : Nat)
  /-- ROUTE_PIN UNPIN_DID removes a DID pin (R275). -/
  | routeUnpinDid (t q idx : Nat)
  /-- ROUTE_PIN PIN_HOPS fixes a route's hop positions and fills its map (R275). -/
  | routePinHops (t q idx : Nat)
  /-- ROUTE_PIN UNPIN_HOPS clears PINNED so the next epoch recomputes the route (R275). -/
  | routeUnpinHops (t q idx : Nat)
  /-- ROUTE_PIN READ returns the route entry (R275). -/
  | routeRead (t q idx : Nat)
  /-- A fabric ADMIN packet arrives and is performed as a setup access or refused (R240). At port `p`. -/
  | adminPacket (t p : Nat) (h : FabHdr) (data : List Nat)
  /-- A fabric WRITE to own DID is performed in local fabric space and acknowledged when requested (R374). At port
  `p`. -/
  | fabricWrite (t p : Nat) (h : FabHdr) (data : List Nat)
  /-- A fabric READ to own DID is issued in local fabric space and answered by a COMPLETION (R374). At port `p`. -/
  | fabricRead (t p : Nat) (h : FabHdr) (data : List Nat)
  /-- A fabric COMPLETION arrives and ends the request or acknowledged write with its TAG (R238). At port `p`. -/
  | completion (t p : Nat) (h : FabHdr) (data : List Nat)
  /-- A write of OCT_MODE changes mode, fabric role or port enables, or is rejected (R279). `v` is the word written to
  OCT_MODE. -/
  | octModeWrite (t path k v : Nat)
  /-- A training block with the ack flag arrives and advances the fabric bring-up state (R285). `raw` holds the bytes
  received on the lane. -/
  | trainingBlock (t k lane : Nat) (raw : List Nat)
  /-- An equalisation error count over 2^22 bits ends and lanes pass or retry (R288). `counts` gives lanes with their
  errors. -/
  | eqCountDone (t k : Nat) (counts : List (Nat × Nat))
  /-- A bring-up state times out and the port enters FAILED (R291). -/
  | bringupTimeout (t k : Nat)
  /-- 100 ms after FAILED the port restarts bring-up at DETECT (R291). -/
  | bringupRetry (t k : Nat)
  /-- A receiving clock lane loses lock and the port stops being a time-source candidate (R294). -/
  | clockLaneLoss (t k : Nat)
  /-- A clock lane relocks and the port may again become a candidate after calibration (R294). -/
  | clockLaneRelock (t k : Nat)
  /-- A transmitter idle for DOZE_IDLE_NS sends the Doze ordered set and enters Doze (R295). -/
  | dozeEntry (t k : Nat)
  /-- A flit becomes ready and the transmitter sends a wake sequence and leaves Doze (R296). -/
  | dozeExit (t k : Nat)
  /-- 250 ns before a tick edge or a TIMED gate opening the transmitter leaves Doze (R296). -/
  | dozeTimedWake (t k : Nat)
  /-- A write of HIBERNATE_REQ = 1 takes the adjacency down and stops the lanes, or is refused (R297). `v` is the word
  written to OCT_POWER. -/
  | hibernateEnter (t path k v : Nat)
  /-- A write of HIBERNATE_REQ = 0 starts relocking the lanes (R297). `v` is the word written to OCT_POWER. -/
  | hibernateExit (t path k v : Nat)
  /-- The lanes relock and the port enters ACTIVE, or goes to DETECT on failure (R297). -/
  | hibernateExitDone (t k : Nat) (ok : Bool)
  /-- A write of LANE_PRBS_CTRL.INJECT inverts one transmitted bit (R302). `v` is the word written to LANE_PRBS_CTRL
  of lane `i`. -/
  | prbsInject (t path k i v : Nat)
  /-- A write of LANE_PRBS_CTRL.CLEAR zeroes the checker counters (R302). `v` is the word written to LANE_PRBS_CTRL of
  lane `i`. -/
  | prbsClear (t path k i v : Nat)
  /-- A flit arrives and is checked, accepted, reordered, delivered and its link slots processed (R312). `t` is in
  units of 2^-16 ns. -/
  | flitReceive (t k : Nat) (bytes : List Nat)
  /-- A number still missing NAK_RETRY_NS after its NAK is NAKed again or the link goes down (R327). -/
  | nakRetry (t k : Nat)
  /-- At least every 1 µs the receiver sends CREDIT and ACK (R324). -/
  | creditKeepalive (t k : Nat)
  /-- A write of LINK_CTRL.FORCE_DOWN declares the link down with reason SOFTWARE (R330). `v` is the word written to
  LINK_CTRL. -/
  | forceDown (t path k v : Nat)
  /-- Electrical idle not preceded by a DOZE flit declares the link down (R330). -/
  | partnerLost (t k : Nat)
  /-- A write of LINK_CTRL.CHANGE_REQ sends LINK_REQ for a planned rate or width change (R332). `v` is the word
  written to LINK_CTRL. -/
  | linkChangeReq (t path k v : Nat)
  /-- An end not drained within DRAIN_TIMEOUT declares the link down (R333). -/
  | drainTimeout (t k : Nat)
  /-- A planned change ends and the port re-enters ACTIVE or goes down with CHANGE_FAIL (R334). -/
  | linkChangeDone (t k : Nat) (ok : Bool) (rate width : Nat)
  /-- A PCIe port completes training and reaches DL_Up (R343). `flit`: Flit Mode. -/
  | pcieLinkUp (t p rate width : Nat) (flit : Bool)
  /-- A PCIe port goes DL_Down; its queues are flushed and requests answered (R357). -/
  | pcieDlDown (t p : Nat) (hot : Bool)
  /-- A Configuration Request to a virtual hierarchy is answered, retried or carried to a remote device (R346).
  `fields` gives the numbered configuration fields that the register covers, with the values written. -/
  | configRequest (t p : Nat) (tlp : Tlp) (fields : List (Nat × Nat)) (data : List Nat)
  /-- Setting PORT_HIER_CTRL.HIER_READY makes the vUSP answer normally and lets downstream ports train (R346). `v` is
  the word written to PORT_HIER_CTRL. -/
  | hierReady (t path p v : Nat)
  /-- A write of Retrain Link at a local vDSP retrains the physical port (R351). -/
  | retrainLink (t hd dev : Nat)
  /-- A write of Link Disable at a local vDSP disables the physical link (R351). -/
  | linkDisable (t hd dev : Nat) (on : Bool)
  /-- A write of Secondary Bus Reset places a hot reset on the downstream link (R351). -/
  | secondaryBusReset (t hd dev : Nat) (on : Bool)
  /-- A vDSP enters DPC on an error or trigger; the port is contained and its queues flushed (R362). `kind` is 0 an
  uncorrectable error, 1 ERR_NONFATAL, 2 ERR_FATAL. -/
  | dpcEntry (t p kind bitNo : Nat)
  /-- A write of DPC Software Trigger enters DPC (R362). -/
  | dpcSoftwareTrigger (t hd dev : Nat)
  /-- A write of PORT_DPC.TRIGGER enters DPC as a software trigger (R362). `v` is the word written to PORT_DPC. -/
  | dpcTrigger (t path p v : Nat)
  /-- A write of PORT_DPC.RELEASE ends containment and the link retrains (R363). `v` is the word written to PORT_DPC.
  -/
  | dpcRelease (t path p v : Nat)
  /-- The host clears DPC Trigger Status and containment ends, or a release is carried to the remote device (R363). -/
  | dpcStatusClear (t hd dev : Nat)
  /-- A Slot Control write of Power Controller Control sets the channel's power request (R365). -/
  | powerControllerControl (t hd dev : Nat) (off : Bool)
  /-- A Slot Control write of an indicator control drives PWR_LED or ATTN_LED (R364). `c` is 1 on, 2 blink, 3 off;
  `attn` names the attention indicator. -/
  | indicatorControl (t hd dev : Nat) (attn : Bool) (c : Nat)
  /-- 100 ms after the channel reports ON, PERSTO_N is deasserted (R367). -/
  | perstDeassert (t p : Nat)
  /-- A MASKED_WRITE bridge message arrives and writes the enabled bytes (R380). At port `p`. -/
  | maskedWrite (t p : Nat) (h : FabHdr) (data : List Nat)
  /-- A MASKED_READ bridge message arrives and is answered by a COMPLETION (R380). At port `p`. -/
  | maskedRead (t p : Nat) (h : FabHdr) (data : List Nat)
  /-- A PORT_WATCH message registers a watcher of a port's state (R381). At port `p`. -/
  | portWatch (t p : Nat) (h : FabHdr) (data : List Nat)
  /-- A PORT_STATE message arrives and updates the vDSP of a fabric-remote endpoint (R381). At port `p`. -/
  | portState (t p : Nat) (h : FabHdr) (data : List Nat)
  /-- At least every 64 ticks the holder sends PORT_STATE to each watcher (R381). -/
  | portStateRefresh (t : Nat)
  /-- A DPC_RELEASE message acts as PORT_DPC.RELEASE at the holder (R381). At port `p`. -/
  | dpcReleaseMessage (t p : Nat) (h : FabHdr) (data : List Nat)
  /-- A PCIE_MSG message arrives and the home presents it at the endpoint's vDSP (R381). At port `p`. -/
  | pcieMsg (t p : Nat) (h : FabHdr) (data : List Nat)
  /-- A bridged read or configuration request without completion after NP_TIMEOUT is answered with UR (R384). -/
  | bridgeNpTimeout (t tag : Nat)
  /-- At its launch edge a held TIMED-window write is tested and committed (R389). -/
  | timedWindowLaunch (t n : Nat)
  /-- A prefetch completion arrives and fills or discards its line (R395). -/
  | prefetchFill (t tag status : Nat) (poison : Bool) (data : List Nat)
  /-- At the first tick edge after its issue tick a prefetch line is discarded (R394). -/
  | prefetchLineExpire (t : Nat)
  /-- An INTERRUPT packet arrives at the home and is issued to the host as a memory write (R400). At port `p`. -/
  | interruptPacket (t p : Nat) (h : FabHdr) (data : List Nat)
  /-- A write of CUE_SCHED_CMD.GO queues a cue edge and reports the result (R403). `v` is the word written to
  CUE_SCHED_CMD. -/
  | cueSched (t path v : Nat)
  /-- At a tick edge where a producer's period is due, its value is sent in a MIRROR packet (R406). -/
  | mirrorSend (t : Nat)
  /-- A MIRROR packet arrives and bound consumer words take newer values (R407). At port `p`. -/
  | mirrorPacket (t p : Nat) (h : FabHdr) (data : List Nat)
  /-- A consumer with no accepted entry for 4 × P ticks sets STALE (R407). -/
  | mirrorStale (t w : Nat)
  /-- An MW_BIND message asks a consumer to bind and is answered with its period (R408). At port `p`. -/
  | mwBind (t p : Nat) (h : FabHdr) (data : List Nat)
  /-- An MW_UNBIND message removes a consumer's binding (R380). At port `p`. -/
  | mwUnbind (t p : Nat) (h : FabHdr) (data : List Nat)
  /-- An MW_PERIOD message gives the producer a consumer's new period (R408). At port `p`. -/
  | mwPeriod (t p : Nat) (h : FabHdr) (data : List Nat)
  /-- WINDOW_SET SET installs or replaces a host window (R409). -/
  | windowSet (t q idx : Nat)
  /-- WINDOW_SET CLEAR removes a host window (R409). -/
  | windowClear (t q idx : Nat)
  /-- WINDOW_SET READ returns a host window (R409). -/
  | windowRead (t q idx : Nat)
  /-- MIRROR_BIND BIND binds a producer word to a remote consumer (R410). -/
  | mirrorBind (t q idx : Nat)
  /-- MIRROR_BIND UNBIND removes a producer's binding (R410). -/
  | mirrorUnbind (t q idx : Nat)
  /-- MIRROR_SAMPLE_SET sets role, source, period and owner of mirror words (R411). -/
  | mirrorSampleSet (t q idx : Nat)
  /-- QP_CMD ENABLE makes a DISABLED QP ACTIVE with reset indices (R428). Of the QP that QP_SEL of function `f` names.
  -/
  | qpEnable (t f : Nat)
  /-- QP_CMD DISABLE makes a QP DRAINING and stops its work (R429). -/
  | qpDisable (t f : Nat)
  /-- Nothing of a DRAINING QP remains outstanding and it becomes DISABLED (R429). -/
  | qpDrainDone (t q : Nat)
  /-- An SQ tail doorbell write is accepted or is a doorbell error that freezes the QP (R431). `l` is the local QP
  number. -/
  | sqDoorbell (t f l v : Nat)
  /-- A CQ head doorbell write frees CQ entries or is a doorbell error (R431). -/
  | cqDoorbell (t f l v : Nat)
  /-- A descriptor fetch completes and descriptors start, or a failed fetch freezes the QP (R451). `status` is 0 SC, 1
  UR, 4 CA, 5 poisoned, 7 none in time. -/
  | descriptorFetch (t q status : Nat) (bytes : List Nat)
  /-- A WRITE descriptor sends host data as fabric WRITE packets (R439). -/
  | ringWrite (t q idx : Nat)
  /-- A READ descriptor issues fabric READs into host memory (R440). -/
  | ringRead (t q idx : Nat)
  /-- A SEND descriptor copies data into another function's data slot and CQ entry (R441). -/
  | send (t q idx : Nat)
  /-- An ACK_WAIT WRITE without acknowledgement after NP_TIMEOUT completes with TIMEOUT (R439). -/
  | writeAckTimeout (t tag : Nat)
  /-- A ring READ without completion after NP_TIMEOUT completes with TIMEOUT (R440). -/
  | readTimeout (t tag : Nat)
  /-- OBSERVER_SET EVT_SEL writes an event selector (R444). -/
  | observerEvtSel (t q idx : Nat)
  /-- OBSERVER_SET SAMPLE writes a sample selection entry (R444). -/
  | observerSample (t q idx : Nat)
  /-- OBSERVER_SET VF_VIS sets a VF's counter visibility (R444). -/
  | observerVfVis (t q idx : Nat)
  /-- OBSERVER_SET CLEAR clears a port's observer counters (R444). -/
  | observerClear (t q idx : Nat)
  /-- A write setting VF Enable creates the PF's VFs or is discarded (R454). Of PF `n`. -/
  | vfEnable (t n : Nat)
  /-- A write clearing VF Enable removes and resets every VF of the PF (R454). -/
  | vfEnableClear (t n : Nat)
  /-- VF_RESOURCES QPS sets a function's QP count (R458). -/
  | vfQps (t q idx : Nat)
  /-- VF_RESOURCES VECTORS sets a function's MSI-X vector count (R459). -/
  | vfVectors (t q idx : Nat)
  /-- VF_RESOURCES REGIONS writes MPU region images into a VF's PD (R461). -/
  | vfRegions (t q idx : Nat)
  /-- VF_RESOURCES METER sets a function meter (R460). -/
  | vfMeter (t q idx : Nat)
  /-- VF_RESOURCES COALESCE sets a function's coalescing period (R464). -/
  | vfCoalesce (t q idx : Nat)
  /-- VF_RESOURCES DIRTY_START starts dirty-page logging into bitmap A (R474). -/
  | dirtyStart (t q idx : Nat)
  /-- VF_RESOURCES DIRTY_SYNC switches bitmaps and merges the old one (R474). -/
  | dirtySync (t q idx : Nat)
  /-- VF_RESOURCES DIRTY_STOP merges the active bitmap and ends logging (R474). -/
  | dirtyStop (t q idx : Nat)
  /-- VF_RESOURCES READ returns a VF's resource image (R462). -/
  | vfResourcesRead (t q idx : Nat)
  /-- A bitmap word merge read or write completes, or fails and stops logging (R473). `host` is the word that a read
  returned. -/
  | dirtyMergeDone (t v w : Nat) (write : Bool) (status host : Nat)
  /-- A Function Level Reset of a VF or PF starts a VF reset (R466). -/
  | functionLevelReset (t f : Nat)
  /-- A VF_RESET descriptor starts a VF reset that stops rings and flushes queues (R467). -/
  | vfReset (t q idx : Nat)
  /-- NP_TIMEOUT after the trigger, outstanding reads of the VF are squashed (R468). -/
  | vfResetSquash (t f : Nat)
  /-- Reads and posted writes of a resetting VF are done and the reset completes (R468). -/
  | vfResetComplete (t f : Nat)
  /-- A core load, store or fetch is checked by its MPU and performed (R505). -/
  | coreMemoryAccess (t c : Nat) (x : CoreAcc)
  /-- A core load in the fabric window becomes a fabric READ and waits for its completion (R485). -/
  | coreFabricLoad (t c : Nat) (x : CoreAcc)
  /-- A fabric load without completion after NP_TIMEOUT raises a load access fault (R485). -/
  | coreLoadTimeout (t c : Nat)
  /-- A core store in the fabric window becomes an acknowledged fabric WRITE (R484). -/
  | coreFabricStore (t c : Nat) (x : CoreAcc)
  /-- A fabric store not acknowledged in STORE_ACK_TICKS is declared lost (R501). -/
  | storeAckTimeout (t c tag : Nat)
  /-- FENCE.CORE orders a core's accesses as seen by its TCMs (R498). -/
  | fenceCore (t c : Nat)
  /-- FENCE.CLUSTER drains earlier stores to the cluster L2 (R498). -/
  | fenceCluster (t c : Nat)
  /-- FENCE.SYS waits until every earlier store is acknowledged or lost (R501). -/
  | fenceSys (t c : Nat)
  /-- APPLET_LOAD LOAD reads an applet image into an empty slot (R488). -/
  | appletLoad (t q idx : Nat)
  /-- APPLET_LOAD START runs a loaded applet on a CL1 core (R488). -/
  | appletStart (t q idx : Nat)
  /-- APPLET_LOAD STOP returns a running or faulted applet to LOADED (R488). -/
  | appletStop (t q idx : Nat)
  /-- APPLET_LOAD UNLOAD makes a loaded slot EMPTY (R488). -/
  | appletUnload (t q idx : Nat)
  /-- APPLET_LOAD READ returns an applet slot's status and header (R488). -/
  | appletRead (t q idx : Nat)
  /-- An applet's tick hook returns and its MW_VALUE and CUE_SCHED writes are applied (R489). -/
  | appletHookReturn (t k : Nat)
  /-- A write of CORE_WDT.KICK restarts a core's watchdog count (R491). `v` is the word written to CORE_WDT. -/
  | watchdogKick (t path c v : Nat)
  /-- A core that does not kick within TICKS edges trips its watchdog (R491). -/
  | watchdogTrip (t c : Nat)
  /-- FREEZE_RELEASE descriptor of kind core resumes or resets a frozen core (R512). -/
  | freezeReleaseCore (t q idx : Nat)
  /-- FREEZE_RELEASE descriptor of kind QP clears a QP's freeze record (R512). -/
  | freezeReleaseQp (t q idx : Nat)
  /-- FREEZE_RELEASE descriptor of kind stream releases a frozen requester stream (R512). -/
  | freezeReleaseStream (t q idx : Nat)
  /-- A FREEZE_RELEASE register write of kind core releases a frozen core (R512). `v` is the word written to
  FREEZE_RELEASE. -/
  | freezeReleaseRegCore (t path v : Nat)
  /-- A FREEZE_RELEASE register write of kind QP releases a frozen QP (R512). `v` is the word written to
  FREEZE_RELEASE. -/
  | freezeReleaseRegQp (t path v : Nat)
  /-- A FREEZE_RELEASE register write of kind stream releases a frozen stream (R512). `v` is the word written to
  FREEZE_RELEASE. -/
  | freezeReleaseRegStream (t path v : Nat)
  /-- Clearing an MPU's ENABLE places it in update hold (R508). Unit `u` is core 0 to 7 with CORE_MPU_CTRL, or 8 the
  movers with MOVER_MPU_HOLD. -/
  | mpuUpdateHold (t path u v : Nat)
  /-- Setting an MPU's ENABLE checks held accesses against the new regions (R508). Unit `u` is core 0 to 7 with
  CORE_MPU_CTRL, or 8 the movers with MOVER_MPU_HOLD. -/
  | mpuHoldRelease (t path u v : Nat)
  /-- A write of CH_CTRL.RUN releases a core from reset or holds it in reset (R591). `v` is the word written to
  CH_CTRL. -/
  | coreRun (t path v : Nat)
  /-- The scrubber reads the next word at its paced rate (R529). -/
  | scrubRead (t : Nat)
  /-- A merge-buffer entry drains when full, idle for 32 clocks, or displaced (R528). `w` is the word of the core
  memories. -/
  | mergeDrain (t w : Nat)
  /-- ECC_TEST CMD WRITE_RAW stores data and check byte without encoding (R534). `v` is the word written to
  ECC_TEST_CTRL. -/
  | eccWriteRaw (t path v : Nat)
  /-- ECC_TEST CMD READ_RAW returns stored data, check byte and syndrome (R534). `v` is the word written to
  ECC_TEST_CTRL. -/
  | eccReadRaw (t path v : Nat)
  /-- ECC_TEST CMD READ returns corrected data as a functional read (R534). `v` is the word written to ECC_TEST_CTRL.
  -/
  | eccTestRead (t path v : Nat)
  /-- A block raises a fault source and the collector classifies and acts on it (R539). -/
  | faultEvent (t src : Nat) (subj : Subj)
  /-- A write of FAULT_SRC_CFG.FORCE raises one forced event (R539). `v` is the word written to FAULT_SRC_CFG. -/
  | faultForce (t path n v : Nat)
  /-- A source's count-in-window closes at the edge of t0 + WINDOW (R543). -/
  | classifierWindowClose (t n : Nat)
  /-- Writing 1 to an FSW bit acknowledges the source and sets its MAX_SEV to NOTE (R540). `v` is the word written to
  FAULT_FSW. -/
  | fswAcknowledge (t path i v : Nat)
  /-- A FAULT_NOTICE arrives and is merged, forwarded or logged (R562). -/
  | faultNotice (t k subject src flags reporters tick first : Nat)
  /-- FAULT_CONTAIN_RELEASE of kind port ends a port's containment (R551). `v` is the word written to
  FAULT_CONTAIN_RELEASE. -/
  | containReleasePort (t path v : Nat)
  /-- FAULT_CONTAIN_RELEASE of kind host domain ends a domain's containment (R551). `v` is the word written to
  FAULT_CONTAIN_RELEASE. -/
  | containReleaseDomain (t path v : Nat)
  /-- A rail falls below its POR-assert level and a cold device reset is triggered (R641). -/
  | powerOnReset
  /-- A low level of 100 ns or more on RESET_N triggers a cold device reset (R572). -/
  | resetNAssert
  /-- The SMBus RESET command triggers a warm or cold device reset (R569). -/
  | smbusReset (t arg : Nat) (bad : Bool)
  /-- A write of RST_DEVICE with the correct KEY triggers a device reset (R569). `v` is the word written to
  RST_DEVICE. -/
  | deviceReset (t path v : Nat)
  /-- A sensor reaches 125 °C, THERMTRIP_N is driven and a cold reset is triggered (R646). -/
  | thermalTrip
  /-- The hottest sensor reaches its threshold and THERMAL_WARN is raised (R646). -/
  | thermalWarn
  /-- A rail outside its fault window for 10 µs raises SUPPLY_FAULT (R641). `n` counts the rails in the order of the
  table of R641. -/
  | supplyFault (n : Nat)
  /-- The 2.0–2.2 ms stretch ends and the device releases RESET_N (R573). -/
  | resetStretchEnd
  /-- RESET_N reads high after the ignore window and the fuse load begins (R574). -/
  | resetRelease
  /-- Every fuse row has passed and the fuse fields take their values, or safe hold follows (R576). `retried` lists
  rows read more than once, `bad` rows that failed three reads. -/
  | fuseLoadDone (retried bad : List Nat)
  /-- SRAM initialisation and test end and fabric bring-up begins (R582). `bad` lists words that BIST found failing,
  by group and word. -/
  | sramInitDone (bad : List (Nat × Nat))
  /-- The first stage of a valid image is copied into C0's I-TCM and C0 is released (R584). The bytes of images A and
  B. -/
  | firmwareLoad (a b : List Nat)
  /-- With no valid image, HIER_READY is set on EARLY ports 1 s after reset release (R585). -/
  | noFirmwareTimeout
  /-- DL_Down, a hot reset or RST_HD.GO starts a host-domain reset (R587). -/
  | hostDomainReset (t d : Nat)
  /-- A host-domain reset completes and BUSY clears (R588). -/
  | hostDomainResetDone (t d : Nat)
  /-- A write of RST_PORT.GO disables and re-enables a port (R589). `v` is the word written to RST_PORT. -/
  | portReset (t path v : Nat)
  /-- A write of RST_BLOCK_CMD.GO sends REQUEST_IDLE to a block (R590). `v` is the word written to RST_BLOCK_CMD. -/
  | blockReset (t path v : Nat)
  /-- The block answers IDLE_ACK and is reset (R590). -/
  | blockIdleAck (t : Nat)
  /-- No IDLE_ACK within RST_BLOCK_TIMEOUT and the block is reset by force (R590). -/
  | blockResetTimeout (t : Nat)
  /-- After QUIET_IDLE idle tick edges the device gates datapath clocks (R593). -/
  | quietEntry (t : Nat)
  /-- A port wake, doorbell or tick job ends Quiet (R594). -/
  | quietExit (t : Nat)
  /-- A write of PWR_CTRL.REST_ARM arms Rest (R595). `v` is the word written to PWR_CTRL. -/
  | restArm (t path v : Nat)
  /-- At a tick edge where the Rest conditions hold the device enters Rest (R595). -/
  | restEntry (t : Nat)
  /-- An enabled wake source ends Rest and the device returns to Active (R597). `n` is the source of R597, `arg` its
  channel or pin. -/
  | restWake (t n arg : Nat)
  /-- A write of FUSE_PROG_CMD with the correct KEY programs an option row or is refused (R601). `v` is the word
  written to FUSE_PROG_CMD. -/
  | fuseProgram (t path v : Nat)
  /-- A fuse row program completes and FUSE_PROG_STATUS reads done (R601). -/
  | fuseProgramDone (t : Nat)
  /-- PRSNT_N low for PRSNT_DEBOUNCE qualifies presence and may start a fresh sequence (R609). -/
  | presenceQualified (t n : Nat)
  /-- PRSNT_N high for PRSNT_DEBOUNCE takes the channel to OFF (R609). -/
  | presenceLost (t n : Nat)
  /-- BUTTON_N low for 10 ms is a press that sets Attention Button Pressed and clears latch-off (R609). -/
  | buttonPress (t n : Nat)
  /-- The bank has held its window for INSERT_DELAY and the channel enters PRECHARGE or RAMP (R607). Channel `n`. -/
  | insertDelayExpire (t n : Nat)
  /-- SRC reaches 90 % of the bank and the channel enters RAMP (R607). Channel `n`. -/
  | prechargeDone (t n : Nat)
  /-- SRC reaches 95 % of the bank and GATE is driven to full enhancement (R612). Channel `n`. -/
  | outputGood (t n : Nat)
  /-- Gate–source reaches 4 V and the channel enters ON (R613). Channel `n`. -/
  | gateRiseOk (t n : Nat)
  /-- Gate–source fails to reach 4 V within 1 ms and the channel enters LOCKED (R613). Channel `n`. -/
  | gateFail (t n : Nat)
  /-- The fault timer reaches FAULT_TIMER while in limit and the channel trips (R610). Channel `n`. -/
  | faultTimerTrip (t n : Nat)
  /-- V_S exceeds FAST_TRIP × SENSE_LIM and the channel trips within 1 µs (R611). Channel `n`. -/
  | fastTrip (t n : Nat)
  /-- The channel has not reached ON within START_TIMER and trips (R612). Channel `n`. -/
  | startTimerTrip (t n : Nat)
  /-- SRC has not reached 90 % within PRECHG_TIMEOUT and the channel trips (R614). Channel `n`. -/
  | prechargeTimeout (t n : Nat)
  /-- The retry delay expires and the channel enters QUALIFY for a retry (R607). Channel `n`. -/
  | retryDelayExpire (t n : Nat)
  /-- After 1 s continuously ON the retry count returns to 0 (R608). Channel `n`. -/
  | onTimerExpire (t n : Nat)
  /-- A bank leaves its UV/OV window and its powered channels go to QUALIFY (R615). Bank `b`. -/
  | bankWindowExit (t b : Nat)
  /-- A bank returns inside its window with hysteresis (R615). Bank `b`. -/
  | bankWindowReturn (t b : Nat)
  /-- The bank falls below PFAIL and PFAIL_N is driven low (R616). Bank `b`. -/
  | pfailAssert (t b : Nat)
  /-- The bank rises above PFAIL × 1.02 and PFAIL_N is released (R616). Bank `b`. -/
  | pfailRelease (t b : Nat)
  /-- SRC above 50 % of the bank for 200 ms with the FET off locks the channel (R617). Channel `n`. -/
  | fetShort (t n : Nat)
  /-- A write of IBX_CTRL.CLEAR_LOCK takes a LOCKED channel to OFF (R618). `v` is the word written to IBX_CTRL. -/
  | clearLock (t path n v : Nat)
  /-- No valid die-to-die frame for 8 µs declares the Ibex link down (R619). -/
  | ibexLinkDown (t : Nat)
  /-- The die-to-die link returns and every channel's request and settings are resent (R619). -/
  | ibexLinkRestore (t : Nat)
  /-- The SMBus REG_WRITE command writes a setup register (R628). `bad`: a failed PEC, an unknown command or a wrong
  byte count. -/
  | smbusRegWrite (t off v : Nat) (bad : Bool)
  /-- The SMBus REG_READ command returns a setup register with a result code (R628). -/
  | smbusRegRead (t off : Nat) (bad : Bool)
  /-- The SMBus STATUS command returns start-up and fault status (R628). -/
  | smbusStatus (t : Nat) (bad : Bool)
  /-- TBL_CMD READ copies a table entry into TBL_DATA0–7 (R631). The bank is that of the path. -/
  | tblRead (t path : Nat)
  /-- TBL_CMD WRITE replaces the RW fields of a table entry or is refused (R631). The bank is that of the path. -/
  | tblWrite (t path : Nat)
  /-- A write through the Chamois debug window stores into TCM or L2 as another agent (R634). -/
  | debugWindowWrite (t path off v : Nat)
  /-- In DETECT, receiver detection finds a partner on the port's lanes and the port moves on to ALIGN and starts its
  clock lane (R291). -/
  | receiverDetection (t k : Nat)
  /-- A lane's PRBS checker sees 64 consecutive error-free bits, declares lock and starts counting (R302). -/
  | prbsCheckerLock (t k i : Nat)
  /-- A lane's PRBS checker sees 64 errors within 256 bits and loses lock (R302). `nbits` and `errs` were counted
  since lock. -/
  | prbsCheckerLockLoss (t k i nbits errs : Nat)
  /-- A mover's read of host memory for a WRITE, SEND, REGIONS or APPLET_LOAD descriptor completes, and its data is
  sent, copied or stored, or the descriptor fails (R439). -/
  | hostReadCompletion (t q idx status : Nat) (poison : Bool) (data : List Nat)
  /-- A non-posted request that the device issued at a PCIe port gets no completion in time, frees its entry and is
  answered to its fabric requester with REMOTE_ERROR (R383). `n` is the entry of the request. -/
  | issuedRequestTimeout (t n : Nat)
  /-- A core performance counter overflows, sets OF and raises the Sscofpmf overflow interrupt (R515). -/
  | coreCounterOverflow (t c i : Nat)
  /-- Every POR-monitored rail rises above its POR-release level, the POR trigger ends and the reset stretch starts
  (R641). -/
  | porRelease
  /-- Tj falls below 110 °C after a thermal trip, and the 2.0–2.2 ms RESET_N stretch starts (R573). -/
  | thermalTripEnd
  /-- A rail returns inside its fault window, ending the excursion so that a later excursion raises SUPPLY_FAULT again
  (R641). -/
  | supplyWindowReturn (n : Nat)
  /-- The hottest sensor falls below the THERMAL_WARN threshold minus 5 °C, and THERMAL_WARN is re-armed (R646). -/
  | thermalWarnRearm
  /-- TICK_IN edges stop or become irregular, TICK_IN_OK reads 0 and the source class used at election changes (R38).
  -/
  | tickInLoss (t : Nat)
  /-- TICK_OUT falls after TICK_OUT_CTRL.WIDTH ns, clipped to half the tick (R56). -/
  | tickOutPulseEnd (t : Nat)
  /-- Bit 28 of cell time changes, and every blinking PWR_LED or ATTN_LED switches (R366). -/
  | indicatorBlink (t : Nat)
  /-- BUTTON_N reads high for 10 ms, the debounced button is released and a further press can be recognised (R609).
  Channel `n`. -/
  | buttonRelease (t n : Nat)
  /-- The sense voltage reaches V_LIM, the channel is in limit and its fault timer counts (R610). Channel `n`. -/
  | currentLimitEnter (t n : Nat)
  /-- The sense voltage has stayed below V_LIM for 100 µs, and the fault timer returns to 0 (R610). Channel `n`. -/
  | currentLimitExit (t n : Nat)
  /-- A PCIe link enters or leaves L0s, L0p, L1 or an L1 substate by ASPM (R341). `st` is 0 L0, 1 L0s, 2 L0p, 3 L1, 4
  L1.1, 5 L1.2. -/
  | linkPowerStateChange (t p st width : Nat)
deriving DecidableEq, Repr

end Sys2Proof
end

