-- ==== Sys2Proof/Machine/Fields.lean ====
section
/-! DEFINITION. Register fields and registers of the setup space (R5 to R9), and the store that holds them:
one entry per field that differs from its reset value. -/

namespace Sys2Proof.Machine

/-- The access codes of R5; a reserved bit has no field and reads 0. -/
inductive Acc where
  | ro | rw | rw1c | rw1s | wo
deriving DecidableEq, Repr

/-- Which word of a 64-bit pair a register is (R9). -/
inductive Pair where
  | none | low | high
deriving DecidableEq, Repr

/-- One field of a register or of a register array: byte offset in the setup space, the strides and
counts of the array, its bits, access, reset value, and the encodings that are not reserved (none listed: all). -/
structure Fld where
  off : Nat
  s1 : Nat := 0
  n1 : Nat := 1
  s2 : Nat := 0
  n2 : Nat := 1
  hi : Nat
  lo : Nat
  acc : Acc
  rst : Nat
  fuse : Bool := false
  sticky : Bool := false
  ok : List (Nat × Nat) := []
deriving DecidableEq, Repr

/-- One register or register array. -/
structure RegDesc where
  off : Nat
  s1 : Nat := 0
  n1 : Nat := 1
  s2 : Nat := 0
  n2 : Nat := 1
  pair : Pair := .none
  flds : List Fld
deriving DecidableEq, Repr

/-- The stored fields: an entry where a field's value is not its reset value. -/
abbrev Regs := SMap Nat

/-- Where the field of element `i`, `j` stands in the store. -/
def Fld.key (f : Fld) (i j : Nat) : Nat := (f.off + f.s1 * i + f.s2 * j) * 32 + f.lo

/-- How many values the field holds. -/
def Fld.size (f : Fld) : Nat := 2 ^ (f.hi + 1 - f.lo)

/-- Whether `v` is an encoding the field's Meaning cell does not call reserved (R8). -/
def Fld.allows (f : Fld) (v : Nat) : Bool :=
  f.ok.isEmpty || f.ok.any (fun r => decide (r.1 ≤ v) && decide (v ≤ r.2))

/-- The field's value. -/
def Regs.rd (m : Regs) (f : Fld) (i j : Nat) : Nat := SMap.get m (f.key i j) f.rst

/-- The store with the field holding `v`, narrowed to the field's width. -/
def Regs.wr (m : Regs) (f : Fld) (i j v : Nat) : Regs := SMap.set m (f.key i j) (v % f.size) f.rst

/-- The element that offset `o` names, when it lies in this register or array. -/
def RegDesc.elem (r : RegDesc) (o : Nat) : Option (Nat × Nat) :=
  if o < r.off then none
  else
    let d := o - r.off
    let i := d / r.s1
    let e := d % r.s1
    let j := e / r.s2
    if i < r.n1 ∧ j < r.n2 ∧ e % r.s2 = 0 then some (i, j) else none

/-- The first register of a list that offset `o` names, with its element. -/
def findReg (l : List RegDesc) (o : Nat) : Option (RegDesc × Nat × Nat) :=
  match l with
  | [] => none
  | r :: rs =>
    match r.elem o with
    | some (i, j) => some (r, i, j)
    | none => findReg rs o

end Sys2Proof.Machine
end

