-- ==== Sys2Proof/Machine/RegsSystem.lean ====
section
/-! DEFINITION. The setup registers of the system blocks: IDENT, TIME, RESET, FAULT, IBEX, FUSE, CUE and OBSERVE.
Offsets, fields, access codes and reset values are those of the register tables of the spec's chapters
(the chapter and rule stand at each register); a reset value "fuse" is 0 here until the fuse load writes the field (R7). -/

namespace Sys2Proof.Machine

/-! IDENT_PART: R1 of 00_scope.md. -/
def IDENT_PART_PART_NUMBER : Fld :=
  { off := 0x0, hi := 31, lo := 16, acc := .ro, rst := 0x9192 }
def IDENT_PART_FAMILY : Fld :=
  { off := 0x0, hi := 15, lo := 12, acc := .ro, rst := 0x1 }
def IDENT_PART_STEPPING_MAJOR : Fld :=
  { off := 0x0, hi := 11, lo := 8, acc := .ro, rst := 0x1 }
def IDENT_PART_STEPPING_MINOR : Fld :=
  { off := 0x0, hi := 7, lo := 4, acc := .ro, rst := 0x0 }
def IDENT_PART_GRADE : Fld :=
  { off := 0x0, hi := 3, lo := 2, acc := .ro, rst := 0x0, fuse := true }
def IDENT_PART : RegDesc :=
  { off := 0x0, flds := [IDENT_PART_PART_NUMBER, IDENT_PART_FAMILY, IDENT_PART_STEPPING_MAJOR, IDENT_PART_STEPPING_MINOR, IDENT_PART_GRADE] }

def regsIDENT0 : List RegDesc :=
  [IDENT_PART]
/-- Every setup register of the block IDENT. -/
def regsIDENT : List RegDesc := regsIDENT0

/-! TIME_CTRL: R68 of 02_cell_time_and_tick.md. -/
def TIME_CTRL_STEP_NOW : Fld :=
  { off := 0x10000, hi := 7, lo := 7, acc := .wo, rst := 0x0 }
def TIME_CTRL_CELLREF_OUT_EN : Fld :=
  { off := 0x10000, hi := 6, lo := 6, acc := .rw, rst := 0x0 }
def TIME_CTRL_TICK_OUT_EN : Fld :=
  { off := 0x10000, hi := 5, lo := 5, acc := .rw, rst := 0x0 }
def TIME_CTRL_TICK_IN_EN : Fld :=
  { off := 0x10000, hi := 4, lo := 4, acc := .rw, rst := 0x0 }
def TIME_CTRL_SOURCE : Fld :=
  { off := 0x10000, hi := 3, lo := 3, acc := .rw, rst := 0x0, fuse := true }
def TIME_CTRL_ENABLE : Fld :=
  { off := 0x10000, hi := 0, lo := 0, acc := .rw, rst := 0x0, fuse := true }
def TIME_CTRL : RegDesc :=
  { off := 0x10000, flds := [TIME_CTRL_STEP_NOW, TIME_CTRL_CELLREF_OUT_EN, TIME_CTRL_TICK_OUT_EN, TIME_CTRL_TICK_IN_EN, TIME_CTRL_SOURCE, TIME_CTRL_ENABLE] }

/-! TIME_PRIORITY: R68 of 02_cell_time_and_tick.md. -/
def TIME_PRIORITY_PRIORITY : Fld :=
  { off := 0x10004, hi := 7, lo := 0, acc := .rw, rst := 0x0, fuse := true }
def TIME_PRIORITY : RegDesc :=
  { off := 0x10004, flds := [TIME_PRIORITY_PRIORITY] }

/-! TICK_PERIOD: R68 of 02_cell_time_and_tick.md. -/
def TICK_PERIOD_SPLIT : Fld :=
  { off := 0x10008, hi := 21, lo := 20, acc := .ro, rst := 0x2 }
def TICK_PERIOD_QUANTA : Fld :=
  { off := 0x10008, hi := 19, lo := 0, acc := .ro, rst := 0x3d09 }
def TICK_PERIOD : RegDesc :=
  { off := 0x10008, flds := [TICK_PERIOD_SPLIT, TICK_PERIOD_QUANTA] }

/-! TICK_PERIOD_NEXT: R68 of 02_cell_time_and_tick.md. -/
def TICK_PERIOD_NEXT_SPLIT : Fld :=
  { off := 0x1000c, hi := 21, lo := 20, acc := .rw, rst := 0x2 }
def TICK_PERIOD_NEXT_QUANTA : Fld :=
  { off := 0x1000c, hi := 19, lo := 0, acc := .rw, rst := 0x3d09 }
def TICK_PERIOD_NEXT : RegDesc :=
  { off := 0x1000c, flds := [TICK_PERIOD_NEXT_SPLIT, TICK_PERIOD_NEXT_QUANTA] }

/-! TICK_CHANGE_AT_LO: R68 of 02_cell_time_and_tick.md. -/
def TICK_CHANGE_AT_LO_VALUE : Fld :=
  { off := 0x10010, hi := 31, lo := 0, acc := .rw, rst := 0x0 }
def TICK_CHANGE_AT_LO : RegDesc :=
  { off := 0x10010, pair := .low, flds := [TICK_CHANGE_AT_LO_VALUE] }

/-! TICK_CHANGE_AT_HI: R68 of 02_cell_time_and_tick.md. -/
def TICK_CHANGE_AT_HI_VALUE : Fld :=
  { off := 0x10014, hi := 31, lo := 0, acc := .rw, rst := 0x0 }
def TICK_CHANGE_AT_HI : RegDesc :=
  { off := 0x10014, pair := .high, flds := [TICK_CHANGE_AT_HI_VALUE] }

/-! TIME_STATUS: R68 of 02_cell_time_and_tick.md. -/
def TIME_STATUS_TICK_IN_OK : Fld :=
  { off := 0x10018, hi := 25, lo := 25, acc := .ro, rst := 0x0 }
def TIME_STATUS_CELLREF_OK : Fld :=
  { off := 0x10018, hi := 24, lo := 24, acc := .ro, rst := 0x0 }
def TIME_STATUS_HOPS_TO_ROOT : Fld :=
  { off := 0x10018, hi := 23, lo := 16, acc := .ro, rst := 0xff }
def TIME_STATUS_SOURCE_OCTET : Fld :=
  { off := 0x10018, hi := 12, lo := 8, acc := .ro, rst := 0x1f }
def TIME_STATUS_STATE : Fld :=
  { off := 0x10018, hi := 2, lo := 0, acc := .ro, rst := 0x0 }
def TIME_STATUS : RegDesc :=
  { off := 0x10018, flds := [TIME_STATUS_TICK_IN_OK, TIME_STATUS_CELLREF_OK, TIME_STATUS_HOPS_TO_ROOT, TIME_STATUS_SOURCE_OCTET, TIME_STATUS_STATE] }

/-! TIME_EVENTS: R68 of 02_cell_time_and_tick.md. -/
def TIME_EVENTS_LOAD_REJECTED : Fld :=
  { off := 0x1001c, hi := 8, lo := 8, acc := .rw1c, rst := 0x0 }
def TIME_EVENTS_PERIOD_REJECTED : Fld :=
  { off := 0x1001c, hi := 7, lo := 7, acc := .rw1c, rst := 0x0 }
def TIME_EVENTS_CAL_FAIL : Fld :=
  { off := 0x1001c, hi := 6, lo := 6, acc := .rw1c, rst := 0x0 }
def TIME_EVENTS_OVERRUN : Fld :=
  { off := 0x1001c, hi := 5, lo := 5, acc := .rw1c, rst := 0x0 }
def TIME_EVENTS_MARK_ERROR : Fld :=
  { off := 0x1001c, hi := 4, lo := 4, acc := .rw1c, rst := 0x0 }
def TIME_EVENTS_STEP : Fld :=
  { off := 0x1001c, hi := 3, lo := 3, acc := .rw1c, rst := 0x0 }
def TIME_EVENTS_HOLDOVER_EXIT : Fld :=
  { off := 0x1001c, hi := 2, lo := 2, acc := .rw1c, rst := 0x0 }
def TIME_EVENTS_HOLDOVER_ENTER : Fld :=
  { off := 0x1001c, hi := 1, lo := 1, acc := .rw1c, rst := 0x0 }
def TIME_EVENTS_SOURCE_SWITCH : Fld :=
  { off := 0x1001c, hi := 0, lo := 0, acc := .rw1c, rst := 0x0 }
def TIME_EVENTS : RegDesc :=
  { off := 0x1001c, flds := [TIME_EVENTS_LOAD_REJECTED, TIME_EVENTS_PERIOD_REJECTED, TIME_EVENTS_CAL_FAIL, TIME_EVENTS_OVERRUN, TIME_EVENTS_MARK_ERROR, TIME_EVENTS_STEP, TIME_EVENTS_HOLDOVER_EXIT, TIME_EVENTS_HOLDOVER_ENTER, TIME_EVENTS_SOURCE_SWITCH] }

/-! CELL_TIME_LO: R68 of 02_cell_time_and_tick.md. -/
def CELL_TIME_LO_VALUE : Fld :=
  { off := 0x10020, hi := 31, lo := 0, acc := .ro, rst := 0x0 }
def CELL_TIME_LO : RegDesc :=
  { off := 0x10020, pair := .low, flds := [CELL_TIME_LO_VALUE] }

/-! CELL_TIME_HI: R68 of 02_cell_time_and_tick.md. -/
def CELL_TIME_HI_VALUE : Fld :=
  { off := 0x10024, hi := 31, lo := 0, acc := .ro, rst := 0x0 }
def CELL_TIME_HI : RegDesc :=
  { off := 0x10024, pair := .high, flds := [CELL_TIME_HI_VALUE] }

/-! CELL_TIME_FRAC: R68 of 02_cell_time_and_tick.md. -/
def CELL_TIME_FRAC_VALUE : Fld :=
  { off := 0x10028, hi := 15, lo := 0, acc := .ro, rst := 0x0 }
def CELL_TIME_FRAC : RegDesc :=
  { off := 0x10028, flds := [CELL_TIME_FRAC_VALUE] }

/-! TICK_NUM_LO: R68 of 02_cell_time_and_tick.md. -/
def TICK_NUM_LO_VALUE : Fld :=
  { off := 0x10030, hi := 31, lo := 0, acc := .ro, rst := 0x0 }
def TICK_NUM_LO : RegDesc :=
  { off := 0x10030, pair := .low, flds := [TICK_NUM_LO_VALUE] }

/-! TICK_NUM_HI: R68 of 02_cell_time_and_tick.md. -/
def TICK_NUM_HI_VALUE : Fld :=
  { off := 0x10034, hi := 31, lo := 0, acc := .ro, rst := 0x0 }
def TICK_NUM_HI : RegDesc :=
  { off := 0x10034, pair := .high, flds := [TICK_NUM_HI_VALUE] }

/-! CELL_TIME_LOAD_LO: R68 of 02_cell_time_and_tick.md. -/
def CELL_TIME_LOAD_LO_VALUE : Fld :=
  { off := 0x10038, hi := 31, lo := 0, acc := .rw, rst := 0x0 }
def CELL_TIME_LOAD_LO : RegDesc :=
  { off := 0x10038, pair := .low, flds := [CELL_TIME_LOAD_LO_VALUE] }

/-! CELL_TIME_LOAD_HI: R68 of 02_cell_time_and_tick.md. -/
def CELL_TIME_LOAD_HI_VALUE : Fld :=
  { off := 0x1003c, hi := 31, lo := 0, acc := .rw, rst := 0x0 }
def CELL_TIME_LOAD_HI : RegDesc :=
  { off := 0x1003c, pair := .high, flds := [CELL_TIME_LOAD_HI_VALUE] }

/-! TICK_NUM_LOAD_LO: R68 of 02_cell_time_and_tick.md. -/
def TICK_NUM_LOAD_LO_VALUE : Fld :=
  { off := 0x10040, hi := 31, lo := 0, acc := .rw, rst := 0x0 }
def TICK_NUM_LOAD_LO : RegDesc :=
  { off := 0x10040, pair := .low, flds := [TICK_NUM_LOAD_LO_VALUE] }

/-! TICK_NUM_LOAD_HI: R68 of 02_cell_time_and_tick.md. -/
def TICK_NUM_LOAD_HI_VALUE : Fld :=
  { off := 0x10044, hi := 31, lo := 0, acc := .rw, rst := 0x0 }
def TICK_NUM_LOAD_HI : RegDesc :=
  { off := 0x10044, pair := .high, flds := [TICK_NUM_LOAD_HI_VALUE] }

/-! FREQ_OFFSET: R68 of 02_cell_time_and_tick.md. -/
def FREQ_OFFSET_VALUE : Fld :=
  { off := 0x10048, hi := 31, lo := 0, acc := .ro, rst := 0x0 }
def FREQ_OFFSET : RegDesc :=
  { off := 0x10048, flds := [FREQ_OFFSET_VALUE] }

/-! HOLDOVER_CTRL: R68 of 02_cell_time_and_tick.md. -/
def HOLDOVER_CTRL_AUTO_STEP : Fld :=
  { off := 0x1004c, hi := 31, lo := 31, acc := .rw, rst := 0x0 }
def HOLDOVER_CTRL_SLEW_LIMIT : Fld :=
  { off := 0x1004c, hi := 30, lo := 24, acc := .rw, rst := 0x14, ok := [(1, 100)] }
def HOLDOVER_CTRL_STEP_THRESHOLD : Fld :=
  { off := 0x1004c, hi := 23, lo := 0, acc := .rw, rst := 0x1f4 }
def HOLDOVER_CTRL : RegDesc :=
  { off := 0x1004c, flds := [HOLDOVER_CTRL_AUTO_STEP, HOLDOVER_CTRL_SLEW_LIMIT, HOLDOVER_CTRL_STEP_THRESHOLD] }

/-! TICK_OVERRUN_SRC: R68 of 02_cell_time_and_tick.md. -/
def TICK_OVERRUN_SRC_APPLET : Fld :=
  { off := 0x10050, hi := 4, lo := 4, acc := .rw1c, rst := 0x0 }
def TICK_OVERRUN_SRC_ADAPTATION : Fld :=
  { off := 0x10050, hi := 3, lo := 3, acc := .rw1c, rst := 0x0 }
def TICK_OVERRUN_SRC_MIRROR : Fld :=
  { off := 0x10050, hi := 2, lo := 2, acc := .rw1c, rst := 0x0 }
def TICK_OVERRUN_SRC_COALESCE : Fld :=
  { off := 0x10050, hi := 1, lo := 1, acc := .rw1c, rst := 0x0 }
def TICK_OVERRUN_SRC_HW_TICK_WORK : Fld :=
  { off := 0x10050, hi := 0, lo := 0, acc := .rw1c, rst := 0x0 }
def TICK_OVERRUN_SRC : RegDesc :=
  { off := 0x10050, flds := [TICK_OVERRUN_SRC_APPLET, TICK_OVERRUN_SRC_ADAPTATION, TICK_OVERRUN_SRC_MIRROR, TICK_OVERRUN_SRC_COALESCE, TICK_OVERRUN_SRC_HW_TICK_WORK] }

/-! TICK_OUT_CTRL: R68 of 02_cell_time_and_tick.md. -/
def TICK_OUT_CTRL_WIDTH : Fld :=
  { off := 0x10054, hi := 15, lo := 0, acc := .rw, rst := 0x3e8, ok := [(8, 65535)] }
def TICK_OUT_CTRL : RegDesc :=
  { off := 0x10054, flds := [TICK_OUT_CTRL_WIDTH] }

/-! REFOUT_EN_LO: R68 of 02_cell_time_and_tick.md. -/
def REFOUT_EN_LO_VALUE : Fld :=
  { off := 0x10058, hi := 31, lo := 0, acc := .rw, rst := 0x0, fuse := true }
def REFOUT_EN_LO : RegDesc :=
  { off := 0x10058, pair := .low, flds := [REFOUT_EN_LO_VALUE] }

/-! REFOUT_EN_HI: R68 of 02_cell_time_and_tick.md. -/
def REFOUT_EN_HI_VALUE : Fld :=
  { off := 0x1005c, hi := 15, lo := 0, acc := .rw, rst := 0x0, fuse := true }
def REFOUT_EN_HI : RegDesc :=
  { off := 0x1005c, pair := .high, flds := [REFOUT_EN_HI_VALUE] }

/-! ROOT_UID_LO: R68 of 02_cell_time_and_tick.md. -/
def ROOT_UID_LO_VALUE : Fld :=
  { off := 0x10060, hi := 31, lo := 0, acc := .ro, rst := 0x0 }
def ROOT_UID_LO : RegDesc :=
  { off := 0x10060, pair := .low, flds := [ROOT_UID_LO_VALUE] }

/-! ROOT_UID_HI: R68 of 02_cell_time_and_tick.md. -/
def ROOT_UID_HI_VALUE : Fld :=
  { off := 0x10064, hi := 31, lo := 0, acc := .ro, rst := 0x0 }
def ROOT_UID_HI : RegDesc :=
  { off := 0x10064, pair := .high, flds := [ROOT_UID_HI_VALUE] }

/-! PTM_CTRL: R68 of 02_cell_time_and_tick.md. -/
def PTM_CTRL_INTERVAL : Fld :=
  { off := 0x10068, hi := 15, lo := 0, acc := .rw, rst := 0x20 }
def PTM_CTRL : RegDesc :=
  { off := 0x10068, flds := [PTM_CTRL_INTERVAL] }

/-! LINK_DELAY: R68 of 02_cell_time_and_tick.md. -/
def LINK_DELAY_DELAY_NS : Fld :=
  { off := 0x10100, s1 := 0x4, n1 := 24, hi := 31, lo := 16, acc := .ro, rst := 0x0 }
def LINK_DELAY_DELAY_FRAC : Fld :=
  { off := 0x10100, s1 := 0x4, n1 := 24, hi := 15, lo := 0, acc := .ro, rst := 0x0 }
def LINK_DELAY : RegDesc :=
  { off := 0x10100, s1 := 0x4, n1 := 24, flds := [LINK_DELAY_DELAY_NS, LINK_DELAY_DELAY_FRAC] }

/-! LINK_ASYM_TRIM: R68 of 02_cell_time_and_tick.md. -/
def LINK_ASYM_TRIM_TRIM_PS : Fld :=
  { off := 0x10180, s1 := 0x4, n1 := 24, hi := 15, lo := 0, acc := .rw, rst := 0x0 }
def LINK_ASYM_TRIM : RegDesc :=
  { off := 0x10180, s1 := 0x4, n1 := 24, flds := [LINK_ASYM_TRIM_TRIM_PS] }

/-! HOST_OFFSET_LO: R68 of 02_cell_time_and_tick.md. -/
def HOST_OFFSET_LO_VALUE : Fld :=
  { off := 0x10200, s1 := 0x8, n1 := 32, hi := 31, lo := 0, acc := .ro, rst := 0x0 }
def HOST_OFFSET_LO : RegDesc :=
  { off := 0x10200, s1 := 0x8, n1 := 32, pair := .low, flds := [HOST_OFFSET_LO_VALUE] }

/-! HOST_OFFSET_HI: R68 of 02_cell_time_and_tick.md. -/
def HOST_OFFSET_HI_VALUE : Fld :=
  { off := 0x10204, s1 := 0x8, n1 := 32, hi := 31, lo := 0, acc := .ro, rst := 0x0 }
def HOST_OFFSET_HI : RegDesc :=
  { off := 0x10204, s1 := 0x8, n1 := 32, pair := .high, flds := [HOST_OFFSET_HI_VALUE] }

def regsTIME0 : List RegDesc :=
  [TIME_CTRL, TIME_PRIORITY, TICK_PERIOD, TICK_PERIOD_NEXT,
   TICK_CHANGE_AT_LO, TICK_CHANGE_AT_HI, TIME_STATUS, TIME_EVENTS,
   CELL_TIME_LO, CELL_TIME_HI, CELL_TIME_FRAC, TICK_NUM_LO]
def regsTIME1 : List RegDesc :=
  [TICK_NUM_HI, CELL_TIME_LOAD_LO, CELL_TIME_LOAD_HI, TICK_NUM_LOAD_LO,
   TICK_NUM_LOAD_HI, FREQ_OFFSET, HOLDOVER_CTRL, TICK_OVERRUN_SRC,
   TICK_OUT_CTRL, REFOUT_EN_LO, REFOUT_EN_HI, ROOT_UID_LO]
def regsTIME2 : List RegDesc :=
  [ROOT_UID_HI, PTM_CTRL, LINK_DELAY, LINK_ASYM_TRIM,
   HOST_OFFSET_LO, HOST_OFFSET_HI]
/-- Every setup register of the block TIME. -/
def regsTIME : List RegDesc := regsTIME0 ++ regsTIME1 ++ regsTIME2

/-! RST_CAUSE: R599 of 18_reset_and_startup.md. -/
def RST_CAUSE_COLD : Fld :=
  { off := 0x20000, hi := 31, lo := 31, acc := .ro, rst := 0x0, sticky := true }
def RST_CAUSE_SOURCES : Fld :=
  { off := 0x20000, hi := 7, lo := 0, acc := .ro, rst := 0x0, sticky := true }
def RST_CAUSE : RegDesc :=
  { off := 0x20000, flds := [RST_CAUSE_COLD, RST_CAUSE_SOURCES] }

/-! RST_WARM_COUNT: R599 of 18_reset_and_startup.md. -/
def RST_WARM_COUNT_COUNT : Fld :=
  { off := 0x20004, hi := 15, lo := 0, acc := .ro, rst := 0x0, sticky := true }
def RST_WARM_COUNT : RegDesc :=
  { off := 0x20004, flds := [RST_WARM_COUNT_COUNT] }

/-! RST_DEVICE: R599 of 18_reset_and_startup.md. -/
def RST_DEVICE_KEY : Fld :=
  { off := 0x20008, hi := 31, lo := 16, acc := .wo, rst := 0x0 }
def RST_DEVICE_COLD : Fld :=
  { off := 0x20008, hi := 0, lo := 0, acc := .wo, rst := 0x0 }
def RST_DEVICE : RegDesc :=
  { off := 0x20008, flds := [RST_DEVICE_KEY, RST_DEVICE_COLD] }

/-! RST_STATUS: R599 of 18_reset_and_startup.md. -/
def RST_STATUS_STAGE : Fld :=
  { off := 0x2000c, hi := 31, lo := 29, acc := .ro, rst := 0x0 }
def RST_STATUS_FW_IMAGE : Fld :=
  { off := 0x2000c, hi := 28, lo := 27, acc := .ro, rst := 0x0 }
def RST_STATUS : RegDesc :=
  { off := 0x2000c, flds := [RST_STATUS_STAGE, RST_STATUS_FW_IMAGE] }

/-! RST_HD: R599 of 18_reset_and_startup.md. -/
def RST_HD_GO : Fld :=
  { off := 0x20010, hi := 31, lo := 31, acc := .wo, rst := 0x0 }
def RST_HD_BUSY : Fld :=
  { off := 0x20010, hi := 30, lo := 30, acc := .ro, rst := 0x0 }
def RST_HD_HD : Fld :=
  { off := 0x20010, hi := 9, lo := 0, acc := .wo, rst := 0x0 }
def RST_HD : RegDesc :=
  { off := 0x20010, flds := [RST_HD_GO, RST_HD_BUSY, RST_HD_HD] }

/-! RST_PORT: R599 of 18_reset_and_startup.md. -/
def RST_PORT_GO : Fld :=
  { off := 0x20014, hi := 31, lo := 31, acc := .wo, rst := 0x0 }
def RST_PORT_BUSY : Fld :=
  { off := 0x20014, hi := 30, lo := 30, acc := .ro, rst := 0x0 }
def RST_PORT_PORT : Fld :=
  { off := 0x20014, hi := 6, lo := 0, acc := .wo, rst := 0x0 }
def RST_PORT : RegDesc :=
  { off := 0x20014, flds := [RST_PORT_GO, RST_PORT_BUSY, RST_PORT_PORT] }

/-! RST_BLOCK_CMD: R599 of 18_reset_and_startup.md. -/
def RST_BLOCK_CMD_GO : Fld :=
  { off := 0x20018, hi := 31, lo := 31, acc := .wo, rst := 0x0 }
def RST_BLOCK_CMD_BLOCK : Fld :=
  { off := 0x20018, hi := 7, lo := 0, acc := .wo, rst := 0x0 }
def RST_BLOCK_CMD : RegDesc :=
  { off := 0x20018, flds := [RST_BLOCK_CMD_GO, RST_BLOCK_CMD_BLOCK] }

/-! RST_BLOCK_STATUS: R599 of 18_reset_and_startup.md. -/
def RST_BLOCK_STATUS_BUSY : Fld :=
  { off := 0x2001c, hi := 31, lo := 31, acc := .ro, rst := 0x0 }
def RST_BLOCK_STATUS_DONE : Fld :=
  { off := 0x2001c, hi := 30, lo := 30, acc := .rw1c, rst := 0x0 }
def RST_BLOCK_STATUS_FORCED : Fld :=
  { off := 0x2001c, hi := 29, lo := 29, acc := .rw1c, rst := 0x0 }
def RST_BLOCK_STATUS_BLOCK : Fld :=
  { off := 0x2001c, hi := 7, lo := 0, acc := .ro, rst := 0x0 }
def RST_BLOCK_STATUS : RegDesc :=
  { off := 0x2001c, flds := [RST_BLOCK_STATUS_BUSY, RST_BLOCK_STATUS_DONE, RST_BLOCK_STATUS_FORCED, RST_BLOCK_STATUS_BLOCK] }

/-! RST_BLOCK_TIMEOUT: R599 of 18_reset_and_startup.md. -/
def RST_BLOCK_TIMEOUT_TIMEOUT : Fld :=
  { off := 0x20020, hi := 13, lo := 0, acc := .rw, rst := 0x64, ok := [(1, 10000)] }
def RST_BLOCK_TIMEOUT : RegDesc :=
  { off := 0x20020, flds := [RST_BLOCK_TIMEOUT_TIMEOUT] }

/-! PWR_CTRL: R599 of 18_reset_and_startup.md. -/
def PWR_CTRL_REST_ARM : Fld :=
  { off := 0x20100, hi := 31, lo := 31, acc := .rw, rst := 0x0 }
def PWR_CTRL_QUIET_EN : Fld :=
  { off := 0x20100, hi := 30, lo := 30, acc := .rw, rst := 0x1 }
def PWR_CTRL_QUIET_IDLE : Fld :=
  { off := 0x20100, hi := 15, lo := 0, acc := .rw, rst := 0x4, ok := [(1, 65535)] }
def PWR_CTRL : RegDesc :=
  { off := 0x20100, flds := [PWR_CTRL_REST_ARM, PWR_CTRL_QUIET_EN, PWR_CTRL_QUIET_IDLE] }

/-! PWR_STATUS: R599 of 18_reset_and_startup.md. -/
def PWR_STATUS_STATE : Fld :=
  { off := 0x20104, hi := 31, lo := 30, acc := .ro, rst := 0x0 }
def PWR_STATUS_REST_WAIT : Fld :=
  { off := 0x20104, hi := 29, lo := 29, acc := .ro, rst := 0x0 }
def PWR_STATUS_WAKE_SRC : Fld :=
  { off := 0x20104, hi := 4, lo := 0, acc := .rw1c, rst := 0x0 }
def PWR_STATUS : RegDesc :=
  { off := 0x20104, flds := [PWR_STATUS_STATE, PWR_STATUS_REST_WAIT, PWR_STATUS_WAKE_SRC] }

/-! PWR_WAKE_EN: R599 of 18_reset_and_startup.md. -/
def PWR_WAKE_EN_EN : Fld :=
  { off := 0x20108, hi := 4, lo := 0, acc := .rw, rst := 0x1f }
def PWR_WAKE_EN : RegDesc :=
  { off := 0x20108, flds := [PWR_WAKE_EN_EN] }

/-! PWR_WAKE_CUE_LO: R599 of 18_reset_and_startup.md. -/
def PWR_WAKE_CUE_LO_VALUE : Fld :=
  { off := 0x2010c, hi := 31, lo := 0, acc := .rw, rst := 0x0 }
def PWR_WAKE_CUE_LO : RegDesc :=
  { off := 0x2010c, pair := .low, flds := [PWR_WAKE_CUE_LO_VALUE] }

/-! PWR_WAKE_CUE_HI: R599 of 18_reset_and_startup.md. -/
def PWR_WAKE_CUE_HI_VALUE : Fld :=
  { off := 0x20110, hi := 15, lo := 0, acc := .rw, rst := 0x0 }
def PWR_WAKE_CUE_HI : RegDesc :=
  { off := 0x20110, pair := .high, flds := [PWR_WAKE_CUE_HI_VALUE] }

/-! PD_STATUS: R599 of 18_reset_and_startup.md. -/
def PD_STATUS_VALUE : Fld :=
  { off := 0x20200, s1 := 0x4, n1 := 4, hi := 31, lo := 0, acc := .ro, rst := 0x0 }
def PD_STATUS : RegDesc :=
  { off := 0x20200, s1 := 0x4, n1 := 4, flds := [PD_STATUS_VALUE] }

def regsRESET0 : List RegDesc :=
  [RST_CAUSE, RST_WARM_COUNT, RST_DEVICE, RST_STATUS,
   RST_HD, RST_PORT, RST_BLOCK_CMD, RST_BLOCK_STATUS,
   RST_BLOCK_TIMEOUT, PWR_CTRL, PWR_STATUS, PWR_WAKE_EN]
def regsRESET1 : List RegDesc :=
  [PWR_WAKE_CUE_LO, PWR_WAKE_CUE_HI, PD_STATUS]
/-- Every setup register of the block RESET. -/
def regsRESET : List RegDesc := regsRESET0 ++ regsRESET1

/-! FAULT_CTRL: R567 of 17_faults_and_containment.md. -/
def FAULT_CTRL_FATAL_ACTION : Fld :=
  { off := 0x30000, hi := 31, lo := 31, acc := .rw, rst := 0x0 }
def FAULT_CTRL_FORCE_ACTIONS : Fld :=
  { off := 0x30000, hi := 30, lo := 30, acc := .rw, rst := 0x0 }
def FAULT_CTRL_HALT_SLOTS_OFF : Fld :=
  { off := 0x30000, hi := 29, lo := 29, acc := .rw, rst := 0x0 }
def FAULT_CTRL_RAISE_CAP : Fld :=
  { off := 0x30000, hi := 26, lo := 24, acc := .rw, rst := 0x3, ok := [(3, 4)] }
def FAULT_CTRL_LOG_LEVEL : Fld :=
  { off := 0x30000, hi := 22, lo := 20, acc := .rw, rst := 0x2, ok := [(0, 4)] }
def FAULT_CTRL_NOTICE_LEVEL : Fld :=
  { off := 0x30000, hi := 18, lo := 16, acc := .rw, rst := 0x2, ok := [(0, 4)] }
def FAULT_CTRL_IRQ_LEVEL : Fld :=
  { off := 0x30000, hi := 14, lo := 12, acc := .rw, rst := 0x1, ok := [(0, 4)] }
def FAULT_CTRL_FAULT_PIN_LEVEL : Fld :=
  { off := 0x30000, hi := 10, lo := 8, acc := .rw, rst := 0x3, ok := [(0, 4)] }
def FAULT_CTRL : RegDesc :=
  { off := 0x30000, flds := [FAULT_CTRL_FATAL_ACTION, FAULT_CTRL_FORCE_ACTIONS, FAULT_CTRL_HALT_SLOTS_OFF, FAULT_CTRL_RAISE_CAP, FAULT_CTRL_LOG_LEVEL, FAULT_CTRL_NOTICE_LEVEL, FAULT_CTRL_IRQ_LEVEL, FAULT_CTRL_FAULT_PIN_LEVEL] }

/-! FAULT_ESC_EN: R567 of 17_faults_and_containment.md. -/
def FAULT_ESC_EN_EN : Fld :=
  { off := 0x30004, hi := 12, lo := 0, acc := .rw, rst := 0x1fff }
def FAULT_ESC_EN : RegDesc :=
  { off := 0x30004, flds := [FAULT_ESC_EN_EN] }

/-! FAULT_SNAP_TICK_LO: R567 of 17_faults_and_containment.md. -/
def FAULT_SNAP_TICK_LO_VALUE : Fld :=
  { off := 0x30008, hi := 31, lo := 0, acc := .ro, rst := 0x0 }
def FAULT_SNAP_TICK_LO : RegDesc :=
  { off := 0x30008, pair := .low, flds := [FAULT_SNAP_TICK_LO_VALUE] }

/-! FAULT_SNAP_TICK_HI: R567 of 17_faults_and_containment.md. -/
def FAULT_SNAP_TICK_HI_VALUE : Fld :=
  { off := 0x3000c, hi := 31, lo := 0, acc := .ro, rst := 0x0 }
def FAULT_SNAP_TICK_HI : RegDesc :=
  { off := 0x3000c, pair := .high, flds := [FAULT_SNAP_TICK_HI_VALUE] }

/-! FAULT_STATUS: R567 of 17_faults_and_containment.md. -/
def FAULT_STATUS_HALTED : Fld :=
  { off := 0x30010, hi := 31, lo := 31, acc := .ro, rst := 0x0, sticky := true }
def FAULT_STATUS_FATAL_RESET : Fld :=
  { off := 0x30010, hi := 30, lo := 30, acc := .rw1c, rst := 0x0, sticky := true }
def FAULT_STATUS_FATAL_SOURCE : Fld :=
  { off := 0x30010, hi := 7, lo := 0, acc := .ro, rst := 0x0, sticky := true }
def FAULT_STATUS : RegDesc :=
  { off := 0x30010, flds := [FAULT_STATUS_HALTED, FAULT_STATUS_FATAL_RESET, FAULT_STATUS_FATAL_SOURCE] }

/-! FAULT_PIN_STATUS: R567 of 17_faults_and_containment.md. -/
def FAULT_PIN_STATUS_ASSERTED : Fld :=
  { off := 0x30014, hi := 31, lo := 31, acc := .ro, rst := 0x0 }
def FAULT_PIN_STATUS_SOURCE_VALID : Fld :=
  { off := 0x30014, hi := 8, lo := 8, acc := .ro, rst := 0x0 }
def FAULT_PIN_STATUS_SOURCE : Fld :=
  { off := 0x30014, hi := 7, lo := 0, acc := .ro, rst := 0x0 }
def FAULT_PIN_STATUS : RegDesc :=
  { off := 0x30014, flds := [FAULT_PIN_STATUS_ASSERTED, FAULT_PIN_STATUS_SOURCE_VALID, FAULT_PIN_STATUS_SOURCE] }

/-! FAULT_IRQ: R567 of 17_faults_and_containment.md. -/
def FAULT_IRQ_EN : Fld :=
  { off := 0x30018, hi := 31, lo := 31, acc := .rw, rst := 0x0 }
def FAULT_IRQ_PF : Fld :=
  { off := 0x30018, hi := 20, lo := 16, acc := .rw, rst := 0x0 }
def FAULT_IRQ_VECTOR : Fld :=
  { off := 0x30018, hi := 14, lo := 0, acc := .rw, rst := 0x0 }
def FAULT_IRQ : RegDesc :=
  { off := 0x30018, flds := [FAULT_IRQ_EN, FAULT_IRQ_PF, FAULT_IRQ_VECTOR] }

/-! FAULT_CONTAIN_RELEASE: R567 of 17_faults_and_containment.md. -/
def FAULT_CONTAIN_RELEASE_GO : Fld :=
  { off := 0x3001c, hi := 31, lo := 31, acc := .wo, rst := 0x0 }
def FAULT_CONTAIN_RELEASE_KIND : Fld :=
  { off := 0x3001c, hi := 24, lo := 24, acc := .wo, rst := 0x0 }
def FAULT_CONTAIN_RELEASE_INDEX : Fld :=
  { off := 0x3001c, hi := 9, lo := 0, acc := .wo, rst := 0x0 }
def FAULT_CONTAIN_RELEASE : RegDesc :=
  { off := 0x3001c, flds := [FAULT_CONTAIN_RELEASE_GO, FAULT_CONTAIN_RELEASE_KIND, FAULT_CONTAIN_RELEASE_INDEX] }

/-! FAULT_FSW: R567 of 17_faults_and_containment.md. -/
def FAULT_FSW_VALUE : Fld :=
  { off := 0x30020, s1 := 0x4, n1 := 8, hi := 31, lo := 0, acc := .rw1c, rst := 0x0, sticky := true }
def FAULT_FSW : RegDesc :=
  { off := 0x30020, s1 := 0x4, n1 := 8, flds := [FAULT_FSW_VALUE] }

/-! FAULT_FSW_SNAP: R567 of 17_faults_and_containment.md. -/
def FAULT_FSW_SNAP_VALUE : Fld :=
  { off := 0x30040, s1 := 0x4, n1 := 8, hi := 31, lo := 0, acc := .ro, rst := 0x0 }
def FAULT_FSW_SNAP : RegDesc :=
  { off := 0x30040, s1 := 0x4, n1 := 8, flds := [FAULT_FSW_SNAP_VALUE] }

/-! FAULT_LOG_HEAD: R567 of 17_faults_and_containment.md. -/
def FAULT_LOG_HEAD_INDEX : Fld :=
  { off := 0x30060, hi := 6, lo := 0, acc := .rw, rst := 0x0 }
def FAULT_LOG_HEAD : RegDesc :=
  { off := 0x30060, flds := [FAULT_LOG_HEAD_INDEX] }

/-! FAULT_LOG_TAIL: R567 of 17_faults_and_containment.md. -/
def FAULT_LOG_TAIL_INDEX : Fld :=
  { off := 0x30064, hi := 6, lo := 0, acc := .ro, rst := 0x0 }
def FAULT_LOG_TAIL : RegDesc :=
  { off := 0x30064, flds := [FAULT_LOG_TAIL_INDEX] }

/-! FAULT_LOG_LOST: R567 of 17_faults_and_containment.md. -/
def FAULT_LOG_LOST_VALUE : Fld :=
  { off := 0x30068, hi := 31, lo := 0, acc := .ro, rst := 0x0 }
def FAULT_LOG_LOST : RegDesc :=
  { off := 0x30068, flds := [FAULT_LOG_LOST_VALUE] }

/-! FAULT_NOTICE_HEAD: R567 of 17_faults_and_containment.md. -/
def FAULT_NOTICE_HEAD_INDEX : Fld :=
  { off := 0x30070, hi := 8, lo := 0, acc := .rw, rst := 0x0 }
def FAULT_NOTICE_HEAD : RegDesc :=
  { off := 0x30070, flds := [FAULT_NOTICE_HEAD_INDEX] }

/-! FAULT_NOTICE_TAIL: R567 of 17_faults_and_containment.md. -/
def FAULT_NOTICE_TAIL_INDEX : Fld :=
  { off := 0x30074, hi := 8, lo := 0, acc := .ro, rst := 0x0 }
def FAULT_NOTICE_TAIL : RegDesc :=
  { off := 0x30074, flds := [FAULT_NOTICE_TAIL_INDEX] }

/-! FAULT_NOTICE_DROPS: R567 of 17_faults_and_containment.md. -/
def FAULT_NOTICE_DROPS_VALUE : Fld :=
  { off := 0x30078, hi := 31, lo := 0, acc := .ro, rst := 0x0 }
def FAULT_NOTICE_DROPS : RegDesc :=
  { off := 0x30078, flds := [FAULT_NOTICE_DROPS_VALUE] }

/-! FAULT_HD_CONTAINED: R567 of 17_faults_and_containment.md. -/
def FAULT_HD_CONTAINED_VALUE : Fld :=
  { off := 0x30080, s1 := 0x4, n1 := 32, hi := 31, lo := 0, acc := .ro, rst := 0x0 }
def FAULT_HD_CONTAINED : RegDesc :=
  { off := 0x30080, s1 := 0x4, n1 := 32, flds := [FAULT_HD_CONTAINED_VALUE] }

/-! FAULT_PORT_CONTAINED: R567 of 17_faults_and_containment.md. -/
def FAULT_PORT_CONTAINED_VALUE : Fld :=
  { off := 0x30100, s1 := 0x4, n1 := 3, hi := 31, lo := 0, acc := .ro, rst := 0x0 }
def FAULT_PORT_CONTAINED : RegDesc :=
  { off := 0x30100, s1 := 0x4, n1 := 3, flds := [FAULT_PORT_CONTAINED_VALUE] }

/-! FAULT_SRC_CFG: R567 of 17_faults_and_containment.md. -/
def FAULT_SRC_CFG_FORCE : Fld :=
  { off := 0x31000, s1 := 0x8, n1 := 256, hi := 31, lo := 31, acc := .wo, rst := 0x0 }
def FAULT_SRC_CFG_MASK : Fld :=
  { off := 0x31000, s1 := 0x8, n1 := 256, hi := 30, lo := 30, acc := .rw, rst := 0x0 }
def FAULT_SRC_CFG_SEVERITY : Fld :=
  { off := 0x31000, s1 := 0x8, n1 := 256, hi := 29, lo := 27, acc := .rw, rst := 0x0, ok := [(0, 4)] }
def FAULT_SRC_CFG_CONTAIN_ACTION : Fld :=
  { off := 0x31000, s1 := 0x8, n1 := 256, hi := 26, lo := 25, acc := .rw, rst := 0x0 }
def FAULT_SRC_CFG_SLOT_OFF : Fld :=
  { off := 0x31000, s1 := 0x8, n1 := 256, hi := 24, lo := 24, acc := .rw, rst := 0x0 }
def FAULT_SRC_CFG_COUNT_N : Fld :=
  { off := 0x31000, s1 := 0x8, n1 := 256, hi := 23, lo := 16, acc := .rw, rst := 0x0 }
def FAULT_SRC_CFG_WINDOW : Fld :=
  { off := 0x31000, s1 := 0x8, n1 := 256, hi := 15, lo := 0, acc := .rw, rst := 0x40, ok := [(1, 65535)] }
def FAULT_SRC_CFG : RegDesc :=
  { off := 0x31000, s1 := 0x8, n1 := 256, flds := [FAULT_SRC_CFG_FORCE, FAULT_SRC_CFG_MASK, FAULT_SRC_CFG_SEVERITY, FAULT_SRC_CFG_CONTAIN_ACTION, FAULT_SRC_CFG_SLOT_OFF, FAULT_SRC_CFG_COUNT_N, FAULT_SRC_CFG_WINDOW] }

/-! FAULT_SRC_STATUS: R567 of 17_faults_and_containment.md. -/
def FAULT_SRC_STATUS_MAX_SEV : Fld :=
  { off := 0x31004, s1 := 0x8, n1 := 256, hi := 31, lo := 29, acc := .ro, rst := 0x0, sticky := true }
def FAULT_SRC_STATUS_LAST_SEV : Fld :=
  { off := 0x31004, s1 := 0x8, n1 := 256, hi := 28, lo := 26, acc := .ro, rst := 0x0, sticky := true }
def FAULT_SRC_STATUS_SEVERE : Fld :=
  { off := 0x31004, s1 := 0x8, n1 := 256, hi := 25, lo := 25, acc := .ro, rst := 0x0, sticky := true }
def FAULT_SRC_STATUS_WINDOW_OPEN : Fld :=
  { off := 0x31004, s1 := 0x8, n1 := 256, hi := 24, lo := 24, acc := .ro, rst := 0x0, sticky := true }
def FAULT_SRC_STATUS_WIN_COUNT : Fld :=
  { off := 0x31004, s1 := 0x8, n1 := 256, hi := 23, lo := 16, acc := .ro, rst := 0x0, sticky := true }
def FAULT_SRC_STATUS_EVENTS : Fld :=
  { off := 0x31004, s1 := 0x8, n1 := 256, hi := 15, lo := 0, acc := .ro, rst := 0x0, sticky := true }
def FAULT_SRC_STATUS : RegDesc :=
  { off := 0x31004, s1 := 0x8, n1 := 256, flds := [FAULT_SRC_STATUS_MAX_SEV, FAULT_SRC_STATUS_LAST_SEV, FAULT_SRC_STATUS_SEVERE, FAULT_SRC_STATUS_WINDOW_OPEN, FAULT_SRC_STATUS_WIN_COUNT, FAULT_SRC_STATUS_EVENTS] }

def regsFAULT0 : List RegDesc :=
  [FAULT_CTRL, FAULT_ESC_EN, FAULT_SNAP_TICK_LO, FAULT_SNAP_TICK_HI,
   FAULT_STATUS, FAULT_PIN_STATUS, FAULT_IRQ, FAULT_CONTAIN_RELEASE,
   FAULT_FSW, FAULT_FSW_SNAP, FAULT_LOG_HEAD, FAULT_LOG_TAIL]
def regsFAULT1 : List RegDesc :=
  [FAULT_LOG_LOST, FAULT_NOTICE_HEAD, FAULT_NOTICE_TAIL, FAULT_NOTICE_DROPS,
   FAULT_HD_CONTAINED, FAULT_PORT_CONTAINED, FAULT_SRC_CFG, FAULT_SRC_STATUS]
/-- Every setup register of the block FAULT. -/
def regsFAULT : List RegDesc := regsFAULT0 ++ regsFAULT1

/-! IBEX_STATUS: R624 of 19_ibex_slot_power.md. -/
def IBEX_STATUS_LINK_UP : Fld :=
  { off := 0x40000, hi := 31, lo := 31, acc := .ro, rst := 0x0, sticky := true }
def IBEX_STATUS_CFG_REJECTED : Fld :=
  { off := 0x40000, hi := 30, lo := 30, acc := .rw1c, rst := 0x0, sticky := true }
def IBEX_STATUS : RegDesc :=
  { off := 0x40000, flds := [IBEX_STATUS_LINK_UP, IBEX_STATUS_CFG_REJECTED] }

/-! IBEX_BANK_CFG0: R624 of 19_ibex_slot_power.md. -/
def IBEX_BANK_CFG0_OV : Fld :=
  { off := 0x40010, s1 := 0x8, n1 := 2, hi := 25, lo := 16, acc := .rw, rst := 0x258, sticky := true, ok := [(120, 720)] }
def IBEX_BANK_CFG0_UV : Fld :=
  { off := 0x40010, s1 := 0x8, n1 := 2, hi := 9, lo := 0, acc := .rw, rst := 0x168, sticky := true, ok := [(120, 720)] }
def IBEX_BANK_CFG0 : RegDesc :=
  { off := 0x40010, s1 := 0x8, n1 := 2, flds := [IBEX_BANK_CFG0_OV, IBEX_BANK_CFG0_UV] }

/-! IBEX_BANK_CFG1: R624 of 19_ibex_slot_power.md. -/
def IBEX_BANK_CFG1_PFAIL : Fld :=
  { off := 0x40014, s1 := 0x8, n1 := 2, hi := 9, lo := 0, acc := .rw, rst := 0x17c, sticky := true, ok := [(120, 720)] }
def IBEX_BANK_CFG1 : RegDesc :=
  { off := 0x40014, s1 := 0x8, n1 := 2, flds := [IBEX_BANK_CFG1_PFAIL] }

/-! IBEX_BANK_STATUS: R624 of 19_ibex_slot_power.md. -/
def IBEX_BANK_STATUS_IN_WINDOW : Fld :=
  { off := 0x40030, s1 := 0x4, n1 := 2, hi := 31, lo := 31, acc := .ro, rst := 0x0, sticky := true }
def IBEX_BANK_STATUS_BELOW_PFAIL : Fld :=
  { off := 0x40030, s1 := 0x4, n1 := 2, hi := 30, lo := 30, acc := .ro, rst := 0x0, sticky := true }
def IBEX_BANK_STATUS_VOLTAGE : Fld :=
  { off := 0x40030, s1 := 0x4, n1 := 2, hi := 15, lo := 0, acc := .ro, rst := 0x0, sticky := true }
def IBEX_BANK_STATUS : RegDesc :=
  { off := 0x40030, s1 := 0x4, n1 := 2, flds := [IBEX_BANK_STATUS_IN_WINDOW, IBEX_BANK_STATUS_BELOW_PFAIL, IBEX_BANK_STATUS_VOLTAGE] }

/-! IBX_CFG0: R624 of 19_ibex_slot_power.md. -/
def IBX_CFG0_RSENSE : Fld :=
  { off := 0x40100, s1 := 0x40, n1 := 24, hi := 31, lo := 16, acc := .rw, rst := 0x1388, sticky := true, ok := [(100, 65535)] }
def IBX_CFG0_P_LIM : Fld :=
  { off := 0x40100, s1 := 0x40, n1 := 24, hi := 15, lo := 8, acc := .rw, rst := 0x3c, sticky := true, ok := [(5, 200)] }
def IBX_CFG0_FAST_TRIP : Fld :=
  { off := 0x40100, s1 := 0x40, n1 := 24, hi := 7, lo := 6, acc := .rw, rst := 0x1, sticky := true, ok := [(0, 2)] }
def IBX_CFG0_SENSE_LIM : Fld :=
  { off := 0x40100, s1 := 0x40, n1 := 24, hi := 5, lo := 0, acc := .rw, rst := 0x19, sticky := true, ok := [(10, 50)] }
def IBX_CFG0 : RegDesc :=
  { off := 0x40100, s1 := 0x40, n1 := 24, flds := [IBX_CFG0_RSENSE, IBX_CFG0_P_LIM, IBX_CFG0_FAST_TRIP, IBX_CFG0_SENSE_LIM] }

/-! IBX_CFG1: R624 of 19_ibex_slot_power.md. -/
def IBX_CFG1_PRECHG_EN : Fld :=
  { off := 0x40104, s1 := 0x40, n1 := 24, hi := 31, lo := 31, acc := .rw, rst := 0x0, sticky := true }
def IBX_CFG1_START_TIMER : Fld :=
  { off := 0x40104, s1 := 0x40, n1 := 24, hi := 24, lo := 16, acc := .rw, rst := 0x32, sticky := true, ok := [(1, 500)] }
def IBX_CFG1_FAULT_TIMER : Fld :=
  { off := 0x40104, s1 := 0x40, n1 := 24, hi := 9, lo := 0, acc := .rw, rst := 0x32, sticky := true, ok := [(1, 1000)] }
def IBX_CFG1 : RegDesc :=
  { off := 0x40104, s1 := 0x40, n1 := 24, flds := [IBX_CFG1_PRECHG_EN, IBX_CFG1_START_TIMER, IBX_CFG1_FAULT_TIMER] }

/-! IBX_CFG2: R624 of 19_ibex_slot_power.md. -/
def IBX_CFG2_PRECHG_TIMEOUT : Fld :=
  { off := 0x40108, s1 := 0x40, n1 := 24, hi := 26, lo := 16, acc := .rw, rst := 0xc8, sticky := true, ok := [(10, 2000)] }
def IBX_CFG2_INSERT_DELAY : Fld :=
  { off := 0x40108, s1 := 0x40, n1 := 24, hi := 10, lo := 0, acc := .rw, rst := 0x64, sticky := true, ok := [(10, 2000)] }
def IBX_CFG2 : RegDesc :=
  { off := 0x40108, s1 := 0x40, n1 := 24, flds := [IBX_CFG2_PRECHG_TIMEOUT, IBX_CFG2_INSERT_DELAY] }

/-! IBX_CFG3: R624 of 19_ibex_slot_power.md. -/
def IBX_CFG3_PRSNT_DEBOUNCE : Fld :=
  { off := 0x4010c, s1 := 0x40, n1 := 24, hi := 25, lo := 16, acc := .rw, rst := 0x14, sticky := true, ok := [(1, 1000)] }
def IBX_CFG3_RETRY_DELAY : Fld :=
  { off := 0x4010c, s1 := 0x40, n1 := 24, hi := 14, lo := 8, acc := .rw, rst := 0xa, sticky := true, ok := [(1, 100)] }
def IBX_CFG3_RETRIES : Fld :=
  { off := 0x4010c, s1 := 0x40, n1 := 24, hi := 2, lo := 0, acc := .rw, rst := 0x3, sticky := true }
def IBX_CFG3 : RegDesc :=
  { off := 0x4010c, s1 := 0x40, n1 := 24, flds := [IBX_CFG3_PRSNT_DEBOUNCE, IBX_CFG3_RETRY_DELAY, IBX_CFG3_RETRIES] }

/-! IBX_CTRL: R624 of 19_ibex_slot_power.md. -/
def IBX_CTRL_CLEAR_LOCK : Fld :=
  { off := 0x40110, s1 := 0x40, n1 := 24, hi := 31, lo := 31, acc := .wo, rst := 0x0, sticky := true }
def IBX_CTRL : RegDesc :=
  { off := 0x40110, s1 := 0x40, n1 := 24, flds := [IBX_CTRL_CLEAR_LOCK] }

/-! IBX_STATUS: R624 of 19_ibex_slot_power.md. -/
def IBX_STATUS_STATE : Fld :=
  { off := 0x40114, s1 := 0x40, n1 := 24, hi := 31, lo := 28, acc := .ro, rst := 0x0, sticky := true }
def IBX_STATUS_RETRY_QUALIFY : Fld :=
  { off := 0x40114, s1 := 0x40, n1 := 24, hi := 27, lo := 27, acc := .ro, rst := 0x0, sticky := true }
def IBX_STATUS_RETRY_COUNT : Fld :=
  { off := 0x40114, s1 := 0x40, n1 := 24, hi := 26, lo := 24, acc := .ro, rst := 0x0, sticky := true }
def IBX_STATUS_ASSIGNED : Fld :=
  { off := 0x40114, s1 := 0x40, n1 := 24, hi := 23, lo := 23, acc := .ro, rst := 0x0, sticky := true }
def IBX_STATUS_PRESENT : Fld :=
  { off := 0x40114, s1 := 0x40, n1 := 24, hi := 22, lo := 22, acc := .ro, rst := 0x0, sticky := true }
def IBX_STATUS_BUTTON : Fld :=
  { off := 0x40114, s1 := 0x40, n1 := 24, hi := 21, lo := 21, acc := .ro, rst := 0x0, sticky := true }
def IBX_STATUS_POWER_REQ : Fld :=
  { off := 0x40114, s1 := 0x40, n1 := 24, hi := 20, lo := 20, acc := .ro, rst := 0x0, sticky := true }
def IBX_STATUS_IN_LIMIT : Fld :=
  { off := 0x40114, s1 := 0x40, n1 := 24, hi := 19, lo := 19, acc := .ro, rst := 0x0, sticky := true }
def IBX_STATUS_PFAIL : Fld :=
  { off := 0x40114, s1 := 0x40, n1 := 24, hi := 18, lo := 18, acc := .ro, rst := 0x0, sticky := true }
def IBX_STATUS_LAST_TRIP : Fld :=
  { off := 0x40114, s1 := 0x40, n1 := 24, hi := 15, lo := 12, acc := .ro, rst := 0x0, sticky := true }
def IBX_STATUS : RegDesc :=
  { off := 0x40114, s1 := 0x40, n1 := 24, flds := [IBX_STATUS_STATE, IBX_STATUS_RETRY_QUALIFY, IBX_STATUS_RETRY_COUNT, IBX_STATUS_ASSIGNED, IBX_STATUS_PRESENT, IBX_STATUS_BUTTON, IBX_STATUS_POWER_REQ, IBX_STATUS_IN_LIMIT, IBX_STATUS_PFAIL, IBX_STATUS_LAST_TRIP] }

/-! IBX_EVENTS: R624 of 19_ibex_slot_power.md. -/
def IBX_EVENTS_BUTTON : Fld :=
  { off := 0x40118, s1 := 0x40, n1 := 24, hi := 9, lo := 9, acc := .rw1c, rst := 0x0, sticky := true }
def IBX_EVENTS_PRESENCE : Fld :=
  { off := 0x40118, s1 := 0x40, n1 := 24, hi := 8, lo := 8, acc := .rw1c, rst := 0x0, sticky := true }
def IBX_EVENTS_PRECHG_TIMEOUT : Fld :=
  { off := 0x40118, s1 := 0x40, n1 := 24, hi := 7, lo := 7, acc := .rw1c, rst := 0x0, sticky := true }
def IBX_EVENTS_UV_OV : Fld :=
  { off := 0x40118, s1 := 0x40, n1 := 24, hi := 6, lo := 6, acc := .rw1c, rst := 0x0, sticky := true }
def IBX_EVENTS_PFAIL : Fld :=
  { off := 0x40118, s1 := 0x40, n1 := 24, hi := 5, lo := 5, acc := .rw1c, rst := 0x0, sticky := true }
def IBX_EVENTS_FET_SHORT : Fld :=
  { off := 0x40118, s1 := 0x40, n1 := 24, hi := 4, lo := 4, acc := .rw1c, rst := 0x0, sticky := true }
def IBX_EVENTS_GATE_FAIL : Fld :=
  { off := 0x40118, s1 := 0x40, n1 := 24, hi := 3, lo := 3, acc := .rw1c, rst := 0x0, sticky := true }
def IBX_EVENTS_LATCH_OFF : Fld :=
  { off := 0x40118, s1 := 0x40, n1 := 24, hi := 2, lo := 2, acc := .rw1c, rst := 0x0, sticky := true }
def IBX_EVENTS_FAST_TRIP : Fld :=
  { off := 0x40118, s1 := 0x40, n1 := 24, hi := 1, lo := 1, acc := .rw1c, rst := 0x0, sticky := true }
def IBX_EVENTS_TRIP : Fld :=
  { off := 0x40118, s1 := 0x40, n1 := 24, hi := 0, lo := 0, acc := .rw1c, rst := 0x0, sticky := true }
def IBX_EVENTS : RegDesc :=
  { off := 0x40118, s1 := 0x40, n1 := 24, flds := [IBX_EVENTS_BUTTON, IBX_EVENTS_PRESENCE, IBX_EVENTS_PRECHG_TIMEOUT, IBX_EVENTS_UV_OV, IBX_EVENTS_PFAIL, IBX_EVENTS_FET_SHORT, IBX_EVENTS_GATE_FAIL, IBX_EVENTS_LATCH_OFF, IBX_EVENTS_FAST_TRIP, IBX_EVENTS_TRIP] }

/-! IBX_MEAS: R624 of 19_ibex_slot_power.md. -/
def IBX_MEAS_IOUT : Fld :=
  { off := 0x4011c, s1 := 0x40, n1 := 24, hi := 31, lo := 16, acc := .ro, rst := 0x0, sticky := true }
def IBX_MEAS_VOUT : Fld :=
  { off := 0x4011c, s1 := 0x40, n1 := 24, hi := 15, lo := 0, acc := .ro, rst := 0x0, sticky := true }
def IBX_MEAS : RegDesc :=
  { off := 0x4011c, s1 := 0x40, n1 := 24, flds := [IBX_MEAS_IOUT, IBX_MEAS_VOUT] }

/-! IBX_TRIPS: R624 of 19_ibex_slot_power.md. -/
def IBX_TRIPS_VALUE : Fld :=
  { off := 0x40120, s1 := 0x40, n1 := 24, hi := 31, lo := 0, acc := .ro, rst := 0x0, sticky := true }
def IBX_TRIPS : RegDesc :=
  { off := 0x40120, s1 := 0x40, n1 := 24, flds := [IBX_TRIPS_VALUE] }

def regsIBEX0 : List RegDesc :=
  [IBEX_STATUS, IBEX_BANK_CFG0, IBEX_BANK_CFG1, IBEX_BANK_STATUS,
   IBX_CFG0, IBX_CFG1, IBX_CFG2, IBX_CFG3,
   IBX_CTRL, IBX_STATUS, IBX_EVENTS, IBX_MEAS]
def regsIBEX1 : List RegDesc :=
  [IBX_TRIPS]
/-- Every setup register of the block IBEX. -/
def regsIBEX : List RegDesc := regsIBEX0 ++ regsIBEX1

/-! FUSE_STATUS: R600 of 18_reset_and_startup.md. -/
def FUSE_STATUS_STATE : Fld :=
  { off := 0x50000, hi := 31, lo := 30, acc := .ro, rst := 0x0 }
def FUSE_STATUS_FAIL_ROW : Fld :=
  { off := 0x50000, hi := 24, lo := 16, acc := .ro, rst := 0x0 }
def FUSE_STATUS_RETRIED : Fld :=
  { off := 0x50000, hi := 9, lo := 0, acc := .ro, rst := 0x0 }
def FUSE_STATUS : RegDesc :=
  { off := 0x50000, flds := [FUSE_STATUS_STATE, FUSE_STATUS_FAIL_ROW, FUSE_STATUS_RETRIED] }

/-! FUSE_ROW_SEL: R600 of 18_reset_and_startup.md. -/
def FUSE_ROW_SEL_ROW : Fld :=
  { off := 0x50004, hi := 8, lo := 0, acc := .rw, rst := 0x0 }
def FUSE_ROW_SEL : RegDesc :=
  { off := 0x50004, flds := [FUSE_ROW_SEL_ROW] }

/-! FUSE_ROW_DATA_LO: R600 of 18_reset_and_startup.md. -/
def FUSE_ROW_DATA_LO_VALUE : Fld :=
  { off := 0x50008, hi := 31, lo := 0, acc := .ro, rst := 0x0, fuse := true }
def FUSE_ROW_DATA_LO : RegDesc :=
  { off := 0x50008, pair := .low, flds := [FUSE_ROW_DATA_LO_VALUE] }

/-! FUSE_ROW_DATA_HI: R600 of 18_reset_and_startup.md. -/
def FUSE_ROW_DATA_HI_VALUE : Fld :=
  { off := 0x5000c, hi := 31, lo := 0, acc := .ro, rst := 0x0, fuse := true }
def FUSE_ROW_DATA_HI : RegDesc :=
  { off := 0x5000c, pair := .high, flds := [FUSE_ROW_DATA_HI_VALUE] }

/-! FUSE_ROW_CRC: R600 of 18_reset_and_startup.md. -/
def FUSE_ROW_CRC_PROGRAMMED : Fld :=
  { off := 0x50010, hi := 31, lo := 31, acc := .ro, rst := 0x0, fuse := true }
def FUSE_ROW_CRC_CRC : Fld :=
  { off := 0x50010, hi := 15, lo := 0, acc := .ro, rst := 0x0, fuse := true }
def FUSE_ROW_CRC : RegDesc :=
  { off := 0x50010, flds := [FUSE_ROW_CRC_PROGRAMMED, FUSE_ROW_CRC_CRC] }

/-! FUSE_PROG_DATA_LO: R600 of 18_reset_and_startup.md. -/
def FUSE_PROG_DATA_LO_VALUE : Fld :=
  { off := 0x50020, hi := 31, lo := 0, acc := .rw, rst := 0x0 }
def FUSE_PROG_DATA_LO : RegDesc :=
  { off := 0x50020, pair := .low, flds := [FUSE_PROG_DATA_LO_VALUE] }

/-! FUSE_PROG_DATA_HI: R600 of 18_reset_and_startup.md. -/
def FUSE_PROG_DATA_HI_VALUE : Fld :=
  { off := 0x50024, hi := 31, lo := 0, acc := .rw, rst := 0x0 }
def FUSE_PROG_DATA_HI : RegDesc :=
  { off := 0x50024, pair := .high, flds := [FUSE_PROG_DATA_HI_VALUE] }

/-! FUSE_PROG_CMD: R600 of 18_reset_and_startup.md. -/
def FUSE_PROG_CMD_KEY : Fld :=
  { off := 0x50028, hi := 31, lo := 16, acc := .wo, rst := 0x0 }
def FUSE_PROG_CMD_ROW : Fld :=
  { off := 0x50028, hi := 8, lo := 0, acc := .wo, rst := 0x0 }
def FUSE_PROG_CMD : RegDesc :=
  { off := 0x50028, flds := [FUSE_PROG_CMD_KEY, FUSE_PROG_CMD_ROW] }

/-! FUSE_PROG_STATUS: R600 of 18_reset_and_startup.md. -/
def FUSE_PROG_STATUS_RESULT : Fld :=
  { off := 0x5002c, hi := 1, lo := 0, acc := .ro, rst := 0x0 }
def FUSE_PROG_STATUS : RegDesc :=
  { off := 0x5002c, flds := [FUSE_PROG_STATUS_RESULT] }

def regsFUSE0 : List RegDesc :=
  [FUSE_STATUS, FUSE_ROW_SEL, FUSE_ROW_DATA_LO, FUSE_ROW_DATA_HI,
   FUSE_ROW_CRC, FUSE_PROG_DATA_LO, FUSE_PROG_DATA_HI, FUSE_PROG_CMD,
   FUSE_PROG_STATUS]
/-- Every setup register of the block FUSE. -/
def regsFUSE : List RegDesc := regsFUSE0

/-! CUE_BANK_STATUS: R413 of 12_bridging.md. -/
def CUE_BANK_STATUS_BANKS : Fld :=
  { off := 0x60000, hi := 2, lo := 0, acc := .ro, rst := 0x0, fuse := true }
def CUE_BANK_STATUS : RegDesc :=
  { off := 0x60000, flds := [CUE_BANK_STATUS_BANKS] }

/-! CUE_IN_LO: R413 of 12_bridging.md. -/
def CUE_IN_LO_VALUE : Fld :=
  { off := 0x60004, hi := 31, lo := 0, acc := .ro, rst := 0x0 }
def CUE_IN_LO : RegDesc :=
  { off := 0x60004, pair := .low, flds := [CUE_IN_LO_VALUE] }

/-! CUE_IN_HI: R413 of 12_bridging.md. -/
def CUE_IN_HI_VALUE : Fld :=
  { off := 0x60008, hi := 15, lo := 0, acc := .ro, rst := 0x0 }
def CUE_IN_HI : RegDesc :=
  { off := 0x60008, pair := .high, flds := [CUE_IN_HI_VALUE] }

/-! CUE_SCHED_LO: R413 of 12_bridging.md. -/
def CUE_SCHED_LO_VALUE : Fld :=
  { off := 0x60040, hi := 31, lo := 0, acc := .rw, rst := 0x0 }
def CUE_SCHED_LO : RegDesc :=
  { off := 0x60040, pair := .low, flds := [CUE_SCHED_LO_VALUE] }

/-! CUE_SCHED_HI: R413 of 12_bridging.md. -/
def CUE_SCHED_HI_VALUE : Fld :=
  { off := 0x60044, hi := 31, lo := 0, acc := .rw, rst := 0x0 }
def CUE_SCHED_HI : RegDesc :=
  { off := 0x60044, pair := .high, flds := [CUE_SCHED_HI_VALUE] }

/-! CUE_SCHED_CMD: R413 of 12_bridging.md. -/
def CUE_SCHED_CMD_GO : Fld :=
  { off := 0x60048, hi := 31, lo := 31, acc := .wo, rst := 0x0 }
def CUE_SCHED_CMD_LEVEL : Fld :=
  { off := 0x60048, hi := 8, lo := 8, acc := .wo, rst := 0x0 }
def CUE_SCHED_CMD_PIN : Fld :=
  { off := 0x60048, hi := 5, lo := 0, acc := .wo, rst := 0x0, ok := [(0, 47)] }
def CUE_SCHED_CMD : RegDesc :=
  { off := 0x60048, flds := [CUE_SCHED_CMD_GO, CUE_SCHED_CMD_LEVEL, CUE_SCHED_CMD_PIN] }

/-! CUE_SCHED_STATUS: R413 of 12_bridging.md. -/
def CUE_SCHED_STATUS_RESULT : Fld :=
  { off := 0x6004c, hi := 2, lo := 0, acc := .ro, rst := 0x0 }
def CUE_SCHED_STATUS : RegDesc :=
  { off := 0x6004c, flds := [CUE_SCHED_STATUS_RESULT] }

/-! MW_CTRL: R413 of 12_bridging.md. -/
def MW_CTRL_TC : Fld :=
  { off := 0x60080, hi := 2, lo := 0, acc := .rw, rst := 0x6 }
def MW_CTRL : RegDesc :=
  { off := 0x60080, flds := [MW_CTRL_TC] }

/-! CUE_PIN_CFG: R413 of 12_bridging.md. -/
def CUE_PIN_CFG_MODE : Fld :=
  { off := 0x60100, s1 := 0x4, n1 := 48, hi := 31, lo := 30, acc := .rw, rst := 0x3 }
def CUE_PIN_CFG_REST : Fld :=
  { off := 0x60100, s1 := 0x4, n1 := 48, hi := 29, lo := 28, acc := .rw, rst := 0x0, fuse := true }
def CUE_PIN_CFG_OUT_INIT : Fld :=
  { off := 0x60100, s1 := 0x4, n1 := 48, hi := 27, lo := 27, acc := .rw, rst := 0x0 }
def CUE_PIN_CFG_MW : Fld :=
  { off := 0x60100, s1 := 0x4, n1 := 48, hi := 23, lo := 12, acc := .rw, rst := 0x0 }
def CUE_PIN_CFG_BIT : Fld :=
  { off := 0x60100, s1 := 0x4, n1 := 48, hi := 4, lo := 0, acc := .rw, rst := 0x0 }
def CUE_PIN_CFG : RegDesc :=
  { off := 0x60100, s1 := 0x4, n1 := 48, flds := [CUE_PIN_CFG_MODE, CUE_PIN_CFG_REST, CUE_PIN_CFG_OUT_INIT, CUE_PIN_CFG_MW, CUE_PIN_CFG_BIT] }

/-! MW_VALUE: R413 of 12_bridging.md. -/
def MW_VALUE_VALUE : Fld :=
  { off := 0x68000, s1 := 0x4, n1 := 4096, hi := 31, lo := 0, acc := .rw, rst := 0x0 }
def MW_VALUE : RegDesc :=
  { off := 0x68000, s1 := 0x4, n1 := 4096, flds := [MW_VALUE_VALUE] }

def regsCUE0 : List RegDesc :=
  [CUE_BANK_STATUS, CUE_IN_LO, CUE_IN_HI, CUE_SCHED_LO,
   CUE_SCHED_HI, CUE_SCHED_CMD, CUE_SCHED_STATUS, MW_CTRL,
   CUE_PIN_CFG, MW_VALUE]
/-- Every setup register of the block CUE. -/
def regsCUE : List RegDesc := regsCUE0

/-! OBS_CTRL: R231 of 07_observing_traffic.md. -/
def OBS_CTRL_SHADOW_HOLD : Fld :=
  { off := 0x80000, hi := 0, lo := 0, acc := .rw, rst := 0x0 }
def OBS_CTRL : RegDesc :=
  { off := 0x80000, flds := [OBS_CTRL_SHADOW_HOLD] }

/-! OBS_SHADOW_TICK_LO: R231 of 07_observing_traffic.md. -/
def OBS_SHADOW_TICK_LO_VALUE : Fld :=
  { off := 0x80008, hi := 31, lo := 0, acc := .ro, rst := 0x0 }
def OBS_SHADOW_TICK_LO : RegDesc :=
  { off := 0x80008, pair := .low, flds := [OBS_SHADOW_TICK_LO_VALUE] }

/-! OBS_SHADOW_TICK_HI: R231 of 07_observing_traffic.md. -/
def OBS_SHADOW_TICK_HI_VALUE : Fld :=
  { off := 0x8000c, hi := 31, lo := 0, acc := .ro, rst := 0x0 }
def OBS_SHADOW_TICK_HI : RegDesc :=
  { off := 0x8000c, pair := .high, flds := [OBS_SHADOW_TICK_HI_VALUE] }

/-! OBS_IRQ: R231 of 07_observing_traffic.md. -/
def OBS_IRQ_EN : Fld :=
  { off := 0x80010, hi := 31, lo := 31, acc := .rw, rst := 0x0 }
def OBS_IRQ_PF : Fld :=
  { off := 0x80010, hi := 20, lo := 16, acc := .rw, rst := 0x0 }
def OBS_IRQ_VECTOR : Fld :=
  { off := 0x80010, hi := 14, lo := 0, acc := .rw, rst := 0x0 }
def OBS_IRQ : RegDesc :=
  { off := 0x80010, flds := [OBS_IRQ_EN, OBS_IRQ_PF, OBS_IRQ_VECTOR] }

/-! OBS_RING_BASE_LO: R231 of 07_observing_traffic.md. -/
def OBS_RING_BASE_LO_VALUE : Fld :=
  { off := 0x80040, hi := 31, lo := 12, acc := .rw, rst := 0x0 }
def OBS_RING_BASE_LO : RegDesc :=
  { off := 0x80040, pair := .low, flds := [OBS_RING_BASE_LO_VALUE] }

/-! OBS_RING_BASE_HI: R231 of 07_observing_traffic.md. -/
def OBS_RING_BASE_HI_VALUE : Fld :=
  { off := 0x80044, hi := 31, lo := 0, acc := .rw, rst := 0x0 }
def OBS_RING_BASE_HI : RegDesc :=
  { off := 0x80044, pair := .high, flds := [OBS_RING_BASE_HI_VALUE] }

/-! OBS_RING_CFG: R231 of 07_observing_traffic.md. -/
def OBS_RING_CFG_EN : Fld :=
  { off := 0x80048, hi := 31, lo := 31, acc := .rw, rst := 0x0 }
def OBS_RING_CFG_IRQ : Fld :=
  { off := 0x80048, hi := 30, lo := 30, acc := .rw, rst := 0x0 }
def OBS_RING_CFG_PF : Fld :=
  { off := 0x80048, hi := 28, lo := 24, acc := .rw, rst := 0x0 }
def OBS_RING_CFG_LOG2_ENTRIES : Fld :=
  { off := 0x80048, hi := 19, lo := 16, acc := .rw, rst := 0x6, ok := [(6, 16)] }
def OBS_RING_CFG_SUBDIV : Fld :=
  { off := 0x80048, hi := 2, lo := 0, acc := .rw, rst := 0x0, ok := [(0, 5)] }
def OBS_RING_CFG : RegDesc :=
  { off := 0x80048, flds := [OBS_RING_CFG_EN, OBS_RING_CFG_IRQ, OBS_RING_CFG_PF, OBS_RING_CFG_LOG2_ENTRIES, OBS_RING_CFG_SUBDIV] }

/-! OBS_RING_IRQ: R231 of 07_observing_traffic.md. -/
def OBS_RING_IRQ_EN : Fld :=
  { off := 0x8005c, hi := 31, lo := 31, acc := .rw, rst := 0x0 }
def OBS_RING_IRQ_PF : Fld :=
  { off := 0x8005c, hi := 20, lo := 16, acc := .rw, rst := 0x0 }
def OBS_RING_IRQ_VECTOR : Fld :=
  { off := 0x8005c, hi := 14, lo := 0, acc := .rw, rst := 0x0 }
def OBS_RING_IRQ : RegDesc :=
  { off := 0x8005c, flds := [OBS_RING_IRQ_EN, OBS_RING_IRQ_PF, OBS_RING_IRQ_VECTOR] }

/-! OBS_RING_HEAD: R231 of 07_observing_traffic.md. -/
def OBS_RING_HEAD_INDEX : Fld :=
  { off := 0x8004c, hi := 15, lo := 0, acc := .rw, rst := 0x0 }
def OBS_RING_HEAD : RegDesc :=
  { off := 0x8004c, flds := [OBS_RING_HEAD_INDEX] }

/-! OBS_RING_TAIL: R231 of 07_observing_traffic.md. -/
def OBS_RING_TAIL_INDEX : Fld :=
  { off := 0x80050, hi := 15, lo := 0, acc := .ro, rst := 0x0 }
def OBS_RING_TAIL : RegDesc :=
  { off := 0x80050, flds := [OBS_RING_TAIL_INDEX] }

/-! OBS_RING_DROPS: R231 of 07_observing_traffic.md. -/
def OBS_RING_DROPS_VALUE : Fld :=
  { off := 0x80054, hi := 31, lo := 0, acc := .ro, rst := 0x0 }
def OBS_RING_DROPS : RegDesc :=
  { off := 0x80054, flds := [OBS_RING_DROPS_VALUE] }

/-! OBS_SAMPLE_COUNT: R231 of 07_observing_traffic.md. -/
def OBS_SAMPLE_COUNT_N : Fld :=
  { off := 0x80058, hi := 12, lo := 0, acc := .rw, rst := 0x0, ok := [(0, 4096)] }
def OBS_SAMPLE_COUNT : RegDesc :=
  { off := 0x80058, flds := [OBS_SAMPLE_COUNT_N] }

/-! OBS_RING_STATUS: R231 of 07_observing_traffic.md. -/
def OBS_RING_STATUS_CFG_REJECTED : Fld :=
  { off := 0x80060, hi := 1, lo := 1, acc := .rw1c, rst := 0x0 }
def OBS_RING_STATUS_DROPPED : Fld :=
  { off := 0x80060, hi := 0, lo := 0, acc := .rw1c, rst := 0x0 }
def OBS_RING_STATUS : RegDesc :=
  { off := 0x80060, flds := [OBS_RING_STATUS_CFG_REJECTED, OBS_RING_STATUS_DROPPED] }

/-! OBS_SNAP_STATUS: R231 of 07_observing_traffic.md. -/
def OBS_SNAP_STATUS_VALID : Fld :=
  { off := 0x80064, hi := 31, lo := 31, acc := .ro, rst := 0x0 }
def OBS_SNAP_STATUS_PENDING : Fld :=
  { off := 0x80064, hi := 30, lo := 30, acc := .ro, rst := 0x0 }
def OBS_SNAP_STATUS_CONTENT : Fld :=
  { off := 0x80064, hi := 29, lo := 24, acc := .ro, rst := 0x0 }
def OBS_SNAP_STATUS_SEQ : Fld :=
  { off := 0x80064, hi := 15, lo := 0, acc := .ro, rst := 0x0 }
def OBS_SNAP_STATUS : RegDesc :=
  { off := 0x80064, flds := [OBS_SNAP_STATUS_VALID, OBS_SNAP_STATUS_PENDING, OBS_SNAP_STATUS_CONTENT, OBS_SNAP_STATUS_SEQ] }

/-! OBS_SNAP_TICK_LO: R231 of 07_observing_traffic.md. -/
def OBS_SNAP_TICK_LO_VALUE : Fld :=
  { off := 0x80068, hi := 31, lo := 0, acc := .ro, rst := 0x0 }
def OBS_SNAP_TICK_LO : RegDesc :=
  { off := 0x80068, pair := .low, flds := [OBS_SNAP_TICK_LO_VALUE] }

/-! OBS_SNAP_TICK_HI: R231 of 07_observing_traffic.md. -/
def OBS_SNAP_TICK_HI_VALUE : Fld :=
  { off := 0x8006c, hi := 31, lo := 0, acc := .ro, rst := 0x0 }
def OBS_SNAP_TICK_HI : RegDesc :=
  { off := 0x8006c, pair := .high, flds := [OBS_SNAP_TICK_HI_VALUE] }

/-! OBS_SNAP_ID: R231 of 07_observing_traffic.md. -/
def OBS_SNAP_ID_VALUE : Fld :=
  { off := 0x80070, hi := 31, lo := 0, acc := .ro, rst := 0x0 }
def OBS_SNAP_ID : RegDesc :=
  { off := 0x80070, flds := [OBS_SNAP_ID_VALUE] }

/-! OBS_VF_VIS: R231 of 07_observing_traffic.md. -/
def OBS_VF_VIS_VALUE : Fld :=
  { off := 0x80100, s1 := 0x4, n1 := 64, hi := 31, lo := 0, acc := .rw, rst := 0x0 }
def OBS_VF_VIS : RegDesc :=
  { off := 0x80100, s1 := 0x4, n1 := 64, flds := [OBS_VF_VIS_VALUE] }

/-! OBS_PORT_CTRL: R231 of 07_observing_traffic.md. -/
def OBS_PORT_CTRL_CLEAR : Fld :=
  { off := 0x81000, s1 := 0x100, n1 := 96, hi := 1, lo := 1, acc := .wo, rst := 0x0 }
def OBS_PORT_CTRL_IRQ_ON_WRAP : Fld :=
  { off := 0x81000, s1 := 0x100, n1 := 96, hi := 0, lo := 0, acc := .rw, rst := 0x0 }
def OBS_PORT_CTRL : RegDesc :=
  { off := 0x81000, s1 := 0x100, n1 := 96, flds := [OBS_PORT_CTRL_CLEAR, OBS_PORT_CTRL_IRQ_ON_WRAP] }

/-! OBS_EVT_SEL: R231 of 07_observing_traffic.md. -/
def OBS_EVT_SEL_SUBSCRIBER : Fld :=
  { off := 0x81020, s1 := 0x100, n1 := 96, s2 := 0x4, n2 := 8, hi := 29, lo := 17, acc := .rw, rst := 0x0 }
def OBS_EVT_SEL_SUB_EN : Fld :=
  { off := 0x81020, s1 := 0x100, n1 := 96, s2 := 0x4, n2 := 8, hi := 16, lo := 16, acc := .rw, rst := 0x0 }
def OBS_EVT_SEL_SL_MASK : Fld :=
  { off := 0x81020, s1 := 0x100, n1 := 96, s2 := 0x4, n2 := 8, hi := 15, lo := 8, acc := .rw, rst := 0xff }
def OBS_EVT_SEL_EVENT : Fld :=
  { off := 0x81020, s1 := 0x100, n1 := 96, s2 := 0x4, n2 := 8, hi := 7, lo := 0, acc := .rw, rst := 0x0 }
def OBS_EVT_SEL : RegDesc :=
  { off := 0x81020, s1 := 0x100, n1 := 96, s2 := 0x4, n2 := 8, flds := [OBS_EVT_SEL_SUBSCRIBER, OBS_EVT_SEL_SUB_EN, OBS_EVT_SEL_SL_MASK, OBS_EVT_SEL_EVENT] }

/-! OBS_CNT_LO: R231 of 07_observing_traffic.md. -/
def OBS_CNT_LO_COUNT : Fld :=
  { off := 0x81040, s1 := 0x100, n1 := 96, s2 := 0x8, n2 := 9, hi := 31, lo := 0, acc := .ro, rst := 0x0 }
def OBS_CNT_LO : RegDesc :=
  { off := 0x81040, s1 := 0x100, n1 := 96, s2 := 0x8, n2 := 9, pair := .low, flds := [OBS_CNT_LO_COUNT] }

/-! OBS_CNT_HI: R231 of 07_observing_traffic.md. -/
def OBS_CNT_HI_OVF : Fld :=
  { off := 0x81044, s1 := 0x100, n1 := 96, s2 := 0x8, n2 := 9, hi := 31, lo := 31, acc := .rw1c, rst := 0x0 }
def OBS_CNT_HI_COUNT : Fld :=
  { off := 0x81044, s1 := 0x100, n1 := 96, s2 := 0x8, n2 := 9, hi := 15, lo := 0, acc := .ro, rst := 0x0 }
def OBS_CNT_HI : RegDesc :=
  { off := 0x81044, s1 := 0x100, n1 := 96, s2 := 0x8, n2 := 9, pair := .high, flds := [OBS_CNT_HI_OVF, OBS_CNT_HI_COUNT] }

/-! OBS_SHD_LO: R231 of 07_observing_traffic.md. -/
def OBS_SHD_LO_COUNT : Fld :=
  { off := 0x81090, s1 := 0x100, n1 := 96, s2 := 0x8, n2 := 9, hi := 31, lo := 0, acc := .ro, rst := 0x0 }
def OBS_SHD_LO : RegDesc :=
  { off := 0x81090, s1 := 0x100, n1 := 96, s2 := 0x8, n2 := 9, pair := .low, flds := [OBS_SHD_LO_COUNT] }

/-! OBS_SHD_HI: R231 of 07_observing_traffic.md. -/
def OBS_SHD_HI_OVF : Fld :=
  { off := 0x81094, s1 := 0x100, n1 := 96, s2 := 0x8, n2 := 9, hi := 31, lo := 31, acc := .ro, rst := 0x0 }
def OBS_SHD_HI_COUNT : Fld :=
  { off := 0x81094, s1 := 0x100, n1 := 96, s2 := 0x8, n2 := 9, hi := 15, lo := 0, acc := .ro, rst := 0x0 }
def OBS_SHD_HI : RegDesc :=
  { off := 0x81094, s1 := 0x100, n1 := 96, s2 := 0x8, n2 := 9, pair := .high, flds := [OBS_SHD_HI_OVF, OBS_SHD_HI_COUNT] }

def regsOBS0 : List RegDesc :=
  [OBS_CTRL, OBS_SHADOW_TICK_LO, OBS_SHADOW_TICK_HI, OBS_IRQ,
   OBS_RING_BASE_LO, OBS_RING_BASE_HI, OBS_RING_CFG, OBS_RING_IRQ,
   OBS_RING_HEAD, OBS_RING_TAIL, OBS_RING_DROPS, OBS_SAMPLE_COUNT]
def regsOBS1 : List RegDesc :=
  [OBS_RING_STATUS, OBS_SNAP_STATUS, OBS_SNAP_TICK_LO, OBS_SNAP_TICK_HI,
   OBS_SNAP_ID, OBS_VF_VIS, OBS_PORT_CTRL, OBS_EVT_SEL,
   OBS_CNT_LO, OBS_CNT_HI, OBS_SHD_LO, OBS_SHD_HI]
/-- Every setup register of the block OBS. -/
def regsOBS : List RegDesc := regsOBS0 ++ regsOBS1

end Sys2Proof.Machine
end

