-- ==== Sys2Proof/Machine/StateReset.lean ====
section
/-! DEFINITION. State of reset, start-up, fuses and power (R569 to R601). -/

namespace Sys2Proof.Machine

/-- Where the device stands between a reset trigger and running (R572 to R586). -/
inductive Phase where
  /-- RESET_N driven low: the stretch, or a condition that keeps it from starting -/
  | held
  /-- RESET_N released; the device waits to read it high -/
  | released
  /-- the fuse load runs -/
  | loading
  /-- a row failed its third read -/
  | safeHold
  /-- SRAM initialisation and test -/
  | sram
  /-- firmware load -/
  | firmware
  /-- a firmware stage runs -/
  | running
  /-- no valid firmware image -/
  | noFirmware
deriving DecidableEq, Repr

/-- RESET, FUSE and power. A fuse row is its 80 bits: check in [79:64], data in [63:0]. `sources` and `cold` gather
the triggers since the last completed load, `thisCold` tells the kind of the present reset, and `due` is a reset triggered in this sample
(R570). `retried` lists the rows of the load that needed more than one read. `hds` and `ports` are the host-domain and
port resets in progress, `block` the block reset and when it was asked for, `idleEdges` the tick edges of R593, `cores`
marks the core domains that are on (R592), `early` that NO_FIRMWARE has opened the EARLY ports, `supply` the rails in an
excursion and `hot` that THERMAL_WARN is not re-armed. -/
structure RstSt where
  phase : Phase := .held
  por : Bool := true
  thermal : Bool := false
  due : Option Bool := none
  sources : Nat := 1
  cold : Bool := true
  thisCold : Bool := true
  loaded : Bool := false
  fuses : SMap Nat := []
  shadow : SMap Nat := []
  retried : List Nat := []
  progBusy : Option (Nat × Nat) := none
  hds : List (Nat × Nat) := []
  ports : List Nat := []
  block : Option (Nat × Nat) := none
  idleEdges : Nat := 0
  cores : Nat := 0
  early : Bool := false
  supply : Nat := 0
  hot : Bool := false
deriving DecidableEq, Repr

end Sys2Proof.Machine
end

