-- ==== Sys2Proof/Machine/StateRings.lean ====
section
/-! DEFINITION. State of the ring engine and of the functions: queue pairs, descriptors in progress, MSI-X tables,
virtual functions and their resets, dirty-page logs, and the non-posted entries. -/

namespace Sys2Proof.Machine

/-- States of a QP as QP_STATE gives them. -/
inductive QpState where
  | disabled | active | frozen | draining
deriving DecidableEq, Repr

/-- The kind of a recorded MPU violation (R510): access kinds of CORE_FREEZE_INFO. -/
structure FreezeRec where
  kind : Nat := 0
  addr : Nat := 0
  region : Nat := 31
  idx : Nat := 0
  at_ : Nat := 0
deriving DecidableEq, Repr

/-- A completion (R445) that waits to be written: cookie, status, DATA and RECEIVE flags, bytes done, time, whether
the interrupt is asked for, and the data-slot image. -/
structure Cpl where
  cookie : Nat := 0
  status : Nat := 0
  data : Bool := false
  receive : Bool := false
  bytesDone : Nat := 0
  time : Nat := 0
  irq : Bool := false
  image : List Nat := []
deriving DecidableEq, Repr

/-- A descriptor in progress (R438): its submission index and image, whether it is timed, how far it has come, the host
bytes asked for and those that wait to be sent, and its outcome once known. -/
structure Desc where
  idx : Nat := 0
  img : List Nat := []
  timed : Bool := false
  free_ : Bool := false
  started : Bool := false
  sent : Nat := 0
  done : Nat := 0
  outstanding : Nat := 0
  hostReads : Nat := 0
  allSent : Bool := false
  poisoned : Bool := false
  asked : Nat := 0
  buf : List Nat := []
  outcome : Option Cpl := none
deriving DecidableEq, Repr

/-- A queue pair (R426 to R433). -/
structure Qp where
  fn : Option Nat := none
  loc : Nat := 0
  sqBase : Nat := 0
  cqBase : Nat := 0
  dataBase : Nat := 0
  lowHold : SMap Nat := []
  sqLog : Nat := 6
  cqLog : Nat := 6
  dataLog : Nat := 8
  irqEn : Bool := false
  coalesce : Bool := false
  vector : Nat := 0
  state : QpState := .disabled
  head : Nat := 0
  tail : Nat := 0
  cqTail : Nat := 0
  cqHead : Nat := 0
  phase : Bool := true
  inProg : List Desc := []
  held : List Cpl := []
  fetching : Nat := 0
  freeze : Option FreezeRec := none
  drainAt : Nat := 0
  msiPending : Bool := false
deriving DecidableEq, Repr

/-- One MSI-X table entry. -/
structure MsixEnt where
  addr : Nat := 0
  data : Nat := 0
  masked : Bool := true
  pending : Bool := false
deriving DecidableEq, Repr

/-- How a VF reset in progress is to be answered (R466, R468): joined VF_RESET descriptors and what is counted. -/
structure VfReset where
  at_ : Nat := 0
  qp : List (Nat × Nat) := []
  flr : Bool := false
  squashed : Bool := false
  aborted : Nat := 0
deriving DecidableEq, Repr

/-- A dirty-page log (R472 to R475): bitmaps, range, the active one, cached words of each bitmap, and the descriptor
that waits for its merges. -/
structure DirtyLog where
  mapA : Nat := 0
  mapB : Nat := 0
  base : Nat := 0
  span : Nat := 0
  logging : Bool := false
  sel : Bool := false
  cacheA : SMap Nat := []
  cacheB : SMap Nat := []
  newA : Nat := 0
  newB : Nat := 0
  stopping : Bool := false
  waiter : Option (Nat × Nat) := none
  syncing : Option Bool := none
  written : SMap Nat := []
deriving DecidableEq, Repr

/-- A PCIe function of the device (R415, R455): PF n has index 2,048 + n, VF v index v. -/
structure Fn where
  qps : List Nat := []
  vectors : Nat := 0
  msix : SMap MsixEnt := []
  cfgRejected : Bool := false
  doorbellErr : Bool := false
  qpSel : Nat := 0
  meter : Nat := 0
  meterEn : Bool := false
  coalesce : Nat := 1
  numVfs : Nat := 0
  vfEnable : Bool := false
  present : Bool := false
  reset : Option VfReset := none
  log : DirtyLog := {}
  aer : Nat := 0
  aerHeader : List Nat := []
deriving DecidableEq, Repr

/-- A non-posted entry (R378): who waits, where the request went, how many bytes were asked for, when it was issued. -/
structure NpEnt where
  owner : Owner := .none
  port : Option Nat := none
  dst : Nat := 0
  stream : Nat := 0
  tag : Nat := 0
  bytes : Nat := 0
  addr : Nat := 0
  issued : Nat := 0
  got : List Nat := []
  poisoned : Bool := false
  squashed : Bool := false
deriving DecidableEq, Repr

/-- The ring engine. -/
structure RingSt where
  qps : SMap Qp := []
  fns : SMap Fn := []
  np : SMap (Option NpEnt) := []
deriving DecidableEq, Repr

end Sys2Proof.Machine
end

