-- ==== Sys2Proof/Machine/Defaults.lean ====
section
/-! DEFINITION. What the state holds at a cold reset where it is not the plain default: severities of the fault sources,
the first queue pairs, and the factory rows of the fuse array. -/

namespace Sys2Proof.Machine

/-! ## CRC-16-CCITT (R285, R575) -/

/-- One bit of CRC-16-CCITT. -/
def crc16Bit (c : Nat) : Nat := if c / 2 ^ 15 % 2 = 1 then Nat.xor (c * 2 % 2 ^ 16) 0x1021 else c * 2 % 2 ^ 16

/-- One byte of CRC-16-CCITT. -/
def crc16Byte (c b : Nat) : Nat :=
  crc16Bit (crc16Bit (crc16Bit (crc16Bit (crc16Bit (crc16Bit (crc16Bit (crc16Bit (Nat.xor c (b % 256 * 2 ^ 8)))))))))

/-- CRC-16-CCITT with initial value 0xFFFF (R285, R575). -/
def crc16 (bytes : List Nat) : Nat := bytes.foldl crc16Byte 0xFFFF

/-! ## Fault sources (R538) -/

/-- The default severity of each assigned source. -/
def sourceDefaults : List (Nat × Nat) :=
  [(0, 2), (1, 1), (2, 0), (3, 2), (4, 2), (5, 2), (6, 2), (7, 0), (16, 1), (17, 2), (18, 2), (19, 2), (20, 1), (21, 0)]
  ++ [(32, 1), (33, 2), (34, 2), (35, 0), (36, 2), (37, 0), (48, 1), (49, 2), (50, 2), (51, 1), (52, 2), (53, 2)]
  ++ [(64, 3), (65, 3), (66, 3), (80, 1), (81, 1), (82, 1), (84, 1), (85, 1), (86, 0), (87, 2), (88, 2), (89, 1)]
  ++ [(90, 1), (91, 1), (92, 1), (93, 1), (94, 1), (96, 1), (97, 2), (98, 0), (99, 1), (100, 2), (101, 2), (102, 2)]
  ++ [(103, 0), (104, 2), (105, 0), (106, 0), (107, 0), (108, 0), (109, 2), (112, 1), (113, 2), (114, 2), (115, 2)]
  ++ [(116, 3), (117, 2), (118, 1), (119, 1), (120, 2), (128, 2), (129, 4), (130, 4), (131, 2), (144, 1), (145, 2)]
  ++ [(146, 2), (147, 0), (148, 0), (149, 2), (150, 0), (151, 1), (152, 0), (153, 0), (154, 0), (155, 2), (156, 2)]
  ++ [(157, 1), (158, 0), (159, 1), (160, 0), (161, 0), (162, 2), (163, 2), (176, 2), (177, 4), (178, 0), (179, 2)]
  ++ [(180, 2), (192, 4), (193, 0), (194, 2), (195, 0)]

/-- Whether R538 assigns the source. -/
def sourceAssigned (n : Nat) : Bool := sourceDefaults.any (fun e => e.1 == n)

/-- The set-up of the unused sources from `n` up to below `m`, which reads 0 (R538). -/
def unusedSources (n m : Nat) : Regs := (List.range (m - n)).map (fun k => (FAULT_SRC_CFG_WINDOW.key (n + k) 0, 0))

/-- What the set-up of the sources from `n` on holds at reset: the severity of each assigned one (R542). -/
def sourceReset (n : Nat) : List (Nat × Nat) → Regs
  | [] => unusedSources n 256
  | e :: r => unusedSources n e.1 ++ (if e.2 = 0 then [] else [(FAULT_SRC_CFG_SEVERITY.key e.1 0, e.2)]) ++ sourceReset (e.1 + 1) r

/-- The register fields of a cold reset that differ from their declared reset value. -/
def regsReset : Regs := sourceReset 0 sourceDefaults

/-- Queue pairs and functions at a cold reset: QP n belongs to PF n as its local QP 0, and each PF has 16 vectors (R456, R478). -/
def ringReset : RingSt :=
  { qps := (List.range 32).map (fun n => (n, { fn := some (2048 + n) })),
    fns := (List.range 32).map (fun n => (2048 + n, { qps := [n], vectors := 0x10 })) }

/-! ## Fuse rows (R575) -/

/-- The 80 bits of a programmed row: its data and their check. -/
def fuseRow (data : Nat) : Nat := data + crc16 ((leBytes 8 data).reverse) * 2 ^ 64

/-- The rows programmed at manufacture: UID 1, GRADE 0, trims 0 (log entry 60). -/
def fusesReset : SMap Nat :=
  (List.range 8).map (fun n => (n, fuseRow (if n = 0 then 1 else 0)))

end Sys2Proof.Machine
end

