-- ==== Sys2Proof/Machine/Flit.lean ====
section
/-! DEFINITION. The checks of a Gazelle flit: CRC-64, the four Reed-Solomon codewords and CRC-16 (R285, R306 to R309,
R575). -/

namespace Sys2Proof.Machine

/-- One bit of the CRC-64 of ECMA-182, most significant bit first. -/
def crc64Bit (c : Nat) : Nat := if c / 2 ^ 63 % 2 = 1 then Nat.xor (c * 2 % 2 ^ 64) 0x42F0E1EBA9EA3693 else c * 2 % 2 ^ 64

/-- One byte of the CRC-64. -/
def crc64Byte (c b : Nat) : Nat :=
  crc64Bit (crc64Bit (crc64Bit (crc64Bit (crc64Bit (crc64Bit (crc64Bit (crc64Bit (Nat.xor c (b % 256 * 2 ^ 56)))))))))

/-- CRC-64 of a flit's first 240 bytes under the sequence value `q` (R308). -/
def flitCrc (q : Nat) (bytes : List Nat) : Nat :=
  Nat.xor (((leBytes 4 q).reverse ++ bytes.take 240).foldl crc64Byte (2 ^ 64 - 1)) (2 ^ 64 - 1)

/-- The CRC a flit carries: bytes 240 to 247, most significant first (R306). -/
def flitCheck (bytes : List Nat) : Nat := leNat ((bytes.drop 240).take 8).reverse

/-! ## RS(64,62) over GF(2^8) (R309) -/

/-- Multiplication by α. -/
def gfTimes2 (a : Nat) : Nat := if a / 128 % 2 = 1 then Nat.xor (a * 2 % 256) 0x1D else a * 2 % 256

/-- α to the power `n`. -/
def gfPow : Nat → Nat
  | 0 => 1
  | n + 1 => gfTimes2 (gfPow n)

/-- Multiplication, one bit of `b` at a time from the top. -/
def gfMul (a b : Nat) : Nat :=
  (List.range 8).foldl (fun r i => Nat.xor (gfTimes2 r) (if bit b (7 - i) then a % 256 else 0)) 0

/-- The codeword of flit byte `b` on a port of `w` lanes. -/
def codeword (w b : Nat) : Nat := if b < 248 then (b + b / w) % 4 else (b - 248) / 2

/-- The flit bytes of codeword `j`, data first, then its check bytes (log entry 36). -/
def codeBytes (w j : Nat) : List Nat := (List.range 256).filter (fun b => codeword w b == j)

/-- The syndromes of a codeword: its value at α^0 and at α^1. -/
def syndromes (l : List Nat) : Nat × Nat :=
  l.foldl (fun s c => (Nat.xor s.1 c, Nat.xor (gfTimes2 s.2) c)) (0, 0)

/-- What a codeword's check says: nothing wrong, byte `i` of the codeword to be changed by `e`, or not correctable. -/
inductive Fec where
  | ok | fix (i e : Nat) | bad
deriving DecidableEq, Repr

/-- The check of one codeword. -/
def fecOf (l : List Nat) : Fec :=
  let (a, b) := syndromes l
  if a = 0 ∧ b = 0 then .ok
  else if a = 0 ∨ b = 0 then .bad
  else match (List.range 64).find? (fun p => gfMul a (gfPow p) == b) with
    | some p => .fix (63 - p) a
    | none => .bad

/-- A flit after correction, the bytes corrected, and whether a codeword was not correctable. -/
def fecFlit (w : Nat) (bytes : List Nat) : List Nat × List Nat × Bool :=
  (List.range 4).foldl (fun r j =>
    let ix := codeBytes w j
    match fecOf (ix.map (byteAt r.1)) with
    | .ok => r
    | .fix i e =>
      let b := ix.getD i 0
      (r.1.set b (Nat.xor (byteAt r.1 b) e), r.2.1 ++ [b], r.2.2)
    | .bad => (r.1, r.2.1, true)) (bytes, [], false)

/-! ## The header word (R306) -/

/-- The header word of a flit; byte 0 holds its top bits. -/
def flitHead (bytes : List Nat) : Nat := leNat (bytes.take 4).reverse
def fhType (h : Nat) : Nat := bits h 31 28
def fhVc (h : Nat) : Nat := bits h 27 25
def fhReplay (h : Nat) : Bool := bit h 24
def fhSeq (h : Nat) : Nat := bits h 15 0

/-- Control slot `i` of a flit: 16 bytes (R316). -/
def flitSlot (bytes : List Nat) (i : Nat) : List Nat := (bytes.drop (4 + 16 * i)).take 16

end Sys2Proof.Machine
end

