-- ==== Sys2Proof/Config.lean ====
section
/-! DEFINITION. What an implementation fixes and the spec leaves open.
Every value here is opaque: nothing can evaluate it, and a claim that mentions it holds for each of its values. -/

namespace Sys2Proof.Config

/-- A value the spec does not state, by a counter that the state advances at each use (log entry 3). -/
opaque freeValue : Nat → Nat

end Sys2Proof.Config
end

