-- ==== Sys2Proof/Machine/RegsFabric.lean ====
section
/-! DEFINITION. The setup registers of the fabric and host blocks: HERD, BRIDGE, RING, CHAMOIS and ECC.
Offsets, fields, access codes and reset values are those of the register tables of the spec's chapters
(the chapter and rule stand at each register); a reset value "fuse" is 0 here until the fuse load writes the field (R7). -/

namespace Sys2Proof.Machine

/-! HERD_CTRL: R276 of 08_herd_fabric.md. -/
def HERD_CTRL_APPLY_PENDING : Fld :=
  { off := 0x480000, hi := 4, lo := 4, acc := .wo, rst := 0x0 }
def HERD_CTRL_REBALANCE : Fld :=
  { off := 0x480000, hi := 3, lo := 3, acc := .wo, rst := 0x0 }
def HERD_CTRL_JOIN_HOLD : Fld :=
  { off := 0x480000, hi := 2, lo := 2, acc := .rw, rst := 0x0 }
def HERD_CTRL_REMOTE_ADMIN : Fld :=
  { off := 0x480000, hi := 1, lo := 1, acc := .rw, rst := 0x0 }
def HERD_CTRL_ENABLE : Fld :=
  { off := 0x480000, hi := 0, lo := 0, acc := .rw, rst := 0x0, fuse := true }
def HERD_CTRL : RegDesc :=
  { off := 0x480000, flds := [HERD_CTRL_APPLY_PENDING, HERD_CTRL_REBALANCE, HERD_CTRL_JOIN_HOLD, HERD_CTRL_REMOTE_ADMIN, HERD_CTRL_ENABLE] }

/-! HERD_PRIORITY: R276 of 08_herd_fabric.md. -/
def HERD_PRIORITY_PRIORITY : Fld :=
  { off := 0x480004, hi := 7, lo := 0, acc := .rw, rst := 0x0, fuse := true }
def HERD_PRIORITY : RegDesc :=
  { off := 0x480004, flds := [HERD_PRIORITY_PRIORITY] }

/-! HERD_DID_REQ: R276 of 08_herd_fabric.md. -/
def HERD_DID_REQ_VALID : Fld :=
  { off := 0x480008, hi := 31, lo := 31, acc := .rw, rst := 0x0, fuse := true }
def HERD_DID_REQ_DID : Fld :=
  { off := 0x480008, hi := 11, lo := 0, acc := .rw, rst := 0x0, fuse := true }
def HERD_DID_REQ : RegDesc :=
  { off := 0x480008, flds := [HERD_DID_REQ_VALID, HERD_DID_REQ_DID] }

/-! HERD_STATUS: R276 of 08_herd_fabric.md. -/
def HERD_STATUS_DID_VALID : Fld :=
  { off := 0x48000c, hi := 31, lo := 31, acc := .ro, rst := 0x0 }
def HERD_STATUS_DID : Fld :=
  { off := 0x48000c, hi := 27, lo := 16, acc := .ro, rst := 0x0 }
def HERD_STATUS_STATE : Fld :=
  { off := 0x48000c, hi := 2, lo := 0, acc := .ro, rst := 0x0 }
def HERD_STATUS : RegDesc :=
  { off := 0x48000c, flds := [HERD_STATUS_DID_VALID, HERD_STATUS_DID, HERD_STATUS_STATE] }

/-! HERD_ROOT_UID_LO: R276 of 08_herd_fabric.md. -/
def HERD_ROOT_UID_LO_VALUE : Fld :=
  { off := 0x480010, hi := 31, lo := 0, acc := .ro, rst := 0x0 }
def HERD_ROOT_UID_LO : RegDesc :=
  { off := 0x480010, pair := .low, flds := [HERD_ROOT_UID_LO_VALUE] }

/-! HERD_ROOT_UID_HI: R276 of 08_herd_fabric.md. -/
def HERD_ROOT_UID_HI_VALUE : Fld :=
  { off := 0x480014, hi := 31, lo := 0, acc := .ro, rst := 0x0 }
def HERD_ROOT_UID_HI : RegDesc :=
  { off := 0x480014, pair := .high, flds := [HERD_ROOT_UID_HI_VALUE] }

/-! HERD_FABRIC: R276 of 08_herd_fabric.md. -/
def HERD_FABRIC_DEVICES : Fld :=
  { off := 0x480018, hi := 28, lo := 16, acc := .ro, rst := 0x0 }
def HERD_FABRIC_DEPTH : Fld :=
  { off := 0x480018, hi := 10, lo := 0, acc := .ro, rst := 0x7ff }
def HERD_FABRIC : RegDesc :=
  { off := 0x480018, flds := [HERD_FABRIC_DEVICES, HERD_FABRIC_DEPTH] }

/-! HERD_DIAMETER: R276 of 08_herd_fabric.md. -/
def HERD_DIAMETER_DMAX : Fld :=
  { off := 0x48001c, hi := 26, lo := 16, acc := .ro, rst := 0x0 }
def HERD_DIAMETER_TREE_DEPTH : Fld :=
  { off := 0x48001c, hi := 10, lo := 0, acc := .ro, rst := 0x0 }
def HERD_DIAMETER : RegDesc :=
  { off := 0x48001c, flds := [HERD_DIAMETER_DMAX, HERD_DIAMETER_TREE_DEPTH] }

/-! HERD_H: R276 of 08_herd_fabric.md. -/
def HERD_H_H : Fld :=
  { off := 0x480020, hi := 15, lo := 0, acc := .ro, rst := 0x12c }
def HERD_H : RegDesc :=
  { off := 0x480020, flds := [HERD_H_H] }

/-! HERD_EPOCH: R276 of 08_herd_fabric.md. -/
def HERD_EPOCH_PENDING : Fld :=
  { off := 0x480024, hi := 16, lo := 16, acc := .ro, rst := 0x0 }
def HERD_EPOCH_COUNT : Fld :=
  { off := 0x480024, hi := 15, lo := 0, acc := .ro, rst := 0x0 }
def HERD_EPOCH : RegDesc :=
  { off := 0x480024, flds := [HERD_EPOCH_PENDING, HERD_EPOCH_COUNT] }

/-! HERD_GLOBAL_CMD: R276 of 08_herd_fabric.md. -/
def HERD_GLOBAL_CMD_ID : Fld :=
  { off := 0x480030, hi := 31, lo := 16, acc := .wo, rst := 0x0 }
def HERD_GLOBAL_CMD_OP : Fld :=
  { off := 0x480030, hi := 2, lo := 0, acc := .wo, rst := 0x0, ok := [(1, 4)] }
def HERD_GLOBAL_CMD : RegDesc :=
  { off := 0x480030, flds := [HERD_GLOBAL_CMD_ID, HERD_GLOBAL_CMD_OP] }

/-! HERD_GLOBAL_ARG: R276 of 08_herd_fabric.md. -/
def HERD_GLOBAL_ARG_VALUE : Fld :=
  { off := 0x480034, hi := 31, lo := 0, acc := .rw, rst := 0x0 }
def HERD_GLOBAL_ARG : RegDesc :=
  { off := 0x480034, flds := [HERD_GLOBAL_ARG_VALUE] }

/-! HERD_GLOBAL_STATUS: R276 of 08_herd_fabric.md. -/
def HERD_GLOBAL_STATUS_BUSY : Fld :=
  { off := 0x480038, hi := 31, lo := 31, acc := .ro, rst := 0x0 }
def HERD_GLOBAL_STATUS_REFUSED : Fld :=
  { off := 0x480038, hi := 3, lo := 3, acc := .rw1c, rst := 0x0 }
def HERD_GLOBAL_STATUS_BCAST : Fld :=
  { off := 0x480038, hi := 2, lo := 2, acc := .rw1c, rst := 0x0 }
def HERD_GLOBAL_STATUS_BARRIER_FAIL : Fld :=
  { off := 0x480038, hi := 1, lo := 1, acc := .rw1c, rst := 0x0 }
def HERD_GLOBAL_STATUS_BARRIER_DONE : Fld :=
  { off := 0x480038, hi := 0, lo := 0, acc := .rw1c, rst := 0x0 }
def HERD_GLOBAL_STATUS : RegDesc :=
  { off := 0x480038, flds := [HERD_GLOBAL_STATUS_BUSY, HERD_GLOBAL_STATUS_REFUSED, HERD_GLOBAL_STATUS_BCAST, HERD_GLOBAL_STATUS_BARRIER_FAIL, HERD_GLOBAL_STATUS_BARRIER_DONE] }

/-! HERD_GLOBAL_TICK_LO: R276 of 08_herd_fabric.md. -/
def HERD_GLOBAL_TICK_LO_VALUE : Fld :=
  { off := 0x48003c, hi := 31, lo := 0, acc := .ro, rst := 0x0 }
def HERD_GLOBAL_TICK_LO : RegDesc :=
  { off := 0x48003c, pair := .low, flds := [HERD_GLOBAL_TICK_LO_VALUE] }

/-! HERD_GLOBAL_TICK_HI: R276 of 08_herd_fabric.md. -/
def HERD_GLOBAL_TICK_HI_VALUE : Fld :=
  { off := 0x480040, hi := 31, lo := 0, acc := .ro, rst := 0x0 }
def HERD_GLOBAL_TICK_HI : RegDesc :=
  { off := 0x480040, pair := .high, flds := [HERD_GLOBAL_TICK_HI_VALUE] }

/-! HERD_BCAST_VALUE: R276 of 08_herd_fabric.md. -/
def HERD_BCAST_VALUE_VALUE : Fld :=
  { off := 0x480044, hi := 31, lo := 0, acc := .ro, rst := 0x0 }
def HERD_BCAST_VALUE : RegDesc :=
  { off := 0x480044, flds := [HERD_BCAST_VALUE_VALUE] }

/-! HERD_GLOBAL_IRQ: R276 of 08_herd_fabric.md. -/
def HERD_GLOBAL_IRQ_EN : Fld :=
  { off := 0x480048, hi := 31, lo := 31, acc := .rw, rst := 0x0 }
def HERD_GLOBAL_IRQ_PF : Fld :=
  { off := 0x480048, hi := 20, lo := 16, acc := .rw, rst := 0x0 }
def HERD_GLOBAL_IRQ_VECTOR : Fld :=
  { off := 0x480048, hi := 14, lo := 0, acc := .rw, rst := 0x0 }
def HERD_GLOBAL_IRQ : RegDesc :=
  { off := 0x480048, flds := [HERD_GLOBAL_IRQ_EN, HERD_GLOBAL_IRQ_PF, HERD_GLOBAL_IRQ_VECTOR] }

/-! HERD_MOVE_CFG: R276 of 08_herd_fabric.md. -/
def HERD_MOVE_CFG_TIMEOUT : Fld :=
  { off := 0x480050, hi := 15, lo := 0, acc := .rw, rst := 0x40, ok := [(1, 65535)] }
def HERD_MOVE_CFG : RegDesc :=
  { off := 0x480050, flds := [HERD_MOVE_CFG_TIMEOUT] }

/-! HERD_EVENTS: R276 of 08_herd_fabric.md. -/
def HERD_EVENTS_MOVE_TIMEOUT : Fld :=
  { off := 0x480060, hi := 5, lo := 5, acc := .rw1c, rst := 0x0 }
def HERD_EVENTS_DIAMETER : Fld :=
  { off := 0x480060, hi := 4, lo := 4, acc := .rw1c, rst := 0x0 }
def HERD_EVENTS_DID_CHANGED : Fld :=
  { off := 0x480060, hi := 3, lo := 3, acc := .rw1c, rst := 0x0 }
def HERD_EVENTS_DEVICE_LOST : Fld :=
  { off := 0x480060, hi := 2, lo := 2, acc := .rw1c, rst := 0x0 }
def HERD_EVENTS_TOPOLOGY : Fld :=
  { off := 0x480060, hi := 1, lo := 1, acc := .rw1c, rst := 0x0 }
def HERD_EVENTS_ROOT_CHANGE : Fld :=
  { off := 0x480060, hi := 0, lo := 0, acc := .rw1c, rst := 0x0 }
def HERD_EVENTS : RegDesc :=
  { off := 0x480060, flds := [HERD_EVENTS_MOVE_TIMEOUT, HERD_EVENTS_DIAMETER, HERD_EVENTS_DID_CHANGED, HERD_EVENTS_DEVICE_LOST, HERD_EVENTS_TOPOLOGY, HERD_EVENTS_ROOT_CHANGE] }

/-! HERD_PORT_CFG: R276 of 08_herd_fabric.md. -/
def HERD_PORT_CFG_RING_ROLE : Fld :=
  { off := 0x480100, s1 := 0x4, n1 := 24, hi := 5, lo := 4, acc := .rw, rst := 0x0, ok := [(0, 2)] }
def HERD_PORT_CFG_COST : Fld :=
  { off := 0x480100, s1 := 0x4, n1 := 24, hi := 3, lo := 0, acc := .rw, rst := 0x1, ok := [(1, 15)] }
def HERD_PORT_CFG : RegDesc :=
  { off := 0x480100, s1 := 0x4, n1 := 24, flds := [HERD_PORT_CFG_RING_ROLE, HERD_PORT_CFG_COST] }

/-! HERD_PORT_STATUS: R276 of 08_herd_fabric.md. -/
def HERD_PORT_STATUS_TWO_WAY : Fld :=
  { off := 0x480180, s1 := 0x4, n1 := 24, hi := 31, lo := 31, acc := .ro, rst := 0x0 }
def HERD_PORT_STATUS_PARENT : Fld :=
  { off := 0x480180, s1 := 0x4, n1 := 24, hi := 30, lo := 30, acc := .ro, rst := 0x0 }
def HERD_PORT_STATUS_CHILD : Fld :=
  { off := 0x480180, s1 := 0x4, n1 := 24, hi := 29, lo := 29, acc := .ro, rst := 0x0 }
def HERD_PORT_STATUS_HELD : Fld :=
  { off := 0x480180, s1 := 0x4, n1 := 24, hi := 28, lo := 28, acc := .ro, rst := 0x0 }
def HERD_PORT_STATUS_NBR_PORT : Fld :=
  { off := 0x480180, s1 := 0x4, n1 := 24, hi := 18, lo := 12, acc := .ro, rst := 0x0 }
def HERD_PORT_STATUS_NBR_DID : Fld :=
  { off := 0x480180, s1 := 0x4, n1 := 24, hi := 11, lo := 0, acc := .ro, rst := 0x0 }
def HERD_PORT_STATUS : RegDesc :=
  { off := 0x480180, s1 := 0x4, n1 := 24, flds := [HERD_PORT_STATUS_TWO_WAY, HERD_PORT_STATUS_PARENT, HERD_PORT_STATUS_CHILD, HERD_PORT_STATUS_HELD, HERD_PORT_STATUS_NBR_PORT, HERD_PORT_STATUS_NBR_DID] }

/-! HERD_NBR_UID_LO: R276 of 08_herd_fabric.md. -/
def HERD_NBR_UID_LO_VALUE : Fld :=
  { off := 0x480200, s1 := 0x8, n1 := 24, hi := 31, lo := 0, acc := .ro, rst := 0x0 }
def HERD_NBR_UID_LO : RegDesc :=
  { off := 0x480200, s1 := 0x8, n1 := 24, pair := .low, flds := [HERD_NBR_UID_LO_VALUE] }

/-! HERD_NBR_UID_HI: R276 of 08_herd_fabric.md. -/
def HERD_NBR_UID_HI_VALUE : Fld :=
  { off := 0x480204, s1 := 0x8, n1 := 24, hi := 31, lo := 0, acc := .ro, rst := 0x0 }
def HERD_NBR_UID_HI : RegDesc :=
  { off := 0x480204, s1 := 0x8, n1 := 24, pair := .high, flds := [HERD_NBR_UID_HI_VALUE] }

def regsHERD0 : List RegDesc :=
  [HERD_CTRL, HERD_PRIORITY, HERD_DID_REQ, HERD_STATUS,
   HERD_ROOT_UID_LO, HERD_ROOT_UID_HI, HERD_FABRIC, HERD_DIAMETER,
   HERD_H, HERD_EPOCH, HERD_GLOBAL_CMD, HERD_GLOBAL_ARG]
def regsHERD1 : List RegDesc :=
  [HERD_GLOBAL_STATUS, HERD_GLOBAL_TICK_LO, HERD_GLOBAL_TICK_HI, HERD_BCAST_VALUE,
   HERD_GLOBAL_IRQ, HERD_MOVE_CFG, HERD_EVENTS, HERD_PORT_CFG,
   HERD_PORT_STATUS, HERD_NBR_UID_LO, HERD_NBR_UID_HI]
/-- Every setup register of the block HERD. -/
def regsHERD : List RegDesc := regsHERD0 ++ regsHERD1

/-! BRG_CTRL: R413 of 12_bridging.md. -/
def BRG_CTRL_PF_EN : Fld :=
  { off := 0x500000, hi := 31, lo := 31, acc := .rw, rst := 0x1 }
def BRG_CTRL_PF_UNITS : Fld :=
  { off := 0x500000, hi := 20, lo := 16, acc := .rw, rst := 0x10, ok := [(1, 16)] }
def BRG_CTRL_NP_TIMEOUT : Fld :=
  { off := 0x500000, hi := 15, lo := 0, acc := .rw, rst := 0x32, ok := [(1, 65535)] }
def BRG_CTRL : RegDesc :=
  { off := 0x500000, flds := [BRG_CTRL_PF_EN, BRG_CTRL_PF_UNITS, BRG_CTRL_NP_TIMEOUT] }

/-! BRG_PF_STATUS: R413 of 12_bridging.md. -/
def BRG_PF_STATUS_FILLING : Fld :=
  { off := 0x500004, hi := 24, lo := 16, acc := .ro, rst := 0x0 }
def BRG_PF_STATUS_VALID : Fld :=
  { off := 0x500004, hi := 8, lo := 0, acc := .ro, rst := 0x0 }
def BRG_PF_STATUS : RegDesc :=
  { off := 0x500004, flds := [BRG_PF_STATUS_FILLING, BRG_PF_STATUS_VALID] }

/-! BRG_PF_ISSUED: R413 of 12_bridging.md. -/
def BRG_PF_ISSUED_VALUE : Fld :=
  { off := 0x500008, hi := 31, lo := 0, acc := .ro, rst := 0x0 }
def BRG_PF_ISSUED : RegDesc :=
  { off := 0x500008, flds := [BRG_PF_ISSUED_VALUE] }

/-! BRG_PF_HITS: R413 of 12_bridging.md. -/
def BRG_PF_HITS_VALUE : Fld :=
  { off := 0x50000c, hi := 31, lo := 0, acc := .ro, rst := 0x0 }
def BRG_PF_HITS : RegDesc :=
  { off := 0x50000c, flds := [BRG_PF_HITS_VALUE] }

/-! BRG_PF_DISCARDED: R413 of 12_bridging.md. -/
def BRG_PF_DISCARDED_VALUE : Fld :=
  { off := 0x500010, hi := 31, lo := 0, acc := .ro, rst := 0x0 }
def BRG_PF_DISCARDED : RegDesc :=
  { off := 0x500010, flds := [BRG_PF_DISCARDED_VALUE] }

/-! BRG_READ_TIMEOUTS: R413 of 12_bridging.md. -/
def BRG_READ_TIMEOUTS_VALUE : Fld :=
  { off := 0x500014, hi := 31, lo := 0, acc := .ro, rst := 0x0 }
def BRG_READ_TIMEOUTS : RegDesc :=
  { off := 0x500014, flds := [BRG_READ_TIMEOUTS_VALUE] }

/-! BRG_WINDOWS_USED: R413 of 12_bridging.md. -/
def BRG_WINDOWS_USED_COUNT : Fld :=
  { off := 0x500018, hi := 16, lo := 0, acc := .ro, rst := 0x0 }
def BRG_WINDOWS_USED : RegDesc :=
  { off := 0x500018, flds := [BRG_WINDOWS_USED_COUNT] }

/-! BRG_APT_CFG: R413 of 12_bridging.md. -/
def BRG_APT_CFG_APT_EN : Fld :=
  { off := 0x501000, s1 := 0x10, n1 := 96, hi := 31, lo := 31, acc := .rw, rst := 0x0 }
def BRG_APT_CFG_ANY_HD : Fld :=
  { off := 0x501000, s1 := 0x10, n1 := 96, hi := 30, lo := 30, acc := .rw, rst := 0x0 }
def BRG_APT_CFG : RegDesc :=
  { off := 0x501000, s1 := 0x10, n1 := 96, flds := [BRG_APT_CFG_APT_EN, BRG_APT_CFG_ANY_HD] }

/-! BRG_APT_BASE: R413 of 12_bridging.md. -/
def BRG_APT_BASE_BASE : Fld :=
  { off := 0x501004, s1 := 0x10, n1 := 96, hi := 31, lo := 11, acc := .rw, rst := 0x0 }
def BRG_APT_BASE : RegDesc :=
  { off := 0x501004, s1 := 0x10, n1 := 96, flds := [BRG_APT_BASE_BASE] }

def regsBRG0 : List RegDesc :=
  [BRG_CTRL, BRG_PF_STATUS, BRG_PF_ISSUED, BRG_PF_HITS,
   BRG_PF_DISCARDED, BRG_READ_TIMEOUTS, BRG_WINDOWS_USED, BRG_APT_CFG,
   BRG_APT_BASE]
/-- Every setup register of the block BRG. -/
def regsBRG : List RegDesc := regsBRG0

/-! RING_STATUS: R477 of 14_virtual_functions.md. -/
def RING_STATUS_CFG_REJECTED : Fld :=
  { off := 0x580000, hi := 31, lo := 31, acc := .rw1c, rst := 0x0 }
def RING_STATUS : RegDesc :=
  { off := 0x580000, flds := [RING_STATUS_CFG_REJECTED] }

/-! RING_POOL: R477 of 14_virtual_functions.md. -/
def RING_POOL_FREE_VECTORS : Fld :=
  { off := 0x580004, hi := 31, lo := 16, acc := .ro, rst := 0x7e00 }
def RING_POOL_FREE_QPS : Fld :=
  { off := 0x580004, hi := 14, lo := 0, acc := .ro, rst := 0x3fe0 }
def RING_POOL : RegDesc :=
  { off := 0x580004, flds := [RING_POOL_FREE_VECTORS, RING_POOL_FREE_QPS] }

/-! RING_VF_ENABLED: R477 of 14_virtual_functions.md. -/
def RING_VF_ENABLED_COUNT : Fld :=
  { off := 0x580008, hi := 11, lo := 0, acc := .ro, rst := 0x0 }
def RING_VF_ENABLED : RegDesc :=
  { off := 0x580008, flds := [RING_VF_ENABLED_COUNT] }

/-! RING_RESET_CFG: R477 of 14_virtual_functions.md. -/
def RING_RESET_CFG_NP_TIMEOUT : Fld :=
  { off := 0x58000c, hi := 13, lo := 0, acc := .rw, rst := 0x64, ok := [(1, 10000)] }
def RING_RESET_CFG : RegDesc :=
  { off := 0x58000c, flds := [RING_RESET_CFG_NP_TIMEOUT] }

/-! RING_PF_VF: R477 of 14_virtual_functions.md. -/
def RING_PF_VF_VF_LIMIT : Fld :=
  { off := 0x580100, s1 := 0x4, n1 := 32, hi := 27, lo := 16, acc := .rw, rst := 0x0, fuse := true, ok := [(0, 2048)] }
def RING_PF_VF_VF_BASE : Fld :=
  { off := 0x580100, s1 := 0x4, n1 := 32, hi := 10, lo := 0, acc := .rw, rst := 0x0, fuse := true }
def RING_PF_VF : RegDesc :=
  { off := 0x580100, s1 := 0x4, n1 := 32, flds := [RING_PF_VF_VF_LIMIT, RING_PF_VF_VF_BASE] }

/-! RING_PF_VEC: R477 of 14_virtual_functions.md. -/
def RING_PF_VEC_VECTORS : Fld :=
  { off := 0x580180, s1 := 0x4, n1 := 32, hi := 11, lo := 0, acc := .rw, rst := 0x10, ok := [(0, 2048)] }
def RING_PF_VEC : RegDesc :=
  { off := 0x580180, s1 := 0x4, n1 := 32, flds := [RING_PF_VEC_VECTORS] }

/-! VF_STATE: R477 of 14_virtual_functions.md. -/
def VF_STATE_ENABLED : Fld :=
  { off := 0x582000, s1 := 0x4, n1 := 2048, hi := 31, lo := 31, acc := .ro, rst := 0x0 }
def VF_STATE_RESETTING : Fld :=
  { off := 0x582000, s1 := 0x4, n1 := 2048, hi := 30, lo := 30, acc := .ro, rst := 0x0 }
def VF_STATE_LOGGING : Fld :=
  { off := 0x582000, s1 := 0x4, n1 := 2048, hi := 29, lo := 29, acc := .ro, rst := 0x0 }
def VF_STATE_LOG_SEL : Fld :=
  { off := 0x582000, s1 := 0x4, n1 := 2048, hi := 28, lo := 28, acc := .ro, rst := 0x0 }
def VF_STATE_OVERRANGE : Fld :=
  { off := 0x582000, s1 := 0x4, n1 := 2048, hi := 27, lo := 27, acc := .rw1c, rst := 0x0 }
def VF_STATE_LOG_FAIL : Fld :=
  { off := 0x582000, s1 := 0x4, n1 := 2048, hi := 26, lo := 26, acc := .rw1c, rst := 0x0 }
def VF_STATE_QP_COUNT : Fld :=
  { off := 0x582000, s1 := 0x4, n1 := 2048, hi := 9, lo := 0, acc := .ro, rst := 0x0 }
def VF_STATE : RegDesc :=
  { off := 0x582000, s1 := 0x4, n1 := 2048, flds := [VF_STATE_ENABLED, VF_STATE_RESETTING, VF_STATE_LOGGING, VF_STATE_LOG_SEL, VF_STATE_OVERRANGE, VF_STATE_LOG_FAIL, VF_STATE_QP_COUNT] }

def regsRING0 : List RegDesc :=
  [RING_STATUS, RING_POOL, RING_VF_ENABLED, RING_RESET_CFG,
   RING_PF_VF, RING_PF_VEC, VF_STATE]
/-- Every setup register of the block RING. -/
def regsRING : List RegDesc := regsRING0

/-! CH_CTRL: R519 of 15_chamois_complex.md. -/
def CH_CTRL_RUN : Fld :=
  { off := 0x600000, hi := 7, lo := 0, acc := .rw, rst := 0x1 }
def CH_CTRL : RegDesc :=
  { off := 0x600000, flds := [CH_CTRL_RUN] }

/-! CH_STATUS: R519 of 15_chamois_complex.md. -/
def CH_STATUS_CFG_REJECTED : Fld :=
  { off := 0x600004, hi := 31, lo := 31, acc := .rw1c, rst := 0x0 }
def CH_STATUS_STATE : Fld :=
  { off := 0x600004, hi := 15, lo := 0, acc := .ro, rst := 0x1 }
def CH_STATUS : RegDesc :=
  { off := 0x600004, flds := [CH_STATUS_CFG_REJECTED, CH_STATUS_STATE] }

/-! CH_CFG: R519 of 15_chamois_complex.md. -/
def CH_CFG_CORE_TC : Fld :=
  { off := 0x600008, hi := 10, lo := 8, acc := .rw, rst := 0x6 }
def CH_CFG_STORE_ACK_TICKS : Fld :=
  { off := 0x600008, hi := 7, lo := 0, acc := .rw, rst := 0x8, ok := [(1, 255)] }
def CH_CFG : RegDesc :=
  { off := 0x600008, flds := [CH_CFG_CORE_TC, CH_CFG_STORE_ACK_TICKS] }

/-! ADAPT_CFG: R519 of 15_chamois_complex.md. -/
def ADAPT_CFG_REROUTE_PCT : Fld :=
  { off := 0x600010, hi := 31, lo := 24, acc := .rw, rst := 0x19, ok := [(1, 100)] }
def ADAPT_CFG_MOVES_PER_TICK : Fld :=
  { off := 0x600010, hi := 22, lo := 16, acc := .rw, rst := 0x4, ok := [(0, 64)] }
def ADAPT_CFG_DECAY_TICKS : Fld :=
  { off := 0x600010, hi := 15, lo := 0, acc := .rw, rst := 0x40, ok := [(1, 65535)] }
def ADAPT_CFG : RegDesc :=
  { off := 0x600010, flds := [ADAPT_CFG_REROUTE_PCT, ADAPT_CFG_MOVES_PER_TICK, ADAPT_CFG_DECAY_TICKS] }

/-! ADAPT_STATUS: R519 of 15_chamois_complex.md. -/
def ADAPT_STATUS_MOVES : Fld :=
  { off := 0x600014, hi := 31, lo := 24, acc := .ro, rst := 0x0 }
def ADAPT_STATUS_EVALUATED : Fld :=
  { off := 0x600014, hi := 16, lo := 0, acc := .ro, rst := 0x0 }
def ADAPT_STATUS : RegDesc :=
  { off := 0x600014, flds := [ADAPT_STATUS_MOVES, ADAPT_STATUS_EVALUATED] }

/-! TRAP_HEAD: R519 of 15_chamois_complex.md. -/
def TRAP_HEAD_INDEX : Fld :=
  { off := 0x600020, hi := 8, lo := 0, acc := .rw, rst := 0x0 }
def TRAP_HEAD : RegDesc :=
  { off := 0x600020, flds := [TRAP_HEAD_INDEX] }

/-! TRAP_TAIL: R519 of 15_chamois_complex.md. -/
def TRAP_TAIL_INDEX : Fld :=
  { off := 0x600024, hi := 8, lo := 0, acc := .ro, rst := 0x0 }
def TRAP_TAIL : RegDesc :=
  { off := 0x600024, flds := [TRAP_TAIL_INDEX] }

/-! TRAP_DROPS: R519 of 15_chamois_complex.md. -/
def TRAP_DROPS_VALUE : Fld :=
  { off := 0x600028, hi := 31, lo := 0, acc := .ro, rst := 0x0 }
def TRAP_DROPS : RegDesc :=
  { off := 0x600028, flds := [TRAP_DROPS_VALUE] }

/-! FREEZE_RELEASE: R519 of 15_chamois_complex.md. -/
def FREEZE_RELEASE_GO : Fld :=
  { off := 0x600030, hi := 31, lo := 31, acc := .wo, rst := 0x0 }
def FREEZE_RELEASE_KIND : Fld :=
  { off := 0x600030, hi := 25, lo := 24, acc := .wo, rst := 0x0, ok := [(1, 3)] }
def FREEZE_RELEASE_ACTION : Fld :=
  { off := 0x600030, hi := 16, lo := 16, acc := .wo, rst := 0x0 }
def FREEZE_RELEASE_INDEX : Fld :=
  { off := 0x600030, hi := 13, lo := 0, acc := .wo, rst := 0x0 }
def FREEZE_RELEASE : RegDesc :=
  { off := 0x600030, flds := [FREEZE_RELEASE_GO, FREEZE_RELEASE_KIND, FREEZE_RELEASE_ACTION, FREEZE_RELEASE_INDEX] }

/-! FREEZE_RELEASE_STATUS: R519 of 15_chamois_complex.md. -/
def FREEZE_RELEASE_STATUS_RESULT : Fld :=
  { off := 0x600034, hi := 1, lo := 0, acc := .ro, rst := 0x0 }
def FREEZE_RELEASE_STATUS : RegDesc :=
  { off := 0x600034, flds := [FREEZE_RELEASE_STATUS_RESULT] }

/-! MOVER_MPU_HOLD: R519 of 15_chamois_complex.md. -/
def MOVER_MPU_HOLD_ENABLE : Fld :=
  { off := 0x600040, hi := 31, lo := 31, acc := .rw, rst := 0x1 }
def MOVER_MPU_HOLD_ALL : Fld :=
  { off := 0x600040, hi := 15, lo := 15, acc := .rw, rst := 0x0 }
def MOVER_MPU_HOLD_PD : Fld :=
  { off := 0x600040, hi := 11, lo := 0, acc := .rw, rst := 0x0, ok := [(0, 2079)] }
def MOVER_MPU_HOLD : RegDesc :=
  { off := 0x600040, flds := [MOVER_MPU_HOLD_ENABLE, MOVER_MPU_HOLD_ALL, MOVER_MPU_HOLD_PD] }

/-! MOVER_MPU_STATUS: R519 of 15_chamois_complex.md. -/
def MOVER_MPU_STATUS_HOLDING : Fld :=
  { off := 0x600044, hi := 15, lo := 0, acc := .ro, rst := 0x0 }
def MOVER_MPU_STATUS : RegDesc :=
  { off := 0x600044, flds := [MOVER_MPU_STATUS_HOLDING] }

/-! REGION_POOL: R519 of 15_chamois_complex.md. -/
def REGION_POOL_FREE : Fld :=
  { off := 0x600048, hi := 15, lo := 0, acc := .ro, rst := 0x8000 }
def REGION_POOL : RegDesc :=
  { off := 0x600048, flds := [REGION_POOL_FREE] }

/-! APPLET_STATUS: R519 of 15_chamois_complex.md. -/
def APPLET_STATUS_STATE : Fld :=
  { off := 0x600080, s1 := 0x4, n1 := 6, hi := 31, lo := 30, acc := .ro, rst := 0x0 }
def APPLET_STATUS_CORE : Fld :=
  { off := 0x600080, s1 := 0x4, n1 := 6, hi := 26, lo := 24, acc := .ro, rst := 0x0 }
def APPLET_STATUS_OVERRUNS : Fld :=
  { off := 0x600080, s1 := 0x4, n1 := 6, hi := 15, lo := 0, acc := .ro, rst := 0x0 }
def APPLET_STATUS : RegDesc :=
  { off := 0x600080, s1 := 0x4, n1 := 6, flds := [APPLET_STATUS_STATE, APPLET_STATUS_CORE, APPLET_STATUS_OVERRUNS] }

/-! CORE_MPU_CTRL: R519 of 15_chamois_complex.md. -/
def CORE_MPU_CTRL_ENABLE : Fld :=
  { off := 0x601000, s1 := 0x400, n1 := 8, hi := 0, lo := 0, acc := .rw, rst := 0x1 }
def CORE_MPU_CTRL : RegDesc :=
  { off := 0x601000, s1 := 0x400, n1 := 8, flds := [CORE_MPU_CTRL_ENABLE] }

/-! CORE_WDT: R519 of 15_chamois_complex.md. -/
def CORE_WDT_EN : Fld :=
  { off := 0x601004, s1 := 0x400, n1 := 8, hi := 31, lo := 31, acc := .rw, rst := 0x0 }
def CORE_WDT_KICK : Fld :=
  { off := 0x601004, s1 := 0x400, n1 := 8, hi := 30, lo := 30, acc := .wo, rst := 0x0 }
def CORE_WDT_TICKS : Fld :=
  { off := 0x601004, s1 := 0x400, n1 := 8, hi := 15, lo := 0, acc := .rw, rst := 0x400, ok := [(1, 65535)] }
def CORE_WDT : RegDesc :=
  { off := 0x601004, s1 := 0x400, n1 := 8, flds := [CORE_WDT_EN, CORE_WDT_KICK, CORE_WDT_TICKS] }

/-! CORE_FREEZE_INFO: R519 of 15_chamois_complex.md. -/
def CORE_FREEZE_INFO_VALID : Fld :=
  { off := 0x601010, s1 := 0x400, n1 := 8, hi := 31, lo := 31, acc := .ro, rst := 0x0 }
def CORE_FREEZE_INFO_KIND : Fld :=
  { off := 0x601010, s1 := 0x400, n1 := 8, hi := 29, lo := 28, acc := .ro, rst := 0x0 }
def CORE_FREEZE_INFO_MODE : Fld :=
  { off := 0x601010, s1 := 0x400, n1 := 8, hi := 23, lo := 22, acc := .ro, rst := 0x0 }
def CORE_FREEZE_INFO_REGION : Fld :=
  { off := 0x601010, s1 := 0x400, n1 := 8, hi := 4, lo := 0, acc := .ro, rst := 0x1f }
def CORE_FREEZE_INFO : RegDesc :=
  { off := 0x601010, s1 := 0x400, n1 := 8, flds := [CORE_FREEZE_INFO_VALID, CORE_FREEZE_INFO_KIND, CORE_FREEZE_INFO_MODE, CORE_FREEZE_INFO_REGION] }

/-! CORE_FREEZE_ADDR_LO: R519 of 15_chamois_complex.md. -/
def CORE_FREEZE_ADDR_LO_VALUE : Fld :=
  { off := 0x601014, s1 := 0x400, n1 := 8, hi := 31, lo := 0, acc := .ro, rst := 0x0 }
def CORE_FREEZE_ADDR_LO : RegDesc :=
  { off := 0x601014, s1 := 0x400, n1 := 8, pair := .low, flds := [CORE_FREEZE_ADDR_LO_VALUE] }

/-! CORE_FREEZE_ADDR_HI: R519 of 15_chamois_complex.md. -/
def CORE_FREEZE_ADDR_HI_VALUE : Fld :=
  { off := 0x601018, s1 := 0x400, n1 := 8, hi := 31, lo := 0, acc := .ro, rst := 0x0 }
def CORE_FREEZE_ADDR_HI : RegDesc :=
  { off := 0x601018, s1 := 0x400, n1 := 8, pair := .high, flds := [CORE_FREEZE_ADDR_HI_VALUE] }

/-! CORE_FAB_DID: R519 of 15_chamois_complex.md. -/
def CORE_FAB_DID_DID : Fld :=
  { off := 0x601020, s1 := 0x400, n1 := 8, s2 := 0x4, n2 := 8, hi := 11, lo := 0, acc := .rw, rst := 0x0 }
def CORE_FAB_DID : RegDesc :=
  { off := 0x601020, s1 := 0x400, n1 := 8, s2 := 0x4, n2 := 8, flds := [CORE_FAB_DID_DID] }

/-! CORE_MPU_REGION: R519 of 15_chamois_complex.md. -/
def CORE_MPU_REGION_VALUE : Fld :=
  { off := 0x601100, s1 := 0x400, n1 := 8, s2 := 0x4, n2 := 64, hi := 31, lo := 0, acc := .rw, rst := 0x0 }
def CORE_MPU_REGION : RegDesc :=
  { off := 0x601100, s1 := 0x400, n1 := 8, s2 := 0x4, n2 := 64, flds := [CORE_MPU_REGION_VALUE] }

def regsCH0 : List RegDesc :=
  [CH_CTRL, CH_STATUS, CH_CFG, ADAPT_CFG,
   ADAPT_STATUS, TRAP_HEAD, TRAP_TAIL, TRAP_DROPS,
   FREEZE_RELEASE, FREEZE_RELEASE_STATUS, MOVER_MPU_HOLD, MOVER_MPU_STATUS]
def regsCH1 : List RegDesc :=
  [REGION_POOL, APPLET_STATUS, CORE_MPU_CTRL, CORE_WDT,
   CORE_FREEZE_INFO, CORE_FREEZE_ADDR_LO, CORE_FREEZE_ADDR_HI, CORE_FAB_DID,
   CORE_MPU_REGION]
/-- Every setup register of the block CH. -/
def regsCH : List RegDesc := regsCH0 ++ regsCH1

/-! ECC_CTRL: R536 of 16_stored_data_protection.md. -/
def ECC_CTRL_SCRUB_EN : Fld :=
  { off := 0x700000, hi := 31, lo := 31, acc := .rw, rst := 0x1 }
def ECC_CTRL_AUTO_REMAP : Fld :=
  { off := 0x700000, hi := 30, lo := 30, acc := .rw, rst := 0x1 }
def ECC_CTRL_REMAP_THRESHOLD : Fld :=
  { off := 0x700000, hi := 19, lo := 16, acc := .rw, rst := 0x4, ok := [(1, 15)] }
def ECC_CTRL_SCRUB_PERIOD : Fld :=
  { off := 0x700000, hi := 11, lo := 0, acc := .rw, rst := 0x1e, ok := [(1, 3600)] }
def ECC_CTRL : RegDesc :=
  { off := 0x700000, flds := [ECC_CTRL_SCRUB_EN, ECC_CTRL_AUTO_REMAP, ECC_CTRL_REMAP_THRESHOLD, ECC_CTRL_SCRUB_PERIOD] }

/-! ECC_STATUS: R536 of 16_stored_data_protection.md. -/
def ECC_STATUS_TEST_ACTIVE : Fld :=
  { off := 0x700004, hi := 31, lo := 31, acc := .ro, rst := 0x0 }
def ECC_STATUS_SCRUB_PASSES : Fld :=
  { off := 0x700004, hi := 15, lo := 0, acc := .ro, rst := 0x0 }
def ECC_STATUS : RegDesc :=
  { off := 0x700004, flds := [ECC_STATUS_TEST_ACTIVE, ECC_STATUS_SCRUB_PASSES] }

/-! ECC_TEST_CTRL: R536 of 16_stored_data_protection.md. -/
def ECC_TEST_CTRL_EN : Fld :=
  { off := 0x700010, hi := 31, lo := 31, acc := .rw, rst := 0x0 }
def ECC_TEST_CTRL_GROUP : Fld :=
  { off := 0x700010, hi := 19, lo := 16, acc := .rw, rst := 0x0 }
def ECC_TEST_CTRL_CMD : Fld :=
  { off := 0x700010, hi := 1, lo := 0, acc := .wo, rst := 0x0, ok := [(1, 3)] }
def ECC_TEST_CTRL : RegDesc :=
  { off := 0x700010, flds := [ECC_TEST_CTRL_EN, ECC_TEST_CTRL_GROUP, ECC_TEST_CTRL_CMD] }

/-! ECC_TEST_INDEX: R536 of 16_stored_data_protection.md. -/
def ECC_TEST_INDEX_INDEX : Fld :=
  { off := 0x700014, hi := 21, lo := 0, acc := .rw, rst := 0x0 }
def ECC_TEST_INDEX : RegDesc :=
  { off := 0x700014, flds := [ECC_TEST_INDEX_INDEX] }

/-! ECC_TEST_DATA_LO: R536 of 16_stored_data_protection.md. -/
def ECC_TEST_DATA_LO_VALUE : Fld :=
  { off := 0x700018, hi := 31, lo := 0, acc := .rw, rst := 0x0 }
def ECC_TEST_DATA_LO : RegDesc :=
  { off := 0x700018, pair := .low, flds := [ECC_TEST_DATA_LO_VALUE] }

/-! ECC_TEST_DATA_HI: R536 of 16_stored_data_protection.md. -/
def ECC_TEST_DATA_HI_VALUE : Fld :=
  { off := 0x70001c, hi := 31, lo := 0, acc := .rw, rst := 0x0 }
def ECC_TEST_DATA_HI : RegDesc :=
  { off := 0x70001c, pair := .high, flds := [ECC_TEST_DATA_HI_VALUE] }

/-! ECC_TEST_CHECK: R536 of 16_stored_data_protection.md. -/
def ECC_TEST_CHECK_SYNDROME : Fld :=
  { off := 0x700020, hi := 15, lo := 8, acc := .ro, rst := 0x0 }
def ECC_TEST_CHECK_CHECK : Fld :=
  { off := 0x700020, hi := 7, lo := 0, acc := .rw, rst := 0x0 }
def ECC_TEST_CHECK : RegDesc :=
  { off := 0x700020, flds := [ECC_TEST_CHECK_SYNDROME, ECC_TEST_CHECK_CHECK] }

/-! ECC_LOST_PACKETS: R536 of 16_stored_data_protection.md. -/
def ECC_LOST_PACKETS_VALUE : Fld :=
  { off := 0x700024, hi := 31, lo := 0, acc := .ro, rst := 0x0 }
def ECC_LOST_PACKETS : RegDesc :=
  { off := 0x700024, flds := [ECC_LOST_PACKETS_VALUE] }

/-! ECC_GROUP_CORR: R536 of 16_stored_data_protection.md. -/
def ECC_GROUP_CORR_VALUE : Fld :=
  { off := 0x700100, s1 := 0x10, n1 := 16, hi := 31, lo := 0, acc := .ro, rst := 0x0, sticky := true }
def ECC_GROUP_CORR : RegDesc :=
  { off := 0x700100, s1 := 0x10, n1 := 16, flds := [ECC_GROUP_CORR_VALUE] }

/-! ECC_GROUP_UNCORR: R536 of 16_stored_data_protection.md. -/
def ECC_GROUP_UNCORR_VALUE : Fld :=
  { off := 0x700104, s1 := 0x10, n1 := 16, hi := 31, lo := 0, acc := .ro, rst := 0x0, sticky := true }
def ECC_GROUP_UNCORR : RegDesc :=
  { off := 0x700104, s1 := 0x10, n1 := 16, flds := [ECC_GROUP_UNCORR_VALUE] }

/-! ECC_GROUP_LAST: R536 of 16_stored_data_protection.md. -/
def ECC_GROUP_LAST_VALID : Fld :=
  { off := 0x700108, s1 := 0x10, n1 := 16, hi := 31, lo := 31, acc := .rw1c, rst := 0x0, sticky := true }
def ECC_GROUP_LAST_BY_SCRUB : Fld :=
  { off := 0x700108, s1 := 0x10, n1 := 16, hi := 30, lo := 30, acc := .ro, rst := 0x0, sticky := true }
def ECC_GROUP_LAST_INDEX : Fld :=
  { off := 0x700108, s1 := 0x10, n1 := 16, hi := 21, lo := 0, acc := .ro, rst := 0x0, sticky := true }
def ECC_GROUP_LAST : RegDesc :=
  { off := 0x700108, s1 := 0x10, n1 := 16, flds := [ECC_GROUP_LAST_VALID, ECC_GROUP_LAST_BY_SCRUB, ECC_GROUP_LAST_INDEX] }

/-! ECC_GROUP_REMAP: R536 of 16_stored_data_protection.md. -/
def ECC_GROUP_REMAP_FUSE_USED : Fld :=
  { off := 0x70010c, s1 := 0x10, n1 := 16, hi := 7, lo := 4, acc := .ro, rst := 0x0, fuse := true }
def ECC_GROUP_REMAP_RUN_USED : Fld :=
  { off := 0x70010c, s1 := 0x10, n1 := 16, hi := 3, lo := 0, acc := .ro, rst := 0x0, sticky := true }
def ECC_GROUP_REMAP : RegDesc :=
  { off := 0x70010c, s1 := 0x10, n1 := 16, flds := [ECC_GROUP_REMAP_FUSE_USED, ECC_GROUP_REMAP_RUN_USED] }

def regsECC0 : List RegDesc :=
  [ECC_CTRL, ECC_STATUS, ECC_TEST_CTRL, ECC_TEST_INDEX,
   ECC_TEST_DATA_LO, ECC_TEST_DATA_HI, ECC_TEST_CHECK, ECC_LOST_PACKETS,
   ECC_GROUP_CORR, ECC_GROUP_UNCORR, ECC_GROUP_LAST, ECC_GROUP_REMAP]
/-- Every setup register of the block ECC. -/
def regsECC : List RegDesc := regsECC0

end Sys2Proof.Machine
end

