-- ==== Sys2Proof/Machine/RegsTraffic.lean ====
section
/-! DEFINITION. The setup registers of the traffic blocks: OCTET, PORT, FORWARD, BUFFER, SCHED and GATE.
Offsets, fields, access codes and reset values are those of the register tables of the spec's chapters
(the chapter and rule stand at each register); a reset value "fuse" is 0 here until the fuse load writes the field (R7). -/

namespace Sys2Proof.Machine

/-! OCT_MODE: R305 of 09_octets_and_lanes.md. -/
def OCT_MODE_PORT_EN : Fld :=
  { off := 0x100000, s1 := 0x8000, n1 := 24, hi := 11, lo := 8, acc := .rw, rst := 0x0, fuse := true }
def OCT_MODE_FABRIC : Fld :=
  { off := 0x100000, s1 := 0x8000, n1 := 24, hi := 4, lo := 4, acc := .rw, rst := 0x0, fuse := true }
def OCT_MODE_MODE : Fld :=
  { off := 0x100000, s1 := 0x8000, n1 := 24, hi := 2, lo := 0, acc := .rw, rst := 0x0, fuse := true, ok := [(0, 4)] }
def OCT_MODE : RegDesc :=
  { off := 0x100000, s1 := 0x8000, n1 := 24, flds := [OCT_MODE_PORT_EN, OCT_MODE_FABRIC, OCT_MODE_MODE] }

/-! OCT_STATUS: R305 of 09_octets_and_lanes.md. -/
def OCT_STATUS_MODE_REJECTED : Fld :=
  { off := 0x100004, s1 := 0x8000, n1 := 24, hi := 31, lo := 31, acc := .rw1c, rst := 0x0 }
def OCT_STATUS_PAIRED : Fld :=
  { off := 0x100004, s1 := 0x8000, n1 := 24, hi := 30, lo := 30, acc := .ro, rst := 0x0 }
def OCT_STATUS_HIB_REFUSED : Fld :=
  { off := 0x100004, s1 := 0x8000, n1 := 24, hi := 29, lo := 29, acc := .rw1c, rst := 0x0 }
def OCT_STATUS_LANE_LOCK : Fld :=
  { off := 0x100004, s1 := 0x8000, n1 := 24, hi := 15, lo := 8, acc := .ro, rst := 0x0 }
def OCT_STATUS_LANE_ACTIVE : Fld :=
  { off := 0x100004, s1 := 0x8000, n1 := 24, hi := 7, lo := 0, acc := .ro, rst := 0x0 }
def OCT_STATUS : RegDesc :=
  { off := 0x100004, s1 := 0x8000, n1 := 24, flds := [OCT_STATUS_MODE_REJECTED, OCT_STATUS_PAIRED, OCT_STATUS_HIB_REFUSED, OCT_STATUS_LANE_LOCK, OCT_STATUS_LANE_ACTIVE] }

/-! OCT_FAB_CFG: R305 of 09_octets_and_lanes.md. -/
def OCT_FAB_CFG_EQ_ERR_LIMIT : Fld :=
  { off := 0x100008, s1 := 0x8000, n1 := 24, hi := 31, lo := 24, acc := .rw, rst := 0x4 }
def OCT_FAB_CFG_MAX_RATE : Fld :=
  { off := 0x100008, s1 := 0x8000, n1 := 24, hi := 19, lo := 16, acc := .rw, rst := 0x0, fuse := true, ok := [(2, 2), (4, 6)] }
def OCT_FAB_CFG_EQ_MAX_ITER : Fld :=
  { off := 0x100008, s1 := 0x8000, n1 := 24, hi := 12, lo := 8, acc := .rw, rst := 0x10, ok := [(1, 16)] }
def OCT_FAB_CFG : RegDesc :=
  { off := 0x100008, s1 := 0x8000, n1 := 24, flds := [OCT_FAB_CFG_EQ_ERR_LIMIT, OCT_FAB_CFG_MAX_RATE, OCT_FAB_CFG_EQ_MAX_ITER] }

/-! OCT_FAB_STATUS: R305 of 09_octets_and_lanes.md. -/
def OCT_FAB_STATUS_TRAIN_STATE : Fld :=
  { off := 0x10000c, s1 := 0x8000, n1 := 24, hi := 31, lo := 28, acc := .ro, rst := 0x0 }
def OCT_FAB_STATUS_RATE : Fld :=
  { off := 0x10000c, s1 := 0x8000, n1 := 24, hi := 27, lo := 24, acc := .ro, rst := 0x2 }
def OCT_FAB_STATUS_WIDTH : Fld :=
  { off := 0x10000c, s1 := 0x8000, n1 := 24, hi := 23, lo := 21, acc := .ro, rst := 0x0 }
def OCT_FAB_STATUS_REVERSED : Fld :=
  { off := 0x10000c, s1 := 0x8000, n1 := 24, hi := 20, lo := 20, acc := .ro, rst := 0x0 }
def OCT_FAB_STATUS_PARTNER_MAX : Fld :=
  { off := 0x10000c, s1 := 0x8000, n1 := 24, hi := 19, lo := 16, acc := .ro, rst := 0x0 }
def OCT_FAB_STATUS_LANES_USED : Fld :=
  { off := 0x10000c, s1 := 0x8000, n1 := 24, hi := 15, lo := 0, acc := .ro, rst := 0x0 }
def OCT_FAB_STATUS : RegDesc :=
  { off := 0x10000c, s1 := 0x8000, n1 := 24, flds := [OCT_FAB_STATUS_TRAIN_STATE, OCT_FAB_STATUS_RATE, OCT_FAB_STATUS_WIDTH, OCT_FAB_STATUS_REVERSED, OCT_FAB_STATUS_PARTNER_MAX, OCT_FAB_STATUS_LANES_USED] }

/-! OCT_POWER: R305 of 09_octets_and_lanes.md. -/
def OCT_POWER_HIBERNATE_REQ : Fld :=
  { off := 0x100010, s1 := 0x8000, n1 := 24, hi := 31, lo := 31, acc := .rw, rst := 0x0 }
def OCT_POWER_DOZE_EN : Fld :=
  { off := 0x100010, s1 := 0x8000, n1 := 24, hi := 30, lo := 30, acc := .rw, rst := 0x1 }
def OCT_POWER_DOZE_IDLE_NS : Fld :=
  { off := 0x100010, s1 := 0x8000, n1 := 24, hi := 15, lo := 0, acc := .rw, rst := 0x3e8, ok := [(100, 65535)] }
def OCT_POWER : RegDesc :=
  { off := 0x100010, s1 := 0x8000, n1 := 24, flds := [OCT_POWER_HIBERNATE_REQ, OCT_POWER_DOZE_EN, OCT_POWER_DOZE_IDLE_NS] }

/-! OCT_TEST: R305 of 09_octets_and_lanes.md. -/
def OCT_TEST_EN : Fld :=
  { off := 0x100014, s1 := 0x8000, n1 := 24, hi := 31, lo := 31, acc := .rw, rst := 0x0 }
def OCT_TEST_RATE : Fld :=
  { off := 0x100014, s1 := 0x8000, n1 := 24, hi := 3, lo := 0, acc := .rw, rst := 0x2 }
def OCT_TEST : RegDesc :=
  { off := 0x100014, s1 := 0x8000, n1 := 24, flds := [OCT_TEST_EN, OCT_TEST_RATE] }

/-! LANE_CTRL: R305 of 09_octets_and_lanes.md. -/
def LANE_CTRL_DISABLE : Fld :=
  { off := 0x100100, s1 := 0x8000, n1 := 24, s2 := 0x40, n2 := 8, hi := 31, lo := 31, acc := .rw, rst := 0x0 }
def LANE_CTRL_TX_INVERT : Fld :=
  { off := 0x100100, s1 := 0x8000, n1 := 24, s2 := 0x40, n2 := 8, hi := 30, lo := 30, acc := .rw, rst := 0x0 }
def LANE_CTRL_RX_POLARITY : Fld :=
  { off := 0x100100, s1 := 0x8000, n1 := 24, s2 := 0x40, n2 := 8, hi := 29, lo := 28, acc := .rw, rst := 0x0, ok := [(0, 2)] }
def LANE_CTRL : RegDesc :=
  { off := 0x100100, s1 := 0x8000, n1 := 24, s2 := 0x40, n2 := 8, flds := [LANE_CTRL_DISABLE, LANE_CTRL_TX_INVERT, LANE_CTRL_RX_POLARITY] }

/-! LANE_STATUS: R305 of 09_octets_and_lanes.md. -/
def LANE_STATUS_LOCKED : Fld :=
  { off := 0x100104, s1 := 0x8000, n1 := 24, s2 := 0x40, n2 := 8, hi := 31, lo := 31, acc := .ro, rst := 0x0 }
def LANE_STATUS_RX_INVERTED : Fld :=
  { off := 0x100104, s1 := 0x8000, n1 := 24, s2 := 0x40, n2 := 8, hi := 30, lo := 30, acc := .ro, rst := 0x0 }
def LANE_STATUS_LOGICAL : Fld :=
  { off := 0x100104, s1 := 0x8000, n1 := 24, s2 := 0x40, n2 := 8, hi := 29, lo := 26, acc := .ro, rst := 0x0 }
def LANE_STATUS_RATE : Fld :=
  { off := 0x100104, s1 := 0x8000, n1 := 24, s2 := 0x40, n2 := 8, hi := 25, lo := 22, acc := .ro, rst := 0x2 }
def LANE_STATUS_EYE_MV : Fld :=
  { off := 0x100104, s1 := 0x8000, n1 := 24, s2 := 0x40, n2 := 8, hi := 15, lo := 8, acc := .ro, rst := 0x0 }
def LANE_STATUS_TX_PRESET : Fld :=
  { off := 0x100104, s1 := 0x8000, n1 := 24, s2 := 0x40, n2 := 8, hi := 7, lo := 4, acc := .ro, rst := 0x4 }
def LANE_STATUS_FAIL_RATE : Fld :=
  { off := 0x100104, s1 := 0x8000, n1 := 24, s2 := 0x40, n2 := 8, hi := 3, lo := 0, acc := .ro, rst := 0xf }
def LANE_STATUS : RegDesc :=
  { off := 0x100104, s1 := 0x8000, n1 := 24, s2 := 0x40, n2 := 8, flds := [LANE_STATUS_LOCKED, LANE_STATUS_RX_INVERTED, LANE_STATUS_LOGICAL, LANE_STATUS_RATE, LANE_STATUS_EYE_MV, LANE_STATUS_TX_PRESET, LANE_STATUS_FAIL_RATE] }

/-! LANE_PRBS_CTRL: R305 of 09_octets_and_lanes.md. -/
def LANE_PRBS_CTRL_GEN_EN : Fld :=
  { off := 0x100108, s1 := 0x8000, n1 := 24, s2 := 0x40, n2 := 8, hi := 31, lo := 31, acc := .rw, rst := 0x0 }
def LANE_PRBS_CTRL_CHK_EN : Fld :=
  { off := 0x100108, s1 := 0x8000, n1 := 24, s2 := 0x40, n2 := 8, hi := 30, lo := 30, acc := .rw, rst := 0x0 }
def LANE_PRBS_CTRL_INJECT : Fld :=
  { off := 0x100108, s1 := 0x8000, n1 := 24, s2 := 0x40, n2 := 8, hi := 29, lo := 29, acc := .wo, rst := 0x0 }
def LANE_PRBS_CTRL_CLEAR : Fld :=
  { off := 0x100108, s1 := 0x8000, n1 := 24, s2 := 0x40, n2 := 8, hi := 28, lo := 28, acc := .wo, rst := 0x0 }
def LANE_PRBS_CTRL_LOOPBACK : Fld :=
  { off := 0x100108, s1 := 0x8000, n1 := 24, s2 := 0x40, n2 := 8, hi := 27, lo := 26, acc := .rw, rst := 0x0, ok := [(0, 2)] }
def LANE_PRBS_CTRL_PATTERN : Fld :=
  { off := 0x100108, s1 := 0x8000, n1 := 24, s2 := 0x40, n2 := 8, hi := 2, lo := 0, acc := .rw, rst := 0x3, ok := [(0, 5)] }
def LANE_PRBS_CTRL : RegDesc :=
  { off := 0x100108, s1 := 0x8000, n1 := 24, s2 := 0x40, n2 := 8, flds := [LANE_PRBS_CTRL_GEN_EN, LANE_PRBS_CTRL_CHK_EN, LANE_PRBS_CTRL_INJECT, LANE_PRBS_CTRL_CLEAR, LANE_PRBS_CTRL_LOOPBACK, LANE_PRBS_CTRL_PATTERN] }

/-! LANE_PRBS_ERR: R305 of 09_octets_and_lanes.md. -/
def LANE_PRBS_ERR_CHK_LOCK : Fld :=
  { off := 0x10010c, s1 := 0x8000, n1 := 24, s2 := 0x40, n2 := 8, hi := 31, lo := 31, acc := .ro, rst := 0x0 }
def LANE_PRBS_ERR_ERRORS : Fld :=
  { off := 0x10010c, s1 := 0x8000, n1 := 24, s2 := 0x40, n2 := 8, hi := 30, lo := 0, acc := .ro, rst := 0x0 }
def LANE_PRBS_ERR : RegDesc :=
  { off := 0x10010c, s1 := 0x8000, n1 := 24, s2 := 0x40, n2 := 8, flds := [LANE_PRBS_ERR_CHK_LOCK, LANE_PRBS_ERR_ERRORS] }

/-! LANE_PRBS_BITS_LO: R305 of 09_octets_and_lanes.md. -/
def LANE_PRBS_BITS_LO_VALUE : Fld :=
  { off := 0x100110, s1 := 0x8000, n1 := 24, s2 := 0x40, n2 := 8, hi := 31, lo := 0, acc := .ro, rst := 0x0 }
def LANE_PRBS_BITS_LO : RegDesc :=
  { off := 0x100110, s1 := 0x8000, n1 := 24, s2 := 0x40, n2 := 8, pair := .low, flds := [LANE_PRBS_BITS_LO_VALUE] }

/-! LANE_PRBS_BITS_HI: R305 of 09_octets_and_lanes.md. -/
def LANE_PRBS_BITS_HI_VALUE : Fld :=
  { off := 0x100114, s1 := 0x8000, n1 := 24, s2 := 0x40, n2 := 8, hi := 15, lo := 0, acc := .ro, rst := 0x0 }
def LANE_PRBS_BITS_HI : RegDesc :=
  { off := 0x100114, s1 := 0x8000, n1 := 24, s2 := 0x40, n2 := 8, pair := .high, flds := [LANE_PRBS_BITS_HI_VALUE] }

/-! CK_STATUS: R305 of 09_octets_and_lanes.md. -/
def CK_STATUS_TX_ACTIVE : Fld :=
  { off := 0x100300, s1 := 0x8000, n1 := 24, hi := 31, lo := 31, acc := .ro, rst := 0x0 }
def CK_STATUS_RX_LOCK : Fld :=
  { off := 0x100300, s1 := 0x8000, n1 := 24, hi := 30, lo := 30, acc := .ro, rst := 0x0 }
def CK_STATUS_RX_INVERTED : Fld :=
  { off := 0x100300, s1 := 0x8000, n1 := 24, hi := 29, lo := 29, acc := .ro, rst := 0x0 }
def CK_STATUS_FREQ_ERR : Fld :=
  { off := 0x100300, s1 := 0x8000, n1 := 24, hi := 7, lo := 0, acc := .ro, rst := 0x0 }
def CK_STATUS : RegDesc :=
  { off := 0x100300, s1 := 0x8000, n1 := 24, flds := [CK_STATUS_TX_ACTIVE, CK_STATUS_RX_LOCK, CK_STATUS_RX_INVERTED, CK_STATUS_FREQ_ERR] }

/-! LINK_CTRL: R340 of 10_gazelle_link.md. -/
def LINK_CTRL_FORCE_DOWN : Fld :=
  { off := 0x104000, s1 := 0x8000, n1 := 24, hi := 31, lo := 31, acc := .wo, rst := 0x0 }
def LINK_CTRL_CHANGE_REQ : Fld :=
  { off := 0x104000, s1 := 0x8000, n1 := 24, hi := 30, lo := 30, acc := .wo, rst := 0x0 }
def LINK_CTRL_CHANGE_KIND : Fld :=
  { off := 0x104000, s1 := 0x8000, n1 := 24, hi := 29, lo := 28, acc := .rw, rst := 0x1, ok := [(1, 3)] }
def LINK_CTRL_TARGET_RATE : Fld :=
  { off := 0x104000, s1 := 0x8000, n1 := 24, hi := 27, lo := 24, acc := .rw, rst := 0x6, ok := [(2, 2), (4, 6)] }
def LINK_CTRL_TARGET_WIDTH : Fld :=
  { off := 0x104000, s1 := 0x8000, n1 := 24, hi := 23, lo := 21, acc := .rw, rst := 0x3, ok := [(1, 4)] }
def LINK_CTRL : RegDesc :=
  { off := 0x104000, s1 := 0x8000, n1 := 24, flds := [LINK_CTRL_FORCE_DOWN, LINK_CTRL_CHANGE_REQ, LINK_CTRL_CHANGE_KIND, LINK_CTRL_TARGET_RATE, LINK_CTRL_TARGET_WIDTH] }

/-! LINK_STATUS: R340 of 10_gazelle_link.md. -/
def LINK_STATUS_UP : Fld :=
  { off := 0x104004, s1 := 0x8000, n1 := 24, hi := 31, lo := 31, acc := .ro, rst := 0x0 }
def LINK_STATUS_CHANGING : Fld :=
  { off := 0x104004, s1 := 0x8000, n1 := 24, hi := 30, lo := 30, acc := .ro, rst := 0x0 }
def LINK_STATUS_CFG_REJECTED : Fld :=
  { off := 0x104004, s1 := 0x8000, n1 := 24, hi := 29, lo := 29, acc := .rw1c, rst := 0x0 }
def LINK_STATUS_CHANGE_RESULT : Fld :=
  { off := 0x104004, s1 := 0x8000, n1 := 24, hi := 28, lo := 26, acc := .ro, rst := 0x0 }
def LINK_STATUS_DOWN_REASON : Fld :=
  { off := 0x104004, s1 := 0x8000, n1 := 24, hi := 23, lo := 20, acc := .ro, rst := 0x0 }
def LINK_STATUS_DOWN_COUNT : Fld :=
  { off := 0x104004, s1 := 0x8000, n1 := 24, hi := 15, lo := 0, acc := .ro, rst := 0x0 }
def LINK_STATUS : RegDesc :=
  { off := 0x104004, s1 := 0x8000, n1 := 24, flds := [LINK_STATUS_UP, LINK_STATUS_CHANGING, LINK_STATUS_CFG_REJECTED, LINK_STATUS_CHANGE_RESULT, LINK_STATUS_DOWN_REASON, LINK_STATUS_DOWN_COUNT] }

/-! LINK_ERR_CFG: R340 of 10_gazelle_link.md. -/
def LINK_ERR_CFG_LOG2_WINDOW : Fld :=
  { off := 0x104008, s1 := 0x8000, n1 := 24, hi := 28, lo := 24, acc := .rw, rst := 0x14, ok := [(16, 24)] }
def LINK_ERR_CFG_THRESHOLD : Fld :=
  { off := 0x104008, s1 := 0x8000, n1 := 24, hi := 9, lo := 0, acc := .rw, rst := 0x20, ok := [(1, 1023)] }
def LINK_ERR_CFG : RegDesc :=
  { off := 0x104008, s1 := 0x8000, n1 := 24, flds := [LINK_ERR_CFG_LOG2_WINDOW, LINK_ERR_CFG_THRESHOLD] }

/-! LINK_ERR_NOW: R340 of 10_gazelle_link.md. -/
def LINK_ERR_NOW_COUNT : Fld :=
  { off := 0x10400c, s1 := 0x8000, n1 := 24, hi := 9, lo := 0, acc := .ro, rst := 0x0 }
def LINK_ERR_NOW : RegDesc :=
  { off := 0x10400c, s1 := 0x8000, n1 := 24, flds := [LINK_ERR_NOW_COUNT] }

/-! LINK_REPLAY_CFG: R340 of 10_gazelle_link.md. -/
def LINK_REPLAY_CFG_DRAIN_TIMEOUT : Fld :=
  { off := 0x104010, s1 := 0x8000, n1 := 24, hi := 31, lo := 16, acc := .rw, rst := 0xc8, ok := [(1, 65535)] }
def LINK_REPLAY_CFG_NAK_RETRY_NS : Fld :=
  { off := 0x104010, s1 := 0x8000, n1 := 24, hi := 15, lo := 0, acc := .rw, rst := 0x3e8, ok := [(100, 65535)] }
def LINK_REPLAY_CFG : RegDesc :=
  { off := 0x104010, s1 := 0x8000, n1 := 24, flds := [LINK_REPLAY_CFG_DRAIN_TIMEOUT, LINK_REPLAY_CFG_NAK_RETRY_NS] }

/-! LINK_SEQ_TX_NEXT: R340 of 10_gazelle_link.md. -/
def LINK_SEQ_TX_NEXT_VALUE : Fld :=
  { off := 0x104020, s1 := 0x8000, n1 := 24, hi := 31, lo := 0, acc := .ro, rst := 0x0 }
def LINK_SEQ_TX_NEXT : RegDesc :=
  { off := 0x104020, s1 := 0x8000, n1 := 24, flds := [LINK_SEQ_TX_NEXT_VALUE] }

/-! LINK_SEQ_TX_ACKED: R340 of 10_gazelle_link.md. -/
def LINK_SEQ_TX_ACKED_VALUE : Fld :=
  { off := 0x104024, s1 := 0x8000, n1 := 24, hi := 31, lo := 0, acc := .ro, rst := 0x0 }
def LINK_SEQ_TX_ACKED : RegDesc :=
  { off := 0x104024, s1 := 0x8000, n1 := 24, flds := [LINK_SEQ_TX_ACKED_VALUE] }

/-! LINK_SEQ_RX_EXPECT: R340 of 10_gazelle_link.md. -/
def LINK_SEQ_RX_EXPECT_VALUE : Fld :=
  { off := 0x104028, s1 := 0x8000, n1 := 24, hi := 31, lo := 0, acc := .ro, rst := 0x0 }
def LINK_SEQ_RX_EXPECT : RegDesc :=
  { off := 0x104028, s1 := 0x8000, n1 := 24, flds := [LINK_SEQ_RX_EXPECT_VALUE] }

/-! LINK_SEQ_RX_DELIVER: R340 of 10_gazelle_link.md. -/
def LINK_SEQ_RX_DELIVER_VALUE : Fld :=
  { off := 0x10402c, s1 := 0x8000, n1 := 24, hi := 31, lo := 0, acc := .ro, rst := 0x0 }
def LINK_SEQ_RX_DELIVER : RegDesc :=
  { off := 0x10402c, s1 := 0x8000, n1 := 24, flds := [LINK_SEQ_RX_DELIVER_VALUE] }

/-! LINK_RX_ALLOC: R340 of 10_gazelle_link.md. -/
def LINK_RX_ALLOC_ALLOC : Fld :=
  { off := 0x104040, s1 := 0x8000, n1 := 24, s2 := 0x4, n2 := 8, hi := 9, lo := 0, acc := .rw, rst := 0x7f, ok := [(1, 1016)] }
def LINK_RX_ALLOC : RegDesc :=
  { off := 0x104040, s1 := 0x8000, n1 := 24, s2 := 0x4, n2 := 8, flds := [LINK_RX_ALLOC_ALLOC] }

/-! LINK_TX_CREDIT: R340 of 10_gazelle_link.md. -/
def LINK_TX_CREDIT_PARTNER_ALLOC : Fld :=
  { off := 0x104060, s1 := 0x8000, n1 := 24, s2 := 0x4, n2 := 9, hi := 27, lo := 16, acc := .ro, rst := 0x0 }
def LINK_TX_CREDIT_AVAILABLE : Fld :=
  { off := 0x104060, s1 := 0x8000, n1 := 24, s2 := 0x4, n2 := 9, hi := 11, lo := 0, acc := .ro, rst := 0x0 }
def LINK_TX_CREDIT : RegDesc :=
  { off := 0x104060, s1 := 0x8000, n1 := 24, s2 := 0x4, n2 := 9, flds := [LINK_TX_CREDIT_PARTNER_ALLOC, LINK_TX_CREDIT_AVAILABLE] }

/-! LINK_CNT_LO: R340 of 10_gazelle_link.md. -/
def LINK_CNT_LO_COUNT : Fld :=
  { off := 0x104100, s1 := 0x8000, n1 := 24, s2 := 0x8, n2 := 8, hi := 31, lo := 0, acc := .ro, rst := 0x0 }
def LINK_CNT_LO : RegDesc :=
  { off := 0x104100, s1 := 0x8000, n1 := 24, s2 := 0x8, n2 := 8, pair := .low, flds := [LINK_CNT_LO_COUNT] }

/-! LINK_CNT_HI: R340 of 10_gazelle_link.md. -/
def LINK_CNT_HI_OVF : Fld :=
  { off := 0x104104, s1 := 0x8000, n1 := 24, s2 := 0x8, n2 := 8, hi := 31, lo := 31, acc := .rw1c, rst := 0x0 }
def LINK_CNT_HI_COUNT : Fld :=
  { off := 0x104104, s1 := 0x8000, n1 := 24, s2 := 0x8, n2 := 8, hi := 15, lo := 0, acc := .ro, rst := 0x0 }
def LINK_CNT_HI : RegDesc :=
  { off := 0x104104, s1 := 0x8000, n1 := 24, s2 := 0x8, n2 := 8, pair := .high, flds := [LINK_CNT_HI_OVF, LINK_CNT_HI_COUNT] }

/-! LINK_FEC_LANE: R340 of 10_gazelle_link.md. -/
def LINK_FEC_LANE_VALUE : Fld :=
  { off := 0x104200, s1 := 0x8000, n1 := 24, s2 := 0x4, n2 := 16, hi := 31, lo := 0, acc := .ro, rst := 0x0 }
def LINK_FEC_LANE : RegDesc :=
  { off := 0x104200, s1 := 0x8000, n1 := 24, s2 := 0x4, n2 := 16, flds := [LINK_FEC_LANE_VALUE] }

def regsOCT0 : List RegDesc :=
  [OCT_MODE, OCT_STATUS, OCT_FAB_CFG, OCT_FAB_STATUS,
   OCT_POWER, OCT_TEST, LANE_CTRL, LANE_STATUS,
   LANE_PRBS_CTRL, LANE_PRBS_ERR, LANE_PRBS_BITS_LO, LANE_PRBS_BITS_HI]
def regsOCT1 : List RegDesc :=
  [CK_STATUS, LINK_CTRL, LINK_STATUS, LINK_ERR_CFG,
   LINK_ERR_NOW, LINK_REPLAY_CFG, LINK_SEQ_TX_NEXT, LINK_SEQ_TX_ACKED,
   LINK_SEQ_RX_EXPECT, LINK_SEQ_RX_DELIVER, LINK_RX_ALLOC, LINK_TX_CREDIT]
def regsOCT2 : List RegDesc :=
  [LINK_CNT_LO, LINK_CNT_HI, LINK_FEC_LANE]
/-- Every setup register of the block OCT. -/
def regsOCT : List RegDesc := regsOCT0 ++ regsOCT1 ++ regsOCT2

/-! PORT_CFG: R372 of 11_pcie_ports_and_slots.md. -/
def PORT_CFG_HD : Fld :=
  { off := 0x200000, s1 := 0x1000, n1 := 96, hi := 25, lo := 16, acc := .rw, rst := 0x0, fuse := true }
def PORT_CFG_MAX_RATE : Fld :=
  { off := 0x200000, s1 := 0x1000, n1 := 96, hi := 11, lo := 8, acc := .rw, rst := 0x0, fuse := true, ok := [(0, 6)] }
def PORT_CFG_CLK_MODE : Fld :=
  { off := 0x200000, s1 := 0x1000, n1 := 96, hi := 5, lo := 4, acc := .rw, rst := 0x0, fuse := true, ok := [(0, 2)] }
def PORT_CFG_ROLE : Fld :=
  { off := 0x200000, s1 := 0x1000, n1 := 96, hi := 1, lo := 0, acc := .rw, rst := 0x0, fuse := true, ok := [(0, 1)] }
def PORT_CFG : RegDesc :=
  { off := 0x200000, s1 := 0x1000, n1 := 96, flds := [PORT_CFG_HD, PORT_CFG_MAX_RATE, PORT_CFG_CLK_MODE, PORT_CFG_ROLE] }

/-! PORT_STATUS: R372 of 11_pcie_ports_and_slots.md. -/
def PORT_STATUS_LINK_UP : Fld :=
  { off := 0x200004, s1 := 0x1000, n1 := 96, hi := 31, lo := 31, acc := .ro, rst := 0x0 }
def PORT_STATUS_FLIT : Fld :=
  { off := 0x200004, s1 := 0x1000, n1 := 96, hi := 30, lo := 30, acc := .ro, rst := 0x0 }
def PORT_STATUS_CFG_REJECTED : Fld :=
  { off := 0x200004, s1 := 0x1000, n1 := 96, hi := 29, lo := 29, acc := .rw1c, rst := 0x0 }
def PORT_STATUS_DPC_ACTIVE : Fld :=
  { off := 0x200004, s1 := 0x1000, n1 := 96, hi := 28, lo := 28, acc := .ro, rst := 0x0 }
def PORT_STATUS_SPEED : Fld :=
  { off := 0x200004, s1 := 0x1000, n1 := 96, hi := 27, lo := 24, acc := .ro, rst := 0x0 }
def PORT_STATUS_WIDTH : Fld :=
  { off := 0x200004, s1 := 0x1000, n1 := 96, hi := 23, lo := 19, acc := .ro, rst := 0x0 }
def PORT_STATUS_LTSSM : Fld :=
  { off := 0x200004, s1 := 0x1000, n1 := 96, hi := 5, lo := 0, acc := .ro, rst := 0x0 }
def PORT_STATUS : RegDesc :=
  { off := 0x200004, s1 := 0x1000, n1 := 96, flds := [PORT_STATUS_LINK_UP, PORT_STATUS_FLIT, PORT_STATUS_CFG_REJECTED, PORT_STATUS_DPC_ACTIVE, PORT_STATUS_SPEED, PORT_STATUS_WIDTH, PORT_STATUS_LTSSM] }

/-! PORT_HIER_CTRL: R372 of 11_pcie_ports_and_slots.md. -/
def PORT_HIER_CTRL_HIER_READY : Fld :=
  { off := 0x200008, s1 := 0x1000, n1 := 96, hi := 0, lo := 0, acc := .rw1s, rst := 0x0 }
def PORT_HIER_CTRL : RegDesc :=
  { off := 0x200008, s1 := 0x1000, n1 := 96, flds := [PORT_HIER_CTRL_HIER_READY] }

/-! PORT_SLOT_CFG: R372 of 11_pcie_ports_and_slots.md. -/
def PORT_SLOT_CFG_SLOT_EN : Fld :=
  { off := 0x200010, s1 := 0x1000, n1 := 96, hi := 31, lo := 31, acc := .rw, rst := 0x0 }
def PORT_SLOT_CFG_AUTO_POWER : Fld :=
  { off := 0x200010, s1 := 0x1000, n1 := 96, hi := 30, lo := 30, acc := .rw, rst := 0x0 }
def PORT_SLOT_CFG_SURPRISE : Fld :=
  { off := 0x200010, s1 := 0x1000, n1 := 96, hi := 29, lo := 29, acc := .rw, rst := 0x1 }
def PORT_SLOT_CFG_IBEX_CH : Fld :=
  { off := 0x200010, s1 := 0x1000, n1 := 96, hi := 28, lo := 24, acc := .rw, rst := 0x0, ok := [(0, 23)] }
def PORT_SLOT_CFG_PHYS_SLOT : Fld :=
  { off := 0x200010, s1 := 0x1000, n1 := 96, hi := 23, lo := 11, acc := .rw, rst := 0x0 }
def PORT_SLOT_CFG_SPL_SCALE : Fld :=
  { off := 0x200010, s1 := 0x1000, n1 := 96, hi := 9, lo := 8, acc := .rw, rst := 0x0 }
def PORT_SLOT_CFG_SPL_VALUE : Fld :=
  { off := 0x200010, s1 := 0x1000, n1 := 96, hi := 7, lo := 0, acc := .rw, rst := 0x0 }
def PORT_SLOT_CFG : RegDesc :=
  { off := 0x200010, s1 := 0x1000, n1 := 96, flds := [PORT_SLOT_CFG_SLOT_EN, PORT_SLOT_CFG_AUTO_POWER, PORT_SLOT_CFG_SURPRISE, PORT_SLOT_CFG_IBEX_CH, PORT_SLOT_CFG_PHYS_SLOT, PORT_SLOT_CFG_SPL_SCALE, PORT_SLOT_CFG_SPL_VALUE] }

/-! PORT_SLOT_STATUS: R372 of 11_pcie_ports_and_slots.md. -/
def PORT_SLOT_STATUS_PRESENT : Fld :=
  { off := 0x200014, s1 := 0x1000, n1 := 96, hi := 31, lo := 31, acc := .ro, rst := 0x0 }
def PORT_SLOT_STATUS_POWER_ON : Fld :=
  { off := 0x200014, s1 := 0x1000, n1 := 96, hi := 30, lo := 30, acc := .ro, rst := 0x0 }
def PORT_SLOT_STATUS_POWER_FAULT : Fld :=
  { off := 0x200014, s1 := 0x1000, n1 := 96, hi := 29, lo := 29, acc := .ro, rst := 0x0 }
def PORT_SLOT_STATUS_BUTTON : Fld :=
  { off := 0x200014, s1 := 0x1000, n1 := 96, hi := 28, lo := 28, acc := .ro, rst := 0x0 }
def PORT_SLOT_STATUS_ATTN_IND : Fld :=
  { off := 0x200014, s1 := 0x1000, n1 := 96, hi := 27, lo := 26, acc := .ro, rst := 0x3 }
def PORT_SLOT_STATUS_PWR_IND : Fld :=
  { off := 0x200014, s1 := 0x1000, n1 := 96, hi := 25, lo := 24, acc := .ro, rst := 0x3 }
def PORT_SLOT_STATUS_PERST : Fld :=
  { off := 0x200014, s1 := 0x1000, n1 := 96, hi := 23, lo := 23, acc := .ro, rst := 0x1 }
def PORT_SLOT_STATUS : RegDesc :=
  { off := 0x200014, s1 := 0x1000, n1 := 96, flds := [PORT_SLOT_STATUS_PRESENT, PORT_SLOT_STATUS_POWER_ON, PORT_SLOT_STATUS_POWER_FAULT, PORT_SLOT_STATUS_BUTTON, PORT_SLOT_STATUS_ATTN_IND, PORT_SLOT_STATUS_PWR_IND, PORT_SLOT_STATUS_PERST] }

/-! PORT_SLOT_CTRL: R372 of 11_pcie_ports_and_slots.md. -/
def PORT_SLOT_CTRL_PERST_FORCE : Fld :=
  { off := 0x200018, s1 := 0x1000, n1 := 96, hi := 31, lo := 31, acc := .rw, rst := 0x0 }
def PORT_SLOT_CTRL : RegDesc :=
  { off := 0x200018, s1 := 0x1000, n1 := 96, flds := [PORT_SLOT_CTRL_PERST_FORCE] }

/-! PORT_DPC: R372 of 11_pcie_ports_and_slots.md. -/
def PORT_DPC_RELEASE : Fld :=
  { off := 0x200020, s1 := 0x1000, n1 := 96, hi := 31, lo := 31, acc := .wo, rst := 0x0 }
def PORT_DPC_TRIGGER : Fld :=
  { off := 0x200020, s1 := 0x1000, n1 := 96, hi := 30, lo := 30, acc := .wo, rst := 0x0 }
def PORT_DPC_REASON_EXT : Fld :=
  { off := 0x200020, s1 := 0x1000, n1 := 96, hi := 19, lo := 18, acc := .ro, rst := 0x0 }
def PORT_DPC_REASON : Fld :=
  { off := 0x200020, s1 := 0x1000, n1 := 96, hi := 17, lo := 16, acc := .ro, rst := 0x0 }
def PORT_DPC : RegDesc :=
  { off := 0x200020, s1 := 0x1000, n1 := 96, flds := [PORT_DPC_RELEASE, PORT_DPC_TRIGGER, PORT_DPC_REASON_EXT, PORT_DPC_REASON] }

/-! PORT_ACS_CAP: R372 of 11_pcie_ports_and_slots.md. -/
def PORT_ACS_CAP_ACS_CAP : Fld :=
  { off := 0x200024, s1 := 0x1000, n1 := 96, hi := 6, lo := 0, acc := .rw, rst := 0x5f }
def PORT_ACS_CAP : RegDesc :=
  { off := 0x200024, s1 := 0x1000, n1 := 96, flds := [PORT_ACS_CAP_ACS_CAP] }

def regsPORT0 : List RegDesc :=
  [PORT_CFG, PORT_STATUS, PORT_HIER_CTRL, PORT_SLOT_CFG,
   PORT_SLOT_STATUS, PORT_SLOT_CTRL, PORT_DPC, PORT_ACS_CAP]
/-- Every setup register of the block PORT. -/
def regsPORT : List RegDesc := regsPORT0

/-! FWD_CTRL: R107 of 03_forwarding_pipeline.md. -/
def FWD_CTRL_CAPTURE_ARM : Fld :=
  { off := 0x280000, hi := 1, lo := 1, acc := .rw1s, rst := 0x0 }
def FWD_CTRL_FLOW_EN : Fld :=
  { off := 0x280000, hi := 0, lo := 0, acc := .rw, rst := 0x1 }
def FWD_CTRL : RegDesc :=
  { off := 0x280000, flds := [FWD_CTRL_CAPTURE_ARM, FWD_CTRL_FLOW_EN] }

/-! FWD_HASH_SEED_A: R107 of 03_forwarding_pipeline.md. -/
def FWD_HASH_SEED_A_VALUE : Fld :=
  { off := 0x280004, hi := 31, lo := 0, acc := .rw, rst := 0x0, fuse := true }
def FWD_HASH_SEED_A : RegDesc :=
  { off := 0x280004, flds := [FWD_HASH_SEED_A_VALUE] }

/-! FWD_HASH_SEED_B: R107 of 03_forwarding_pipeline.md. -/
def FWD_HASH_SEED_B_VALUE : Fld :=
  { off := 0x280008, hi := 31, lo := 0, acc := .rw, rst := 0x0, fuse := true }
def FWD_HASH_SEED_B : RegDesc :=
  { off := 0x280008, flds := [FWD_HASH_SEED_B_VALUE] }

/-! FWD_MP_SEED: R107 of 03_forwarding_pipeline.md. -/
def FWD_MP_SEED_VALUE : Fld :=
  { off := 0x28000c, hi := 31, lo := 0, acc := .rw, rst := 0x0, fuse := true }
def FWD_MP_SEED : RegDesc :=
  { off := 0x28000c, flds := [FWD_MP_SEED_VALUE] }

/-! FLOW_GROUP_EN: R107 of 03_forwarding_pipeline.md. -/
def FLOW_GROUP_EN_GROUP_EN : Fld :=
  { off := 0x280010, hi := 3, lo := 0, acc := .rw, rst := 0xf }
def FLOW_GROUP_EN : RegDesc :=
  { off := 0x280010, flds := [FLOW_GROUP_EN_GROUP_EN] }

/-! FLOW_COUNT: R107 of 03_forwarding_pipeline.md. -/
def FLOW_COUNT_COUNT : Fld :=
  { off := 0x280014, hi := 21, lo := 0, acc := .ro, rst := 0x0 }
def FLOW_COUNT : RegDesc :=
  { off := 0x280014, flds := [FLOW_COUNT_COUNT] }

/-! LAST_DROP_0: R107 of 03_forwarding_pipeline.md. -/
def LAST_DROP_0_VALID : Fld :=
  { off := 0x280020, hi := 31, lo := 31, acc := .rw1c, rst := 0x0 }
def LAST_DROP_0_REASON : Fld :=
  { off := 0x280020, hi := 19, lo := 16, acc := .ro, rst := 0x0 }
def LAST_DROP_0_EGRESS_PORT : Fld :=
  { off := 0x280020, hi := 15, lo := 8, acc := .ro, rst := 0xff }
def LAST_DROP_0_INGRESS_PORT : Fld :=
  { off := 0x280020, hi := 7, lo := 0, acc := .ro, rst := 0x0 }
def LAST_DROP_0 : RegDesc :=
  { off := 0x280020, flds := [LAST_DROP_0_VALID, LAST_DROP_0_REASON, LAST_DROP_0_EGRESS_PORT, LAST_DROP_0_INGRESS_PORT] }

/-! LAST_DROP_1: R107 of 03_forwarding_pipeline.md. -/
def LAST_DROP_1_SRC_DID : Fld :=
  { off := 0x280024, hi := 11, lo := 0, acc := .ro, rst := 0x0 }
def LAST_DROP_1 : RegDesc :=
  { off := 0x280024, flds := [LAST_DROP_1_SRC_DID] }

/-! LAST_DROP_2: R107 of 03_forwarding_pipeline.md. -/
def LAST_DROP_2_STREAM_ID : Fld :=
  { off := 0x280028, hi := 31, lo := 0, acc := .ro, rst := 0x0 }
def LAST_DROP_2 : RegDesc :=
  { off := 0x280028, flds := [LAST_DROP_2_STREAM_ID] }

/-! SESS_CTRL: R107 of 03_forwarding_pipeline.md. -/
def SESS_CTRL_EN : Fld :=
  { off := 0x280800, s1 := 0x20, n1 := 8, hi := 31, lo := 31, acc := .rw, rst := 0x0 }
def SESS_CTRL_SL : Fld :=
  { off := 0x280800, s1 := 0x20, n1 := 8, hi := 30, lo := 28, acc := .rw, rst := 0x0 }
def SESS_CTRL_SLOT_SIZE : Fld :=
  { off := 0x280800, s1 := 0x20, n1 := 8, hi := 27, lo := 26, acc := .rw, rst := 0x0 }
def SESS_CTRL_SAMPLE_N : Fld :=
  { off := 0x280800, s1 := 0x20, n1 := 8, hi := 25, lo := 10, acc := .rw, rst := 0x0 }
def SESS_CTRL : RegDesc :=
  { off := 0x280800, s1 := 0x20, n1 := 8, flds := [SESS_CTRL_EN, SESS_CTRL_SL, SESS_CTRL_SLOT_SIZE, SESS_CTRL_SAMPLE_N] }

/-! SESS_DEST_LO: R107 of 03_forwarding_pipeline.md. -/
def SESS_DEST_LO_VALUE : Fld :=
  { off := 0x280804, s1 := 0x20, n1 := 8, hi := 31, lo := 0, acc := .rw, rst := 0x0 }
def SESS_DEST_LO : RegDesc :=
  { off := 0x280804, s1 := 0x20, n1 := 8, pair := .low, flds := [SESS_DEST_LO_VALUE] }

/-! SESS_DEST_HI: R107 of 03_forwarding_pipeline.md. -/
def SESS_DEST_HI_VALUE : Fld :=
  { off := 0x280808, s1 := 0x20, n1 := 8, hi := 31, lo := 0, acc := .rw, rst := 0x0 }
def SESS_DEST_HI : RegDesc :=
  { off := 0x280808, s1 := 0x20, n1 := 8, pair := .high, flds := [SESS_DEST_HI_VALUE] }

/-! SESS_SLOTS: R107 of 03_forwarding_pipeline.md. -/
def SESS_SLOTS_SLOTS : Fld :=
  { off := 0x28080c, s1 := 0x20, n1 := 8, hi := 16, lo := 0, acc := .rw, rst := 0x1, ok := [(1, 65536)] }
def SESS_SLOTS : RegDesc :=
  { off := 0x28080c, s1 := 0x20, n1 := 8, flds := [SESS_SLOTS_SLOTS] }

/-! SESS_SEQ: R107 of 03_forwarding_pipeline.md. -/
def SESS_SEQ_VALUE : Fld :=
  { off := 0x280810, s1 := 0x20, n1 := 8, hi := 31, lo := 0, acc := .ro, rst := 0x0 }
def SESS_SEQ : RegDesc :=
  { off := 0x280810, s1 := 0x20, n1 := 8, flds := [SESS_SEQ_VALUE] }

/-! SESS_DROPS: R107 of 03_forwarding_pipeline.md. -/
def SESS_DROPS_VALUE : Fld :=
  { off := 0x280814, s1 := 0x20, n1 := 8, hi := 31, lo := 0, acc := .ro, rst := 0x0 }
def SESS_DROPS : RegDesc :=
  { off := 0x280814, s1 := 0x20, n1 := 8, flds := [SESS_DROPS_VALUE] }

/-! PORT_FWD_CFG: R107 of 03_forwarding_pipeline.md. -/
def PORT_FWD_CFG_MISS_ACTION : Fld :=
  { off := 0x281000, s1 := 0x10, n1 := 96, hi := 31, lo := 30, acc := .rw, rst := 0x0, ok := [(0, 2)] }
def PORT_FWD_CFG_TRUST_YELLOW : Fld :=
  { off := 0x281000, s1 := 0x10, n1 := 96, hi := 29, lo := 29, acc := .rw, rst := 0x0 }
def PORT_FWD_CFG_ING_MIRROR_EN : Fld :=
  { off := 0x281000, s1 := 0x10, n1 := 96, hi := 28, lo := 28, acc := .rw, rst := 0x0 }
def PORT_FWD_CFG_ING_SESSION : Fld :=
  { off := 0x281000, s1 := 0x10, n1 := 96, hi := 27, lo := 25, acc := .rw, rst := 0x0 }
def PORT_FWD_CFG_EGR_MIRROR_EN : Fld :=
  { off := 0x281000, s1 := 0x10, n1 := 96, hi := 24, lo := 24, acc := .rw, rst := 0x0 }
def PORT_FWD_CFG_EGR_SESSION : Fld :=
  { off := 0x281000, s1 := 0x10, n1 := 96, hi := 23, lo := 21, acc := .rw, rst := 0x0 }
def PORT_FWD_CFG_DEF_SUBSCRIBER : Fld :=
  { off := 0x281000, s1 := 0x10, n1 := 96, hi := 12, lo := 0, acc := .rw, rst := 0x0 }
def PORT_FWD_CFG : RegDesc :=
  { off := 0x281000, s1 := 0x10, n1 := 96, flds := [PORT_FWD_CFG_MISS_ACTION, PORT_FWD_CFG_TRUST_YELLOW, PORT_FWD_CFG_ING_MIRROR_EN, PORT_FWD_CFG_ING_SESSION, PORT_FWD_CFG_EGR_MIRROR_EN, PORT_FWD_CFG_EGR_SESSION, PORT_FWD_CFG_DEF_SUBSCRIBER] }

/-! TC_SL_MAP: R107 of 03_forwarding_pipeline.md. -/
def TC_SL_MAP_MAP : Fld :=
  { off := 0x281004, s1 := 0x10, n1 := 96, hi := 23, lo := 0, acc := .rw, rst := 0xfac688 }
def TC_SL_MAP : RegDesc :=
  { off := 0x281004, s1 := 0x10, n1 := 96, flds := [TC_SL_MAP_MAP] }

/-! DEF_METER: R107 of 03_forwarding_pipeline.md. -/
def DEF_METER_EN : Fld :=
  { off := 0x281008, s1 := 0x10, n1 := 96, hi := 31, lo := 31, acc := .rw, rst := 0x0 }
def DEF_METER_METER : Fld :=
  { off := 0x281008, s1 := 0x10, n1 := 96, hi := 17, lo := 0, acc := .rw, rst := 0x0 }
def DEF_METER : RegDesc :=
  { off := 0x281008, s1 := 0x10, n1 := 96, flds := [DEF_METER_EN, DEF_METER_METER] }

def regsFWD0 : List RegDesc :=
  [FWD_CTRL, FWD_HASH_SEED_A, FWD_HASH_SEED_B, FWD_MP_SEED,
   FLOW_GROUP_EN, FLOW_COUNT, LAST_DROP_0, LAST_DROP_1,
   LAST_DROP_2, SESS_CTRL, SESS_DEST_LO, SESS_DEST_HI]
def regsFWD1 : List RegDesc :=
  [SESS_SLOTS, SESS_SEQ, SESS_DROPS, PORT_FWD_CFG,
   TC_SL_MAP, DEF_METER]
/-- Every setup register of the block FWD. -/
def regsFWD : List RegDesc := regsFWD0 ++ regsFWD1

/-! BUF_HEADROOM: R138 of 04_buffers_and_overflow.md. -/
def BUF_HEADROOM_CELLS : Fld :=
  { off := 0x300000, hi := 17, lo := 0, acc := .rw, rst := 0x3180 }
def BUF_HEADROOM : RegDesc :=
  { off := 0x300000, flds := [BUF_HEADROOM_CELLS] }

/-! BUF_SHARED_CFG: R138 of 04_buffers_and_overflow.md. -/
def BUF_SHARED_CFG_YELLOW_PCT : Fld :=
  { off := 0x300004, hi := 14, lo := 8, acc := .rw, rst := 0x50, ok := [(1, 100)] }
def BUF_SHARED_CFG_RED_PCT : Fld :=
  { off := 0x300004, hi := 6, lo := 0, acc := .rw, rst := 0x32, ok := [(1, 100)] }
def BUF_SHARED_CFG : RegDesc :=
  { off := 0x300004, flds := [BUF_SHARED_CFG_YELLOW_PCT, BUF_SHARED_CFG_RED_PCT] }

/-! BUF_MIN_TOTAL: R138 of 04_buffers_and_overflow.md. -/
def BUF_MIN_TOTAL_CELLS : Fld :=
  { off := 0x300008, hi := 17, lo := 0, acc := .ro, rst := 0x0 }
def BUF_MIN_TOTAL : RegDesc :=
  { off := 0x300008, flds := [BUF_MIN_TOTAL_CELLS] }

/-! BUF_STATUS: R138 of 04_buffers_and_overflow.md. -/
def BUF_STATUS_CFG_REJECTED : Fld :=
  { off := 0x30000c, hi := 31, lo := 31, acc := .rw1c, rst := 0x0 }
def BUF_STATUS_FREE_CELLS : Fld :=
  { off := 0x30000c, hi := 18, lo := 0, acc := .ro, rst := 0x40000 }
def BUF_STATUS : RegDesc :=
  { off := 0x30000c, flds := [BUF_STATUS_CFG_REJECTED, BUF_STATUS_FREE_CELLS] }

/-! BUF_LOW_WATER: R138 of 04_buffers_and_overflow.md. -/
def BUF_LOW_WATER_CELLS : Fld :=
  { off := 0x300010, hi := 18, lo := 0, acc := .rw, rst := 0x40000 }
def BUF_LOW_WATER : RegDesc :=
  { off := 0x300010, flds := [BUF_LOW_WATER_CELLS] }

/-! OVF_CTRL: R138 of 04_buffers_and_overflow.md. -/
def OVF_CTRL_ENABLE : Fld :=
  { off := 0x300100, hi := 31, lo := 31, acc := .rw, rst := 0x0 }
def OVF_CTRL_STAGE_CELLS : Fld :=
  { off := 0x300100, hi := 15, lo := 0, acc := .rw, rst := 0x1000, ok := [(33, 65535)] }
def OVF_CTRL : RegDesc :=
  { off := 0x300100, flds := [OVF_CTRL_ENABLE, OVF_CTRL_STAGE_CELLS] }

/-! OVF_STATUS: R138 of 04_buffers_and_overflow.md. -/
def OVF_STATUS_FREE_BLOCKS : Fld :=
  { off := 0x300104, hi := 24, lo := 0, acc := .ro, rst := 0x0 }
def OVF_STATUS : RegDesc :=
  { off := 0x300104, flds := [OVF_STATUS_FREE_BLOCKS] }

/-! OVF_BLOCKS_TOTAL: R138 of 04_buffers_and_overflow.md. -/
def OVF_BLOCKS_TOTAL_TOTAL : Fld :=
  { off := 0x300108, hi := 24, lo := 0, acc := .ro, rst := 0x0 }
def OVF_BLOCKS_TOTAL : RegDesc :=
  { off := 0x300108, flds := [OVF_BLOCKS_TOTAL_TOTAL] }

/-! OVF_LOST: R138 of 04_buffers_and_overflow.md. -/
def OVF_LOST_VALUE : Fld :=
  { off := 0x30010c, hi := 31, lo := 0, acc := .ro, rst := 0x0 }
def OVF_LOST : RegDesc :=
  { off := 0x30010c, flds := [OVF_LOST_VALUE] }

/-! DRAM_CFG: R138 of 04_buffers_and_overflow.md. -/
def DRAM_CFG_CH_EN : Fld :=
  { off := 0x300200, hi := 15, lo := 8, acc := .rw, rst := 0x0, fuse := true }
def DRAM_CFG_RATE : Fld :=
  { off := 0x300200, hi := 7, lo := 6, acc := .rw, rst := 0x0, fuse := true, ok := [(0, 2)] }
def DRAM_CFG_RANKS : Fld :=
  { off := 0x300200, hi := 5, lo := 5, acc := .rw, rst := 0x0, fuse := true }
def DRAM_CFG_CH_SIZE : Fld :=
  { off := 0x300200, hi := 4, lo := 3, acc := .rw, rst := 0x0, fuse := true, ok := [(0, 2)] }
def DRAM_CFG_DENSITY : Fld :=
  { off := 0x300200, hi := 2, lo := 0, acc := .rw, rst := 0x0, fuse := true, ok := [(0, 3)] }
def DRAM_CFG : RegDesc :=
  { off := 0x300200, flds := [DRAM_CFG_CH_EN, DRAM_CFG_RATE, DRAM_CFG_RANKS, DRAM_CFG_CH_SIZE, DRAM_CFG_DENSITY] }

/-! DRAM_CTRL: R138 of 04_buffers_and_overflow.md. -/
def DRAM_CTRL_INIT : Fld :=
  { off := 0x300204, hi := 31, lo := 31, acc := .wo, rst := 0x0 }
def DRAM_CTRL_SR_IDLE_TICKS : Fld :=
  { off := 0x300204, hi := 15, lo := 0, acc := .rw, rst := 0x0 }
def DRAM_CTRL : RegDesc :=
  { off := 0x300204, flds := [DRAM_CTRL_INIT, DRAM_CTRL_SR_IDLE_TICKS] }

/-! DRAM_STATUS: R138 of 04_buffers_and_overflow.md. -/
def DRAM_STATUS_READY : Fld :=
  { off := 0x300208, hi := 31, lo := 31, acc := .ro, rst := 0x0 }
def DRAM_STATUS_TRAIN_FAIL : Fld :=
  { off := 0x300208, hi := 23, lo := 16, acc := .ro, rst := 0x0 }
def DRAM_STATUS_SELF_REFRESH : Fld :=
  { off := 0x300208, hi := 15, lo := 8, acc := .ro, rst := 0x0 }
def DRAM_STATUS_HOT : Fld :=
  { off := 0x300208, hi := 7, lo := 0, acc := .ro, rst := 0x0 }
def DRAM_STATUS : RegDesc :=
  { off := 0x300208, flds := [DRAM_STATUS_READY, DRAM_STATUS_TRAIN_FAIL, DRAM_STATUS_SELF_REFRESH, DRAM_STATUS_HOT] }

/-! DRAM_CH_ERR: R138 of 04_buffers_and_overflow.md. -/
def DRAM_CH_ERR_CORRECTED : Fld :=
  { off := 0x300220, s1 := 0x4, n1 := 8, hi := 31, lo := 16, acc := .ro, rst := 0x0 }
def DRAM_CH_ERR_UNCORRECTED : Fld :=
  { off := 0x300220, s1 := 0x4, n1 := 8, hi := 15, lo := 8, acc := .ro, rst := 0x0 }
def DRAM_CH_ERR_LINK : Fld :=
  { off := 0x300220, s1 := 0x4, n1 := 8, hi := 7, lo := 0, acc := .ro, rst := 0x0 }
def DRAM_CH_ERR : RegDesc :=
  { off := 0x300220, s1 := 0x4, n1 := 8, flds := [DRAM_CH_ERR_CORRECTED, DRAM_CH_ERR_UNCORRECTED, DRAM_CH_ERR_LINK] }

def regsBUF0 : List RegDesc :=
  [BUF_HEADROOM, BUF_SHARED_CFG, BUF_MIN_TOTAL, BUF_STATUS,
   BUF_LOW_WATER, OVF_CTRL, OVF_STATUS, OVF_BLOCKS_TOTAL,
   OVF_LOST, DRAM_CFG, DRAM_CTRL, DRAM_STATUS]
def regsBUF1 : List RegDesc :=
  [DRAM_CH_ERR]
/-- Every setup register of the block BUF. -/
def regsBUF : List RegDesc := regsBUF0 ++ regsBUF1

/-! SCHED_CTRL: R170 of 05_policing_and_shaping.md. -/
def SCHED_CTRL_ADAPT_EN : Fld :=
  { off := 0x380000, hi := 0, lo := 0, acc := .rw, rst := 0x0 }
def SCHED_CTRL : RegDesc :=
  { off := 0x380000, flds := [SCHED_CTRL_ADAPT_EN] }

/-! SCHED_STATUS: R170 of 05_policing_and_shaping.md. -/
def SCHED_STATUS_CFG_REJECTED : Fld :=
  { off := 0x380004, hi := 31, lo := 31, acc := .rw1c, rst := 0x0 }
def SCHED_STATUS_QUEUES_MAPPED : Fld :=
  { off := 0x380004, hi := 16, lo := 0, acc := .ro, rst := 0x0 }
def SCHED_STATUS : RegDesc :=
  { off := 0x380004, flds := [SCHED_STATUS_CFG_REJECTED, SCHED_STATUS_QUEUES_MAPPED] }

/-! SCHED_PORT_CFG: R170 of 05_policing_and_shaping.md. -/
def SCHED_PORT_CFG_EN : Fld :=
  { off := 0x381000, s1 := 0x10, n1 := 96, hi := 31, lo := 31, acc := .rw, rst := 0x0 }
def SCHED_PORT_CFG_SL_CLASS : Fld :=
  { off := 0x381000, s1 := 0x10, n1 := 96, hi := 15, lo := 0, acc := .rw, rst := 0xffff }
def SCHED_PORT_CFG : RegDesc :=
  { off := 0x381000, s1 := 0x10, n1 := 96, flds := [SCHED_PORT_CFG_EN, SCHED_PORT_CFG_SL_CLASS] }

def regsSCHED0 : List RegDesc :=
  [SCHED_CTRL, SCHED_STATUS, SCHED_PORT_CFG]
/-- Every setup register of the block SCHED. -/
def regsSCHED : List RegDesc := regsSCHED0

/-! GATE_LAUNCH_STATUS: R209 of 06_marionette_time_gates.md. -/
def GATE_LAUNCH_STATUS_USED : Fld :=
  { off := 0x400000, hi := 12, lo := 0, acc := .ro, rst := 0x0 }
def GATE_LAUNCH_STATUS : RegDesc :=
  { off := 0x400000, flds := [GATE_LAUNCH_STATUS_USED] }

/-! GATE_LAUNCHED: R209 of 06_marionette_time_gates.md. -/
def GATE_LAUNCHED_VALUE : Fld :=
  { off := 0x400004, hi := 31, lo := 0, acc := .ro, rst := 0x0 }
def GATE_LAUNCHED : RegDesc :=
  { off := 0x400004, flds := [GATE_LAUNCHED_VALUE] }

/-! GATE_LATE: R209 of 06_marionette_time_gates.md. -/
def GATE_LATE_VALUE : Fld :=
  { off := 0x400008, hi := 31, lo := 0, acc := .ro, rst := 0x0 }
def GATE_LATE : RegDesc :=
  { off := 0x400008, flds := [GATE_LATE_VALUE] }

/-! GATE_REFUSED: R209 of 06_marionette_time_gates.md. -/
def GATE_REFUSED_VALUE : Fld :=
  { off := 0x40000c, hi := 31, lo := 0, acc := .ro, rst := 0x0 }
def GATE_REFUSED : RegDesc :=
  { off := 0x40000c, flds := [GATE_REFUSED_VALUE] }

/-! GATE_PORT_CFG: R209 of 06_marionette_time_gates.md. -/
def GATE_PORT_CFG_GUARD_PAD_NS : Fld :=
  { off := 0x401000, s1 := 0x20, n1 := 96, hi := 9, lo := 0, acc := .rw, rst := 0x8 }
def GATE_PORT_CFG : RegDesc :=
  { off := 0x401000, s1 := 0x20, n1 := 96, flds := [GATE_PORT_CFG_GUARD_PAD_NS] }

/-! GATE_PORT_STATUS: R209 of 06_marionette_time_gates.md. -/
def GATE_PORT_STATUS_CUR_ENTRY : Fld :=
  { off := 0x401004, s1 := 0x20, n1 := 96, hi := 25, lo := 16, acc := .ro, rst := 0x0 }
def GATE_PORT_STATUS_OPEN_NOW : Fld :=
  { off := 0x401004, s1 := 0x20, n1 := 96, hi := 15, lo := 8, acc := .ro, rst := 0xff }
def GATE_PORT_STATUS_OPER_LIST : Fld :=
  { off := 0x401004, s1 := 0x20, n1 := 96, hi := 4, lo := 4, acc := .ro, rst := 0x0 }
def GATE_PORT_STATUS_ARMED : Fld :=
  { off := 0x401004, s1 := 0x20, n1 := 96, hi := 3, lo := 3, acc := .ro, rst := 0x0 }
def GATE_PORT_STATUS_PENDING : Fld :=
  { off := 0x401004, s1 := 0x20, n1 := 96, hi := 2, lo := 2, acc := .ro, rst := 0x0 }
def GATE_PORT_STATUS_STATE : Fld :=
  { off := 0x401004, s1 := 0x20, n1 := 96, hi := 1, lo := 0, acc := .ro, rst := 0x0 }
def GATE_PORT_STATUS : RegDesc :=
  { off := 0x401004, s1 := 0x20, n1 := 96, flds := [GATE_PORT_STATUS_CUR_ENTRY, GATE_PORT_STATUS_OPEN_NOW, GATE_PORT_STATUS_OPER_LIST, GATE_PORT_STATUS_ARMED, GATE_PORT_STATUS_PENDING, GATE_PORT_STATUS_STATE] }

/-! GATE_PORT_LEN: R209 of 06_marionette_time_gates.md. -/
def GATE_PORT_LEN_ADMIN_LEN : Fld :=
  { off := 0x401008, s1 := 0x20, n1 := 96, hi := 26, lo := 16, acc := .ro, rst := 0x0 }
def GATE_PORT_LEN_OPER_LEN : Fld :=
  { off := 0x401008, s1 := 0x20, n1 := 96, hi := 10, lo := 0, acc := .ro, rst := 0x0 }
def GATE_PORT_LEN : RegDesc :=
  { off := 0x401008, s1 := 0x20, n1 := 96, flds := [GATE_PORT_LEN_ADMIN_LEN, GATE_PORT_LEN_OPER_LEN] }

/-! GATE_OPER_CYCLE: R209 of 06_marionette_time_gates.md. -/
def GATE_OPER_CYCLE_VALUE : Fld :=
  { off := 0x40100c, s1 := 0x20, n1 := 96, hi := 31, lo := 0, acc := .ro, rst := 0x0 }
def GATE_OPER_CYCLE : RegDesc :=
  { off := 0x40100c, s1 := 0x20, n1 := 96, flds := [GATE_OPER_CYCLE_VALUE] }

/-! GATE_ADMIN_CYCLE: R209 of 06_marionette_time_gates.md. -/
def GATE_ADMIN_CYCLE_VALUE : Fld :=
  { off := 0x401010, s1 := 0x20, n1 := 96, hi := 31, lo := 0, acc := .ro, rst := 0x0 }
def GATE_ADMIN_CYCLE : RegDesc :=
  { off := 0x401010, s1 := 0x20, n1 := 96, flds := [GATE_ADMIN_CYCLE_VALUE] }

/-! GATE_SWAP_TIME_LO: R209 of 06_marionette_time_gates.md. -/
def GATE_SWAP_TIME_LO_VALUE : Fld :=
  { off := 0x401014, s1 := 0x20, n1 := 96, hi := 31, lo := 0, acc := .ro, rst := 0x0 }
def GATE_SWAP_TIME_LO : RegDesc :=
  { off := 0x401014, s1 := 0x20, n1 := 96, pair := .low, flds := [GATE_SWAP_TIME_LO_VALUE] }

/-! GATE_SWAP_TIME_HI: R209 of 06_marionette_time_gates.md. -/
def GATE_SWAP_TIME_HI_VALUE : Fld :=
  { off := 0x401018, s1 := 0x20, n1 := 96, hi := 31, lo := 0, acc := .ro, rst := 0x0 }
def GATE_SWAP_TIME_HI : RegDesc :=
  { off := 0x401018, s1 := 0x20, n1 := 96, pair := .high, flds := [GATE_SWAP_TIME_HI_VALUE] }

/-! GATE_OVERRUNS: R209 of 06_marionette_time_gates.md. -/
def GATE_OVERRUNS_VALUE : Fld :=
  { off := 0x40101c, s1 := 0x20, n1 := 96, hi := 31, lo := 0, acc := .ro, rst := 0x0 }
def GATE_OVERRUNS : RegDesc :=
  { off := 0x40101c, s1 := 0x20, n1 := 96, flds := [GATE_OVERRUNS_VALUE] }

def regsGATE0 : List RegDesc :=
  [GATE_LAUNCH_STATUS, GATE_LAUNCHED, GATE_LATE, GATE_REFUSED,
   GATE_PORT_CFG, GATE_PORT_STATUS, GATE_PORT_LEN, GATE_OPER_CYCLE,
   GATE_ADMIN_CYCLE, GATE_SWAP_TIME_LO, GATE_SWAP_TIME_HI, GATE_OVERRUNS]
/-- Every setup register of the block GATE. -/
def regsGATE : List RegDesc := regsGATE0

end Sys2Proof.Machine
end

