-- ==== Sys2Proof/Machine/Mem.lean ====
section
/-! DEFINITION. The byte memories of the Chamois cores, at the addresses at which every core can reach them (R483):
a list of cells in one canonical form. An unlisted byte reads 0 (log entry 14). -/

namespace Sys2Proof.Machine

/-- A memory: cells with strictly rising addresses, none of them 0. -/
abbrev Memory := List Host.Cell

/-- What an unlisted address reads as. -/
def Memory.blank : BitVec 8 := 0

/-- The byte at an address. -/
def Memory.read (m : Memory) (a : Nat) : BitVec 8 :=
  match m with
  | [] => Memory.blank
  | (k, v) :: r => if k = a then v else Memory.read r a

/-- The memory without any cell at an address. -/
def Memory.drop (m : Memory) (a : Nat) : Memory :=
  match m with
  | [] => []
  | (k, v) :: r => if k = a then Memory.drop r a else (k, v) :: Memory.drop r a

/-- The memory with a cell put in at its place. -/
def Memory.put (m : Memory) (a : Nat) (b : BitVec 8) : Memory :=
  match m with
  | [] => [(a, b)]
  | (k, v) :: r =>
    if a < k then (a, b) :: (k, v) :: r
    else if a = k then (a, b) :: r
    else (k, v) :: Memory.put r a b

/-- One byte written. -/
def Memory.write (m : Memory) (a : Nat) (b : BitVec 8) : Memory := if b = Memory.blank then m.drop a else m.put a b

/-- Bytes written from an address on. -/
def Memory.writes (m : Memory) (a : Nat) : List Nat → Memory
  | [] => m
  | b :: bs => (m.write a (BitVec.ofNat 8 b)).writes (a + 1) bs

/-- `n` bytes read from an address on. -/
def Memory.reads (m : Memory) (a n : Nat) : List Nat := (List.range n).map (fun i => (m.read (a + i)).toNat)

/-- Addresses rise strictly. -/
def Memory.rising (m : Memory) : Bool :=
  match m with
  | [] => true
  | [_] => true
  | a :: b :: r => decide (a.1 < b.1) && Memory.rising (b :: r)

/-- The canonical form. -/
def Memory.wf (m : Memory) : Bool := m.rising && m.all (fun c => c.2 != Memory.blank)

end Sys2Proof.Machine
end

