-- ==== Sys2Proof/Machine/StateBus.lean ====
section
/-! DEFINITION. State of the access paths of the setup space (R9, R626 to R633). -/

namespace Sys2Proof.Machine

/-- A bank of the indirect table window (R630): selector, index, result of the latest command, the eight data words, and
the debug page. -/
structure TblBank where
  sel : Nat := 0
  index : Nat := 0
  result : Nat := 0
  data : List Nat := [0, 0, 0, 0, 0, 0, 0, 0]
  dbg : Nat := 0
deriving DecidableEq, Repr

/-- The access paths. `banks` holds the banks of the table window by path; `hold` the captured high word of a pair by
the address of that word; `low` the low word of a pair that waits for its high word, by its address (R9); `result` is
the result of the latest SMBus REG_WRITE (R628). Words of function pages stand at 2^24 × (1 + function) + offset. -/
structure BusSt where
  banks : SMap TblBank := []
  hold : SMap (Option Nat) := []
  low : SMap (Option Nat) := []
  result : Nat := 0
deriving DecidableEq, Repr

end Sys2Proof.Machine
end

