-- ==== Sys2Proof/Machine/StateEcc.lean ====
section
/-! DEFINITION. State of stored-data protection (R521 to R537). -/

namespace Sys2Proof.Machine

/-- A merge-buffer entry of the Chamois memories (R528): word index, data bytes and byte mask. -/
structure MergeEnt where
  word : Nat := 0
  data : Nat := 0
  mask : Nat := 0
deriving DecidableEq, Repr

/-- Stored-data protection. `words` lists the words, by group × 2^22 + index, whose stored data and check byte were
written raw or marked; every other word holds its owner's data with a computed check byte. `corr` counts a word's
corrected reads since its last functional write, `scrub` is the next word of the scrubber over all groups, and `remap`
the CAM entries by group × 16 + entry as table 0xA0 shows them. -/
structure EccSt where
  words : SMap (Option (Nat × Nat)) := []
  corr : SMap Nat := []
  merge : List MergeEnt := []
  scrub : Nat := 0
  remap : SMap Nat := []
deriving DecidableEq, Repr

end Sys2Proof.Machine
end

