-- ==== Sys2Proof/Machine/StateHerd.lean ====
section
/-! DEFINITION. State of Herd: adjacencies, the link-state database, routes, device IDs, domains, moves and global
operations (R243 to R275). -/

namespace Sys2Proof.Machine

/-- A root vector as a CLAIM carries it (R241, R244). -/
structure RootVec where
  prio : Nat := 0xFF
  uid : Nat := 0
  dist : Nat := 0
  est : Bool := false
deriving DecidableEq, Repr

/-- What a fabric port knows of its partner (R243). -/
structure Adj where
  uid : Nat := 0
  prio : Nat := 0xFF
  port : Nat := 0
  heard : Bool := false
  age : Nat := 0
  heardYou : Bool := false
  child : Bool := false
  joined : Bool := false
  depth : Nat := 0
  twoWay : Bool := false
  held : Bool := false
  did : Nat := 0
  claim : Option RootVec := none
deriving DecidableEq, Repr

/-- A stored LSU (R241, R250). -/
structure Lsu where
  nbr : Nat := 0
  oport : Nat := 0
  nport : Nat := 0
  cost : Nat := 1
  delay : Nat := 0
  seq : Nat := 0
  up : Bool := false
deriving DecidableEq, Repr

/-- A route entry (R257): hop ports by position, the valid positions, and the 64-slot map as a 128-bit number. -/
structure Route where
  valid : Bool := false
  pinned : Bool := false
  dir : Nat := 0
  hv : Nat := 0
  p0 : Nat := 0
  p1 : Nat := 0
  p2 : Nat := 0
  p3 : Nat := 0
  dist : Nat := 0
  map : Nat := 0
deriving DecidableEq, Repr

/-- An entry of the DID table (R246, R275, R277). -/
structure DidEnt where
  uid : Nat := 0
  assigned : Bool := false
  pinned : Bool := false
  live : Bool := false
  pinUid : Nat := 0
deriving DecidableEq, Repr

/-- An entry of the domain table (R266, R414). -/
structure Domain where
  valid : Bool := false
  home : Nat := 0
  homePort : Nat := 0
  msiBase : Nat := 0xFEE00000
  msiLog : Nat := 20
deriving DecidableEq, Repr

/-- A domain claim that waits for the root's decision (R265, R266). -/
structure DomClaim where
  uid : Nat := 0
  did : Nat := 0
  hd : Nat := 0
  port : Nat := 0
  claim : Bool := true
deriving DecidableEq, Repr

/-- Why a move runs (R259, R91): the adaptation engine's new hop, or a FLOW_SET's entry or deletion. -/
inductive MoveWhy where
  | engine (hop : Nat)
  | replace (qp idx : Nat) (img : Nat)
  | delete (qp idx : Nat)
deriving DecidableEq, Repr

/-- A move-table entry (R259, R277). -/
structure Move where
  src : Nat := 0
  stream : Nat := 0
  dst : Nat := 0
  oldPort : Nat := 0
  newPort : Nat := 0
  ticks : Nat := 0
  why : MoveWhy := .engine 0
deriving DecidableEq, Repr

/-- A global operation announced and waiting for its tick (R267): op, argument, ID or value, action tick. -/
structure GlobalOp where
  op : Nat := 0
  arg : Nat := 0
  value : Nat := 0
  tick : Nat := 0
deriving DecidableEq, Repr

/-- The progress of a barrier, or of a snapshot's reports, on this device (R269, R271). -/
structure Gather where
  id : Nat := 0
  own : Bool := false
  children : List Nat := []
  count : Nat := 0
  bad : Bool := false
  sent : Bool := false
  epochSeen : Bool := false
deriving DecidableEq, Repr

/-- A snapshot request whose descriptor waits for COMPLETE (R271). -/
structure SnapWait where
  qp : Nat := 0
  idx : Nat := 0
  id : Nat := 0
  at_ : Nat := 0
deriving DecidableEq, Repr

/-- HERD. `since` counts the steps for which the root vector has not changed; `ownOps` are the operations requested
here (kind, ID); `claimed` gives the domain plus 1 that an upstream port claimed. -/
structure HerdSt where
  adj : SMap Adj := []
  best : RootVec := {}
  known : Bool := false
  since : Nat := 0
  parent : Option Nat := none
  joinSent : Bool := false
  oldDid : Option Nat := none
  mergeDue : Bool := false
  seq : Nat := 0
  asgSeq : Nat := 0
  db : SMap (Option Lsu) := []
  routes : SMap Route := []
  dids : SMap DidEnt := []
  doms : SMap Domain := []
  homes : SMap (Option (Nat × Nat)) := []
  claims : List DomClaim := []
  domSeq : Nat := 0
  claimed : SMap Nat := []
  refusedPort : SMap Bool := []
  moves : SMap (Option Move) := []
  epochs : List Nat := []
  epochAgain : Bool := false
  ops : List GlobalOp := []
  running : SMap Bool := []
  barrier : Option Gather := none
  report : Option Gather := none
  snaps : List SnapWait := []
  ownOps : List (Nat × Nat) := []
deriving DecidableEq, Repr

end Sys2Proof.Machine
end

