-- ==== Sys2Proof/Machine/StateIbx.lean ====
section
/-! DEFINITION. State of the Ibex die: its slot power channels and the two banks (R602 to R620). -/

namespace Sys2Proof.Machine

/-- A channel (R606): state code, whether its QUALIFY is a retry, retry count, debounced presence and button, the power
request as last received, in limit, PFAIL_N driven, and the times in ns of the state's entry, of the start timer, of
the limit, of a good output; the latest trip; events and sources that wait for the die-to-die link. -/
structure Chan where
  st : Nat := 0
  retry : Bool := false
  count : Nat := 0
  present : Bool := false
  button : Bool := false
  req : Bool := false
  inLimit : Bool := false
  pfail : Bool := false
  since : Nat := 0
  startAt : Nat := 0
  limitAt : Nat := 0
  goodAt : Option Nat := none
  lastTrip : Nat := 0
  trips : Nat := 0
  events : List Nat := []
  sources : List Nat := []
deriving DecidableEq, Repr

/-- A bank (R615, R616): inside its window, since when, and below PFAIL. -/
structure Bank where
  inside : Bool := false
  since : Nat := 0
  below : Bool := false
deriving DecidableEq, Repr

/-- The Ibex die. -/
structure IbxSt where
  chans : SMap Chan := []
  banks : SMap Bank := []
deriving DecidableEq, Repr

end Sys2Proof.Machine
end

