-- ==== Sys2Proof/Machine/StateLink.lean ====
section
/-! DEFINITION. State of the octets beyond their registers: fabric bring-up and test (R278 to R303), the Gazelle link
(R306 to R336), and what each egress port is transmitting (R211). -/

namespace Sys2Proof.Machine

/-- A flit of the replay buffer, or one held for delivery: its channel (0 to 7 a VC, 8 bypass), type, its Herd
slots as 14-byte numbers, the bytes of one received, and whether an error in its stored words keeps it from being replayed (R526). -/
structure FlitEnt where
  seq : Nat := 0
  vc : Nat := 0
  type : Nat := 0
  slots : List Nat := []
  body : List Nat := []
  bad : Bool := false
deriving DecidableEq, Repr

/-- A missing sequence number: attempt of its latest NAK and the time of it (R327). -/
structure Missing where
  seq : Nat := 0
  attempt : Nat := 1
  at_ : Nat := 0
deriving DecidableEq, Repr

/-- A planned change of rate or width (R332 to R335). -/
structure Change where
  kind : Nat := 1
  rate : Nat := 6
  width : Nat := 3
  num : Nat := 0
  mine : Bool := true
  acked : Bool := false
  at_ : Nat := 0
  nowSent : Bool := false
  nowSeen : Bool := false
deriving DecidableEq, Repr

/-- The Gazelle link of a fabric octet. Counters of credit are modulo 4,096 by channel: `sent` here, `returned` by the
partner, `given` back to it; `wait` holds the channels of delivered flits that the pipeline has not yet accepted; `alloc` is the partner's allocation, `mine` this end's since bring-up. `flight` keeps by
channel the numbers sent and not yet returned, `left` the flits a packet in delivery still needs, `delayOut` when the
DELAY_REQ in flight left. -/
structure LinkSt where
  creditIn : Bool := false
  sent : SMap Nat := []
  returned : SMap Nat := []
  given : SMap Nat := []
  alloc : SMap Nat := []
  replay : List FlitEnt := []
  resend : List Nat := []
  served : SMap Nat := []
  failRun : Nat := 0
  slots : Nat := 0
  fails : List Nat := []
  missing : List Missing := []
  held : List FlitEnt := []
  wait : List Nat := []
  left : SMap Nat := []
  flight : SMap (List Nat) := []
  mine : SMap Nat := []
  cnt : SMap Nat := []
  herd : List Nat := []
  reqNo : Nat := 0
  change : Option Change := none
  doze : Bool := false
  rxDoze : Bool := false
  busyAt : Nat := 0
  wokeAt : Nat := 0
  delayOut : Option Nat := none
deriving DecidableEq, Repr

/-- Fabric bring-up of an octet (R285 to R291, R297): when the present state was entered, the partner's offers, the
equalisation iteration and passed lanes of the present step, and the settings to return to. -/
structure TrainSt where
  since : Nat := 0
  target : Nat := 6
  cfgWidth : Nat := 0
  partnerUid : Nat := 0
  partnerRate : Nat := 0
  partnerOk : Nat := 0
  nextRate : Nat := 4
  iter : Nat := 0
  passed : Nat := 0
  partnerDone : Bool := false
  done : Bool := false
  verify : Bool := false
  prevRate : Nat := 2
  hibRate : Nat := 2
  hibWidth : Nat := 0
  leaving : Bool := false
deriving DecidableEq, Repr

/-- A port's transmitter: slots that the packet in transmission still needs, its SL and subscriber, the close time
that its start met (R187, R211), and whether it was discarded at egress, so that its slots are WASTED (R526). -/
structure TxSt where
  left : Nat := 0
  sl : Nat := 0
  sub : Nat := 0
  close : Option Nat := none
  lost : Bool := false
deriving DecidableEq, Repr

end Sys2Proof.Machine
end

