-- ==== Sys2Proof/Machine/StatePort.lean ====
section
/-! DEFINITION. State of the PCIe ports, the virtual hierarchies (R341 to R370) and the bridge (R378 to R400). -/

namespace Sys2Proof.Machine

/-- What a PCIe port holds beyond its registers: the reason its link is held down (Link Disable, hot reset, a refused
domain), its transmitter's power state, when its channel reported ON, whether DPC answers with CA, its slot's Power
Controller Control (`off`), and the requests from other ports that await a completion of its endpoint: ingress port,
requester ID, tag. -/
structure PciePort where
  disabled : Bool := false
  hot : Bool := false
  refused : Bool := false
  l0s : Nat := 0
  onAt : Option Nat := none
  dpcCa : Bool := false
  off : Bool := true
  asked : List (Nat × Nat × Nat) := []
deriving DecidableEq, Repr

/-- An entry of the virtual hierarchy table (R349, R373). -/
structure VEnt where
  did : Nat := 0
  port : Nat := 0
deriving DecidableEq, Repr

/-- The status fields of a vDSP that events set (R350, R351, R362, R364). -/
structure Vdsp where
  present : Bool := false
  pdc : Bool := false
  button : Bool := false
  pfault : Bool := false
  cmdDone : Bool := false
  dllActive : Bool := false
  dllChanged : Bool := false
  dpc : Bool := false
  dpcReason : Nat := 0
  dpcExt : Nat := 0
  speed : Nat := 0
  width : Nat := 0
deriving DecidableEq, Repr

/-- A PORT_WATCH that this device holds: port, watcher, and the tick of the latest PORT_STATE (R381). -/
structure Watch where
  port : Nat := 0
  did : Nat := 0
  sent : Nat := 0
deriving DecidableEq, Repr

/-- PORT. Configuration fields of a vUSP or vDSP are numbered by `vfKey`. -/
structure PortSt where
  ports : SMap PciePort := []
  vhier : SMap (Option VEnt) := []
  vcfg : SMap Nat := []
  vdsp : SMap Vdsp := []
  watches : List Watch := []
deriving DecidableEq, Repr

/-- A host window (R385). -/
structure Window where
  hd : Nat := 0
  slot : Nat := 0
  base : Nat := 0
  log : Nat := 12
  fab : Nat := 0
  attr : Nat := 0
deriving DecidableEq, Repr

/-- A prefetch line (R391): domain, window slot, fabric range, issue tick, carried stream, data once filled. -/
structure Line where
  hd : Nat := 0
  slot : Nat := 0
  base : Nat := 0
  len : Nat := 0
  tick : Nat := 0
  order : Nat := 0
  tag : Nat := 0
  filled : Bool := false
  poison : Bool := false
  data : List Nat := []
deriving DecidableEq, Repr

/-- A read that waits for a filling line (R393): its line, request, fabric range, and the time of its commit. -/
structure LineWait where
  line : Nat := 0
  r : HostReq := {}
  a : Nat := 0
  n : Nat := 0
  at_ : Nat := 0
deriving DecidableEq, Repr

/-- BRIDGE: the window pool, prefetch lines, and the tags in use at each PCIe port. -/
structure BrgSt where
  windows : SMap (Option Window) := []
  lines : SMap (Option Line) := []
  order : Nat := 0
  waits : List LineWait := []
deriving DecidableEq, Repr

end Sys2Proof.Machine
end

