-- ==== Sys2Proof/Machine/StateTraffic.lean ====
section
/-! DEFINITION. State of the traffic blocks: the pipelines (FORWARD), the buffer and overflow memory (BUFFER),
meters, queues and shapers (SCHED), the gates and the launch table (GATE), and the observers (OBSERVE). -/

namespace Sys2Proof.Machine

/-- A flow entry (R83), without the VALID bit: an entry that is not listed is not valid. -/
structure FlowEnt where
  src : Nat := 0
  stream : Nat := 0
  action : Nat := 0
  subEn : Bool := false
  sub : Nat := 0
  slEn : Bool := false
  sl : Nat := 0
  meterEn : Bool := false
  meter : Nat := 0
  reroutable : Bool := false
  hopEn : Bool := false
  hop : Nat := 0
  mirEn : Bool := false
  mirSess : Nat := 0
deriving DecidableEq, Repr

/-- What the device remembers of the latest packet that a flow entry sent to a fabric next hop (R259): destination
DID, egress port, hop position, SL and subscriber. -/
structure FlowRec where
  dst : Nat := 0
  port : Nat := 0
  hop : Nat := 0
  sl : Nat := 0
  sub : Nat := 0
deriving DecidableEq, Repr

/-- Where a packet is bound, as the lookup resolved it (R93). -/
inductive Dest where
  /-- a PCIe port of this device, by the hierarchy -/
  | port (p : Nat)
  /-- the fabric, by the route of a DID -/
  | fabric (did : Nat)
  /-- the management function or a region this device serves itself -/
  | self
  /-- a virtual switch's own configuration or a function of this device -/
  | endpoint (fn : Nat)
  /-- test 6 of R97: ACS blocks the path -/
  | acs
  /-- test 7 of R97 -/
  | windowMiss
  /-- test 8 of R97 -/
  | noRoute
  /-- answered from a prefetch line (R393) -/
  | line (n : Nat)
  /-- a message broadcast to the endpoints of a domain (R355) -/
  | broadcast (hd : Nat)
deriving DecidableEq, Repr

/-- Which stage of R69 a packet has reached. -/
inductive Stage where
  | parsed | recorded | looked | reserved
deriving DecidableEq, Repr

/-- A packet in reception (R69): what the header said, what the lookup found, and its speculation record. -/
structure Pkt where
  id : Nat := 0
  ing : Nat := 0
  pipe : Nat := 0
  fab : Bool := true
  hdr : FabHdr := {}
  tlp : Tlp := {}
  stage : Stage := .parsed
  sl : Nat := 0
  tc : Nat := 0
  keyDid : Nat := 0
  keyStream : Nat := 0
  hd : Option Nat := none
  len : Nat := 0
  flow : Option FlowEnt := none
  flowIdx : Nat := 0
  sub : Nat := 0
  dest : Dest := .windowMiss
  egress : Nat := 255
  window : Option Nat := none
  out : QPkt := {}
  timedDelay : Option Nat := none
  metered : Bool := false
  meter : Nat := 0
  colour : Nat := 0
  redDrop : Bool := false
  debitC : Nat := 0
  debitP : Nat := 0
  cells : Nat := 0
  unsup : Bool := false
deriving DecidableEq, Repr

/-- A meter profile (R166); rates in units of 10^-6 B/ns, sizes in bytes. -/
structure Profile where
  cir : Nat := 0
  sr : Bool := false
  aware : Bool := false
  remark : Bool := false
  pir : Nat := 0
  cbs : Nat := 0
  pbs : Nat := 0
deriving DecidableEq, Repr

/-- A meter (R141, R142). Levels are in 10^-6 B: the visible level includes the debits of open speculation records,
the committed level does not (R71). -/
structure Meter where
  profile : Nat := 0
  cset : Nat := 0
  en : Bool := false
  visC : Nat := 0
  visP : Nat := 0
  comC : Nat := 0
  comP : Nat := 0
  at_ : Nat := 0
deriving DecidableEq, Repr

/-- A two-bucket shaper (R154) with its host and active pairs (R162); levels in 10^-6 B. -/
structure Shaper where
  cir : Nat := 0
  hostPir : Nat := 0
  actPir : Nat := 0
  cbs : Nat := 0
  hostPbs : Nat := 0
  actPbs : Nat := 0
  quantum : Nat := 65
  zero : Bool := false
  tc : Int := 0
  tp : Int := 0
  at_ : Nat := 0
deriving DecidableEq, Repr

/-- A port shaper (R157). -/
structure PortShaper where
  rate : Nat := 0
  burst : Nat := 0
  level : Int := 0
  at_ : Nat := 0
deriving DecidableEq, Repr

/-- Adaptation bounds of a queue (R169). `target` 1 = SHAPED bounds, 2 = BULK overflow. -/
structure Bounds where
  target : Nat := 1
  pirFloor : Nat := 0
  pirCeil : Nat := 0
  pbsFloor : Nat := 0
  pbsCeil : Nat := 0
  sojourn : Nat := 0
  ovfAllowed : Bool := false
deriving DecidableEq, Repr

/-- A bounds change that waits for the next tick edge (R163). -/
inductive BoundsChange where
  | put (b : Bounds)
  | delete
deriving DecidableEq, Repr

/-- A staged adaptation decision for a queue (R162, R492): a new active pair, or a new OVF_EN. -/
inductive AdaptChange where
  | pair (pir pbs : Nat)
  | ovf (en : Bool)
deriving DecidableEq, Repr

/-- A scheduling queue: its map (R149), buffer configuration and contents (R109 to R126), shaper (R154) and
adaptation state (R161 to R164). -/
structure Queue where
  valid : Bool := false
  port : Nat := 0
  sl : Nat := 0
  sub : Nat := 0
  dflt : Bool := false
  hold : Nat := 0
  minCells : Nat := 0
  alpha : Nat := 4
  ovfEn : Bool := false
  hostOvf : Bool := false
  ovfThr : Nat := 0x800
  refillThr : Nat := 0x400
  maxBlocks : Nat := 0x1000
  spill : Bool := false
  head : List QPkt := []
  headCells : Nat := 0
  runAhead : Nat := 0
  minUsed : Nat := 0
  sharedUsed : Nat := 0
  staged : List QPkt := []
  stagedCells : Nat := 0
  tail : List QPkt := []
  refill : List QPkt := []
  refilling : Bool := false
  late : Nat := 0
  tailBlocks : Nat := 0
  lead : Nat := 0
  stored : Nat := 0
  flushed : Nat := 0
  sh : Shaper := {}
  deficit : Nat := 0
  bounds : Option Bounds := none
  boundsNext : Option BoundsChange := none
  adaptNext : Option AdaptChange := none
  decay : Nat := 0
  maxDepth : Nat := 0
  maxSojourn : Nat := 0
  lastSojourn : Nat := 0
deriving DecidableEq, Repr

/-- A service node (R149, R154, R160). -/
structure Node where
  sh : Shaper := {}
  deficit : Nat := 0
deriving DecidableEq, Repr

/-- Whose turn it is on a round-robin list (R160), and whether that member has had its quantum. -/
structure Turn where
  member : Nat := 0
  given : Bool := false
deriving DecidableEq, Repr

/-- A pending gate swap (R177 to R180). -/
structure Swap where
  at_ : Nat := 0
  toOpen : Bool := false
  armed : Bool := false
  late : Bool := false
  qp : Nat := 0
  idx : Nat := 0
deriving DecidableEq, Repr

/-- The gate of a port (R172 to R183): the operational and the admin list, each entry a 32-bit word by index, with
their lengths; which physical list is operational; base time; state (0 OPEN, 1 LISTED, 2 HELD_CLOSED); pending swap. -/
structure GatePort where
  oper : SMap Nat := []
  operLen : Nat := 0
  admin : SMap Nat := []
  adminLen : Nat := 0
  which : Bool := false
  base : Nat := 0
  state : Nat := 0
  swap : Option Swap := none
  swapTime : Nat := 0
deriving DecidableEq, Repr

/-- What a launch-table entry will launch (R191, R389). -/
inductive LaunchKind where
  /-- TIMED_WRITE of descriptor `idx` of QP `qp` -/
  | write (qp idx : Nat)
  /-- TIMED_CUE of descriptor `idx` of QP `qp` -/
  | cue (qp idx : Nat)
  /-- a write held by a TIMED window -/
  | window
deriving DecidableEq, Repr

/-- A launch-table entry (R191 to R204). -/
structure Launch where
  kind : LaunchKind := .window
  lt : Nat := 0
  released : Bool := false
  queue : Nat := 0
  cells : Nat := 0
  pkt : QPkt := {}
  dest : Dest := .windowMiss
  arrived : Bool := false
  poison : Bool := false
  egress : Nat := 255
  src : Pkt := {}
  outs : List QPkt := []
deriving DecidableEq, Repr

/-- A pending GATE_LIST_LOAD that waits for its host array (R206). -/
structure ListLoad where
  qp : Nat := 0
  idx : Nat := 0
  port : Nat := 0
  first : Nat := 0
  len : Nat := 0
  bytes : Nat := 0
deriving DecidableEq, Repr

/-- A pending snapshot capture (R229, R230). -/
structure SnapReq where
  tick : Nat := 0
  content : Nat := 0
  id : Nat := 0
deriving DecidableEq, Repr

/-- FORWARD: packets in reception, flow table, and the copy sessions' sampling counts. -/
structure FwdSt where
  nextId : Nat := 0
  pkts : List Pkt := []
  flows : SMap (Option FlowEnt) := []
  recs : SMap (Option FlowRec) := []
  drops : SMap Nat := []
  dropShadow : SMap Nat := []
  sessSeen : SMap Nat := []
deriving DecidableEq, Repr

/-- BUFFER and DRAM: pool use, overflow blocks and channel state. -/
structure BufSt where
  headroomUsed : Nat := 0
  stagedUsed : Nat := 0
  sharedUsed : Nat := 0
  minUsed : Nat := 0
  freeBlocks : Nat := 0
  totalBlocks : Nat := 0
  idleTicks : Nat := 0
  initRun : Bool := false
deriving DecidableEq, Repr

/-- SCHED: meters, profiles, colour counters, queues, nodes and round-robin turns. -/
structure SchSt where
  meters : SMap Meter := []
  profiles : SMap Profile := []
  colour : SMap Nat := []
  colourShadow : SMap Nat := []
  queues : SMap Queue := []
  nodes : SMap Node := []
  ports : SMap PortShaper := []
  turns : SMap Turn := []
deriving DecidableEq, Repr

/-- GATE: ports, launch table, list loads in flight. -/
structure GateSt where
  ports : SMap GatePort := []
  launch : SMap (Option Launch) := []
  loads : List ListLoad := []
deriving DecidableEq, Repr

/-- OBSERVE: the 48-bit event counters with their overflow at bit 63, their shadows, the sample ring and the
snapshot bank. -/
structure ObsSt where
  cnt : SMap Nat := []
  shd : SMap Nat := []
  back : SMap Nat := []
  backShadow : SMap Nat := []
  subs : SMap Nat := []
  subsShadow : SMap Nat := []
  cfgPending : List (Nat × Nat) := []
  active : SMap Nat := []
  wrapped : List Nat := []
  sample : SMap Nat := []
  ringPhase : Bool := true
  requests : List SnapReq := []
  snapObs : SMap Nat := []
  snapDrops : SMap Nat := []
  snapColour : SMap Nat := []
  snapSubs : SMap Nat := []
  snapQueues : SMap (Nat × Nat) := []
  snapMeters : SMap (Nat × Nat) := []
deriving DecidableEq, Repr

end Sys2Proof.Machine
end

