-- ==== Sys2Proof/Machine/State.lean ====
section
/-! DEFINITION. The whole state of the device, its queue of waiting commands, and the reasons a command can stop. -/

namespace Sys2Proof.Machine

/-- Why the machine stops with a fault: never. Every behaviour the spec describes has an effect, and an access
outside every region is answered as the spec says (safe). -/
inductive Fault where
  /-- never raised: no rule of the spec stops the device -/
  | none
deriving DecidableEq, Repr

/-- Why a command has no meaning. -/
inductive Refusal where
  /-- raised by an arm that has no meaning yet; safe -/
  | notModelled (mnemonic : String)
deriving DecidableEq, Repr

/-- What leaves the device, newest first in the log. -/
inductive Emit where
  /-- a packet granted egress at a port -/
  | packet (port : Nat) (p : QPkt)
  /-- a posted write of the management endpoint: function, host address, bytes -/
  | hostWrite (fn addr : Nat) (bytes : List Nat)
  /-- a read of host memory: function, address, bytes, for whom -/
  | hostRead (fn addr len : Nat) (who : Owner)
  /-- a completion TLP that the device answers at a port: requester, tag, status (0 SC, 1 UR, 2 RRS, 4 CA), data -/
  | answer (port req tag status : Nat) (data : List Nat)
  /-- a request issued at a PCIe port under a non-posted tag -/
  | request (port tag : Nat) (t : Tlp) (data : List Nat)
  /-- a message TLP presented at a port -/
  | message (port code : Nat) (data : List Nat)
  /-- a Herd message slot on a fabric port: octet, code, body fields -/
  | herd (oct code : Nat) (body : List Nat)
  /-- a link control slot or ordered set of an octet: kind, fields -/
  | slot (oct kind : Nat) (body : List Nat)
  /-- data returned on an access path -/
  | read (path : Nat) (value : Nat)
  /-- a read that completes with Unsupported Request or INVALID_ADDRESS -/
  | readBad (path : Nat)
  /-- a signal of the device: kind, index, level -/
  | pin (kind index level : Nat)
  /-- a value returned to a core: core, value -/
  | core (c value : Nat)
  /-- an exception or interrupt taken by a core: core, cause, value -/
  | trap (c cause value : Nat)
  /-- an SMBus answer: result, bytes -/
  | smbus (result : Nat) (bytes : List Nat)
deriving DecidableEq, Repr

/-- A posted write of the management endpoint that waits for egress at its upstream port (R448, R468). -/
structure EpWrite where
  fn : Nat := 0
  addr : Nat := 0
  bytes : List Nat := []
  msi : Bool := false
deriving DecidableEq, Repr

structure State where
  reg : Regs := []
  bus : BusSt := {}
  time : TimeSt := {}
  cue : CueSt := {}
  fwd : FwdSt := {}
  buf : BufSt := {}
  sch : SchSt := {}
  gate : GateSt := {}
  obs : ObsSt := {}
  ring : RingSt := {}
  herd : HerdSt := {}
  port : PortSt := {}
  brg : BrgSt := {}
  loop : List QPkt := []
  streams : SMap (Option StreamEnt) := []
  chm : ChmSt := {}
  rst : RstSt := {}
  gaz : SMap LinkSt := []
  train : SMap TrainSt := []
  tx : SMap TxSt := []
  ibx : IbxSt := {}
  mem : Memory := []
  ecc : EccSt := {}
  flt : FltSt := {}
  ep : SMap (List EpWrite) := []
  raised : List Raise := []
  out : List Emit := []
  free : Nat := 0
  pending : List Instr := []
deriving DecidableEq, Repr

/-- The machine right after a cold power-on reset: RESET_N is driven and every field has its reset value (R7, R569). -/
def State.reset : State := { reg := regsReset, ring := ringReset, rst := { fuses := fusesReset } }

end Sys2Proof.Machine
end

