-- ==== Sys2Proof/Machine/Ops.lean ====
section
/-! DEFINITION. The named operations on the state: fields of registers, time, counters, raised events, output, ports,
functions and completions. -/

namespace Sys2Proof.Machine

/-! ## Registers -/

/-- A register field (element `i`, `j` of an array). -/
def State.rd (s : State) (f : Fld) (i : Nat := 0) (j : Nat := 0) : Nat := s.reg.rd f i j

/-- A field read as a flag. -/
def State.on (s : State) (f : Fld) (i : Nat := 0) (j : Nat := 0) : Bool := s.rd f i j == 1

/-- The state with a register field holding `v`. -/
def State.wr (s : State) (f : Fld) (v : Nat) (i : Nat := 0) (j : Nat := 0) : State :=
  { s with reg := s.reg.wr f i j v }

/-- A flag set. -/
def State.setOn (s : State) (f : Fld) (i : Nat := 0) (j : Nat := 0) : State := s.wr f 1 i j

/-- A wrapping count one higher. -/
def State.inc (s : State) (f : Fld) (i : Nat := 0) (j : Nat := 0) : State := s.wr f (s.rd f i j + 1) i j

/-- A saturating count one higher. -/
def State.incSat (s : State) (f : Fld) (i : Nat := 0) (j : Nat := 0) : State :=
  s.wr f (min (s.rd f i j + 1) (f.size - 1)) i j

/-- A 64-bit pair of registers. -/
def State.rd64 (s : State) (lo hi : Fld) (i : Nat := 0) : Nat := s.rd lo i + s.rd hi i * 2 ^ 32

/-- A 64-bit pair written in one sample. -/
def State.wr64 (s : State) (lo hi : Fld) (v : Nat) (i : Nat := 0) : State :=
  (s.wr lo v i).wr hi (v / 2 ^ 32) i

/-! ## Output, events and free values -/

/-- Something leaves the device. -/
def State.emit (s : State) (e : Emit) : State := { s with out := e :: s.out }

/-- Several things leave the device, in order. -/
def State.emits (s : State) (es : List Emit) : State := { s with out := es.reverse ++ s.out }

/-- A block raises a fault source with what the event names (R539). -/
def State.raise (s : State) (src : Nat) (subj : Subj := {}) : State :=
  { s with raised := s.raised ++ [{ src := src, subj := subj }] }

/-- A value the spec leaves open: the free value at the counter (log entry 3). -/
def State.freeVal (s : State) (n : Nat) : Nat := Config.freeValue s.free % n

/-- The counter of free values moved on. -/
def State.useFree (s : State) : State := { s with free := s.free + 1 }

/-! ## Time -/

/-- Whole nanoseconds of cell time (R28). -/
def State.ns (s : State) : Nat := s.time.ct / 65536

/-- Cell time moved on to `t` ns; it never moves back here. -/
def State.advance (s : State) (t : Nat) : State :=
  { s with time := { s.time with ct := max s.time.ct (t * 65536) } }

/-- Cell time moved on to `t` units of 2^-16 ns. -/
def State.advanceCt (s : State) (t : Nat) : State := { s with time := { s.time with ct := max s.time.ct t } }

/-- The divisor of a SPLIT code (R31). -/
def splitOf (c : Nat) : Nat := 2 ^ (c % 4)

/-- The tick period in ns of a QUANTA and SPLIT code (R31). -/
def periodOf (quanta split : Nat) : Nat := quanta * 8 / splitOf split

/-- Whether QUANTA and SPLIT give a whole period in the range of R31. -/
def periodOk (quanta split : Nat) : Bool :=
  decide (4000 * splitOf split ≤ quanta * 8) && decide (quanta * 8 ≤ 1000000 * splitOf split)

/-- T_TICK in force, in ns. -/
def State.tTick (s : State) : Nat := periodOf (s.rd TICK_PERIOD_QUANTA) (s.rd TICK_PERIOD_SPLIT)

/-- TIME_STATUS.STATE codes. -/
def tsDISABLED : Nat := 0
def tsROOT : Nat := 1
def tsACQUIRING : Nat := 2
def tsLOCKED : Nat := 3
def tsHOLDOVER : Nat := 4

/-- TIME_STATUS.STATE. -/
def State.timeState (s : State) : Nat := s.rd TIME_STATUS_STATE

/-- Whether the device issues tick edges (R53): in ROOT, LOCKED and HOLDOVER. -/
def State.ticking (s : State) : Bool :=
  s.timeState == tsROOT || s.timeState == tsLOCKED || s.timeState == tsHOLDOVER

/-! ## 48-bit counters with a sticky overflow at bit 63 (R216) -/

/-- A counter after adding `n`: it wraps at 2^48, and a wrap sets the sticky overflow. -/
def bump48 (v n : Nat) : Nat :=
  let c := v % 2 ^ 48 + n
  c % 2 ^ 48 + (if v / 2 ^ 63 % 2 = 1 ∨ 2 ^ 48 ≤ c then 2 ^ 63 else 0)

/-- Whether adding `n` wraps the counter. -/
def wraps48 (v n : Nat) : Bool := decide (2 ^ 48 ≤ v % 2 ^ 48 + n)

/-- A table of counters with counter `k` higher by `n`. -/
def bumpAt (m : SMap Nat) (k n : Nat) : SMap Nat := SMap.set m k (bump48 (SMap.get m k 0) n) 0

/-! ## Octets and ports -/

/-- OCT_MODE.MODE of octet `k`. -/
def State.octMode (s : State) (k : Nat) : Nat := s.rd OCT_MODE_MODE k

/-- Whether octet `k` is the odd half of an x16 pair (R19). -/
def State.octPaired (s : State) (k : Nat) : Bool := k % 2 == 1 && s.octMode (k - 1) == 4

/-- Whether port `p` exists in the octet modes (R18, R19, R24). -/
def State.portExists (s : State) (p : Nat) : Bool :=
  let k := p / 4
  let j := p % 4
  decide (p < 96) && !s.octPaired k &&
    (match s.octMode k with
     | 1 => j == 0
     | 2 => j == 0 || j == 2
     | 3 => true
     | 4 => j == 0 && k % 2 == 0
     | _ => false)

/-- Whether port `p` is a fabric port (R21). -/
def State.isFab (s : State) (p : Nat) : Bool :=
  s.portExists p && s.on OCT_MODE_FABRIC (p / 4) && (s.octMode (p / 4) == 1 || s.octMode (p / 4) == 4)

/-- Whether octet `k` carries a fabric port, which is then P(4k). -/
def State.fabOct (s : State) (k : Nat) : Bool := s.isFab (4 * k)

/-- OCT_MODE.PORT_EN of port `p`. -/
def State.portEn (s : State) (p : Nat) : Bool := bit (s.rd OCT_MODE_PORT_EN (p / 4)) (p % 4)

/-- Whether port `p` is an upstream PCIe port. -/
def State.isUp (s : State) (p : Nat) : Bool := s.portExists p && !s.isFab p && s.rd PORT_CFG_ROLE p == 1

/-- Whether port `p` is a downstream PCIe port. -/
def State.isDown (s : State) (p : Nat) : Bool := s.portExists p && !s.isFab p && s.rd PORT_CFG_ROLE p != 1

/-- The upstream ports, lowest first. -/
def State.upPorts (s : State) : List Nat := (List.range 96).filter s.isUp

/-- The fabric octets, lowest first. -/
def State.fabOcts (s : State) : List Nat := (List.range 24).filter s.fabOct

/-- The upstream port of PF `n` (R415). -/
def State.pfPort (s : State) (n : Nat) : Option Nat := s.upPorts[n]?

/-- The PF of upstream port `p` (R415). -/
def State.portPf (s : State) (p : Nat) : Option Nat :=
  if s.isUp p then some (s.upPorts.takeWhile (· < p)).length else none

/-- The upstream port that serves host domain `d` (R375): the lowest one. -/
def State.hdPort (s : State) (d : Nat) : Option Nat := s.upPorts.find? (fun p => s.rd PORT_CFG_HD p == d)

/-- The device's own DID. -/
def State.did (s : State) : Nat := s.rd HERD_STATUS_DID

/-! ## Functions (R415, R453, R455) -/

/-- Function index of PF `n`. -/
def pfIndex (n : Nat) : Nat := 2048 + n

/-- The PF that owns VF `v`, by the ranges of RING_PF_VF (R453). -/
def State.vfPf (s : State) (v : Nat) : Option Nat :=
  (List.range 32).find? (fun n =>
    decide (s.rd RING_PF_VF_VF_BASE n ≤ v) && decide (v < s.rd RING_PF_VF_VF_BASE n + s.rd RING_PF_VF_VF_LIMIT n))

/-- The PF that a function index names or belongs to. -/
def State.fnPf (s : State) (f : Nat) : Option Nat := if 2048 ≤ f then some (f - 2048) else s.vfPf f

/-- The upstream port of a function. -/
def State.fnPort (s : State) (f : Nat) : Option Nat := (s.fnPf f).bind s.pfPort

/-- The host domain of a function (R456). -/
def State.fnHd (s : State) (f : Nat) : Option Nat := (s.fnPort f).map (s.rd PORT_CFG_HD ·)

/-- A function. -/
def State.fn (s : State) (f : Nat) : Fn := SMap.get s.ring.fns f {}

/-- A function replaced. -/
def State.setFn (s : State) (f : Nat) (x : Fn) : State :=
  { s with ring := { s.ring with fns := SMap.set s.ring.fns f x {} } }

/-- A QP. -/
def State.qp (s : State) (q : Nat) : Qp := SMap.get s.ring.qps q {}

/-- A QP replaced. -/
def State.setQp (s : State) (q : Nat) (x : Qp) : State :=
  { s with ring := { s.ring with qps := SMap.set s.ring.qps q x {} } }

/-- The anchor PF (R417): the PF of the upstream port that fuse row 128 [14:8] names, else PF 0. -/
def State.anchorPf (s : State) (port : Nat) : Nat :=
  if s.isUp port && s.portEn port then (s.portPf port).getD 0 else 0

/-! ## The posted stream of the management endpoint (R448) -/

/-- A write joins the posted stream of its function's upstream port. -/
def State.hostWrite (s : State) (f addr : Nat) (bytes : List Nat) (msi : Bool := false) : State :=
  let k := (s.fnPf f).getD 0
  { s with ep := SMap.set s.ep k (SMap.get s.ep k [] ++ [{ fn := f, addr := addr, bytes := bytes, msi := msi }]) [] }

/-- The endpoint sends a function's MSI-X vector; a masked vector becomes pending instead (R449). -/
def State.sendVector (s : State) (f v : Nat) : State :=
  let x := s.fn f
  if x.vectors ≤ v then s
  else
    let e := SMap.get x.msix v {}
    if e.masked then s.setFn f { x with msix := SMap.set x.msix v { e with pending := true } {} }
    else s.hostWrite f e.addr (leBytes 4 e.data) true

/-- A register of the OBS_IRQ layout sends its vector when EN is 1. -/
def State.regIrq (s : State) (en pf vec : Fld) : State :=
  if s.on en then s.sendVector (pfIndex (s.rd pf)) (s.rd vec) else s

/-! ## Completions (R433, R445 to R449) -/

/-- Status codes of R446. -/
def stOK : Nat := 0
def stLATE : Nat := 1
def stACCESS_FAULT : Nat := 2
def stREMOTE_UNREACHABLE : Nat := 3
def stREMOTE_ERROR : Nat := 4
def stPOISONED : Nat := 5
def stABORTED_RESET : Nat := 6
def stTIMEOUT : Nat := 7
def stBAD_DESCRIPTOR : Nat := 8
def stNOT_PERMITTED : Nat := 9
def stRESOURCE_LIMIT : Nat := 10
def stFROZEN : Nat := 11

/-- Whether writing one more entry would make CQ_TAIL equal to the CQ head (R433). -/
def Qp.cqFull (q : Qp) : Bool := (q.cqTail + 1) % 2 ^ q.cqLog == q.cqHead

/-- The 16 bytes of a CQ entry (R445). -/
def Cpl.bytes (c : Cpl) (phase : Bool) : List Nat :=
  leBytes 4 c.cookie ++ leBytes 2 c.status
    ++ leBytes 2 (b2n phase + 2 * b2n c.data + 4 * b2n c.receive)
    ++ leBytes 4 c.bytesDone ++ leBytes 4 c.time

/-- The QP after an entry is written at CQ_TAIL: the tail moves on and PHASE inverts on a wrap (R433). -/
def Qp.pushCq (q : Qp) : Qp :=
  let t := (q.cqTail + 1) % 2 ^ q.cqLog
  { q with cqTail := t, phase := if t = 0 then !q.phase else q.phase }

/-- Whether the QP of a function under reset or being disabled still writes entries (R429, R467 step 8). -/
def State.qpSilent (s : State) (q : Qp) : Bool :=
  q.state == .draining || q.state == .disabled ||
    (match q.fn with
     | some f => (s.fn f).reset.isSome
     | none => true)

/-- The data slot of a CQ entry filled with an image; the rest of the slot is 0 (R443). -/
def slotImage (q : Qp) (img : List Nat) : List Nat :=
  (img ++ List.replicate (2 ^ q.dataLog - img.length) 0).take (2 ^ q.dataLog)

/-- One entry written: data slot, entry, then the vector (R448, R449). -/
def State.writeCpl (s : State) (qn : Nat) (c : Cpl) : State :=
  let q := s.qp qn
  match q.fn with
  | none => s
  | some f =>
    let s1 := if c.data || c.receive then
        s.hostWrite f (q.dataBase + q.cqTail * 2 ^ q.dataLog)
          (if c.receive then c.image else slotImage q c.image)
      else s
    let s2 := s1.hostWrite f (q.cqBase + q.cqTail * 16) (c.bytes q.phase)
    let q' := q.pushCq
    if q.irqEn && (c.irq || c.receive) then
      if q.coalesce then s2.setQp qn { q' with msiPending := true }
      else (s2.setQp qn q').sendVector f q.vector
    else s2.setQp qn q'

/-- A completion of a QP: written now, or held while its CQ is full (R433); a QP that writes nothing any more
counts it for its reset's report instead (R429, R467). -/
def State.postCpl (s : State) (qn : Nat) (c : Cpl) : State :=
  let q := s.qp qn
  if s.qpSilent q then s
  else if q.cqFull || !q.held.isEmpty then s.setQp qn { q with held := q.held ++ [c] }
  else s.writeCpl qn c

/-- Held completions written while the CQ has room. -/
def State.flushHeld (s : State) (qn : Nat) : Nat → State
  | 0 => s
  | n + 1 =>
    let q := s.qp qn
    match q.held with
    | [] => s
    | c :: cs => if q.cqFull then s else ((s.setQp qn { q with held := cs }).writeCpl qn c).flushHeld qn n

/-! ## Descriptors in progress (R434 to R438) -/

/-- The descriptor in progress at submission index `idx`. -/
def Qp.desc (q : Qp) (idx : Nat) : Option Desc := q.inProg.find? (fun d => d.idx == idx)

/-- The QP with that descriptor replaced. -/
def Qp.setDesc (q : Qp) (d : Desc) : Qp :=
  { q with inProg := q.inProg.map (fun e => if e.idx == d.idx then d else e) }

/-- The QP without the descriptor. -/
def Qp.dropDesc (q : Qp) (idx : Nat) : Qp := { q with inProg := q.inProg.filter (fun e => e.idx != idx) }

/-- The state with a descriptor in progress replaced. -/
def State.setDesc (s : State) (qn : Nat) (d : Desc) : State := s.setQp qn ((s.qp qn).setDesc d)

def Desc.opcode (d : Desc) : Nat := bytesAt d.img 0 1
def Desc.irq (d : Desc) : Bool := bit (byteAt d.img 2) 0
def Desc.fence (d : Desc) : Bool := bit (byteAt d.img 2) 1
def Desc.ackWait (d : Desc) : Bool := bit (byteAt d.img 2) 2
def Desc.cookie (d : Desc) : Nat := bytesAt d.img 4 7
def Desc.source (d : Desc) : Nat := bytesAt d.img 8 15
def Desc.dest (d : Desc) : Nat := bytesAt d.img 16 23
def Desc.length (d : Desc) : Nat := bytesAt d.img 24 27
def Desc.tc (d : Desc) : Nat := byteAt d.img 28 % 8
def Desc.ordSel (d : Desc) : Nat := byteAt d.img 28 / 8 % 4
def Desc.reqId (d : Desc) : Nat := bytesAt d.img 30 31
def Desc.launch (d : Desc) : Nat := bytesAt d.img 32 39
def Desc.op40 (d : Desc) : Nat := byteAt d.img 40

/-- Outcomes of the non-timed descriptors at the front of the ring written in ring order; descriptors that do not
hold others back are written when known (R438). -/
def State.flushOutcomes (s : State) (qn : Nat) : Nat → State
  | 0 => s
  | n + 1 =>
    match (s.qp qn).inProg.find? (fun d => !d.timed && !d.free_) with
    | some d =>
      match d.outcome with
      | some c => ((s.setQp qn ((s.qp qn).dropDesc d.idx)).postCpl qn c).flushOutcomes qn n
      | none => s
    | none => s

/-! ### Which descriptors may run (R436, R437, R442) -/

/-- The fuse row 128 port whose PF is the anchor (R417). -/
def State.anchor (s : State) : Nat := s.anchorPf (bits (SMap.get s.rst.shadow 128 0) 14 8)

/-- The operation number of a descriptor: byte 56 of a FLOW_SET (R90), byte 40 of every other opcode that has one. -/
def Desc.oper (d : Desc) : Nat := if d.opcode = 0x10 then byteAt d.img 56 else d.op40

/-- The operations of an opcode: the values of its operation byte that name one, or the whole opcode. -/
def Desc.known (d : Desc) : Bool :=
  let o := d.oper
  let among (n : Nat) : Bool := decide (1 ≤ o) && decide (o ≤ n)
  match d.opcode with
  | 1 | 2 | 3 | 4 | 5 => true
  | 6 => among 2
  | 0x10 => among 4
  | 0x11 => among 4
  | 0x12 => true
  | 0x13 => among 3
  | 0x14 | 0x15 => true
  | 0x16 => among 3
  | 0x17 => among 5
  | 0x18 => among 9
  | 0x19 => true
  | 0x1A => among 4
  | 0x1B => among 2
  | 0x1C => among 5
  | 0x1D => among 3
  | 0x1E => among 3
  | 0x1F => true
  | _ => false

/-- Whether VF `v` lies in PF `n`'s range (R453). -/
def State.ownsVf (s : State) (n v : Nat) : Bool :=
  decide (s.rd RING_PF_VF_VF_BASE n ≤ v) && decide (v < s.rd RING_PF_VF_VF_BASE n + s.rd RING_PF_VF_VF_LIMIT n)

/-- The function index of an OWNER field: [15] = 1 PF [4:0], else VF [10:0] (R404, R411). -/
def ownerFn (o : Nat) : Nat := if bit o 15 then pfIndex (o % 32) else o % 2048

/-- Whether PF `n` or one of its VFs is the function of index `f`. -/
def State.pfOrVf (s : State) (n f : Nat) : Bool := f == pfIndex n || (decide (f < 2048) && s.ownsVf n f)

/-- What a PF that is not the anchor may issue (R442, R463, R512). -/
def State.mayIssue (s : State) (n : Nat) (d : Desc) : Bool :=
  let hd := (s.fnHd (pfIndex n)).getD 1024
  match d.opcode with
  | 0x16 => bytesAt d.img 42 43 == hd
  | 0x18 | 0x19 => s.ownsVf n (bytesAt d.img 42 43)
  | 0x1A => d.op40 == 3 && s.ownsVf n (bytesAt d.img 42 43)
  | 0x1B => true
  | 0x1D =>
    let i := bytesAt d.img 42 45
    if d.op40 = 2 then (match (s.qp i).fn with
      | some f => s.pfOrVf n f
      | none => false)
    else if d.op40 = 3 then (match SMap.get s.streams i none with
      | some e => e.hd == some hd
      | none => true)
    else false
  | 0x1F =>
    let first := bytesAt d.img 42 43
    s.pfOrVf n (ownerFn (bytesAt d.img 48 49)) &&
      (List.range (min 4096 (bytesAt d.img 44 45))).all (fun k =>
        let w := SMap.get s.cue.mirrors (first + k) {}
        w.role == 0 || s.pfOrVf n (ownerFn w.owner))
  | _ => false

/-- Whether this ring and function may issue the descriptor at all (R435, R437, R442, R585). -/
def State.permitted (s : State) (q : Qp) (d : Desc) : Bool :=
  match q.fn with
  | none => false
  | some f =>
    let pf := decide (2048 ≤ f)
    if d.opcode < 0x10 then pf || d.ordSel != 2
    else pf && q.loc == 0 && s.rst.phase != .noFirmware && (s.anchor == f - 2048 || s.mayIssue (f - 2048) d)

/-- The effect of a descriptor command: nothing where no such descriptor has started or its outcome is known. One
that its ring may not issue completes with NOT_PERMITTED. -/
def State.withDesc (s : State) (qn idx : Nat) (f : Desc → State) : State :=
  match (s.qp qn).desc idx with
  | some d => if d.outcome.isSome || !d.started then s else f d
  | none => s

/-! ### Starting descriptors (R433, R435, R438) -/

/-- Whether the descriptor may start behind those before it: FENCE waits for every earlier non-timed one, an admin
operation runs alone, and a full CQ starts nothing. -/
def Qp.mayStart (q : Qp) (before : List Desc) (d : Desc) : Bool :=
  q.state == .active && !q.cqFull && q.held.isEmpty
    && !(d.fence && before.any (fun e => !e.timed))
    && !(decide (0x10 ≤ d.opcode) && before.any (fun e => !e.timed && !e.free_))
    && !before.any (fun e => decide (0x10 ≤ e.opcode) && !e.free_)
    && before.all (fun e => e.started)

/-- Whether a block has been asked to go idle for its reset (R590). -/
def State.blockAsked (s : State) (b : Nat) : Bool := s.rst.block.any (fun e => e.1 == b)

/-- The first descriptor that has not started, with those before it. -/
def firstWaiting : List Desc → List Desc → Option (List Desc × Desc)
  | _, [] => none
  | seen, d :: r => if d.started then firstWaiting (seen ++ [d]) r else some (seen, d)

/-- The outcome of a descriptor set and written when its turn comes. -/
def State.setOutcome (s : State) (qn : Nat) (d : Desc) (c : Cpl) : State :=
  if d.timed || d.free_ then (s.setQp qn ((s.qp qn).dropDesc d.idx)).postCpl qn c
  else (s.setDesc qn { d with outcome := some c }).flushOutcomes qn 8

/-- Descriptors start in ring order; one with an unknown operation, or that its ring may not issue, ends at once
(R436, R437, R442). -/
def State.startMore (s : State) (qn : Nat) : Nat → State
  | 0 => s
  | n + 1 =>
    let q := s.qp qn
    match firstWaiting [] q.inProg with
    | none => s
    | some (seen, d) =>
      if !q.mayStart seen d || s.blockAsked (0x30 + qn % 16) then s
      else
        let d' := { d with started := true }
        let s1 := s.setDesc qn d'
        let bad := if !d.known then some stBAD_DESCRIPTOR else if !s.permitted q d then some stNOT_PERMITTED else none
        let s2 := match bad with
          | none => s1
          | some st => s1.setOutcome qn d' { cookie := d.cookie, status := st, time := s.ns % 2 ^ 32, irq := d.irq }
        s2.startMore qn n

/-- Descriptors of a ring in progress, the timed ones apart (R193, R438). -/
def Qp.running (q : Qp) : Nat := (q.inProg.filter (fun d => !d.timed)).length

/-- The fetch of the next descriptors is issued when the QP is ACTIVE, none is on its way, there are descriptors to
fetch and fewer than 8 are in progress (R434, R438, R451); its mover takes on nothing new while it is asked to go idle (R590). -/
def State.fetchMore (s : State) (qn : Nat) : State :=
  let q := s.qp qn
  let size := 2 ^ q.sqLog
  let n := min (min (8 - q.running) ((q.tail + size - q.head) % size)) (size - q.head)
  if q.state = .active ∧ q.fetching = 0 ∧ 0 < n ∧ !s.blockAsked (0x30 + qn % 16) then
    match q.fn with
    | none => s
    | some f =>
      (s.setQp qn { q with fetching := n }).emit (.hostRead f (q.sqBase + 64 * q.head) (64 * n) (.desc qn q.head))
  else s

/-- A QP moves on: held entries are written while there is room, descriptors start, and more are fetched. -/
def State.pumpQp (s : State) (qn : Nat) : State := ((s.flushHeld qn 16384).startMore qn 8).fetchMore qn

/-- The outcome of a descriptor becomes known. A timed one, and one that holds back no other, is written at once;
the others are written in ring order. The QP then moves on. -/
def State.finish (s : State) (qn : Nat) (d : Desc) (status : Nat) (bytesDone : Nat := 0)
    (img : Option (List Nat) := none) (time : Option Nat := none) : State :=
  (s.setOutcome qn d
    { cookie := d.cookie, status := status, data := img.isSome, bytesDone := bytesDone,
      time := (time.getD s.ns) % 2 ^ 32, irq := d.irq, image := img.getD [] }).pumpQp qn

/-- An admin operation that returns data: refused on a QP without a data area (R443). -/
def State.finishData (s : State) (qn : Nat) (d : Desc) (img : List Nat) : State :=
  if (s.qp qn).dataBase = 0 then s.finish qn d stBAD_DESCRIPTOR else s.finish qn d stOK 0 (some img)

/-- A command for a descriptor of one operation acts only on a started descriptor of that operation. -/
def State.onOp (s : State) (qn idx : Nat) (ok : Desc → Bool) (f : State → State) : State :=
  match (s.qp qn).desc idx with
  | some d => if d.started && d.outcome.isNone && ok d then f s else s
  | none => s

/-- The descriptor's opcode is `op` and its byte 40 is `sub`. -/
def Desc.isOp (op sub : Nat) (d : Desc) : Bool := d.opcode == op && d.op40 == sub

end Sys2Proof.Machine
end

