-- ==== Sys2Proof/Machine/Queues.lean ====
section
/-! DEFINITION. Queues: token buckets, cell pools, admission, the DRAM tail, flushing (R109 to R126, R142, R154). -/

namespace Sys2Proof.Machine

/-! ## Access -/

/-- A queue. -/
def State.queue (s : State) (q : Nat) : Queue := SMap.get s.sch.queues q {}

/-- A queue replaced. -/
def State.setQueue (s : State) (q : Nat) (x : Queue) : State :=
  { s with sch := { s.sch with queues := SMap.set s.sch.queues q x {} } }

/-- A service node, numbered port × 8 + SL. -/
def State.node (s : State) (n : Nat) : Node := SMap.get s.sch.nodes n {}

/-- A service node replaced. -/
def State.setNode (s : State) (n : Nat) (x : Node) : State :=
  { s with sch := { s.sch with nodes := SMap.set s.sch.nodes n x {} } }

/-- A port shaper. -/
def State.portSh (s : State) (p : Nat) : PortShaper := SMap.get s.sch.ports p {}

/-- A port shaper replaced. -/
def State.setPortSh (s : State) (p : Nat) (x : PortShaper) : State :=
  { s with sch := { s.sch with ports := SMap.set s.sch.ports p x {} } }

/-- Class type of SL `l` at port `p`: 0 TIMED, 1 PRIORITY, 2 SHAPED, 3 BULK (R151). -/
def State.slClass (s : State) (p l : Nat) : Nat := s.rd SCHED_PORT_CFG_SL_CLASS p / 4 ^ l % 4

/-- Class type of a mapped queue. -/
def State.qClass (s : State) (q : Queue) : Nat := s.slClass q.port q.sl

/-- The mapped queues with their numbers. -/
def State.mapped (s : State) : List (Nat × Queue) := s.sch.queues.filter (fun e => e.2.valid)

/-- The queue of a triple, else the default queue of (port, SL) (R96, R149, R150). -/
def State.findQueue (s : State) (port sl sub : Nat) : Option Nat :=
  match s.mapped.find? (fun e => e.2.port == port && e.2.sl == sl && !e.2.dflt && e.2.sub == sub) with
  | some e => some e.1
  | none => (s.mapped.find? (fun e => e.2.port == port && e.2.sl == sl && e.2.dflt)).map (·.1)

/-- The default queue of (port, SL). -/
def State.defaultQueue (s : State) (port sl : Nat) : Option Nat :=
  (s.mapped.find? (fun e => e.2.port == port && e.2.sl == sl && e.2.dflt)).map (·.1)

/-! ## Token buckets -/

/-- Bytes in bucket units of 10^-6 B, so that a rate in units of 10^-6 B/ns refills exactly (R142, log entry 12). -/
def uB (n : Nat) : Nat := n * 1000000

/-- A bucket refilled over `dt` ns, never above its size. -/
def fill (level rate size dt : Nat) : Nat := min (uB size) (level + rate * dt)

/-- A signed bucket refilled over `dt` ns, never above its size. -/
def fillI (level : Int) (rate size dt : Nat) : Int := min (uB size : Int) (level + (rate * dt : Nat))

/-- A pair of meter levels refilled over `dt` ns: trTCM refills both, srTCM spills what Tc cannot hold into Te (R143). -/
def Profile.refill (f : Profile) (c p dt : Nat) : Nat × Nat :=
  if f.sr then
    let c' := fill c f.cir f.cbs dt
    let rest := c + f.cir * dt - c'
    (c', min (uB f.pbs) (p + rest))
  else (fill c f.cir f.cbs dt, fill p f.pir f.pbs dt)

/-- A meter brought up to date at `t` ns (R142). -/
def Meter.upTo (m : Meter) (f : Profile) (t : Nat) : Meter :=
  let dt := t - m.at_
  let v := f.refill m.visC m.visP dt
  let c := f.refill m.comC m.comP dt
  { m with visC := v.1, visP := v.2, comC := c.1, comP := c.2, at_ := max m.at_ t }

/-- The colours: 0 green, 1 yellow, 2 red. -/
def cGREEN : Nat := 0
def cYELLOW : Nat := 1
def cRED : Nat := 2

/-- The colour of a packet of length `l` and pre-colour yellow or not, with its debits in bytes (R143). -/
def Profile.colour (f : Profile) (m : Meter) (l : Nat) (yellow : Bool) : Nat × Nat × Nat :=
  let y := f.aware && yellow
  if f.sr then
    if uB l ≤ m.visC ∧ y = false then (cGREEN, l, 0)
    else if uB l ≤ m.visP then (cYELLOW, 0, l)
    else (cRED, 0, 0)
  else if m.visP < uB l then (cRED, 0, 0)
  else if m.visC < uB l ∨ y = true then (cYELLOW, 0, l)
  else (cGREEN, l, l)

/-- A shaper brought up to date at `t` ns (R154). -/
def Shaper.upTo (h : Shaper) (t : Nat) : Shaper :=
  let dt := t - h.at_
  { h with tc := fillI h.tc h.cir h.cbs dt, tp := fillI h.tp h.actPir h.actPbs dt, at_ := max h.at_ t }

/-- Peak-conformant (R154). -/
def Shaper.peakOk (h : Shaper) : Bool := h.actPir == 0 || decide (0 < h.tp)

/-- In the committed tier (R154). -/
def Shaper.committed (h : Shaper) : Bool := h.cir != 0 && decide (0 < h.tc)

/-- Tokens as RESET_MODE sets them (R158). -/
def Shaper.resetTokens (h : Shaper) (t : Nat) : Shaper :=
  { h with tc := if h.zero then 0 else (uB h.cbs : Int), tp := if h.zero then 0 else (uB h.actPbs : Int), at_ := t }

/-- A change of the active pair: tokens kept, Tp clamped to the new PBS (R158, last row). -/
def Shaper.setActive (h : Shaper) (t pir pbs : Nat) : Shaper :=
  let h' := h.upTo t
  { h' with actPir := pir, actPbs := pbs, tp := min (uB pbs : Int) h'.tp }

/-- The debit of a granted packet (R155): the peak bucket, and the committed bucket when chosen in that tier. -/
def Shaper.debit (h : Shaper) (le : Nat) (com : Bool) : Shaper :=
  { h with tp := h.tp - uB le, tc := if com then h.tc - uB le else h.tc }

/-- A port shaper brought up to date. -/
def PortShaper.upTo (h : PortShaper) (t : Nat) : PortShaper :=
  { h with level := fillI h.level h.rate h.burst (t - h.at_), at_ := max h.at_ t }

/-- The debit of a port bucket, which never falls below -16,777,216 B (R157). -/
def PortShaper.debit (h : PortShaper) (le : Nat) : PortShaper :=
  { h with level := max (-(uB 16777216 : Int)) (h.level - uB le) }

/-! ## Pools (R109, R110) -/

/-- The cells of the device. -/
def totalCells : Nat := 262144

/-- The size of the shared pool. -/
def State.sharedTotal (s : State) : Nat :=
  totalCells - s.rd BUF_HEADROOM_CELLS - s.rd OVF_CTRL_STAGE_CELLS - s.rd BUF_MIN_TOTAL_CELLS

/-- The shared cells not in use. -/
def State.sharedFree (s : State) : Nat := s.sharedTotal - s.buf.sharedUsed

/-- Cells not in use in any pool. -/
def State.freeCells (s : State) : Nat :=
  totalCells - s.buf.headroomUsed - s.buf.stagedUsed - s.buf.sharedUsed - s.buf.minUsed

/-- FREE_CELLS and the low water mark follow the pools (R138). -/
def State.syncCells (s : State) : State :=
  let f := s.freeCells
  (s.wr BUF_STATUS_FREE_CELLS f).wr BUF_LOW_WATER_CELLS (min f (s.rd BUF_LOW_WATER_CELLS))

/-- OVF_STATUS follows the free blocks. -/
def State.syncBlocks (s : State) : State := s.wr OVF_STATUS_FREE_BLOCKS s.buf.freeBlocks

/-- Headroom cells taken at the egress reservation (R111). -/
def State.takeHeadroom (s : State) (n : Nat) : State :=
  { s with buf := { s.buf with headroomUsed := s.buf.headroomUsed + n } }.syncCells

/-- Headroom cells returned (R72, R98, R112). -/
def State.freeHeadroom (s : State) (n : Nat) : State :=
  { s with buf := { s.buf with headroomUsed := s.buf.headroomUsed - n } }.syncCells

/-- On-chip cells of a queue: its head and its run-ahead cells (R196). -/
def Queue.onchip (q : Queue) : Nat := q.headCells + q.runAhead

/-- Whether a queue may spill now (R118). -/
def State.mayOvf (s : State) (q : Queue) : Bool :=
  q.ovfEn && (s.qClass q == 2 || s.qClass q == 3) && s.on OVF_CTRL_ENABLE && s.on DRAM_STATUS_READY

/-- The further blocks that a stored packet of `le` bytes needs (R113). -/
def Queue.blocksFor (q : Queue) (le : Nat) : Nat :=
  ceilDiv (q.lead + q.stored + storedBytes le) 2048 - q.tailBlocks

/-- Where admission puts a packet. -/
inductive Admit where
  | refuse
  | stage (blocks : Nat)
  | onchip (fromMin fromShared : Nat)
deriving DecidableEq, Repr

/-- The test `colour_ok` (R115). -/
def State.colourOk (s : State) (c : Nat) : Bool :=
  if c = cGREEN then true
  else if c = cYELLOW then decide (s.buf.sharedUsed * 100 < s.rd BUF_SHARED_CFG_YELLOW_PCT * s.sharedTotal)
  else decide (s.buf.sharedUsed * 100 < s.rd BUF_SHARED_CFG_RED_PCT * s.sharedTotal)

/-- The shared-pool tests of the procedure (R114): `need` within the free cells and the dynamic threshold. -/
def State.sharedOk (s : State) (q : Queue) (need c : Nat) : Bool :=
  s.colourOk c && decide (need ≤ s.sharedFree) && decide ((q.sharedUsed + need) * 16 ≤ 2 ^ q.alpha * s.sharedFree)

/-- `spill_admit` (R113, R135): red never spills, and a hot memory refuses as a full staging pool does. -/
def State.spillAdmit (s : State) (q : Queue) (n le c : Nat) : Admit :=
  let b := q.blocksFor le
  if c = cRED ∨ s.rd OVF_CTRL_STAGE_CELLS < s.buf.stagedUsed + n ∨ q.maxBlocks < q.tailBlocks + b
      ∨ s.buf.freeBlocks < b ∨ s.rd DRAM_STATUS_HOT ≠ 0 then .refuse
  else .stage b

/-- Admission at commit (R113): the place for a packet of `n` cells, and whether the queue is then in spill state. -/
def State.admission (s : State) (q : Queue) (n le c : Nat) : Admit × Bool :=
  if q.spill then (s.spillAdmit q n le c, true)
  else if s.mayOvf q ∧ q.ovfThr < q.onchip + n then (s.spillAdmit q n le c, true)
  else if q.minUsed + n ≤ q.minCells then (.onchip n 0, false)
  else
    let m := q.minCells - q.minUsed
    let need := n - m
    if s.sharedOk q need c then (.onchip m need, false)
    else if s.mayOvf q then (s.spillAdmit q n le c, true)
    else (.refuse, false)

/-- The minimum and shared tests alone, for run-ahead cells (R195). -/
def State.admitOnchip (s : State) (q : Queue) (n : Nat) : Option (Nat × Nat) :=
  if q.minUsed + n ≤ q.minCells then some (n, 0)
  else
    let m := q.minCells - q.minUsed
    let need := n - m
    if s.sharedOk q need cGREEN then some (m, need) else none

/-- On-chip cells taken from a queue's minimum and from the shared pool. -/
def State.takeOnchip (s : State) (qn m sh : Nat) : State :=
  let q := s.queue qn
  ({ s with buf := { s.buf with minUsed := s.buf.minUsed + m, sharedUsed := s.buf.sharedUsed + sh } }.setQueue qn
    { q with minUsed := q.minUsed + m, sharedUsed := q.sharedUsed + sh }).syncCells

/-- `n` on-chip cells of a queue freed: shared cells first, so that the minimum stays charged first (R122). -/
def State.freeOnchip (s : State) (qn n : Nat) : State :=
  let q := s.queue qn
  let sh := min n q.sharedUsed
  let m := n - sh
  ({ s with buf := { s.buf with minUsed := s.buf.minUsed - m, sharedUsed := s.buf.sharedUsed - sh } }.setQueue qn
    { q with minUsed := q.minUsed - m, sharedUsed := q.sharedUsed - sh }).syncCells

/-- A packet put on the on-chip head. -/
def State.pushHead (s : State) (qn : Nat) (p : QPkt) : State :=
  let q := s.queue qn
  s.setQueue qn { q with head := q.head ++ [p], headCells := q.headCells + cellsOf p.le }

/-- A packet put into staging with `b` further blocks reserved for it (R113, R119). -/
def State.pushStaged (s : State) (qn : Nat) (p : QPkt) (b : Nat) : State :=
  let q := s.queue qn
  let n := cellsOf p.le
  (({ s with buf := { s.buf with stagedUsed := s.buf.stagedUsed + n, freeBlocks := s.buf.freeBlocks - b } }.setQueue qn
    { q with staged := q.staged ++ [p], stagedCells := q.stagedCells + n, tailBlocks := q.tailBlocks + b,
             stored := q.stored + storedBytes p.le, spill := true }).syncCells).syncBlocks

/-- The oldest `bytes` of a queue's chain given up; whole blocks before the rest are freed, and with nothing left
every block is (R113). -/
def State.dropStored (s : State) (qn bytes : Nat) : State :=
  let q := s.queue qn
  let left := q.stored - bytes
  let off := q.lead + bytes
  let freed := if left = 0 then q.tailBlocks else off / 2048
  ({ s with buf := { s.buf with freeBlocks := s.buf.freeBlocks + freed } }.setQueue qn
    { q with stored := left, lead := if left = 0 then 0 else off % 2048, tailBlocks := q.tailBlocks - freed }).syncBlocks

/-- A queue leaves spill state once tail, staging and refill are empty (R123). -/
def State.spillExit (s : State) (qn : Nat) : State :=
  let q := s.queue qn
  if q.tail.isEmpty && q.staged.isEmpty && q.refill.isEmpty then
    s.setQueue qn { q with spill := false, refilling := false }
  else s

/-- Depth in bytes (R125): on-chip, staged and DRAM packets. -/
def Queue.depth (q : Queue) : Nat :=
  sum (q.head.map (·.le)) + sum (q.staged.map (·.le)) + sum (q.tail.map (·.le)) + sum (q.refill.map (·.le))

/-- Every packet of a queue, oldest first. -/
def Queue.packets (q : Queue) : List QPkt := q.head ++ q.refill ++ q.tail ++ q.staged

/-- A deficit returns to 0 when the depth does (R160). -/
def State.syncDeficit (s : State) (qn : Nat) : State :=
  let q := s.queue qn
  let s1 := if q.depth = 0 then s.setQueue qn { q with deficit := 0 } else s
  let n := q.port * 8 + q.sl
  if (s1.mapped.filter (fun e => e.2.port == q.port && e.2.sl == q.sl)).all (fun e => e.2.depth == 0) then
    s1.setNode n { s1.node n with deficit := 0 }
  else s1

/-- Queues that wait for the default queue of their node to grant what it held (R152) come one packet nearer. -/
def State.releaseHolds (s : State) (port sl n : Nat) : State :=
  s.mapped.foldl (fun t e =>
    if e.2.port = port ∧ e.2.sl = sl ∧ e.2.hold ≠ 0 then t.setQueue e.1 { t.queue e.1 with hold := (t.queue e.1).hold - n }
    else t) s

/-- A queue flushed (R126): head cells, staged cells and blocks freed, packets counted in FLUSHED, deficit 0, refill
reads in flight left to be discarded; a flushed bridged write raises BRG_POSTED_ERROR (R390). -/
def State.flushQueue (s : State) (qn : Nat) : State :=
  let q := s.queue qn
  let n := q.packets.length
  let s1 := s.freeOnchip qn (q.headCells + sum (q.refill.map (fun p => cellsOf p.le)))
  let q1 := s1.queue qn
  let s2 := ({ s1 with buf := { s1.buf with stagedUsed := s1.buf.stagedUsed - q.stagedCells, freeBlocks := s1.buf.freeBlocks + q.tailBlocks } }.setQueue qn
    { q1 with head := [], headCells := 0, staged := [], stagedCells := 0, tail := [], refill := [], refilling := false,
              late := q.late + q.refill.length, tailBlocks := 0, lead := 0, stored := 0, spill := false,
              flushed := (q.flushed + n) % 2 ^ 32, deficit := 0 })
  let s3 := (s2.syncCells).syncBlocks
  let s4 := { s3 with obs := { s3.obs with subs := q.packets.foldl (fun m (p : QPkt) => bumpAt m (p.sub * 4 + 3) 1) s3.obs.subs } }
  let s5 := q.packets.foldl (fun t (p : QPkt) =>
    if p.bridged then t.raise 90 { port := some q.port, hd := some (streamHd p.hdr.stream) } else t) s4
  (if q.dflt then s5.releaseHolds q.port q.sl n else s5).syncDeficit qn

end Sys2Proof.Machine
end

