-- ==== Sys2Proof/Machine/BufferOps.lean ====
section
/-! DEFINITION. The spill writer, the refiller and the memory channels (R119 to R136), and the queue buffer tables. -/

namespace Sys2Proof.Machine

/-- A packet with its poison flag set, in the form of its egress (R79). -/
def QPkt.poison (p : QPkt) : QPkt :=
  if p.fab then { p with hdr := { p.hdr with poison := true } } else { p with tlp := { p.tlp with ep := true } }

/-- The spill writer writes a queue's oldest staged packet to the end of its tail and frees its staging cells; the
channels have left self-refresh for it (R119, R136). -/
def State.spillWriteDone (s : State) (qn : Nat) : State :=
  let q := s.queue qn
  match q.staged with
  | [] => s
  | p :: r =>
    let n := cellsOf p.le
    (({ s with buf := { s.buf with stagedUsed := s.buf.stagedUsed - n } }.setQueue qn
      { q with staged := r, stagedCells := q.stagedCells - n, tail := q.tail ++ [p] }).syncCells).wr
      DRAM_STATUS_SELF_REFRESH 0

/-- The cells a refill takes: the queue's minimum first, then the shared pool; none when they do not suffice (R122). -/
def State.refillCells (s : State) (q : Queue) (n : Nat) : Option (Nat × Nat) :=
  let m := min n (q.minCells - q.minUsed)
  if n - m ≤ s.sharedFree then some (m, n - m) else none

/-- Cells that a queue's refill reads in flight will fill. -/
def Queue.inFlight (q : Queue) : Nat := sum (q.refill.map (fun p => cellsOf p.le))

/-- Refill reads of a queue issued one after another, the tail first and then the staged packets, until its on-chip
cells with the reads in flight reach OVF_THRESHOLD, nothing is left, or no cell is free (R121, R122). -/
def State.issueRefill (s : State) (qn : Nat) : Nat → State
  | 0 => s
  | fuel + 1 =>
    let q := s.queue qn
    if q.ovfThr ≤ q.onchip + q.inFlight then s.setQueue qn { q with refilling := false }
    else
      match q.tail with
      | p :: r =>
        match s.refillCells q (cellsOf p.le) with
        | none => s
        | some (m, sh) =>
          let s1 := s.takeOnchip qn m sh
          let q1 := s1.queue qn
          (s1.setQueue qn { q1 with tail := r, refill := q1.refill ++ [p] }).issueRefill qn fuel
      | [] =>
        match q.refill, q.staged with
        | [], p :: r =>
          match s.refillCells q (cellsOf p.le) with
          | none => s
          | some (m, sh) =>
            let n := cellsOf p.le
            let s1 := s.takeOnchip qn m sh
            let q1 := s1.queue qn
            let s2 := { s1 with buf := { s1.buf with stagedUsed := s1.buf.stagedUsed - n } }.setQueue qn
              { q1 with staged := r, stagedCells := q1.stagedCells - n }
            (((s2.dropStored qn (storedBytes p.le)).pushHead qn p).syncCells).issueRefill qn fuel
        | [], [] => s.setQueue qn { q with refilling := false }
        | _ :: _, _ => s

/-- Packets a queue holds behind its head. -/
def Queue.behind (q : Queue) : Nat := q.tail.length + q.staged.length

/-- REFILL_START: the refiller serves a queue whose on-chip occupancy is below REFILL_THRESHOLD, or that still waits
for cells (R121, R122). -/
def State.refillStart (s : State) (qn : Nat) : State :=
  let q := s.queue qn
  if q.spill ∧ q.behind ≠ 0 ∧ (q.onchip < q.refillThr ∨ q.refilling) then
    ((s.setQueue qn { q with refilling := true }).issueRefill qn (q.behind + 1)).spillExit qn
  else s

/-- How a refill read ended. -/
inductive RefillResult where
  | clean
  | corrected
  | dataBad
  | recordBad
  | linkEcc
deriving DecidableEq, Repr

/-- The number of a refill result: 0 clean, 1 corrected, 2 data uncorrectable, 3 tail record uncorrectable, 4 a link
ECC event, corrected or retried. -/
def refillResult (n : Nat) : RefillResult :=
  match n with
  | 1 => .corrected | 2 => .dataBad | 3 => .recordBad | 4 => .linkEcc | _ => .clean

/-- The rest of a queue's DRAM tail lost behind a bad tail record (R134): cells taken for the reads and blocks are
freed, the packets counted in OVF_LOST, DRAM_TAIL_LOST raised; reads still in flight will be discarded. -/
def State.loseTail (s : State) (qn : Nat) : State :=
  let q := s.queue qn
  let lost := q.refill ++ q.tail
  let s1 := s.freeOnchip qn q.inFlight
  let q1 := s1.queue qn
  let s2 := s1.setQueue qn { q1 with refill := [], tail := [], late := q1.late + (q.refill.length - 1) }
  let s3 := s2.dropStored qn (sum (lost.map (fun p => storedBytes p.le)))
  let s4 := (s3.wr OVF_LOST_VALUE (s3.rd OVF_LOST_VALUE + lost.length)).raise 50 { arg := qn }
  s4.syncDeficit qn

/-- The oldest refill read joins the head (R121); its blocks are freed. -/
def State.joinHead (s : State) (qn : Nat) (p : QPkt) : State :=
  let q := s.queue qn
  ((s.setQueue qn { q with refill := q.refill.drop 1 }).dropStored qn (storedBytes p.le)).pushHead qn p

/-- REFILL_COMPLETE: the oldest outstanding refill read of a queue returns through channel `ch` (R121, R123, R134). -/
def State.refillComplete (s : State) (qn ch : Nat) (r : RefillResult) : State :=
  let q := s.queue qn
  if q.late ≠ 0 then s.setQueue qn { q with late := q.late - 1 }
  else
    match q.refill with
    | [] => s
    | p :: _ =>
      let s1 := match r with
        | .clean => s.joinHead qn p
        | .corrected => ((s.incSat DRAM_CH_ERR_CORRECTED ch).raise 48 { arg := ch }).joinHead qn p
        | .linkEcc => ((s.incSat DRAM_CH_ERR_LINK ch).raise 51 { arg := ch }).joinHead qn p
        | .dataBad => ((s.incSat DRAM_CH_ERR_UNCORRECTED ch).raise 49 { arg := ch }).joinHead qn p.poison
        | .recordBad => (s.incSat DRAM_CH_ERR_UNCORRECTED ch).loseTail qn
      let s2 := if (s1.queue qn).refilling then s1.issueRefill qn ((s1.queue qn).behind + 1) else s1
      s2.spillExit qn

/-- MR4_POLL: the channels of `hot` are above the operating range; a channel that becomes hot raises DRAM_THERMAL
(R135). -/
def State.mr4Poll (s : State) (hot : Nat) : State :=
  if s.on DRAM_STATUS_READY then
    let en := s.rd DRAM_CFG_CH_EN
    let old := s.rd DRAM_STATUS_HOT
    (bitsSet (hot % 256) 8).foldl (fun t c =>
      if bit en c && !bit old c then t.raise 53 { arg := c } else t) (s.wr DRAM_STATUS_HOT (Nat.land hot en))
  else s

/-- Whether every tail and the staging pool are empty (R136). -/
def State.dramIdle (s : State) : Bool :=
  s.buf.stagedUsed == 0 && s.sch.queues.all (fun e => e.2.tail.isEmpty && e.2.refill.isEmpty)

/-- The count of idle ticks of R136 at a tick edge. -/
def State.dramTick (s : State) : State :=
  { s with buf := { s.buf with idleTicks := if s.dramIdle then s.buf.idleTicks + 1 else 0 } }

/-- The channels enter self-refresh (R136). -/
def State.enterSelfRefresh (s : State) : State := s.wr DRAM_STATUS_SELF_REFRESH (s.rd DRAM_CFG_CH_EN)

/-- DRAM_SELF_REFRESH: SR_IDLE_TICKS idle ticks have passed (R136). -/
def State.dramSelfRefresh (s : State) : State :=
  let n := s.rd DRAM_CTRL_SR_IDLE_TICKS
  if s.on DRAM_STATUS_READY && n != 0 && s.dramIdle && decide (n ≤ s.buf.idleTicks) then s.enterSelfRefresh else s

/-- Blocks of the overflow memory: 7/8 of the installed capacity in 2 KiB blocks (R130, R134). -/
def State.dramBlocks (s : State) : Nat :=
  (bitsSet (s.rd DRAM_CFG_CH_EN) 8).length * 2 ^ (s.rd DRAM_CFG_CH_SIZE + 1) * 458752

/-- DRAM_TRAINING_DONE: the channels of `fail` failed; they leave CH_EN, and the rest become READY with their
capacity (R132, R133). -/
def State.dramTrainingDone (s : State) (fail : Nat) : State :=
  if s.buf.initRun then
    let en := s.rd DRAM_CFG_CH_EN
    let bad := Nat.land fail en
    let ok := en - bad
    let s1 := (s.wr DRAM_CFG_CH_EN ok).wr DRAM_STATUS_TRAIN_FAIL
      (Nat.lor (Nat.land (s.rd DRAM_STATUS_TRAIN_FAIL) (255 - en)) bad)
    let s2 := (bitsSet bad 8).foldl (fun t c => t.raise 52 { arg := c }) s1
    let s3 := { s2 with buf := { s2.buf with initRun := false } }
    if ok = 0 then s3
    else
      let n := s3.dramBlocks
      ((({ s3 with buf := { s3.buf with freeBlocks := n, totalBlocks := n } }.wr DRAM_STATUS_READY 1).wr
        OVF_BLOCKS_TOTAL_TOTAL n).wr DRAM_STATUS_HOT 0).syncBlocks
  else s

/-- A DRAM_CTRL write: SR_IDLE_TICKS is set, and INIT clears READY and stops the channels (R133). -/
def State.dramCtrlWrite (s : State) (v : Nat) : State :=
  let s1 := s.wr DRAM_CTRL_SR_IDLE_TICKS v
  if bit v 31 then
    { (s1.wr DRAM_STATUS_READY 0).wr DRAM_STATUS_SELF_REFRESH 0 with buf := { s1.buf with initRun := false } }
  else s1

/-- A fresh initialisation of the channels of CH_EN starts; with CH_EN 0 READY stays 0 (R132, R133). -/
def State.dramStart (s : State) : State :=
  { s with buf := { s.buf with initRun := s.rd DRAM_CFG_CH_EN != 0 } }

/-- A DRAM_CFG write: discarded while READY is 1 or with a reserved encoding, else it starts a fresh initialisation
(R8, R133). -/
def State.dramCfgWrite (s : State) (v : Nat) : State :=
  if s.on DRAM_STATUS_READY ∨ bits v 7 6 = 3 ∨ bits v 4 3 = 3 ∨ 4 ≤ bits v 2 0 then s
  else
    (((((s.wr DRAM_CFG_CH_EN (bits v 15 8)).wr DRAM_CFG_RATE (bits v 7 6)).wr DRAM_CFG_RANKS (bits v 5 5)).wr
      DRAM_CFG_CH_SIZE (bits v 4 3)).wr DRAM_CFG_DENSITY (bits v 2 0)).dramStart

/-- Whether the pools leave the shared pool at least 4,096 cells (R110). -/
def poolsOk (headroom stage mins : Nat) : Bool := decide (headroom + stage + mins + 4096 ≤ totalCells)

/-- A pool write discarded (R110). -/
def State.poolRejected (s : State) : State := s.setOn BUF_STATUS_CFG_REJECTED

/-- A BUF_HEADROOM write (R110). -/
def State.headroomWrite (s : State) (v : Nat) : State :=
  if poolsOk (v % 2 ^ 18) (s.rd OVF_CTRL_STAGE_CELLS) (s.rd BUF_MIN_TOTAL_CELLS) then s.wr BUF_HEADROOM_CELLS v
  else s.poolRejected

/-- An OVF_CTRL write (R8, R110). -/
def State.ovfCtrlWrite (s : State) (v : Nat) : State :=
  if v % 2 ^ 16 < 33 then s
  else if poolsOk (s.rd BUF_HEADROOM_CELLS) (v % 2 ^ 16) (s.rd BUF_MIN_TOTAL_CELLS) then
    (s.wr OVF_CTRL_STAGE_CELLS v).wr OVF_CTRL_ENABLE (bits v 31 31)
  else s.poolRejected

/-- Table 0x10 of a queue (R139). -/
def Queue.bufWords (q : Queue) : List Nat :=
  [q.minCells + q.alpha * 2 ^ 16 + b2n q.ovfEn * 2 ^ 31, q.ovfThr + q.refillThr * 2 ^ 16, q.maxBlocks]

/-- Table 0x11 of a queue (R139). -/
def Queue.bufStatus (q : Queue) : List Nat :=
  [q.onchip % 2 ^ 18 + b2n q.spill * 2 ^ 31, q.stagedCells % 2 ^ 16, q.tailBlocks, q.flushed]

/-- A table 0x10 write (R110, R117, R124, R139, R140). -/
def State.bufTableWrite (s : State) (qn : Nat) (ws : List Nat) : State :=
  let q := s.queue qn
  let w0 := ws.getD 0 0
  let mc := w0 % 2 ^ 16
  let thr := ws.getD 1 0 % 2 ^ 16
  let ref := bits (ws.getD 1 0) 31 16
  if thr ≤ ref ∨ thr < 33 then s
  else
    let mins := s.rd BUF_MIN_TOTAL_CELLS - q.minCells + mc
    if poolsOk (s.rd BUF_HEADROOM_CELLS) (s.rd OVF_CTRL_STAGE_CELLS) mins then
      (s.wr BUF_MIN_TOTAL_CELLS mins).setQueue qn
        { q with minCells := mc, alpha := bits w0 18 16, ovfEn := bit w0 31, hostOvf := bit w0 31, ovfThr := thr, refillThr := ref,
                 maxBlocks := ws.getD 2 0 % 2 ^ 25 }
    else s.poolRejected

end Sys2Proof.Machine
end

