-- ==== Sys2Proof/Machine/Route.lean ====
section
/-! DEFINITION. The flow hashes (R84), the flow table (R83 to R89), routes and next hops (R94, R251 to R257). -/

namespace Sys2Proof.Machine

/-! ## CRC-32C (R84) -/

/-- One bit of the reflected CRC-32C. -/
def crcBit (c : Nat) : Nat := if c % 2 = 1 then Nat.xor (c / 2) 0x82F63B78 else c / 2

/-- One byte of the reflected CRC-32C, least significant bit first. -/
def crcByte (c b : Nat) : Nat :=
  crcBit (crcBit (crcBit (crcBit (crcBit (crcBit (crcBit (crcBit (Nat.xor c (b % 256)))))))))

/-- CRC-32C of a list of bytes with a start value (R84). -/
def crc32c (seed : Nat) (bs : List Nat) : Nat := Nat.xor (bs.foldl crcByte seed) 0xFFFFFFFF

/-- The six key bytes of the hashes (R84). -/
def keyBytes (did stream : Nat) : List Nat := leBytes 2 (did % 4096) ++ leBytes 4 stream

/-- The A bucket of a key. -/
def State.bucketA (s : State) (did stream : Nat) : Nat :=
  crc32c (s.rd FWD_HASH_SEED_A_VALUE) (keyBytes did stream) % 2 ^ 19

/-- The B bucket of a key. -/
def State.bucketB (s : State) (did stream : Nat) : Nat :=
  crc32c (s.rd FWD_HASH_SEED_B_VALUE) (keyBytes did stream) % 2 ^ 19

/-- The multipath slot of an ordering ID (R94). -/
def State.mpSlot (s : State) (did stream : Nat) : Nat :=
  crc32c (s.rd FWD_MP_SEED_VALUE) (keyBytes did stream) % 64

/-! ## Flow entries -/

/-- The flow entry at an index. -/
def State.flowAt (s : State) (i : Nat) : Option FlowEnt := SMap.get s.fwd.flows i none

/-- The record beside a flow entry (R259). -/
def State.flowRec (s : State) (i : Nat) : Option FlowRec := SMap.get s.fwd.recs i none

/-- Whether the group of a bucket is enabled (R84, R88). -/
def State.groupOn (s : State) (bucket : Nat) : Bool := bit (s.rd FLOW_GROUP_EN_GROUP_EN) (bucket / 2 ^ 17)

/-- The index of a key within one bucket; a bucket of a disabled group reads as empty (R84, R88). -/
def State.findIn (s : State) (bucket did stream : Nat) : Option Nat :=
  if s.groupOn bucket then
    ((List.range 4).map (bucket * 4 + ·)).find? (fun i =>
      match s.flowAt i with
      | some e => e.src == did && e.stream == stream
      | none => false)
  else none

/-- The index of a key in the flow table (R84). -/
def State.findFlow (s : State) (did stream : Nat) : Option Nat :=
  match s.findIn (s.bucketA did stream) did stream with
  | some i => some i
  | none => s.findIn (s.bucketB did stream) did stream

/-- The flow entry an incoming key matches, when the lookup is enabled (R89). -/
def State.lookupFlow (s : State) (did stream : Nat) : Option (Nat × FlowEnt) :=
  if s.on FWD_CTRL_FLOW_EN then
    (s.findFlow did stream).bind (fun i => (s.flowAt i).map (fun e => (i, e)))
  else none

/-- A flow entry written; its record goes where the rule says. -/
def State.setFlow (s : State) (i : Nat) (e : Option FlowEnt) : State :=
  { s with fwd := { s.fwd with flows := SMap.set s.fwd.flows i e none } }

/-- A record written, or removed. -/
def State.setRec (s : State) (i : Nat) (r : Option FlowRec) : State :=
  { s with fwd := { s.fwd with recs := SMap.set s.fwd.recs i r none } }

/-! ## Routes -/

/-- The route to a DID. -/
def State.route (s : State) (d : Nat) : Route := SMap.get s.herd.routes d {}

/-- A route replaced. -/
def State.setRoute (s : State) (d : Nat) (r : Route) : State :=
  { s with herd := { s.herd with routes := SMap.set s.herd.routes d r {} } }

/-- The port at a hop position. -/
def Route.hop (r : Route) (i : Nat) : Nat :=
  match i with
  | 0 => r.p0 | 1 => r.p1 | 2 => r.p2 | _ => r.p3

/-- The route with a port at a hop position. -/
def Route.setHop (r : Route) (i p : Nat) : Route :=
  match i with
  | 0 => { r with p0 := p } | 1 => { r with p1 := p } | 2 => { r with p2 := p } | _ => { r with p3 := p }

/-- The valid positions of a route, ascending. -/
def Route.positions (r : Route) : List Nat := bitsSet r.hv 4

/-- The hop position that slot `k` of the map names (R257). -/
def Route.slot (r : Route) (k : Nat) : Nat := bits r.map (2 * k + 1) (2 * k)

/-- A map as the number of its 64 positions. -/
def packMap (f : Nat → Nat) : Nat := sum ((List.range 64).map (fun k => f k % 4 * 4 ^ k))

/-- The map filled afresh over the valid positions: slot k to the (k mod n)-th valid hop (R253). -/
def Route.fillMap (r : Route) : Route :=
  let ps := r.positions
  if ps.isEmpty then { r with map := 0 } else { r with map := packMap (fun k => ps.getD (k % ps.length) 0) }

/-- The route entry as a 256-bit number (R257). -/
def Route.image (r : Route) : Nat :=
  b2n r.valid * 2 ^ 255 + b2n r.pinned * 2 ^ 254 + r.dir * 2 ^ 252 + r.hv * 2 ^ 248 + r.p3 * 2 ^ 241 + r.p2 * 2 ^ 234
    + r.p1 * 2 ^ 227 + r.p0 * 2 ^ 220 + r.dist * 2 ^ 209 + r.map

/-- The hop position a packet takes (R94): the flow entry's HOP when it is enabled and valid, else the map's. -/
def State.hopPos (s : State) (did src stream : Nat) (hop : Option Nat) : Option Nat :=
  let r := s.route did
  if !r.valid || r.hv == 0 then none
  else
    match hop with
    | some h => if bit r.hv h then some h else
        let k := r.slot (s.mpSlot src stream)
        if bit r.hv k then some k else none
    | none =>
      let k := r.slot (s.mpSlot src stream)
      if bit r.hv k then some k else none

/-- The egress port towards a DID (R93 step 3, R94). -/
def State.nextHop (s : State) (did src stream : Nat) (hop : Option Nat) : Option Nat :=
  (s.hopPos did src stream hop).map (s.route did).hop

/-- A route after the adjacency at port `p` went down (R254, R253): its position is freed and its slots are shared
round-robin, in slot order, among the surviving hops in ascending port order. -/
def Route.lose (r : Route) (p : Nat) : Route :=
  match r.positions.find? (fun i => r.hop i == p) with
  | none => r
  | some g =>
    let hv := r.hv - 2 ^ g
    let r1 := { r with hv := hv }
    let order := sortBy (r1.positions.map (fun i => (r1.hop i, i)))
    if order.isEmpty then { r1 with map := 0 }
    else
      let slots := (List.range 64).filter (fun k => r.slot k == g)
      let pick (k : Nat) : Nat :=
        if r.slot k == g then (order.getD ((slots.takeWhile (· < k)).length % order.length) (0, 0)).2 else r.slot k
      { r1 with map := packMap pick }

/-- Every route after the adjacency at port `p` went down. -/
def State.loseHop (s : State) (p : Nat) : State :=
  { s with herd := { s.herd with routes := s.herd.routes.map (fun e => (e.1, e.2.lose p)) } }

end Sys2Proof.Machine
end

