-- ==== Sys2Proof/Machine/Vhier.lean ====
section
/-! DEFINITION. Virtual hierarchies: configuration fields of virtual ports, domains of ports, and the routing of TLPs
(R81, R345 to R361). The spec names these fields and gives them no offset, so they are numbered here (log entry 21). -/

namespace Sys2Proof.Machine

/-! ## Configuration fields of a vUSP, of a vDSP and of a management function -/

def vfMemEn : Nat := 0
def vfBusMaster : Nat := 1
def vfPriBus : Nat := 2
def vfSecBus : Nat := 3
def vfSubBus : Nat := 4
def vfMemBase : Nat := 5
def vfMemLimit : Nat := 6
def vfPfBase : Nat := 7
def vfPfLimit : Nat := 8
def vfIoEn : Nat := 9
def vfIoBase : Nat := 10
def vfIoLimit : Nat := 11
def vfMps : Nat := 12
def vfTag10 : Nat := 13
def vfTag14 : Nat := 14
def vfAtomicBlock : Nat := 15
def vfAcsCtrl : Nat := 16
def vfDpcEnable : Nat := 17
def vfDpcUr : Nat := 18
def vfSlotEnables : Nat := 19
def vfPowerOff : Nat := 20
def vfPwrInd : Nat := 21
def vfAttnInd : Nat := 22
def vfLinkDisable : Nat := 23
def vfTargetSpeed : Nat := 24
def vfBusReset : Nat := 25
def vfAspm : Nat := 26
def vfEcrcGen : Nat := 27
def vfUncMask : Nat := 28
def vfUncSeverity : Nat := 29
def vfVecAddr : Nat := 30
def vfVecData : Nat := 31
def vfVecOn : Nat := 32
def vfDpcIntEn : Nat := 33
def vfUncStatus : Nat := 34
def vfL1Ctl : Nat := 35
def vfBar0 : Nat := 36
def vfBar2 : Nat := 37
def vfBar4 : Nat := 38
def vfIoSpace : Nat := 39
def vfBus : Nat := 40
def vfMsixOn : Nat := 41
def vfPtmEn : Nat := 42
def vfVfBar : Nat := 43
/-- The number of configuration fields. -/
def vfCount : Nat := 44

/-- Device number 32 stands for the vUSP of a domain. -/
def vUSP : Nat := 32

/-- The key of configuration field `f` of device `dev` of domain `hd`. -/
def vfKey (hd dev f : Nat) : Nat := (hd * 33 + dev) * 64 + f

/-- The key of configuration field `f` of function `fn` (PF n as 2,048 + n). -/
def fnKey (fn f : Nat) : Nat := (1024 * 33 + fn) * 64 + f

/-- The reset value of configuration field `f`: 0, but for the indicators, which are off (R372), and for the AER mask and
severity, which are as PCI Express gives them (log entry 25). -/
def vfDefault (f : Nat) : Nat :=
  if f = vfPwrInd ∨ f = vfAttnInd then 3
  else if f = vfUncMask then 0x00400000
  else if f = vfUncSeverity then 0x00462030
  else 0

/-- A configuration field by key. -/
def State.vc (s : State) (k : Nat) : Nat := SMap.get s.port.vcfg k (vfDefault (k % 64))

/-- A configuration field written. -/
def State.setVc (s : State) (k v : Nat) : State :=
  { s with port := { s.port with vcfg := SMap.set s.port.vcfg k v (vfDefault (k % 64)) } }

/-- The status of a vDSP. -/
def State.vdsp (s : State) (hd dev : Nat) : Vdsp := SMap.get s.port.vdsp (hd * 32 + dev) {}

/-- The status of a vDSP replaced. -/
def State.setVdsp (s : State) (hd dev : Nat) (v : Vdsp) : State :=
  { s with port := { s.port with vdsp := SMap.set s.port.vdsp (hd * 32 + dev) v {} } }

/-- What a PCIe port holds beyond its registers. -/
def State.pport (s : State) (p : Nat) : PciePort := SMap.get s.port.ports p {}

/-- The same, replaced. -/
def State.setPport (s : State) (p : Nat) (x : PciePort) : State :=
  { s with port := { s.port with ports := SMap.set s.port.ports p x {} } }

/-- The endpoint of device `dev` of domain `hd`: device 0 is the management function, the others as the virtual
hierarchy table names them (R348, R349). -/
def State.vent (s : State) (hd dev : Nat) : Option VEnt := SMap.get s.port.vhier (hd * 32 + dev) none

/-- The vDSP on this device that presents the endpoint of (`did`, `p`). -/
def State.vdspOf (s : State) (did p : Nat) : Option (Nat × Nat) :=
  (s.port.vhier.find? (fun e => e.2 == some { did := did, port := p })).map (fun e => (e.1 / 32, e.1 % 32))

/-- The host domain of a PCIe port (R81): what an upstream port serves, what a downstream port's endpoint is assigned
to; none for a fabric port and for an endpoint in no hierarchy. -/
def State.portHd (s : State) (p : Nat) : Option Nat :=
  if s.isUp p then some (s.rd PORT_CFG_HD p)
  else if s.isFab p then none
  else (s.vdspOf s.did p).map (·.1)

/-- The configuration key base of the virtual port that stands for a PCIe port: its vUSP or its vDSP. -/
def State.portVc (s : State) (p f : Nat) : Nat :=
  if s.isUp p then s.vc (vfKey (s.rd PORT_CFG_HD p) vUSP f)
  else
    match s.vdspOf s.did p with
    | some (hd, dev) => s.vc (vfKey hd dev f)
    | none => 0

/-- Max Payload Size of a port in bytes (R359). -/
def State.mps (s : State) (p : Nat) : Nat := 128 * 2 ^ min 5 (s.portVc p vfMps)

/-- The home DID of a domain from the domain table (R398). -/
def State.homeDid (s : State) (hd : Nat) : Option Nat :=
  let d := SMap.get s.herd.doms hd {}
  if d.valid then some d.home else none

/-! ## Routing of TLPs (R93 step 1, R355) -/

/-- The vDSPs of a domain with their device numbers. -/
def State.vdspsOf (s : State) (hd : Nat) : List Nat :=
  0 :: (s.port.vhier.filter (fun e => e.1 / 32 == hd && e.2.isSome && e.1 % 32 != 0)).map (fun e => e.1 % 32)

/-- Whether an address lies in the memory windows that the host programmed into a vDSP. -/
def State.inMem (s : State) (hd dev a : Nat) : Bool :=
  s.vc (vfKey hd dev vfMemEn) == 1 &&
    ((decide (s.vc (vfKey hd dev vfMemBase) ≤ a) && decide (a ≤ s.vc (vfKey hd dev vfMemLimit)))
      || (decide (s.vc (vfKey hd dev vfPfBase) ≤ a) && decide (a ≤ s.vc (vfKey hd dev vfPfLimit))))

/-- Whether an I/O address lies in the window of a vDSP. -/
def State.inIo (s : State) (hd dev a : Nat) : Bool :=
  s.vc (vfKey hd dev vfIoEn) == 1 && decide (s.vc (vfKey hd dev vfIoBase) ≤ a) && decide (a ≤ s.vc (vfKey hd dev vfIoLimit))

/-- Whether a bus lies behind a vDSP. -/
def State.inBus (s : State) (hd dev bus : Nat) : Bool :=
  s.vc (vfKey hd dev vfSecBus) != 0 && decide (s.vc (vfKey hd dev vfSecBus) ≤ bus) && decide (bus ≤ s.vc (vfKey hd dev vfSubBus))

/-- Where a vDSP leads: the management function, a local port, or a fabric-remote endpoint. -/
inductive Behind where
  | mgmt
  | local_ (p : Nat)
  | remote (did p : Nat)
  | nothing
deriving DecidableEq, Repr

/-- Where device `dev` of domain `hd` leads. -/
def State.behind (s : State) (hd dev : Nat) : Behind :=
  if dev = 0 then .mgmt
  else
    match s.vent hd dev with
    | some e => if e.did = s.did then .local_ e.port else .remote e.did e.port
    | none => .nothing

/-- The first vDSP of a domain that leads to this device and that a test picks. -/
def State.pickLocal (s : State) (hd : Nat) (f : Nat → Bool) : Option Nat :=
  (s.vdspsOf hd).find? (fun d => f d && (match s.behind hd d with
    | .mgmt => true
    | .local_ _ => true
    | _ => false))

/-- The index of the PF whose upstream port serves a domain (R415). -/
def State.hdFn (s : State) (hd : Nat) : Option Nat := ((s.hdPort hd).bind s.portPf).map pfIndex

/-- A window of a domain that holds an address (R386), with its pool entry. -/
def State.windowFor (s : State) (hd a : Nat) : Option (Nat × Window) :=
  s.brg.windows.findSome? (fun e =>
    match e.2 with
    | some w => if w.hd = hd ∧ w.base ≤ a ∧ a < w.base + 2 ^ w.log then some (e.1, w) else none
    | none => none)

/-- Where a TLP enters a hierarchy: at an upstream port, or at the vDSP of an endpoint, which may be fabric-remote
(R399), with the ACS controls in force there: bit 0 V, 1 B, 2 R, 3 C, 4 U, 6 T (R360). -/
structure Entry where
  up : Bool := false
  port : Option Nat := none
  dev : Nat := 0
  acs : Nat := 0
deriving DecidableEq, Repr

/-- The entry that a PCIe port of this device stands for. -/
def State.entryAt (s : State) (p : Nat) : Entry :=
  if s.isUp p then { up := true, port := some p }
  else
    match s.vdspOf s.did p with
    | some (_, dev) =>
      { port := some p, dev := dev, acs := Nat.land (s.portVc p vfAcsCtrl) (s.rd PORT_ACS_CAP_ACS_CAP p) }
    | none => { port := some p }

/-- Source Validation and Translation Blocking (R360). -/
def State.acsBlocks (s : State) (e : Entry) (hd : Nat) (t : Tlp) : Bool :=
  !e.up && !t.kind.isCpl &&
    ((bit e.acs 0 && !s.inBus hd e.dev (t.req / 256)) || (bit e.acs 1 && t.kind.memory && t.addrType != 0))

/-- A TLP that a peer of its entry would take is redirected to the vUSP where the ACS controls say so (R360). -/
def Entry.redirects (e : Entry) (t : Tlp) : Bool :=
  if e.up then false
  else if t.kind.isCpl then bit e.acs 3
  else bit e.acs 2 && !(bit e.acs 6 && t.addrType == 2)

/-- The device a vDSP leads to, as a destination. -/
def State.destOf (s : State) (hd dev : Nat) : Dest :=
  match s.behind hd dev with
  | .mgmt => match s.hdFn hd with
    | some f => .endpoint f
    | none => .windowMiss
  | .local_ q => .port q
  | _ => .windowMiss

/-- The upstream port of a domain as a destination, for a TLP that did not enter there. -/
def State.toHost (s : State) (e : Entry) (hd : Nat) : Dest :=
  if e.up then .windowMiss
  else match s.hdPort hd with
    | some u => .port u
    | none => .windowMiss

/-- Where a Configuration Request to a bus of a domain goes (R355, R382). -/
def State.cfgDest (s : State) (hd bus : Nat) : Dest :=
  match (s.vdspsOf hd).find? (fun d => s.inBus hd d bus) with
  | none => .windowMiss
  | some dev => match s.behind hd dev with
    | .remote did _ => .fabric did
    | _ => s.destOf hd dev

/-- A Configuration Request below a vDSP is Type 0 on the vDSP's secondary bus and Type 1 beyond it (R382). -/
def State.cfgKind (s : State) (hd dev bus : Nat) (wr : Bool) : TlpKind :=
  if s.vc (vfKey hd dev vfSecBus) = bus then (if wr then .cfgWr0 else .cfgRd0) else (if wr then .cfgWr1 else .cfgRd1)

/-- Whether a TLP is a Configuration Request. -/
def TlpKind.isCfg : TlpKind → Bool
  | .cfgRd0 | .cfgWr0 | .cfgRd1 | .cfgWr1 => true
  | _ => false

/-- The destination of a TLP within the hierarchy of a domain that this device serves, with the pool entry of the
host window it matches (R93 step 1, R355, R360, R386). -/
def State.routeHere (s : State) (e : Entry) (hd : Nat) (t : Tlp) : Dest × Option Nat :=
  let take (d : Option Nat) : Dest × Option Nat :=
    match d with
    | some dev =>
      if e.redirects t then (s.toHost e hd, none)
      else if e.port.map Dest.port = some (s.destOf hd dev) then (.windowMiss, none)
      else (s.destOf hd dev, none)
    | none => (s.toHost e hd, none)
  let byBus (b : Nat) : Dest × Option Nat := take (s.pickLocal hd (fun d => s.inBus hd d b))
  if t.kind.memory then
    match s.pickLocal hd (fun d => s.inMem hd d t.addr) with
    | some dev => take (some dev)
    | none =>
      match s.windowFor hd t.addr with
      | some (n, w) => if e.redirects t then (s.toHost e hd, none) else (.fabric (w.fab / 2 ^ 52), some n)
      | none => (s.toHost e hd, none)
  else
    match t.kind with
    | .ioRd | .ioWr => take (s.pickLocal hd (fun d => s.inIo hd d t.addr))
    | .cfgRd0 | .cfgWr0 | .cfgRd1 | .cfgWr1 => if e.up then (s.cfgDest hd (t.addr / 2 ^ 24 % 256), none) else (.windowMiss, none)
    | .cpl | .cplD | .cplLk => byBus (t.req / 256)
    | .msg | .msgD =>
      match t.msgRoute with
      | 0 => (s.toHost e hd, none)
      | 1 => take (s.pickLocal hd (fun d => s.inMem hd d t.addr))
      | 2 => byBus (t.addr / 2 ^ 24 % 256)
      | 3 => (if e.up then .broadcast hd else .windowMiss, none)
      | 5 => (s.toHost e hd, none)
      | _ => (.self, none)
    | _ => (.windowMiss, none)

/-- The destination of a TLP from an endpoint of a domain whose home is another device (R398). -/
def State.routeAway (s : State) (hd : Nat) (t : Tlp) : Dest :=
  match s.homeDid hd with
  | none => .windowMiss
  | some h =>
    if t.kind.memory then if t.addr < 2 ^ 51 then .fabric h else .windowMiss
    else match t.kind with
      | .msg | .msgD => .fabric h
      | _ => .windowMiss

end Sys2Proof.Machine
end

