-- ==== Sys2Proof/Machine/Bridge.lean ====
section
/-! DEFINITION. The bridge: containment tests, byte order (R396), the forms of requests on the fabric and at ports
(R374 to R383, R398, R400), and non-posted entries (R378). -/

namespace Sys2Proof.Machine

/-! ## Containment and freezes (tests 3, 4 and 10 of R97) -/

/-- Whether a port is contained: in DPC, or held by the collector (R362, R549). -/
def State.portContained (s : State) (p : Nat) : Bool :=
  s.on PORT_STATUS_DPC_ACTIVE p || bit (s.rd FAULT_PORT_CONTAINED_VALUE (p / 32)) (p % 32)

/-- Whether a host domain is contained (R550). -/
def State.hdContained (s : State) (d : Nat) : Bool := bit (s.rd FAULT_HD_CONTAINED_VALUE (d / 32)) (d % 32)

/-- Whether an ingress requester stream is frozen (R510, R511). -/
def State.streamFrozen (s : State) (p req : Nat) : Bool :=
  s.streams.any (fun e => match e.2 with
    | some x => x.port == p && x.req == req
    | none => false)

/-- Whether traffic to an egress port is discarded as CONTAINED (test 10, R357). -/
def State.egressContained (s : State) (p : Nat) : Bool :=
  s.portContained p || (s.isDown p && !s.on PORT_STATUS_LINK_UP p)

/-- The service level of a TC at an ingress port (R80). -/
def State.slOf (s : State) (p tc : Nat) : Nat := bits (s.rd TC_SL_MAP_MAP p) (3 * tc + 2) (3 * tc)

/-! ## Byte enables and byte order (R379, R396, R397) -/

/-- Whether byte `k` of a request of `dw` dwords is enabled. -/
def byteEnabled (dw fbe lbe k : Nat) : Bool :=
  if k / 4 = 0 then bit fbe k
  else if k / 4 + 1 = dw then bit lbe (k % 4)
  else true

/-- The swap unit in bytes of a SWAP_UNIT code (R385). -/
def unitBytes (c : Nat) : Nat := 2 ^ (c + 1)

/-- How many bytes directly below `k`, down to `lo`, are enabled. -/
def runBelow (en : Nat → Bool) (lo : Nat) : Nat → Nat
  | 0 => 0
  | k + 1 => if lo < k + 1 ∧ en k then 1 + runBelow en lo k else 0

/-- How many bytes directly above `k`, below `hi`, are enabled. -/
def runAbove (en : Nat → Bool) (hi : Nat) : Nat → Nat → Nat
  | 0, _ => 0
  | fuel + 1, k => if k + 1 < hi ∧ en (k + 1) then 1 + runAbove en hi fuel (k + 1) else 0

/-- Where the byte at fabric address `a` goes, for BYTE_ORDER `order` and units of `u` bytes; `en` tells the enabled
addresses (R396). -/
def swapAddr (order u : Nat) (en : Nat → Bool) (a : Nat) : Nat :=
  let lo := a / u * u
  if order = 1 then
    let b := runBelow en lo a
    let c := runAbove en (lo + u) u a
    a - b + c
  else if order = 2 then lo + (u - 1 - (a - lo))
  else a

/-- The enabled bytes of a request that starts at dword address `f`, each with the address it goes to. -/
def swapped (r : HostReq) : List (Nat × Nat) :=
  let f := r.fab / 4 * 4
  let en (a : Nat) : Bool := decide (f ≤ a) && decide (a < f + 4 * r.dw) && byteEnabled r.dw r.fbe r.lbe (a - f)
  ((List.range (4 * r.dw)).map (f + ·)).filterMap (fun a =>
    if en a then some (a, swapAddr r.order (unitBytes r.unit) en a) else none)

/-- One dword of a bridged write: its address, its enables, its four bytes. -/
structure Dword where
  addr : Nat := 0
  be : Nat := 0
  data : List Nat := [0, 0, 0, 0]
deriving DecidableEq, Repr

/-- The dwords of a write after the byte-order transform, ascending; those with no enable are left out. -/
def writeDwords (r : HostReq) (data : List Nat) : List Dword :=
  let f := r.fab / 4 * 4
  let m := (swapped r).map (fun x => (x.2, byteAt data (x.1 - f)))
  let lo := m.foldl (fun a x => min a (x.1 / 4)) (f / 4 + r.dw + 2)
  let hi := m.foldl (fun a x => max a (x.1 / 4)) 0
  ((List.range (hi + 1 - lo)).map (lo + ·)).filterMap (fun d =>
    let b (i : Nat) : Option Nat := (m.find? (fun x => x.1 == 4 * d + i)).map (·.2)
    let be := sum ([0, 1, 2, 3].map (fun i => b2n (b i).isSome * 2 ^ i))
    if be = 0 then none else some { addr := 4 * d, be := be, data := [0, 1, 2, 3].map (fun i => (b i).getD 0) })

/-- Dwords gathered into runs that one message can carry: contiguous, only the first and the last partly enabled, and
no more than `n` dwords (R379; log entry 24). -/
def runsOf (n : Nat) : List Dword → List (List Dword)
  | [] => []
  | d :: r =>
    match runsOf n r with
    | (e :: es) :: rest =>
      if e.addr = d.addr + 4 ∧ (es.isEmpty ∨ e.be = 15) ∧ es.length + 2 ≤ n then (d :: e :: es) :: rest
      else [d] :: (e :: es) :: rest
    | rest => [d] :: rest

/-! ## Packets on the fabric -/

/-- A fabric packet of this device in its egress form (R77, R237). -/
def fabPkt (h : FabHdr) (data : List Nat) : QPkt :=
  { fab := true, hdr := { h with length := lenField data.length }, data := data, le := 32 + data.length, ingFab := false }

/-- A fabric packet that asks for or names `n` bytes and carries no data. -/
def fabReq (h : FabHdr) (n : Nat) : QPkt :=
  { fab := true, hdr := { h with length := lenField n }, le := 32, ingFab := false }

/-- The header that a bridged TLP carries: destination, carried ordering ID, poison (R79, R379, R388). -/
def bridgeHdr (s : State) (dst stream : Nat) (poison : Bool) : FabHdr :=
  { dst := dst, src := s.did, stream := stream, poison := poison }

/-- Dword 0 of a bridge message with its code in [7:0]. -/
def msgWord (code rest : Nat) : List Nat := leBytes 4 (code + rest)

/-- A bridged memory write as fabric packets: one WRITE when every enable is set, else MASKED_WRITEs in ascending
address order (R379, R380). `type` is WRITE or INTERRUPT. -/
def writePkts (h : FabHdr) (type : Nat) (r : HostReq) (data : List Nat) : List QPkt :=
  let ds := writeDwords r data
  let whole := ds.all (fun d => d.be == 15) && ds.length == r.dw
  if whole then
    [fabPkt { h with type := type, addr := (ds.headD {}).addr % 2 ^ 52 } (ds.flatMap (·.data))]
  else if ds.isEmpty then
    [fabPkt { h with type := tMESSAGE, addr := r.fab / 4 * 4 % 2 ^ 52 } (msgWord 1 0 ++ [0, 0, 0, 0])]
  else
    (runsOf 1023 ds).map (fun run =>
      let f := (run.headD {}).be
      let l := if run.length = 1 then 0 else (run.getLastD {}).be
      fabPkt { h with type := tMESSAGE, addr := (run.headD {}).addr % 2 ^ 52 }
        (msgWord 1 (f * 2 ^ 8 + l * 2 ^ 12) ++ run.flatMap (·.data)))

/-- The dword range that a bridged read covers after the transform: first address, dwords, first and last enables. -/
def readSpan (r : HostReq) : Nat × Nat × Nat × Nat :=
  let m := (swapped r).map (·.2)
  if m.isEmpty then (r.fab / 4 * 4, r.dw, 0, 0)
  else
    let lo := m.foldl (fun a x => min a (x / 4)) (r.fab / 4 + r.dw + 2)
    let hi := m.foldl (fun a x => max a (x / 4)) 0
    let be (d : Nat) : Nat := sum ([0, 1, 2, 3].map (fun i => b2n (m.contains (4 * d + i)) * 2 ^ i))
    (4 * lo, hi + 1 - lo, be lo, if hi = lo then 0 else be hi)

/-- Whether a span has every enable set. -/
def spanWhole (x : Nat × Nat × Nat × Nat) : Bool := x.2.2.1 == 15 && (x.2.1 == 1 || x.2.2.2 == 15)

/-- A bridged read as a fabric packet with its TAG: READ for whole dwords, else MASKED_READ (R379, R380). -/
def readPkt (h : FabHdr) (tag : Nat) (r : HostReq) : QPkt :=
  let x := readSpan r
  if spanWhole x then fabReq { h with type := tREAD, tag := tag, addr := x.1 % 2 ^ 52 } (4 * x.2.1)
  else
    fabPkt { h with type := tMESSAGE, tag := tag, addr := x.1 % 2 ^ 52 }
      (msgWord 2 (x.2.2.1 * 2 ^ 8 + x.2.2.2 * 2 ^ 12 + x.2.1 % 1024 * 2 ^ 16))

/-- The bytes of the host's request from the fabric bytes that start at `base`, transformed back (R397); a byte the
request does not enable reads 0. -/
def readBack (r : HostReq) (base : Nat) (data : List Nat) : List Nat :=
  let f := r.fab / 4 * 4
  let m := swapped r
  (List.range (4 * r.dw)).map (fun k =>
    match m.find? (fun x => x.1 == f + k) with
    | some x => byteAt data (x.2 - base)
    | none => 0)

/-! ## Message TLPs (R380, PCIE_MSG) -/

/-- The 16 bytes of a message TLP header, laid out as PCI Express lays it out (log entry 25). -/
def msgHeader (t : Tlp) : List Nat :=
  [(if t.kind = .msgD then 0x70 else 0x30) + t.msgRoute % 8, t.tc % 8 * 16, (b2n t.ep * 64 + t.dw / 256 % 4) % 256, t.dw % 256,
   t.req / 256 % 256, t.req % 256, t.tag % 256, t.msgCode % 256] ++ (leBytes 8 t.addr).reverse

/-- The message TLP of a 16-byte header. -/
def ofMsgHeader (b : List Nat) : Tlp :=
  { kind := if bit (byteAt b 0) 6 then .msgD else .msg, msgRoute := byteAt b 0 % 8, tc := byteAt b 1 / 16 % 8,
    ep := bit (byteAt b 2) 6, dw := byteAt b 2 % 4 * 256 + byteAt b 3, req := byteAt b 4 * 256 + byteAt b 5,
    tag := byteAt b 6, msgCode := byteAt b 7, addr := leNat (((b.drop 8).take 8).reverse) }

/-! ## Non-posted entries (R378) -/

/-- The number of non-posted entries (R359, R378). -/
def npTotal : Nat := 32768

/-- The lowest free non-posted entry. -/
def State.npFree (s : State) : Option Nat :=
  let n := lowestFree s.ring.np 0
  if n < npTotal then some n else none

/-- A non-posted entry. -/
def State.np (s : State) (n : Nat) : Option NpEnt := SMap.get s.ring.np n none

/-- A non-posted entry written or freed. -/
def State.setNp (s : State) (n : Nat) (e : Option NpEnt) : State :=
  { s with ring := { s.ring with np := SMap.set s.ring.np n e none } }

/-- The lowest free TAG for an acknowledged write: above the tags of the non-posted entries and below those of the
drain markers (R239, R259; log entry 23). -/
def State.ackFree (s : State) : Option Nat :=
  let n := lowestFree (s.ring.np.filter (fun e => decide (npTotal ≤ e.1))) npTotal
  if n < 0xFFC0 then some n else none

/-- Tags that the device may use at a PCIe port (R359). -/
def State.portTags (s : State) (p : Nat) : Nat :=
  let k (f : Nat) : Nat := if s.isUp p then (match s.portPf p with
    | some n => s.vc (fnKey (pfIndex n) f)
    | none => 0) else s.portVc p f
  if s.on PORT_STATUS_FLIT p && k vfTag14 == 1 then 2 ^ 14 else if k vfTag10 == 1 then 2 ^ 10 else 2 ^ 8

/-- The lowest PCIe tag free at a port. -/
def State.portTagFree (s : State) (p : Nat) : Option Nat :=
  let used := s.ring.np.filterMap (fun e => e.2.bind (fun x => if x.port = some p then some (x.tag, ()) else none))
  let n := lowestFree used 0
  if n < s.portTags p then some n else none

/-- The entry that a completion at port `p` with requester `req` and tag `tag` answers (R378, R383). -/
def State.npAtPort (s : State) (p req tag : Nat) : Option (Nat × NpEnt) :=
  s.ring.np.findSome? (fun e => e.2.bind (fun x =>
    if x.port = some p ∧ x.tag = tag ∧ streamReq x.stream = req then some (e.1, x) else none))

/-! ## Local fabric space (R374 to R377) -/

/-- Where a request to local fabric space goes. -/
inductive Local where
  | host (a : Nat)
  | at_ (p : Nat) (t : Tlp)
  | miss
deriving DecidableEq, Repr

/-- The port and the TLP of a request of `dw` dwords at local address `a` by a stream; `wr` tells a write. HOST
requests are routed by R399. -/
def State.localSpace (s : State) (a stream dw fbe lbe : Nat) (wr poison : Bool) : Local :=
  let t : Tlp := { req := streamReq stream, tc := streamTc stream, dw := dw % 1024, fbe := fbe, lbe := lbe, ep := poison }
  if a < 2 ^ 51 then .host a
  else if a < 0xC000000000000 then
    let p := bits a 49 43
    let ad := s.rd BRG_APT_BASE_BASE p * 2 ^ 43 + a % 2 ^ 43
    if s.portExists p && !s.isFab p && s.on BRG_APT_CFG_APT_EN p
        && (s.on BRG_APT_CFG_ANY_HD p || s.portHd p == some (streamHd stream)) then
      .at_ p { t with kind := if wr then .memWr else .memRd, addr := ad, hdrDw := if ad < 2 ^ 32 then 3 else 4 }
    else .miss
  else if a < 0xC001000000000 then
    let p := bits a 34 28
    if s.isDown p then
      let k : TlpKind := if bit a 35 then (if wr then .cfgWr1 else .cfgRd1) else (if wr then .cfgWr0 else .cfgRd0)
      .at_ p { t with kind := k, addr := bits a 27 12 * 2 ^ 16 + a % 2 ^ 12, hdrDw := 3 }
    else .miss
  else .miss

/-- The vDSP of a domain whose fabric-remote endpoint sends from a DID with a requester ID (R399). -/
def State.remoteDev (s : State) (hd did req : Nat) : Option Nat :=
  (s.vdspsOf hd).find? (fun d =>
    match s.behind hd d with
    | .remote x _ => x == did && s.inBus hd d (req / 256)
    | _ => false)

/-- The entry of a HOST request: the vDSP of the endpoint that sent it, else the upstream port's far side. -/
def State.hostEntry (s : State) (hd did req : Nat) : Option Entry :=
  (s.remoteDev hd did req).map (fun d => { dev := d, acs := s.vc (vfKey hd d vfAcsCtrl) })

end Sys2Proof.Machine
end

