-- ==== Sys2Proof/Machine/EccCode.lean ====
section
/-! DEFINITION. The Hsiao code, the words of the SRAM groups, and reads that find errors (R521 to R533). -/

namespace Sys2Proof.Machine

/-! ## The code (R522, R523) -/

/-- The number of ones in a byte. -/
def weight8 (n : Nat) : Nat := (bitsSet n 8).length

/-- The column of each data bit: the vectors of weight 3 in ascending order, then eight of weight 5 (R522). -/
def hsiaoCols : List Nat :=
  (List.range 256).filter (fun v => weight8 v == 3) ++ [0x1F, 0x2F, 0x37, 0x3B, 0x3D, 0x3E, 0x4F, 0x57]

/-- The check byte of 64 data bits. -/
def checkByte (data : Nat) : Nat :=
  (hsiaoCols.foldl (fun (a : Nat × Nat) c => (if a.2 % 2 = 1 then Nat.xor a.1 c else a.1, a.2 / 2)) (0, data)).1

/-- What a read of a stored word finds (R523). -/
inductive EccRes where
  | clean
  | fixed (data : Nat)
  | bad
deriving DecidableEq, Repr

/-- The syndrome of a stored word. -/
def eccSyndrome (data check : Nat) : Nat := Nat.xor check (checkByte data)

/-- A read of a stored word, decided by its syndrome. -/
def eccDecode (data check : Nat) : EccRes :=
  let y := eccSyndrome data check
  if y = 0 then .clean
  else
    match hsiaoCols.findIdx? (· == y) with
    | some i => .fixed (Nat.xor data (2 ^ i))
    | none => if weight8 y = 1 then .fixed data else .bad

/-! ## Groups and words (R521) -/

/-- The words of each group. -/
def eccSizes : List Nat :=
  [4194304, 4194304, 524288, 262144, 65536, 98304, 262144, 16384, 786432, 786432, 131072, 131072, 1179648, 16384, 262144, 196608]

/-- The words of group `g`. -/
def eccSize (g : Nat) : Nat := eccSizes.getD g 0

/-- All words. -/
def eccTotal : Nat := sum eccSizes

/-- The group and index of word `n` counted over all groups. -/
def eccWordAt (n : Nat) : Nat × Nat :=
  (List.range 16).foldl (fun (a : Nat × Nat) g => if a.1 = g ∧ eccSize g ≤ a.2 then (g + 1, a.2 - eccSize g) else a) (0, n)

/-- Where a word stands in the tables of protection. -/
def eccKey (g w : Nat) : Nat := g * 2 ^ 22 + w

/-- The group of the Chamois memories. -/
def gMEM : Nat := 12

/-- The word of an address of the core memories: the TCMs of cores 0 to 7, then both L2s (log entry 51). -/
def memWord (a : Nat) : Nat := if a < 0x40000000 then (a - 0x10000000) / 8 else 131072 + (a - 0x40000000) / 8

/-- The address of a word of the core memories. -/
def wordAddr (w : Nat) : Nat := if w < 131072 then 0x10000000 + 8 * w else 0x40000000 + 8 * (w - 131072)

/-- A word stored as raw data and check byte, or again as its owner's. -/
def State.setEcc (s : State) (k : Nat) (x : Option (Nat × Nat)) : State :=
  { s with ecc := { s.ecc with words := SMap.set s.ecc.words k x none } }

/-! ## Remap (R531 to R533) -/

/-- Whether a word index is mapped in a group's CAM. -/
def State.mapped_ (s : State) (g w : Nat) : Bool :=
  (List.range 16).any (fun e =>
    let x := SMap.get s.ecc.remap (g * 16 + e) 0
    bit x 31 && x % 2 ^ 22 == w)

/-- A run-time entry added: the spare takes the word; none when all eight are in use. -/
def State.addRemap (s : State) (g e w : Nat) : State :=
  let m := SMap.set s.ecc.remap (g * 16 + e) (2 ^ 31 + w) 0
  let n := ((List.range 8).filter (fun i => bit (SMap.get m (g * 16 + 8 + i) 0) 31)).length
  ({ s with ecc := { s.ecc with remap := m } }).wr ECC_GROUP_REMAP_RUN_USED n g

/-- A free run-time entry of a group. -/
def State.freeRemap (s : State) (g : Nat) : Option Nat :=
  ([8, 9, 10, 11, 12, 13, 14, 15]).find? (fun e => !bit (SMap.get s.ecc.remap (g * 16 + e) 0) 31)

/-- A word whose corrections reached the threshold is remapped (R532). -/
def State.autoRemap (s : State) (g w : Nat) : State :=
  if !s.on ECC_CTRL_AUTO_REMAP ∨ s.mapped_ g w ∨ SMap.get s.ecc.corr (eccKey g w) 0 < s.rd ECC_CTRL_REMAP_THRESHOLD then s
  else
    match s.freeRemap g with
    | some e => (s.addRemap g e w).raise 35 { arg := g }
    | none => s.raise 36 { arg := g }

/-! ## Reads (R525, R526) -/

/-- A corrected read counted, raised, and held against the remap threshold (R525, R532). -/
def State.noteFixed (s : State) (g w : Nat) : State :=
  let k := eccKey g w
  let s1 := (s.incSat ECC_GROUP_CORR_VALUE g).raise 32 { arg := g }
  { s1 with ecc := { s1.ecc with corr := SMap.set s1.ecc.corr k (SMap.get s1.ecc.corr k 0 + 1) 0 } }.autoRemap g w

/-- An uncorrectable read counted, recorded and raised (R526, R530). -/
def State.noteBad (s : State) (g w : Nat) (scrub : Bool) : State :=
  ((((s.incSat ECC_GROUP_UNCORR_VALUE g).setOn ECC_GROUP_LAST_VALID g).wr ECC_GROUP_LAST_BY_SCRUB (b2n scrub) g).wr
    ECC_GROUP_LAST_INDEX w g).raise (if g = 0 then 34 else 33) { arg := g }

/-- The masked bytes of `x` put over `d`. -/
def mergeBytes (d x mask : Nat) : Nat :=
  leNat ((List.range 8).map (fun i => (if bit mask i then x else d) / 256 ^ i % 256))

/-- The merge entry of a word of the core memories. -/
def State.mergeOf (s : State) (w : Nat) : Option MergeEnt := s.ecc.merge.find? (fun e => e.word == w)

/-- A read of one word: the error class, and the state after the write-back of a correction. The core memories show the
merged bytes (R525, R526, R528). -/
def State.eccRead (s : State) (g w : Nat) (scrub : Bool := false) : Bool × State :=
  let k := eccKey g w
  match SMap.get s.ecc.words k none with
  | none => (true, s)
  | some (d, c) =>
    let store (t : State) (x : Nat) : State :=
      if g = gMEM then
        let y := match t.mergeOf w with
          | some e => mergeBytes x e.data e.mask
          | none => x
        { t with mem := t.mem.writes (wordAddr w) (leBytes 8 y) }.setEcc k none
      else t.setEcc k (some (x, checkByte x))
    match eccDecode d c with
    | .clean => (true, if g = gMEM then store s d else s)
    | .fixed x => (true, (store s x).noteFixed g w)
    | .bad => (false, s.noteBad g w scrub)

/-- The words of the core memories under `n` bytes from an address. -/
def memWords (a n : Nat) : List Nat :=
  if n = 0 then [] else (List.range ((a + n - 1) / 8 - a / 8 + 1)).map (fun i => memWord (8 * (a / 8 + i)))

/-- The words under a read of the core memories: whether all are good. -/
def State.eccMem (s : State) (a n : Nat) : Bool × State :=
  (memWords a n).foldl (fun (x : Bool × State) w =>
    let y := x.2.eccRead gMEM w
    (x.1 && y.1, y.2)) (true, s)

/-! ## Merge buffers and writes of the core memories (R524, R527, R528) -/

/-- A word written whole by its owner: fresh check bits, and corrections count afresh. -/
def State.eccFresh (s : State) (w : Nat) : State :=
  let s1 := s.setEcc (eccKey gMEM w) none
  { s1 with ecc := { s1.ecc with corr := SMap.set s1.ecc.corr (eccKey gMEM w) 0 0, merge := s1.ecc.merge.filter (fun e => e.word != w) } }

/-- A merge entry drains: a full mask is written without a read; a partial one reads the word, and a word that cannot
be corrected is stored merged with the marker. -/
def State.drainEntry (s : State) (e : MergeEnt) : State :=
  let s0 : State := { s with ecc := { s.ecc with merge := s.ecc.merge.filter (fun x => x.word != e.word) } }
  if e.mask = 255 then s0.eccFresh e.word
  else
    match SMap.get s.ecc.words (eccKey gMEM e.word) none with
    | none => s0
    | some (d, _) =>
      let (ok, s1) := s.eccRead gMEM e.word
      let s2 : State := { s1 with ecc := { s1.ecc with merge := s1.ecc.merge.filter (fun x => x.word != e.word) } }
      if ok then s2
      else
        let m := mergeBytes d e.data e.mask
        s2.setEcc (eccKey gMEM e.word) (some (m, Nat.xor (checkByte m) 3))

/-- MERGE_DRAIN: the entry of a word of the core memories drains. -/
def State.mergeDrain (s : State) (w : Nat) : State :=
  match s.mergeOf w with
  | some e => s.drainEntry e
  | none => s

/-- One byte put into the merge entry of its word; a full buffer drains its oldest entry first (R528). -/
def State.mergeByte (s : State) (a b : Nat) : State :=
  let w := memWord a
  let i := a % 8
  match s.mergeOf w with
  | some e =>
    let e' : MergeEnt := { e with data := mergeBytes e.data (b * 256 ^ i) (2 ^ i), mask := setBit e.mask i true }
    if e'.mask = 255 then s.eccFresh w
    else { s with ecc := { s.ecc with merge := s.ecc.merge.map (fun x => if x.word = w then e' else x) } }
  | none =>
    let s1 := if 8 ≤ s.ecc.merge.length then (match s.ecc.merge with
      | o :: _ => s.drainEntry o
      | [] => s) else s
    { s1 with ecc := { s1.ecc with merge := s1.ecc.merge ++ [{ word := w, data := b * 256 ^ i, mask := 2 ^ i }] } }

/-- Bytes written to the core memories: whole words take fresh check bits, narrower writes go to the merge buffer. -/
def State.memPut (s : State) (a : Nat) (bytes : List Nat) : State :=
  let n := bytes.length
  let s1 := (memWords a n).foldl (fun (t : State) w =>
    let lo := wordAddr w
    if a ≤ lo ∧ lo + 8 ≤ a + n then t.eccFresh w
    else ((List.range 8).filter (fun i => decide (a ≤ lo + i) && decide (lo + i < a + n))).foldl (fun (u : State) i =>
      u.mergeByte (lo + i) (byteAt bytes (lo + i - a))) t) s
  { s1 with mem := s1.mem.writes a bytes }

/-! ## Scrubbing (R529, R530) -/

/-- SCRUB_READ: the next word is read, unless its merge entry has still to drain. -/
def State.scrubRead (s : State) : State :=
  let (g, w) := eccWordAt s.ecc.scrub
  if !s.on ECC_CTRL_SCRUB_EN ∨ s.rd PWR_STATUS_STATE = 2 ∨ (g = gMEM ∧ (s.mergeOf w).isSome) then s
  else
    let s1 := (s.eccRead g w true).2
    let n := s.ecc.scrub + 1
    let s2 : State := { s1 with ecc := { s1.ecc with scrub := if n = eccTotal then 0 else n } }
    if n = eccTotal then s2.inc ECC_STATUS_SCRUB_PASSES else s2

end Sys2Proof.Machine
end

