-- ==== Sys2Proof/Machine/Commit.lean ====
section
/-! DEFINITION. Linking into queues, discards and their answers, and copies (R97 to R106, R112, R113). -/

namespace Sys2Proof.Machine

/-! ## Reasons (R97) -/

def rMALFORMED : Nat := 1
def rCONTAINED : Nat := 2
def rFROZEN : Nat := 3
def rUNSUPPORTED : Nat := 4
def rACS : Nat := 5
def rWINDOW_MISS : Nat := 6
def rNO_ROUTE : Nat := 7
def rFLOW_DROP : Nat := 8
def rMISS_DROP : Nat := 9
def rTOO_LARGE : Nat := 10
def rMETER_RED : Nat := 11
def rBUFFER_FULL : Nat := 12
def rTRAP_FULL : Nat := 13
def rMIRROR_DROP : Nat := 14

/-- PCIe completion statuses. -/
def cplSC : Nat := 0
def cplUR : Nat := 1
def cplRRS : Nat := 2
def cplCA : Nat := 4

/-! ## Linking -/

/-- The queue of an egress port, SL and subscriber (R96). -/
def State.queueFor (s : State) (p sl sub : Nat) : Option Nat := s.findQueue p sl sub

/-- The largest packet that leaves at a port, header included (test 11 of R97). -/
def State.tooLarge (s : State) (p : Nat) (k : QPkt) : Bool :=
  if s.isFab p then decide (4128 < k.le) else decide (s.mps p < k.le - 4 * k.tlp.hdrDw)

/-- A packet linked into a queue by admission for colour `c` (R112, R113); none when admission refuses it or no queue
takes it. -/
def State.link (s : State) (p : Nat) (k : QPkt) (c : Nat) : Option State :=
  match s.queueFor p k.sl k.sub with
  | none => none
  | some qn =>
    let q := s.queue qn
    let n := cellsOf k.le
    let k := { k with commitNs := s.ns, colour := c }
    let x := s.admission q n k.le c
    match x.1 with
    | .refuse => none
    | .stage b => some ((s.setQueue qn { s.queue qn with spill := true }).pushStaged qn k b)
    | .onchip m sh => some ((s.takeOnchip qn m sh).pushHead qn k)

/-- A refused admission may still have put the queue into spill state (R113). -/
def State.noteSpill (s : State) (p : Nat) (k : QPkt) (c : Nat) : State :=
  match s.queueFor p k.sl k.sub with
  | none => s
  | some qn =>
    let q := s.queue qn
    if (s.admission q (cellsOf k.le) k.le c).2 && !q.spill then s.setQueue qn { q with spill := true } else s

/-- The egress port of a fabric packet of an ordering ID, and whether a move holds it (R94, R259 step 2). -/
def State.fabPort (s : State) (dst src stream : Nat) (hop : Option Nat) : Option Nat × Bool :=
  match s.herd.moves.findSome? (fun e => e.2.bind (fun m => if m.src = src ∧ m.stream = stream then some m else none)) with
  | some m =>
    let h := match m.why with
      | .engine h => some h
      | .replace _ _ img => if bit img 42 then some (bits img 41 40) else none
      | .delete _ _ => none
    (s.nextHop dst src stream h, true)
  | none => (s.nextHop dst src stream hop, false)

/-- A fabric packet that the device itself makes: a packet to its own DID waits for local delivery, any other takes
tests 8, 10, 11 and 13 of R97 with colour green. The reason is 0 when it was taken. -/
def State.sendFab (s : State) (k : QPkt) : Nat × State :=
  if k.hdr.dst = s.did then (0, { s with loop := s.loop ++ [k] })
  else
    match s.fabPort k.hdr.dst k.hdr.src k.hdr.stream none with
    | (none, _) => (rNO_ROUTE, s)
    | (some p, held) =>
      if s.egressContained p then (rCONTAINED, s)
      else if s.tooLarge p k then (rTOO_LARGE, s)
      else
        match s.link p { k with held := held } cGREEN with
        | some t => (0, t)
        | none => (rBUFFER_FULL, s.noteSpill p k cGREEN)

/-- The SL and subscriber of a packet the device makes, by a port's maps (R80, R89). -/
def State.marked (s : State) (k : QPkt) (p : Nat) : QPkt :=
  { k with sl := s.slOf p (streamTc k.hdr.stream), sub := s.rd PORT_FWD_CFG_DEF_SUBSCRIBER p, ing := p }

/-- A packet that no port brought in, sent: the spec gives such a packet no service level or subscriber, so both are
free values (log entry 44). -/
def State.sendOwn (s : State) (k : QPkt) : Nat × State :=
  let v := s.freeVal (2 ^ 16)
  s.useFree.sendFab { k with sl := v % 8, sub := v / 8 }

/-- A COMPLETION that answers the fabric packet `h`: status, data, poison (R238). -/
def State.reply (s : State) (h : FabHdr) (status : Nat) (data : List Nat) (poison : Bool := false) : QPkt :=
  let base : FabHdr :=
    { type := tCOMPLETION, dst := h.src, src := s.did, stream := h.stream, tag := h.tag, poison := poison,
      ts := status % 256 + b2n (!data.isEmpty) * 256, addr := if data.isEmpty then 0 else h.addr }
  if data.isEmpty then { fab := true, hdr := base, le := 32, ingFab := false } else fabPkt base data

/-- An answer sent, marked by the maps of port `p`. -/
def State.answerFab (s : State) (p : Nat) (h : FabHdr) (status : Nat) (data : List Nat := []) (poison : Bool := false) :
    State :=
  (s.sendFab (s.marked (s.reply h status data poison) p)).2

/-- The status a requester sees for a reason (R100): for a PCIe requester 0 stands for no answer. -/
def pcieStatus (reason : Nat) (ca : Bool) : Option Nat :=
  if reason = rMALFORMED then none
  else if reason = rACS then some cplCA
  else if reason = rCONTAINED ∧ ca then some cplCA
  else some cplUR

/-- The fabric status for a reason (R100). -/
def fabStatus (reason : Nat) : Option Nat :=
  if reason = rMALFORMED then none
  else if reason = rCONTAINED then some stREMOTE_ERROR
  else if reason = rFROZEN then some stFROZEN
  else if reason = rWINDOW_MISS then some stACCESS_FAULT
  else if reason = rNO_ROUTE then some stREMOTE_UNREACHABLE
  else if reason = rUNSUPPORTED ∨ reason = rACS ∨ reason = rFLOW_DROP ∨ reason = rMISS_DROP then some stNOT_PERMITTED
  else some stRESOURCE_LIMIT

/-- The code of a bridge message. -/
def msgCodeOf (data : List Nat) : Nat := byteAt data 0

/-- Whether a fabric packet asks for a COMPLETION with a result (R380, R236, R240, R203). -/
def fabNonPosted (h : FabHdr) (data : List Nat) : Bool :=
  h.type == tREAD || h.type == tADMIN || h.type == tCUE ||
    (h.type == tMESSAGE && !h.drain && (msgCodeOf data == 2 || msgCodeOf data == 0x20 || msgCodeOf data == 0x21)) ||
    (h.ackReq && !h.drain && decide (0xC000000000000 ≤ h.addr) && (h.type == tWRITE || h.type == tMESSAGE))

/-- Whether a fabric packet is a posted write in the sense of R390. -/
def fabPosted (h : FabHdr) (data : List Nat) : Bool :=
  !h.ackReq && (h.type == tWRITE || h.type == tINTERRUPT || (h.type == tMESSAGE && !h.drain && msgCodeOf data == 1))

/-! ## Discards -/

/-- A drop counted at an ingress port (R98, R108). -/
def State.countDrop (s : State) (p reason : Nat) : State :=
  { s with fwd := { s.fwd with drops := bumpAt s.fwd.drops (p * 16 + reason) 1 } }

/-- LAST_DROP takes the discard when capture is armed (R107). -/
def State.captureDrop (s : State) (p egress reason did stream : Nat) : State :=
  if s.on FWD_CTRL_CAPTURE_ARM then
    ((((((s.wr FWD_CTRL_CAPTURE_ARM 0).wr LAST_DROP_0_VALID 1).wr LAST_DROP_0_REASON reason).wr
      LAST_DROP_0_EGRESS_PORT egress).wr LAST_DROP_0_INGRESS_PORT p).wr LAST_DROP_1_SRC_DID did).wr
      LAST_DROP_2_STREAM_ID stream
  else s

/-- The fault source of a reason (R101). -/
def dropSource (reason : Nat) : Option Nat :=
  if reason = rMALFORMED then some 84
  else if reason = rACS then some 85
  else if reason = rUNSUPPORTED then some 86
  else if reason = rNO_ROUTE then some 150
  else none

/-- The tokens of an open debit returned, capped at the bucket sizes (R72, R98). -/
def State.refund (s : State) (k : Pkt) : State :=
  if k.metered then
    let x := s.sch.meters
    let m := SMap.get x k.meter {}
    let f := SMap.get s.sch.profiles m.profile {}
    let m' := { m with visC := min (uB f.cbs) (m.visC + uB k.debitC), visP := min (uB f.pbs) (m.visP + uB k.debitP) }
    { s with sch := { s.sch with meters := SMap.set x k.meter m' {} } }
  else s

/-- The debit becomes committed (R99). -/
def State.commitDebit (s : State) (k : Pkt) : State :=
  if k.metered then
    let x := s.sch.meters
    let m := SMap.get x k.meter {}
    let m' := { m with comC := m.comC - uB k.debitC, comP := m.comP - uB k.debitP }
    { s with sch := { s.sch with meters := SMap.set x k.meter m' {} } }
  else s

/-- The colour counters of a meter's set count a packet (R147): packets and bytes of each colour. -/
def State.countColour (s : State) (k : Pkt) : State :=
  if k.metered then
    let b := (SMap.get s.sch.meters k.meter {}).cset * 6 + k.colour * 2
    { s with sch := { s.sch with colour := bumpAt (bumpAt s.sch.colour b 1) (b + 1) k.len } }
  else s

/-- The subject of a packet's event: its ingress requester stream (R81, R101). -/
def State.streamSubj (s : State) (k : Pkt) : Subj :=
  { port := some k.ing, stream := some (streamReq k.keyStream),
    hd := if k.fab then some (streamHd k.keyStream) else k.hd }

/-- A discarded packet (tests 2 to 14 of R97): refund, cells released, counted, captured and reported (R98, R101). -/
def State.noteDrop (s : State) (k : Pkt) (reason : Nat) : State :=
  let s1 := ((s.refund k).freeHeadroom k.cells).countDrop k.ing reason
  let s2 := s1.captureDrop k.ing k.egress reason k.keyDid k.keyStream
  let s3 := match dropSource reason with
    | some n => s2.raise n (s2.streamSubj k)
    | none => s2
  let s4 := if reason = rTOO_LARGE ∨ reason = rMETER_RED ∨ reason = rBUFFER_FULL ∨ reason = rTRAP_FULL then
      { s3 with obs := { s3.obs with subs := bumpAt s3.obs.subs (k.sub * 4 + 2) 1 } } else s3
  if reason = rTRAP_FULL then s4.inc TRAP_DROPS_VALUE else s4

/-- A discarded packet with its answer (R98, R100, R101, R390). -/
def State.discard (s : State) (k : Pkt) (reason : Nat) (data : List Nat) : State :=
  let s4 := s.noteDrop k reason
  if k.fab then
    let s5 := if fabPosted k.hdr data then s4.raise 90 (s4.streamSubj k) else s4
    if fabNonPosted k.hdr data then
      match fabStatus reason with
      | some st => s5.answerFab k.ing k.hdr st
      | none => s5
    else if reason = rNO_ROUTE ∧ k.hdr.ackReq ∧ k.hdr.type = tWRITE then
      s5.answerFab k.ing k.hdr stREMOTE_UNREACHABLE
    else s5
  else if k.tlp.kind.nonPosted then
    match pcieStatus reason (decide (k.egress < 96) && (s4.pport k.egress).dpcCa) with
    | some st => s4.emit (.answer k.ing k.tlp.req k.tlp.tag st [])
    | none => s4
  else s4

/-- A packet that fails its check is undone: nothing of the forwarding pipeline counts it (R72). -/
def State.undo (s : State) (k : Pkt) : State := (s.refund k).freeHeadroom k.cells

/-- The packets in reception at a port fail their check (R75). -/
def State.failPackets (s : State) (p : Nat) : State :=
  let l := s.fwd.pkts.filter (fun k => k.ing == p)
  l.foldl (fun t k => t.undo k) { s with fwd := { s.fwd with pkts := s.fwd.pkts.filter (fun k => k.ing != p) } }

/-! ## Copies (R103 to R106) -/

/-- A TLP header as bytes, laid out as PCI Express lays it out (log entry 25). -/
def Tlp.header (t : Tlp) : List Nat :=
  let four := t.hdrDw == 4
  let fmt := (if t.kind.hasData then 0x40 else 0) + (if four then 0x20 else 0)
  let code := match t.kind with
    | .memRd | .memWr => 0
    | .lockRd => 1
    | .ioRd | .ioWr => 2
    | .cfgRd0 | .cfgWr0 => 4
    | .cfgRd1 | .cfgWr1 => 5
    | .msg | .msgD => 0x10 + t.msgRoute % 8
    | .cpl | .cplD => 10
    | .cplLk => 11
    | .fetchAdd => 12
    | .swap => 13
    | .cas => 14
    | .other => 31
  let d0 := [fmt + code, t.tc % 8 * 16 + t.tag / 512 % 2 * 128 + t.tag / 256 % 2 * 8 + b2n t.ido * 4,
    b2n t.td * 128 + b2n t.ep * 64 + b2n t.relaxed * 32 + t.addrType % 4 * 4 + t.dw / 256 % 4, t.dw % 256]
  if t.kind.isCpl then
    d0 ++ [t.cplr / 256 % 256, t.cplr % 256, t.status % 8 * 32 + t.byteCount / 256 % 16, t.byteCount % 256,
      t.req / 256 % 256, t.req % 256, t.tag % 256, t.addr % 128]
  else if t.kind.byId then
    d0 ++ [t.req / 256 % 256, t.req % 256, t.tag % 256, t.lbe % 16 * 16 + t.fbe % 16] ++ (leBytes 4 t.addr).reverse
  else if t.kind = .msg ∨ t.kind = .msgD then
    d0 ++ [t.req / 256 % 256, t.req % 256, t.tag % 256, t.msgCode % 256] ++ (leBytes 8 t.addr).reverse
  else
    d0 ++ [t.req / 256 % 256, t.req % 256, t.tag % 256, t.lbe % 16 * 16 + t.fbe % 16]
      ++ (leBytes (if four then 8 else 4) t.addr).reverse

/-- The slot size of a session (R105, R107). -/
def State.slotSize (s : State) (n : Nat) : Nat :=
  match s.rd SESS_CTRL_SLOT_SIZE n with
  | 0 => 256 | 1 => 512 | 2 => 1024 | _ => 4096

/-- The SL class that a copy may not use at its egress port (R106), and the enqueue of the copy. -/
def State.linkCopy (s : State) (k : QPkt) : Option State :=
  if k.hdr.dst = s.did then some { s with loop := s.loop ++ [k] }
  else
    match s.nextHop k.hdr.dst k.hdr.src k.hdr.stream none with
    | none => none
    | some p => if s.slClass p k.sl < 2 ∨ s.egressContained p then none else s.link p k cGREEN

/-- A copy of a packet to a session (R104 to R106). `bytes` is the packet in its ingress form, `l` its metered length. -/
def State.copyTo (s : State) (n : Nat) (egr : Bool) (k : QPkt) (bytes : List Nat) (l egress commit : Nat) : State :=
  if !s.on SESS_CTRL_EN n then s
  else
    let seen := SMap.get s.fwd.sessSeen n 0
    let s1 := { s with fwd := { s.fwd with sessSeen := SMap.set s.fwd.sessSeen n (seen + 1) 0 } }
    let every := max 1 (s.rd SESS_CTRL_SAMPLE_N n)
    if seen % every ≠ 0 then s1
    else
      let size := s.slotSize n
      let seq := s.rd SESS_SEQ_VALUE n
      let cut := decide (size - 16 < bytes.length)
      let poison := if k.fab then k.hdr.poison else k.tlp.ep
      let flags := n + b2n egr * 8 + b2n cut * 16 + b2n poison * 32 + b2n (k.colour == cYELLOW) * 64 + b2n (k.colour == cRED) * 128
      let rec_ := [flags, k.sl % 8] ++ leBytes 2 l ++ [k.ing % 256, egress % 256, 0, 0] ++ leBytes 8 commit
      let body := rec_ ++ bytes.take (size - 16)
      let padded := body ++ List.replicate (ceilDiv body.length 4 * 4 - body.length) 0
      let dest := s.rd64 SESS_DEST_LO_VALUE SESS_DEST_HI_VALUE n + seq % max 1 (s.rd SESS_SLOTS_SLOTS n) * size
      let h : FabHdr :=
        { type := tWRITE, dst := dest / 2 ^ 52 % 4096, src := s.did, stream := 0xFFF80000 + n * 0x10000, addr := dest % 2 ^ 52 }
      let c := { fabPkt h padded with sl := s.rd SESS_CTRL_SL n, sub := k.sub, ing := k.ing }
      match s1.linkCopy c with
      | some t => t.inc SESS_SEQ_VALUE n
      | none => (s1.inc SESS_DROPS_VALUE n).countDrop k.ing rMIRROR_DROP

/-! ## The trap ring (R102, R490) -/

/-- Whether the trap ring is full. -/
def State.trapFull (s : State) : Bool := (s.rd TRAP_TAIL_INDEX + 512 - s.rd TRAP_HEAD_INDEX) % 512 == 256

/-- A packet written to the trap-ring entry at TRAP_TAIL. -/
def State.trapPut (s : State) (k : Pkt) (miss : Bool) (data : List Nat) : State :=
  let tail := s.rd TRAP_TAIL_INDEX
  let a := 0x40400000 + 0x80000 + 4160 * (tail % 256)
  let poison := if k.fab then k.hdr.poison else k.tlp.ep
  let info := [k.ing % 256, k.sl % 8] ++ leBytes 2 k.len ++ [b2n miss + b2n k.fab * 2 + b2n poison * 4, 0, 0, 0]
    ++ leBytes 8 s.ns ++ leBytes 2 k.keyDid ++ [0, 0] ++ leBytes 4 k.keyStream ++ List.replicate 8 0
  let body := if k.fab then k.hdr.wire ++ data else k.tlp.header ++ data
  (s.memPut a (info ++ body)).wr TRAP_TAIL_INDEX (tail + 1)

end Sys2Proof.Machine
end

