-- ==== Sys2Proof/Machine/GateOps.lean ====
section
/-! DEFINITION. Gate timelines, close times and guard charges (R172 to R188), and slot times (R211). -/

namespace Sys2Proof.Machine

/-- The gate of a port. -/
def State.gatePort (s : State) (p : Nat) : GatePort := SMap.get s.gate.ports p {}

/-- The gate of a port replaced. -/
def State.setGate (s : State) (p : Nat) (g : GatePort) : State :=
  { s with gate := { s.gate with ports := SMap.set s.gate.ports p g {} } }

/-- A gate list as its entries in force (R173): intervals with open masks. -/
def gateList (m : SMap Nat) (len : Nat) : List (Nat × Nat) :=
  (List.range len).map (fun k => let w := SMap.get m k 0; (w / 256, w % 256))

/-- Cycle time C (R173). -/
def cycleOf (l : List (Nat × Nat)) : Nat := sum (l.map (·.1))

/-- Legality for a tick period (R173). -/
def legalFor (c t : Nat) : Bool := c != 0 && (t % c == 0 || c % t == 0)

/-- The index of the entry in force at offset `u` of the cycle (R174). -/
def entryAt (l : List (Nat × Nat)) (u : Nat) : Nat :=
  match l with
  | [] => 0
  | (i, _) :: r => if u < i then 0 else 1 + entryAt r (u - i)

/-- The mask open at `t` on a list with base `b`. -/
def openAt (l : List (Nat × Nat)) (b t : Nat) : Nat :=
  ((l[entryAt l ((t - b) % cycleOf l)]?).getD (0, 0)).2

/-- The first time at or after `t` at which SL `sl` is closed on the list, walking `fuel` entries from the one in
force; none: it stays open. -/
def walkClose (l : List (Nat × Nat)) (sl : Nat) : Nat → Nat → Nat → Option Nat
  | 0, _, _ => none
  | fuel + 1, k, start =>
    match l[k % l.length]? with
    | none => none
    | some (i, m) => if bit m sl then walkClose l sl fuel (k + 1) (start + i) else some start

/-- The earliest time at or after `t` at which SL `sl` is closed on a list with base `b`. -/
def closeFrom (l : List (Nat × Nat)) (b t sl : Nat) : Option Nat :=
  let c := cycleOf l
  if c = 0 then some t
  else
    let u := (t - b) % c
    let k := entryAt l u
    let start := t - (u - sum ((l.take k).map (·.1)))
    (walkClose l sl (l.length + 1) k start).map (max t)

/-- The smaller of two times, none being unbounded. -/
def minTime : Option Nat → Option Nat → Option Nat
  | some a, some b => some (min a b)
  | some a, none => some a
  | none, b => b

/-- The operational list of a port. -/
def GatePort.operList (g : GatePort) : List (Nat × Nat) := gateList g.oper g.operLen
/-- The admin list of a port. -/
def GatePort.adminList (g : GatePort) : List (Nat × Nat) := gateList g.admin g.adminLen

/-- The cell time of the edge of tick `n`, from the latest edge and the period in force. -/
def State.edgeOf (s : State) (n : Nat) : Nat := s.time.edge + (n - s.time.tick) * s.tTick

/-- The pending change edge in ns with its new period. -/
def State.pendingChange (s : State) : Option (Nat × Nat) :=
  s.time.pend.map (fun x => (s.edgeOf x.1, periodOf x.2.1 x.2.2))

/-- Whether the change edge puts the port into HELD_CLOSED, with its lists and its swap as they stand (R183, R184). -/
def GatePort.heldAt (g : GatePort) (edge t : Nat) : Bool :=
  let keeps (l : List (Nat × Nat)) (b : Nat) : Bool := legalFor (cycleOf l) t && (edge - b) % cycleOf l == 0
  match g.swap with
  | some w =>
    if w.at_ < edge then !w.toOpen && !keeps g.adminList w.at_
    else if w.at_ = edge ∧ (w.toOpen ∨ legalFor (cycleOf g.adminList) t) then false
    else g.state == 1 && !keeps g.operList g.base
  | none => g.state == 1 && !keeps g.operList g.base

/-- The close time X(l, t) of a LISTED port (R184); none: unbounded. -/
def State.closeTime (s : State) (p sl t : Nat) : Option Nat :=
  let g := s.gatePort p
  let x0 := closeFrom g.operList g.base t sl
  let x1 := match g.swap with
    | none => x0
    | some w =>
      match x0 with
      | some x => if x < w.at_ then some x else if w.toOpen then none else closeFrom g.adminList w.at_ w.at_ sl
      | none => if w.toOpen then none else closeFrom g.adminList w.at_ w.at_ sl
  match s.pendingChange with
  | some (e, per) => if t < e ∧ g.heldAt e per then minTime x1 (some e) else x1
  | none => x1

/-- The mask of service levels open at `t` (R176). -/
def State.openMask (s : State) (p t : Nat) : Nat :=
  let g := s.gatePort p
  if g.state = 0 then 255 else if g.state = 1 then openAt g.operList g.base t else 0

/-! ## Link speed, slots and guard charges -/

/-- Lane rate of a RATE code in units of 0.1 Gb/s (R282). -/
def rate10 (c : Nat) : Nat :=
  match c with
  | 0 => 25 | 1 => 50 | 2 => 80 | 3 => 160 | 4 => 320 | 5 => 640 | 6 => 1280 | _ => 1280

/-- Lanes of a fabric WIDTH code. -/
def fabLanes (c : Nat) : Nat := if c = 0 then 1 else 2 ^ c

/-- Rate and lanes of a port as trained. -/
def State.portSpeed (s : State) (p : Nat) : Nat × Nat :=
  if s.isFab p then (rate10 (s.rd OCT_FAB_STATUS_RATE (p / 4)), fabLanes (s.rd OCT_FAB_STATUS_WIDTH (p / 4)))
  else (rate10 (s.rd PORT_STATUS_SPEED p), max 1 (s.rd PORT_STATUS_WIDTH p))

/-- Whether a port sends flits (R211). -/
def State.flitPort (s : State) (p : Nat) : Bool := s.isFab p || s.on PORT_STATUS_FLIT p

/-- One flit time in ps (R186). -/
def flitPs (r lanes : Nat) : Nat := 20480000 / (r * lanes)

/-- The wire time of `n` bytes on a non-flit PCIe link in ps, rounded up, with the encoding factor E (R186). -/
def rawPs (n r lanes : Nat) : Nat :=
  if r ≤ 50 then ceilDiv (n * 8 * 10000 * 10) (8 * r * lanes) else ceilDiv (n * 8 * 10000 * 130) (128 * r * lanes)

/-- The slot time of a port in ps (R211). -/
def State.slotPs (s : State) (p : Nat) : Nat :=
  let (r, w) := s.portSpeed p
  if s.flitPort p then flitPs r w else rawPs 256 r w

/-- Flits of `n` bytes (R186). -/
def flitsOf (n : Nat) : Nat := ceilDiv n 236

/-- The wire time of a packet of `le` bytes in ps (R186). -/
def State.wirePs (s : State) (p le : Nat) : Nat :=
  let (r, w) := s.portSpeed p
  let n := flitsOf le
  if s.isFab p then (n + ceilDiv n 4) * flitPs r w
  else if s.on PORT_STATUS_FLIT p then (n + 1) * flitPs r w
  else rawPs (le + 8) r w

/-- The guard charge G in ps (R186). -/
def State.guardPs (s : State) (p le : Nat) : Nat := s.wirePs p le + s.rd GATE_PORT_CFG_GUARD_PAD_NS p * 1000

/-- The slots that a granted packet occupies (R211). -/
def State.slotsOf (s : State) (p le : Nat) : Nat := if s.flitPort p then flitsOf le else ceilDiv le 256

/-- Whether a packet of `le` bytes of SL `sl` passes the gate and the guard test at `t` (R185, R188). -/
def State.gateOk (s : State) (p sl le t : Nat) : Bool :=
  let g := s.gatePort p
  if g.state = 0 then true
  else if g.state = 1 then
    bit (s.openMask p t) sl &&
      (match s.closeTime p sl t with
       | some x => decide (t * 1000 + s.guardPs p le ≤ x * 1000)
       | none => true)
  else false

/-- A port's transmitter. -/
def State.txOf (s : State) (p : Nat) : TxSt := SMap.get s.tx p {}

/-- A port's transmitter replaced. -/
def State.setTx (s : State) (p : Nat) (x : TxSt) : State := { s with tx := SMap.set s.tx p x {} }

/-- The close time of a packet in flight after the gate of its port changes at `t`: a close that has passed stands, else the
new list, or HELD_CLOSED, gives it (R184, R187). -/
def State.closeMoves (s : State) (p t : Nat) : State :=
  let x := s.txOf p
  let g := s.gatePort p
  let new := if g.state = 0 then none else if g.state = 1 then closeFrom g.operList g.base t x.sl else some t
  if x.left = 0 then s
  else
    match x.close with
    | some c => if c < t then s else s.setTx p { x with close := new }
    | none => s.setTx p { x with close := new }

/-- A port enters HELD_CLOSED and GATE_HELD_CLOSED is raised (R183). -/
def State.holdClosed (s : State) (p : Nat) : State :=
  ((s.setGate p { s.gatePort p with state := 2 }).closeMoves p s.ns).raise 104 { port := some p }

end Sys2Proof.Machine
end

