-- ==== Sys2Proof/Machine/Select.lean ====
section
/-! DEFINITION. The selection procedure of an egress port (R154 to R160): deficit round-robin lists and the choice. -/

namespace Sys2Proof.Machine

/-- A member of a round-robin list: number, length of the packet it would send, quantum in bytes, deficit. -/
structure Member where
  n : Nat := 0
  le : Nat := 0
  quantum : Nat := 0
  deficit : Nat := 0
deriving DecidableEq, Repr

/-- What a turn decides: the member chosen, the deficits that changed, and whose turn it is now. -/
structure Choice where
  n : Nat := 0
  deficits : List (Nat × Nat) := []
  turn : Turn := {}
deriving DecidableEq, Repr

/-- The first member after number `n` in cyclic ascending order. -/
def nextMember (l : List Member) (n : Nat) : Option Member :=
  match l.find? (fun m => decide (n < m.n)) with
  | some m => some m
  | none => l.head?

/-- Turns passed until a member may send (R160): a turn that reaches a member adds its quantum; the member keeps
the turn while its packet fits its deficit. -/
def drrLoop (l : List Member) : Nat → Member → List (Nat × Nat) → Option Choice
  | 0, _, _ => none
  | fuel + 1, m, acc =>
    let d := ((acc.find? (fun e => e.1 == m.n)).map (·.2)).getD m.deficit + m.quantum
    let acc' := (m.n, d) :: acc.filter (fun e => e.1 != m.n)
    if m.le ≤ d then
      some { n := m.n, deficits := (m.n, d - m.le) :: acc.filter (fun e => e.1 != m.n), turn := { member := m.n, given := true } }
    else
      match nextMember l m.n with
      | some m' => drrLoop l fuel m' acc'
      | none => none

/-- One choice of a list with turn `t` (R160). -/
def drr (l : List Member) (t : Turn) : Option Choice :=
  let fuel := l.length * 70 + 1
  match l.find? (fun m => m.n == t.member) with
  | some m =>
    if t.given ∧ m.le ≤ m.deficit then
      some { n := m.n, deficits := [(m.n, m.deficit - m.le)], turn := t }
    else if t.given then
      match nextMember l m.n with
      | some m' => drrLoop l fuel m' []
      | none => none
    else drrLoop l fuel m []
  | none =>
    match nextMember l t.member with
    | some m' => drrLoop l fuel m' []
    | none => none

/-- The lists a port keeps turns for: of a node without tier or in the committed tier, of a node in the excess tier,
of a port in each tier. -/
def listNode (p sl : Nat) (excess : Bool) : Nat := (p * 8 + sl) * 2 + b2n excess
def listPort (p : Nat) (excess : Bool) : Nat := 1536 + p * 2 + b2n excess

/-- Whose turn it is on a list. -/
def State.turn (s : State) (k : Nat) : Turn := SMap.get s.sch.turns k {}

/-- A packet chosen: its queue, in which tiers node and queue were chosen, and the deficits and turns to store. -/
structure Grant where
  queue : Nat := 0
  nodeCom : Bool := false
  queueCom : Bool := false
  queueDef : List (Nat × Nat) := []
  nodeDef : List (Nat × Nat) := []
  turns : List (Nat × Turn) := []
deriving DecidableEq, Repr

/-- The flow-control type of a TLP: 0 posted, 1 non-posted, 2 completion. -/
def QPkt.type (k : QPkt) : Nat := if k.tlp.kind.isCpl then 2 else if k.tlp.kind.nonPosted then 1 else 0

/-- The link credit of a packet at a port: on a fabric port the credit of its VC, one for each flit; on a PCIe port
the flow-control types that have credit, given by `types` (bit 0 posted, 1 non-posted, 2 completion) (R159). -/
def State.creditOk (s : State) (p : Nat) (k : QPkt) (types : Nat) : Bool :=
  if s.isFab p then decide (flitsOf k.le ≤ s.rd LINK_TX_CREDIT_AVAILABLE (p / 4) k.sl)
  else bit types k.type

/-- Whether the packet behind `before` may be taken now (R356): nothing passes a packet of its own list, and neither
a non-posted request nor a completion passes an older posted request. -/
def mayPass (before : List QPkt) (k : QPkt) : Bool :=
  before.all (fun b => b.type != k.type && (k.type == 0 || b.type != 0))

/-- The head packet of a queue bound for a PCIe port: the oldest packet of a list with credit that the rules of R356
let leave. -/
def pickHead (types : Nat) : List QPkt → List QPkt → Option QPkt
  | _, [] => none
  | before, k :: r => if bit types k.type && mayPass before k then some k else pickHead types (before ++ [k]) r

/-- The head packet of a queue (R159, R356). -/
def State.headOf (s : State) (q : Queue) (types : Nat) : Option QPkt :=
  if s.isFab q.port then q.head.head? else
    match pickHead types [] q.head with
    | some k => some k
    | none => q.head.head?

/-- The queues of (port, SL) with a head packet that may be chosen now, leaving out the gate and credit (R120, R152,
R154, R259). -/
def State.ready (s : State) (p sl types : Nat) (needPeak : Bool) : List (Nat × Queue × QPkt) :=
  s.mapped.filterMap (fun e =>
    if e.2.port = p ∧ e.2.sl = sl ∧ e.2.hold = 0 then
      match s.headOf e.2 types with
      | some k => if k.held || (needPeak && !(e.2.sh.upTo s.ns).peakOk) then none else some (e.1, e.2, k)
      | none => none
    else none)

/-- The queues of (port, SL) that pass the gate, the guard test and the credit test. -/
def State.openQueues (s : State) (p sl types : Nat) (needPeak : Bool) : List (Nat × Queue × QPkt) :=
  (s.ready p sl types needPeak).filter (fun e => s.gateOk p sl e.2.2.le s.ns && s.creditOk p e.2.2 types)

/-- Members of a list of queues. -/
def queueMembers (l : List (Nat × Queue × QPkt)) : List Member :=
  l.map (fun e => { n := e.1, le := e.2.2.le, quantum := e.2.1.sh.quantum * 64, deficit := e.2.1.deficit })

/-- The choice among queues of one node on one list. -/
def State.pickQueues (s : State) (l : List (Nat × Queue × QPkt)) (key : Nat) : Option (Choice × Nat) :=
  (drr (queueMembers l) (s.turn key)).map (fun c =>
    (c, ((l.find? (fun e => e.1 == c.n)).map (fun e => e.2.2.le)).getD 0))

/-- The choice inside a SHAPED or BULK node: committed-tier queues first, then excess-tier queues. -/
def State.pickNode (s : State) (p sl types : Nat) : Option (Choice × Nat × Bool) :=
  let l := s.openQueues p sl types true
  let com := l.filter (fun e => (e.2.1.sh.upTo s.ns).committed)
  let exc := l.filter (fun e => !(e.2.1.sh.upTo s.ns).committed)
  match s.pickQueues com (listNode p sl false) with
  | some (c, le) => some (c, le, true)
  | none => (s.pickQueues exc (listNode p sl true)).map (fun x => (x.1, x.2, false))

/-- The choice among the TIMED service levels, SL7 down (R156). -/
def State.selTimed (s : State) (p types : Nat) : List Nat → Option Grant
  | [] => none
  | sl :: r =>
    if s.slClass p sl = 0 then
      match s.pickQueues (s.openQueues p sl types false) (listNode p sl false) with
      | some (c, _) => some { queue := c.n, queueDef := c.deficits, turns := [(listNode p sl false, c.turn)] }
      | none => s.selTimed p types r
    else s.selTimed p types r

/-- The choice among the PRIORITY service levels, SL7 down: peak-conformant nodes and queues only (R156). -/
def State.selPriority (s : State) (p types : Nat) : List Nat → Option Grant
  | [] => none
  | sl :: r =>
    if s.slClass p sl = 1 ∧ ((s.node (p * 8 + sl)).sh.upTo s.ns).peakOk then
      match s.pickQueues (s.openQueues p sl types true) (listNode p sl false) with
      | some (c, _) => some { queue := c.n, queueDef := c.deficits, turns := [(listNode p sl false, c.turn)] }
      | none => s.selPriority p types r
    else s.selPriority p types r

/-- The choice among SHAPED and BULK nodes of one tier. -/
def State.selTier (s : State) (p types : Nat) (com : Bool) : Option Grant :=
  let nodes := ([7, 6, 5, 4, 3, 2, 1, 0] : List Nat).reverse.filterMap (fun sl =>
    if s.slClass p sl < 2 then none
    else
      let h := (s.node (p * 8 + sl)).sh.upTo s.ns
      if h.peakOk && (h.committed == com) then (s.pickNode p sl types).map (fun x => (sl, x)) else none)
  let members : List Member := nodes.map (fun e =>
    { n := e.1, le := e.2.2.1, quantum := (s.node (p * 8 + e.1)).sh.quantum * 64, deficit := (s.node (p * 8 + e.1)).deficit })
  match drr members (s.turn (listPort p (!com))) with
  | none => none
  | some c =>
    (nodes.find? (fun e => e.1 == c.n)).map (fun e =>
      { queue := e.2.1.n, nodeCom := com, queueCom := e.2.2.2, queueDef := e.2.1.deficits,
        nodeDef := c.deficits.map (fun d => (p * 8 + d.1, d.2)),
        turns := [(listNode p e.1 (!e.2.2.2), e.2.1.turn), (listPort p (!com), c.turn)] })

/-- The selection procedure (R159). -/
def State.select (s : State) (p types : Nat) : Option Grant :=
  let down := [7, 6, 5, 4, 3, 2, 1, 0]
  match s.selTimed p types down with
  | some g => some g
  | none =>
    let ps := (s.portSh p).upTo s.ns
    if ps.rate ≠ 0 ∧ ps.level ≤ 0 then none
    else
      match s.selPriority p types down with
      | some g => some g
      | none =>
        match s.selTier p types true with
        | some g => some g
        | none => s.selTier p types false

/-- The deficits and turns of a choice stored. -/
def State.storeGrant (s : State) (g : Grant) : State :=
  let s1 := g.queueDef.foldl (fun t d => t.setQueue d.1 { t.queue d.1 with deficit := d.2 }) s
  let s2 := g.nodeDef.foldl (fun t d => t.setNode d.1 { t.node d.1 with deficit := d.2 }) s1
  { s2 with sch := { s2.sch with turns := g.turns.foldl (fun m e => SMap.set m e.1 e.2 {}) s2.sch.turns } }

/-- The debits of a granted packet (R155 to R157): none at a TIMED queue and node, none but the peak at PRIORITY. -/
def State.debitGrant (s : State) (p : Nat) (g : Grant) (le : Nat) : State :=
  let q := s.queue g.queue
  let cls := s.slClass p q.sl
  let n := p * 8 + q.sl
  let s1 := if cls = 0 then s
    else
      let t := s.setQueue g.queue { q with sh := (q.sh.upTo s.ns).debit le g.queueCom }
      t.setNode n { t.node n with sh := ((t.node n).sh.upTo s.ns).debit le g.nodeCom }
  s1.setPortSh p (((s1.portSh p).upTo s.ns).debit le)

end Sys2Proof.Machine
end

