-- ==== Sys2Proof/Machine/SchedOps.lean ====
section
/-! DEFINITION. The admin descriptors of *Policing, shaping and queue service*: METER_SET, SHAPER_SET, QUEUE_MAP and
ADAPT_BOUNDS (R148 to R169), each as its effect on the state. -/

namespace Sys2Proof.Machine

/-- Bytes `lo` to `hi` of a descriptor are all 0. -/
def Desc.zero (d : Desc) (lo hi : Nat) : Bool := ((d.img.drop lo).take (hi + 1 - lo)).all (· == 0)

/-- ACK_WAIT is reserved for every opcode but WRITE, and the other reserved flag bits are 0 (R435, R436). -/
def Desc.flagsOk (d : Desc) : Bool := decide (bytesAt d.img 2 3 < 4)

/-- A descriptor that breaks R436 or R165 completes with BAD_DESCRIPTOR and changes nothing. -/
def State.guardDesc (s : State) (q : Nat) (d : Desc) (ok : Bool) (f : State) : State :=
  if ok then f else s.finish q d stBAD_DESCRIPTOR

/-! ## Meters -/

/-- A meter as listed; one that was never bound holds no tokens. -/
def State.meter (s : State) (m : Nat) : Meter := SMap.get s.sch.meters m {}

/-- A meter profile. -/
def State.profile (s : State) (p : Nat) : Profile := SMap.get s.sch.profiles p {}

/-- A meter brought up to the present cell time (R142). -/
def State.meterNow (s : State) (m : Nat) : Meter :=
  let x := s.meter m
  if x = {} then x else x.upTo (s.profile x.profile) s.ns

/-- A meter replaced. -/
def State.setMeter (s : State) (m : Nat) (x : Meter) : State :=
  { s with sch := { s.sch with meters := SMap.set s.sch.meters m x {} } }

/-- Both buckets full, committed and visible alike (R148). -/
def Meter.full (m : Meter) (f : Profile) (t : Nat) : Meter :=
  { m with visC := uB f.cbs, visP := uB f.pbs, comC := uB f.cbs, comP := uB f.pbs, at_ := t }

/-- Meters `first` to `first + n - 1` bound and full (R148). -/
def State.bindMeters (s : State) (first prof cset : Nat) (en : Bool) : Nat → State
  | 0 => s
  | n + 1 =>
    (s.setMeter first (Meter.full { profile := prof, cset := cset, en := en } (s.profile prof) s.ns)).bindMeters
      (first + 1) prof cset en n

/-- The debits that open speculation records hold of these meters set to zero (R148). -/
def State.clearDebits (s : State) (first n : Nat) : State :=
  { s with fwd := { s.fwd with pkts := s.fwd.pkts.map (fun p =>
      if p.metered ∧ first ≤ p.meter ∧ p.meter < first + n then { p with debitC := 0, debitP := 0 } else p) } }

/-- METER_SET BIND (R148, R166). -/
def State.meterBind (s : State) (q idx : Nat) : State :=
  s.withDesc q idx fun d =>
    let first := bytesAt d.img 42 45
    let prof := bytesAt d.img 46 47
    let cset := bytesAt d.img 48 49
    let n := bytesAt d.img 52 53
    s.guardDesc q d
      (d.flagsOk && d.zero 8 39 && d.zero 41 41 && decide (byteAt d.img 50 < 2) && d.zero 51 51 && d.zero 54 63
        && decide (first < 2 ^ 18) && decide (prof < 4096) && decide (cset < 4096) && decide (1 ≤ n) && decide (n ≤ 4096)
        && decide (first + n ≤ 262144))
      (((s.bindMeters first prof cset (bit (byteAt d.img 50) 0) n).clearDebits first n).finish q d stOK)

/-- The profile that a METER_SET PROFILE names (R166). -/
def Desc.profile (d : Desc) : Profile :=
  let cm := bytesAt d.img 54 57
  { cir := cm % 2 ^ 28, sr := bit cm 28, aware := bit cm 29, remark := bit cm 30, pir := bytesAt d.img 58 61 % 2 ^ 28,
    cbs := bytesAt d.img 8 10, pbs := bytesAt d.img 11 13 }

/-- METER_SET PROFILE: levels kept and clamped to the new sizes (R148, R166). -/
def State.meterProfile (s : State) (q idx : Nat) : State :=
  s.withDesc q idx fun d =>
    let f := d.profile
    let p := bytesAt d.img 46 47
    s.guardDesc q d
      (d.flagsOk && d.zero 14 39 && d.zero 41 45 && decide (p < 4096) && d.zero 48 53 && d.zero 62 63
        && !bit (bytesAt d.img 54 57) 31 && decide (bytesAt d.img 58 61 < 2 ^ 28) && f.cbs != 0
        && (if f.sr then f.pir == 0 else f.pbs != 0 && decide (f.cir ≤ f.pir)))
      (let meters := s.sch.meters.map (fun e =>
          if e.2.profile = p then
            let m := e.2.upTo (s.profile p) s.ns
            (e.1, { m with visC := min (uB f.cbs) m.visC, visP := min (uB f.pbs) m.visP,
                           comC := min (uB f.cbs) m.comC, comP := min (uB f.pbs) m.comP })
          else e)
       ({ s with sch := { s.sch with profiles := SMap.set s.sch.profiles p f {}, meters := meters } }).finish q d stOK)

/-- Table 0x20 of a meter: three words, committed levels in bytes (R171). -/
def State.meterWords (s : State) (m : Nat) : List Nat :=
  let x := s.meterNow m
  [x.profile + x.cset * 2 ^ 16 + b2n x.en * 2 ^ 31, x.comC / 1000000 % 2 ^ 24, x.comP / 1000000 % 2 ^ 24]

/-- Table 0x21 of a profile: four words (R171). -/
def State.profileWords (s : State) (p : Nat) : List Nat :=
  let f := s.profile p
  [f.cir + b2n f.sr * 2 ^ 28 + b2n f.aware * 2 ^ 29 + b2n f.remark * 2 ^ 30, f.pir, f.cbs, f.pbs]

/-- Little-endian bytes of 32-bit words. -/
def wordBytes (ws : List Nat) : List Nat := ws.flatMap (leBytes 4)

/-- METER_SET READ meter (R166). -/
def State.meterRead (s : State) (q idx : Nat) : State :=
  s.withDesc q idx fun d =>
    let m := bytesAt d.img 42 45
    s.guardDesc q d (d.flagsOk && d.zero 8 39 && d.zero 41 41 && decide (m < 262144) && d.zero 46 63)
      (s.finishData q d (wordBytes (s.meterWords m ++ [0] ++ s.profileWords (s.meter m).profile)))

/-- METER_SET READ profile (R166). -/
def State.meterProfileRead (s : State) (q idx : Nat) : State :=
  s.withDesc q idx fun d =>
    let p := bytesAt d.img 46 47
    s.guardDesc q d (d.flagsOk && d.zero 8 39 && d.zero 41 45 && decide (p < 4096) && d.zero 48 63)
      (s.finishData q d (wordBytes (s.profileWords p)))

/-! ## Shapers -/

/-- A shaper as SHAPER_SET writes it: both pairs, tokens by RESET_MODE (R158, R162). -/
def shaperOf (d : Desc) (t : Nat) : Shaper :=
  let pir := bytesAt d.img 48 51
  let pbs := bytesAt d.img 55 57
  Shaper.resetTokens
    { cir := bytesAt d.img 44 47, hostPir := pir, actPir := pir, cbs := bytesAt d.img 52 54, hostPbs := pbs, actPbs := pbs,
      quantum := bytesAt d.img 58 59, zero := bit (byteAt d.img 41) 0 } t

/-- A signed level in bytes, rounded down, as a 32-bit word. -/
def levelWord (l : Int) : Nat := ofSigned 32 (l / 1000000)

/-- Tables 0x25 and 0x26 of a shaper: eight words (R171). -/
def shaperWords (h : Shaper) : List Nat :=
  [h.cir, h.actPir, h.hostPir, h.cbs, h.actPbs, h.hostPbs, levelWord h.tc, levelWord h.tp]

/-- Table 0x27 of a port shaper: three words (R171). -/
def portShaperWords (h : PortShaper) : List Nat := [h.rate, h.burst, levelWord h.level]

/-- The common conditions of SHAPER_SET (R167): target, flags, index, port existence and reserved bytes. -/
def State.shaperOk (s : State) (d : Desc) : Bool :=
  let tg := d.op40
  let i := bytesAt d.img 42 43
  d.flagsOk && d.zero 8 39 && decide (byteAt d.img 41 < 4) && d.zero 60 63 &&
    (if tg = 1 then true else if tg = 2 then decide (i < 768) && s.portExists (i / 8) else if tg = 3 then s.portExists i
     else false)

/-- SHAPER_SET (R158, R164, R167). -/
def State.shaperSet (s : State) (q idx : Nat) : State :=
  s.withDesc q idx fun d =>
    let tg := d.op40
    let i := bytesAt d.img 42 43
    let cir := bytesAt d.img 44 47
    let pir := bytesAt d.img 48 51
    let qu := bytesAt d.img 58 59
    s.guardDesc q d
      (s.shaperOk d && !bit (byteAt d.img 41) 1 && decide (cir < 2 ^ 28) && decide (pir < 2 ^ 28)
        && (if tg = 3 then cir == 0 && d.zero 52 54 && qu == 0 else decide (1 ≤ qu) && decide (qu ≤ 4095))
        && (pir == 0 || decide (cir ≤ pir)))
      ((if tg = 1 then
          s.setQueue i { s.queue i with
            sh := shaperOf d s.ns,
            adaptNext := match (s.queue i).adaptNext with
              | some (.pair _ _) => none
              | x => x }
        else if tg = 2 then s.setNode i { s.node i with sh := shaperOf d s.ns }
        else
          let burst := bytesAt d.img 55 57
          s.setPortSh i { rate := pir, burst := burst, level := if bit (byteAt d.img 41) 0 then 0 else (uB burst : Int),
                          at_ := s.ns }).finish q d stOK)

/-- SHAPER_SET with READ (R167). -/
def State.shaperRead (s : State) (q idx : Nat) : State :=
  s.withDesc q idx fun d =>
    let tg := d.op40
    let i := bytesAt d.img 42 43
    s.guardDesc q d (s.shaperOk d && byteAt d.img 41 == 2 && d.zero 44 59)
      (let tail (h : Shaper) : List Nat := leBytes 2 h.quantum ++ [b2n h.zero]
       s.finishData q d
        (if tg = 1 then let h := (s.queue i).sh.upTo s.ns; wordBytes (shaperWords h) ++ tail h
         else if tg = 2 then let h := (s.node i).sh.upTo s.ns; wordBytes (shaperWords h) ++ tail h
         else wordBytes (portShaperWords ((s.portSh i).upTo s.ns))))

/-! ## Queue maps -/

/-- SCHED_STATUS.QUEUES_MAPPED follows the queues. -/
def State.syncMapped (s : State) : State := s.wr SCHED_STATUS_QUEUES_MAPPED s.mapped.length

/-- QUEUE_MAP MAP (R149, R150, R152, R158, R168). -/
def State.queueMapMap (s : State) (q idx : Nat) : State :=
  s.withDesc q idx fun d =>
    let n := bytesAt d.img 42 43
    let p := byteAt d.img 44
    let sl := byteAt d.img 45
    let sub := bytesAt d.img 46 47
    let dflt := bit (byteAt d.img 41) 0
    s.guardDesc q d
      (d.flagsOk && d.zero 8 39 && decide (byteAt d.img 41 < 2) && s.portExists p && decide (sl < 8) && decide (sub < 8192)
        && d.zero 48 63 && !(s.queue n).valid
        && (if dflt then (s.defaultQueue p sl).isNone
            else !(s.mapped.any (fun e => e.2.port == p && e.2.sl == sl && !e.2.dflt && e.2.sub == sub))))
      (let x := s.queue n
       let hold := if dflt then 0 else
         match s.defaultQueue p sl with
         | some dq => (s.queue dq).packets.length
         | none => 0
       ((s.setQueue n { x with valid := true, port := p, sl := sl, sub := sub, dflt := dflt, hold := hold,
                               sh := x.sh.resetTokens s.ns, maxDepth := 0, maxSojourn := 0 }).syncMapped).finish q d stOK)

/-- QUEUE_MAP UNMAP (R150, R153, R168). -/
def State.queueMapUnmap (s : State) (q idx : Nat) : State :=
  s.withDesc q idx fun d =>
    let n := bytesAt d.img 42 43
    let x := s.queue n
    s.guardDesc q d (d.flagsOk && d.zero 8 39 && d.zero 41 41 && d.zero 44 63 && x.valid)
      (if x.dflt ∧ s.on SCHED_PORT_CFG_EN x.port then s.finish q d stNOT_PERMITTED
       else
        let t := s.flushQueue n
        ((t.setQueue n { t.queue n with valid := false, port := 0, sl := 0, sub := 0, dflt := false, hold := 0,
                                        maxDepth := 0, maxSojourn := 0 }).syncMapped).finish q d stOK)

/-- Table 0x24 of a queue (R171); VALID 0 reads an all-zero word. -/
def State.queueMapWord (s : State) (n : Nat) : Nat :=
  let x := s.queue n
  if x.valid then x.port + x.sl * 2 ^ 8 + x.sub * 2 ^ 16 + b2n x.dflt * 2 ^ 30 + 2 ^ 31 else 0

/-- QUEUE_MAP READ (R153, R168). -/
def State.queueMapRead (s : State) (q idx : Nat) : State :=
  s.withDesc q idx fun d =>
    s.guardDesc q d (d.flagsOk && d.zero 8 39 && d.zero 41 41 && d.zero 44 63)
      (s.finishData q d (leBytes 4 (s.queueMapWord (bytesAt d.img 42 43))))

/-! ## Adaptation bounds -/

/-- ADAPT_BOUNDS target 0x01: SHAPED bounds that take effect at the next tick edge (R163, R169). -/
def State.adaptBoundsShaped (s : State) (q idx : Nat) : State :=
  s.withDesc q idx fun d =>
    let n := bytesAt d.img 42 43
    let x := s.queue n
    let pf := bytesAt d.img 44 47
    let pc := bytesAt d.img 48 51
    let bf := bytesAt d.img 52 54
    let bc := bytesAt d.img 55 57
    let soj := bytesAt d.img 58 59
    s.guardDesc q d
      (d.flagsOk && d.zero 8 39 && d.zero 41 41 && d.zero 60 63 && decide (pf < 2 ^ 28) && decide (pc < 2 ^ 28) && soj != 0)
      (if s.qClass x < 2 then s.finish q d stNOT_PERMITTED
       else s.guardDesc q d
        (s.qClass x == 2 && decide (x.sh.cir ≤ pf) && pf != 0 && decide (pf ≤ pc) && bf != 0 && decide (bf ≤ bc))
        (let b : Bounds := { target := 1, pirFloor := pf, pirCeil := pc, pbsFloor := bf, pbsCeil := bc, sojourn := soj }
         (s.setQueue n { x with boundsNext := some (.put b) }).finish q d stOK))

/-- ADAPT_BOUNDS target 0x02: BULK overflow bounds (R163, R169). -/
def State.adaptBoundsBulk (s : State) (q idx : Nat) : State :=
  s.withDesc q idx fun d =>
    let n := bytesAt d.img 42 43
    let x := s.queue n
    let w := bytesAt d.img 44 47
    let soj := bytesAt d.img 58 59
    s.guardDesc q d (d.flagsOk && d.zero 8 39 && d.zero 41 41 && decide (w < 2) && d.zero 48 57 && d.zero 60 63 && soj != 0)
      (if s.qClass x < 2 then s.finish q d stNOT_PERMITTED
       else s.guardDesc q d (s.qClass x == 3)
        ((s.setQueue n { x with boundsNext := some (.put { target := 2, ovfAllowed := bit w 0, sojourn := soj }) }).finish q d stOK))

/-- ADAPT_BOUNDS target 0x03: bounds deleted at the next tick edge (R163, R169). -/
def State.adaptBoundsDelete (s : State) (q idx : Nat) : State :=
  s.withDesc q idx fun d =>
    let n := bytesAt d.img 42 43
    let x := s.queue n
    s.guardDesc q d (d.flagsOk && d.zero 8 39 && d.zero 41 41 && d.zero 44 63)
      (if s.qClass x < 2 then s.finish q d stNOT_PERMITTED
       else (s.setQueue n { x with boundsNext := some .delete }).finish q d stOK)

/-- Table 0x28 of a queue (R171). -/
def boundsWords (b : Option Bounds) : List Nat :=
  match b with
  | none => [0, 0, 0, 0, 0]
  | some b => [b.pirFloor, b.pirCeil, b.pbsFloor, b.pbsCeil,
      b.sojourn + b2n b.ovfAllowed * 2 ^ 16 + b.target * 2 ^ 29 + 2 ^ 31]

/-- Bounds that a completed ADAPT_BOUNDS set take effect at a tick edge: the active pair is clamped, or returns to
the host pair when they are deleted (R163). -/
def State.applyBounds (s : State) (n : Nat) : State :=
  let x := s.queue n
  match x.boundsNext with
  | none => s
  | some .delete =>
    s.setQueue n { x with bounds := none, boundsNext := none, adaptNext := none,
                          sh := x.sh.setActive s.ns x.sh.hostPir x.sh.hostPbs }
  | some (.put b) =>
    let sh := if b.target = 1 then
        x.sh.setActive s.ns (max b.pirFloor (min b.pirCeil x.sh.actPir)) (max b.pbsFloor (min b.pbsCeil x.sh.actPbs))
      else x.sh
    s.setQueue n { x with bounds := some b, boundsNext := none, sh := sh }

/-- Bounds deleted at once: the active pair returns to the host pair (R151, R163; log entry 67). -/
def State.dropBounds (s : State) (n : Nat) : State :=
  let x := s.queue n
  if x.bounds.isNone && x.boundsNext.isNone then s
  else s.setQueue n { x with bounds := none, boundsNext := none, adaptNext := none,
                             sh := x.sh.setActive s.ns x.sh.hostPir x.sh.hostPbs }

/-- A write of SCHED_PORT_CFG (R150, R151). -/
def State.schedPortWrite (s : State) (p v : Nat) : State :=
  let cls := bits v 15 0
  let lacks := (List.range 8).any (fun l => (s.defaultQueue p l).isNone)
  if (bit v 31 && lacks) || (s.on SCHED_PORT_CFG_EN p && cls != s.rd SCHED_PORT_CFG_SL_CLASS p) then s.setOn SCHED_STATUS_CFG_REJECTED
  else
    let falls := (List.range 8).filter (fun l => decide (2 ≤ s.slClass p l) && decide (cls / 4 ^ l % 4 < 2))
    let gone := (s.mapped.filter (fun e => e.2.port == p && falls.contains e.2.sl)).map (·.1)
    gone.foldl (fun (t : State) n => t.dropBounds n)
      ((s.wr SCHED_PORT_CFG_EN (bits v 31 31) p).wr SCHED_PORT_CFG_SL_CLASS cls p)

/-- A staged adaptation decision applied at a tick edge, clamped into the bounds in force (R161, R162). -/
def State.applyAdapt (s : State) (n : Nat) : State :=
  let x := s.queue n
  match x.adaptNext, x.bounds with
  | some (.pair pir pbs), some b =>
    let sh := x.sh.setActive s.ns (max b.pirFloor (min b.pirCeil pir)) (max b.pbsFloor (min b.pbsCeil pbs))
    s.setQueue n { x with adaptNext := none, sh := sh }
  | some (.ovf en), some _ => s.setQueue n { x with adaptNext := none, ovfEn := en }
  | some _, none => s.setQueue n { x with adaptNext := none }
  | none, _ => s

end Sys2Proof.Machine
end

