-- ==== Sys2Proof/Machine/Pipeline.lean ====
section
/-! DEFINITION. The octet pipelines: parse, speculation record, lookup and meter debit, headroom, and the decision
order at commit (R69 to R100). -/

namespace Sys2Proof.Machine

/-! ## Parse (R69, R74, R77, R81) -/

/-- Payload bytes that a fabric header announces (R236, R238). -/
def FabHdr.payload (h : FabHdr) : Nat :=
  if h.type = tREAD then 0
  else if h.type = tCOMPLETION then (if bit h.ts 8 then h.lenBytes else 0)
  else h.lenBytes

/-- The key of a packet: the ordering ID, or the device's own DID with the TLP's stream ID (R81). -/
def State.keyOf (s : State) (p : Nat) (h : FabHdr) (t : Tlp) : Nat × Nat :=
  if s.isFab p then (h.src, h.stream)
  else (s.did, mkStream (if t.kind.isCpl then t.cplr else t.req) ((s.portHd p).getD 0) t.tc)

/-- PACKET_PARSE: the first header bytes of a packet arrive at a port (R69). -/
def State.packetParse (s : State) (p : Nat) (h : FabHdr) (t : Tlp) : State :=
  if s.portExists p then
    let f := s.isFab p
    let key := s.keyOf p h t
    let tc := if f then streamTc h.stream else t.tc
    let k : Pkt :=
      { id := s.fwd.nextId, ing := p, pipe := p / 4, fab := f, hdr := if f then h else {}, tlp := if f then {} else t,
        tc := tc, sl := s.slOf p tc, keyDid := key.1, keyStream := key.2, hd := s.portHd p,
        len := if f then 32 + h.payload else t.length }
    { s with fwd := { s.fwd with nextId := s.fwd.nextId + 1, pkts := s.fwd.pkts ++ [k] } }
  else s

/-- A packet in reception. -/
def State.pkt (s : State) (id : Nat) : Option Pkt := s.fwd.pkts.find? (fun k => k.id == id)

/-- A packet in reception replaced. -/
def State.setPkt (s : State) (k : Pkt) : State :=
  { s with fwd := { s.fwd with pkts := s.fwd.pkts.map (fun x => if x.id == k.id then k else x) } }

/-- A packet no longer in reception; its speculation record is free. -/
def State.dropPkt (s : State) (id : Nat) : State :=
  { s with fwd := { s.fwd with pkts := s.fwd.pkts.filter (fun x => x.id != id) } }

/-- The speculation records that the pipelines of a port hold and have in use (R70). -/
def State.records (s : State) (p : Nat) : Nat × Nat :=
  let both := s.octMode (p / 4) == 4
  (if both then 32 else 16, (s.fwd.pkts.filter (fun k => k.pipe == p / 4 && k.stage != .parsed)).length)

/-- SPEC_RECORD_GRANT: a waiting header obtains a free record of its pipeline (R70). -/
def State.specRecordGrant (s : State) (id : Nat) : State :=
  match s.pkt id with
  | some k =>
    let r := s.records k.ing
    if k.stage = .parsed ∧ r.2 < r.1 then s.setPkt { k with stage := .recorded } else s
  | none => s

/-! ## Lookup and meter debit (R80 to R94, R143, R144) -/

/-- The destination of a TLP that entered at a PCIe port (R81, R93, R398). -/
def State.tlpDest (s : State) (p : Nat) (t : Tlp) : Dest × Option Nat :=
  if t.kind.isCpl && (s.npAtPort p t.req t.tag).isSome then (.self, none)
  else
    match s.portHd p with
    | none => (.windowMiss, none)
    | some hd =>
      let e := s.entryAt p
      if s.acsBlocks e hd t then (.acs, none)
      else if s.isUp p || (s.hdPort hd).isSome then s.routeHere e hd t
      else (s.routeAway hd t, none)

/-- Whether test 5 refuses a TLP (R358): a locked request, or an AtomicOp for a fabric window, the management function
or a port with AtomicOp Egress Blocking. -/
def State.tlpUnsup (s : State) (t : Tlp) (d : Dest) : Bool :=
  t.kind == .lockRd || (t.kind.atomic && (match d with
    | .fabric _ => true
    | .endpoint _ => true
    | .port q => s.isDown q && s.portVc q vfAtomicBlock == 1
    | _ => false))

/-- The window attributes of a packet (R385). -/
def State.attrOf (s : State) (w : Option Nat) : Nat :=
  match w.bind (fun n => SMap.get s.brg.windows n none) with
  | some x => x.attr
  | none => 0

/-- An estimate of the egress length at the header, for the reservation of cells (R77). -/
def State.egressLen (s : State) (k : Pkt) (d : Dest) : Nat :=
  if k.fab then
    if k.hdr.dst = s.did then 16 + k.hdr.payload else k.len
  else
    match d with
    | .fabric _ =>
      if k.tlp.kind.hasData then 36 + 4 * k.tlp.dws else 36
    | _ => k.len

/-- The meter and the miss action that apply: the flow entry's, else the port's defaults (R83, R89). `dm` replaces the
port's default meter for a ring packet (R460). -/
def State.meterFor (s : State) (p : Nat) (e : Option FlowEnt) (dm : Option Nat) : Option Nat :=
  match e with
  | some x => if x.meterEn then some x.meter else if s.on DEF_METER_EN p then some (s.rd DEF_METER_METER p) else none
  | none =>
    match dm with
    | some m => some m
    | none => if s.on DEF_METER_EN p then some (s.rd DEF_METER_METER p) else none

/-- A packet with what the flow table, the port defaults and the hierarchy give it (R80, R89, R93, R388). -/
def State.classify (s : State) (k : Pkt) (dm : Option Nat) (sub : Option Nat) : Pkt :=
  let f := s.lookupFlow k.keyDid k.keyStream
  let e := f.map (·.2)
  let dw := if k.fab then
      (if k.hdr.dst = s.did then (Dest.self, none) else (Dest.fabric k.hdr.dst, none))
    else s.tlpDest k.ing k.tlp
  let at_ := s.attrOf dw.2
  let tc := if bit at_ 5 then bits at_ 8 6 else k.tc
  let sl := match e with
    | some x => if x.slEn then x.sl else s.slOf k.ing tc
    | none => s.slOf k.ing tc
  let dsub := sub.getD (s.rd PORT_FWD_CFG_DEF_SUBSCRIBER k.ing)
  let m := s.meterFor k.ing e dm
  { k with
    flow := e, flowIdx := (f.map (·.1)).getD 0, sl := sl, tc := tc, dest := dw.1, window := dw.2,
    sub := match e with
      | some x => if x.subEn then x.sub else dsub
      | none => dsub,
    unsup := !k.fab && s.tlpUnsup k.tlp dw.1,
    metered := match m with
      | some n => (s.meter n).en
      | none => false,
    meter := m.getD 0,
    timedDelay := if bit at_ 11 && k.tlp.kind == .memWr then some (bits at_ 15 12) else none,
    cells := cellsOf (s.egressLen k dw.1) }

/-- The pre-colour (R82). -/
def State.preYellow (s : State) (k : Pkt) : Bool := k.fab && k.hdr.yellow && s.on PORT_FWD_CFG_TRUST_YELLOW k.ing

/-- The meter debit of a packet (R69, R143, R144); the debit is visible and not yet committed (R71). -/
def State.debit (s : State) (k : Pkt) : State × Pkt :=
  if k.metered then
    let x := s.meter k.meter
    let f := s.profile x.profile
    let m := x.upTo f s.ns
    let c := f.colour m k.len (s.preYellow k)
    (s.setMeter k.meter { m with visC := m.visC - uB c.2.1, visP := m.visP - uB c.2.2 },
     { k with colour := c.1, debitC := c.2.1, debitP := c.2.2, redDrop := !f.remark })
  else (s, { k with colour := cGREEN, debitC := 0, debitP := 0 })

/-- LOOKUP_SLOT_GRANT: the flow, window, destination and meter of a packet are looked up and its meter debited
(R69, R92). -/
def State.lookupSlotGrant (s : State) (id : Nat) : State :=
  match s.pkt id with
  | some k =>
    if k.stage = .recorded then
      let c := s.classify { k with cells := 0 } none none
      let (s1, k1) := s.debit { c with cells := 0, stage := .looked }
      s1.setPkt { k1 with out := { k1.out with le := c.cells } }
    else s
  | none => s

/-- Whether the launch table has room (R191). -/
def State.launchFree (s : State) : Option Nat :=
  let n := lowestFree s.gate.launch 0
  if n < 4096 then some n else none

/-- HEADROOM_RESERVE: the egress reservation is taken from the headroom pool, when it can supply the cells; a write
through a TIMED window waits for a launch-table entry as well (R111, R389). -/
def State.headroomReserve (s : State) (id : Nat) : State :=
  match s.pkt id with
  | some k =>
    let n := k.out.le
    if k.stage = .looked ∧ s.buf.headroomUsed + n ≤ s.rd BUF_HEADROOM_CELLS
        ∧ (k.timedDelay = none ∨ s.launchFree.isSome) then
      (s.takeHeadroom n).setPkt { k with stage := .reserved, cells := n }
    else s
  | none => s

/-! ## Egress forms -/

/-- What becomes of a packet that no test discards: queued at a port in one or more packets, delivered within the
device, or waiting for a non-posted entry. -/
inductive Form where
  | queue (p : Nat) (outs : List QPkt) (held : Bool)
  | inside (outs : List QPkt)
  | complete
  | endpoint (fn : Nat) (t : Tlp) (data : List Nat)
  | broadcast (hd : Nat)
  | drop (reason : Nat)
  | wait
deriving DecidableEq, Repr

/-- The ordering attributes a bridged packet carries (R388): stream ID, and whether HOP_EN of the flow applies. -/
def carried (k : Pkt) (attr slot : Nat) : Nat × Bool :=
  let hd := k.hd.getD 0
  if bits attr 10 9 = 1 then (mkStream (0xFF00 + slot) hd k.tc, false)
  else (mkStream k.tlp.req hd k.tc, true)

/-- The request of a TLP as its bridged form needs it. -/
def hostReqOf (k : Pkt) (order unit fab : Nat) (cfg : Bool) : HostReq :=
  { port := k.ing, req := k.tlp.req, tag := k.tlp.tag, tc := k.tlp.tc, hd := k.hd.getD 0, addr := k.tlp.addr,
    dw := k.tlp.dws, fbe := k.tlp.fbe, lbe := k.tlp.lbe, order := order, unit := unit, fab := fab,
    cfg := cfg, write := k.tlp.kind.hasData }

/-- Whether a posted memory write is a message-signalled interrupt of its domain (R400). -/
def State.isMsi (s : State) (hd : Nat) (t : Tlp) : Bool :=
  let d := SMap.get s.herd.doms hd {}
  t.kind == .memWr && t.dw == 1 && decide (d.msiBase ≤ t.addr) && decide (t.addr < d.msiBase + 2 ^ d.msiLog)

/-- The hop of a flow entry (R94). -/
def FlowEnt.hopSel (e : FlowEnt) : Option Nat := if e.hopEn then some e.hop else none

/-- A packet marked with what the pipeline decided: SL, subscriber, colour, ingress, re-routable and yellow flags. -/
def Pkt.mark (k : Pkt) (o : QPkt) : QPkt :=
  { o with
    ing := k.ing, ingFab := k.fab, sl := k.sl, sub := k.sub, colour := k.colour, id := k.id,
    hdr := { o.hdr with yellow := k.colour != cGREEN, reroutable := match k.flow with
      | some e => e.reroutable
      | none => false } }

/-- Fabric packets of a bridged TLP on their way: to a fabric port, or inside when the destination is this device. -/
def State.toFabric (s : State) (k : Pkt) (dst stream : Nat) (useHop : Bool) (outs : List QPkt) : Form :=
  let os := outs.map k.mark
  if dst = s.did then .inside os
  else
    match s.fabPort dst s.did stream (if useHop then k.flow.bind FlowEnt.hopSel else none) with
    | (some p, held) => .queue p os held
    | (none, _) => .drop rNO_ROUTE

/-- A Configuration Request in its form for the fabric: to the CONFIG region of the device that holds the endpoint (R377,
R379, R382). -/
def State.cfgToFabric (s : State) (k : Pkt) (data : List Nat) (dst : Nat) : Form :=
  let hd := k.hd.getD 0
  let bus := k.tlp.addr / 2 ^ 24 % 256
  match (s.vdspsOf hd).findSome? (fun d => if s.inBus hd d bus then (match s.behind hd d with
      | .remote _ q => some (d, q)
      | _ => none) else none), s.npFree with
  | some (dev, q), some n =>
    let wr := k.tlp.kind.hasData
    let kind := s.cfgKind hd dev bus wr
    let type1 := b2n (kind == .cfgRd1 || kind == .cfgWr1)
    let a := 0xC000000000000 + type1 * 2 ^ 35 + q * 2 ^ 28 + k.tlp.addr / 2 ^ 16 % 2 ^ 16 * 2 ^ 12 + k.tlp.addr % 2 ^ 12 / 4 * 4
    let stream := mkStream k.tlp.req hd k.tc
    let r : HostReq := { hostReqOf k 0 0 (dst * 2 ^ 52 + a) true with dw := 1, lbe := 0 }
    let h := { bridgeHdr s dst stream k.tlp.ep with tag := n, ackReq := wr }
    let outs := if wr then writePkts h tWRITE r data else [readPkt h n r]
    s.toFabric k dst stream true (outs.map (fun o => { o with owner := .host r }))
  | none, _ => .drop rWINDOW_MISS
  | _, none => .wait

/-- A TLP in its form for the fabric (R379, R380, R386, R388, R398, R400). -/
def State.tlpToFabric (s : State) (k : Pkt) (data : List Nat) (dst : Nat) : Form :=
  let w := k.window.bind (fun n => SMap.get s.brg.windows n none)
  let attr := (w.map (·.attr)).getD 0
  let fab := match w with
    | some x => x.fab + (k.tlp.addr - x.base)
    | none => dst * 2 ^ 52 + k.tlp.addr
  let (stream, useHop) := match w with
    | some x => carried k attr x.slot
    | none => (mkStream k.tlp.req (k.hd.getD 0) k.tc, true)
  let r := hostReqOf k (bits attr 2 1) (bits attr 4 3) fab false
  let h := bridgeHdr s dst stream k.tlp.ep
  if k.tlp.kind = .memWr then
    let type := if w.isNone ∧ s.isMsi r.hd k.tlp then tINTERRUPT else tWRITE
    s.toFabric k dst stream useHop ((writePkts h type r data).map (fun o => { o with bridged := true }))
  else if k.tlp.kind = .memRd then
    match s.npFree with
    | none => .wait
    | some n => s.toFabric k dst stream useHop [{ readPkt h n r with owner := .host r }]
  else if k.tlp.kind = .msg ∨ k.tlp.kind = .msgD then
    s.toFabric k dst stream useHop
      [fabPkt { h with type := tMESSAGE } (msgWord 0x13 (k.ing * 2 ^ 16) ++ msgHeader k.tlp ++ data)]
  else if k.tlp.kind.isCfg then s.cfgToFabric k data dst
  else .drop rUNSUPPORTED

/-- A TLP that the device issues at a port for a fabric packet (R359, R374 to R378); a non-posted one needs an entry
and a tag. -/
def State.issueForm (s : State) (k : Pkt) (q : Nat) (t : Tlp) (data : List Nat) : Form :=
  let le := t.hdrDw * 4 + data.length
  if t.kind.nonPosted then
    match s.npFree, s.portTagFree q with
    | some _, some tag =>
      let who := Owner.fabric k.hdr.src k.hdr.stream k.hdr.tag k.hdr.addr t.kind.byId t.fbe t.lbe
      .queue q [k.mark { fab := false, hdr := k.hdr, tlp := { t with tag := tag }, data := data, le := le, owner := who }] false
    | _, _ => .wait
  else
    let who := if k.hdr.ackReq then Owner.ack k.hdr.src k.hdr.stream k.hdr.tag else .none
    let o : QPkt := { fab := false, hdr := k.hdr, tlp := t, data := data, le := le, bridged := fabPosted k.hdr data, owner := who }
    .queue q [k.mark o] false

/-- The dwords and enables of a fabric request (R379, R380). -/
def reqShape (h : FabHdr) (data : List Nat) : Nat × Nat × Nat × Bool × List Nat :=
  if h.type = tMESSAGE then
    let w := bytesAt data 0 3
    if w % 256 = 1 then (data.length / 4 - 1, bits w 11 8, bits w 15 12, true, data.drop 4)
    else (bits w 25 16, bits w 11 8, bits w 15 12, false, [])
  else if h.type = tREAD then (h.lenBytes / 4, 15, if h.lenBytes = 4 then 0 else 15, false, [])
  else (data.length / 4, 15, if data.length = 4 then 0 else 15, true, data)

/-- A fabric request to local fabric space in its form for a port (R374 to R377, R399). -/
def State.localForm (s : State) (k : Pkt) (data : List Nat) : Form :=
  let (dw, fbe, lbe, wr, body) := reqShape k.hdr data
  match s.localSpace k.hdr.addr k.hdr.stream dw fbe lbe wr k.hdr.poison with
  | .miss => .drop rWINDOW_MISS
  | .at_ q t => s.issueForm k q t body
  | .host a =>
    let hd := streamHd k.hdr.stream
    let t : Tlp :=
      { kind := if wr then .memWr else .memRd, req := streamReq k.hdr.stream, tc := streamTc k.hdr.stream, addr := a, dw := dw % 1024,
        fbe := fbe, lbe := lbe, ep := k.hdr.poison, hdrDw := if a < 2 ^ 32 then 3 else 4 }
    match s.hdPort hd with
    | none => .drop rWINDOW_MISS
    | some u =>
      match s.hostEntry hd k.hdr.src (streamReq k.hdr.stream) with
      | none => s.issueForm k u t body
      | some e =>
        if s.acsBlocks e hd t then .drop rACS
        else
          match s.routeHere e hd t with
          | (.port q, _) => s.issueForm k q t body
          | (.endpoint f, _) => .endpoint f t body
          | (.fabric dst, some n) =>
            match SMap.get s.brg.windows n none with
            | none => .drop rWINDOW_MISS
            | some w =>
              let fab := w.fab + (a - w.base)
              let r : HostReq :=
                { port := u, req := t.req, tag := k.hdr.tag, tc := t.tc, hd := hd, addr := a, dw := dw, fbe := fbe, lbe := lbe,
                  order := bits w.attr 2 1, unit := bits w.attr 4 3, fab := fab, write := wr }
              let h := bridgeHdr s dst k.hdr.stream k.hdr.poison
              if wr then s.toFabric k dst k.hdr.stream true ((writePkts h tWRITE r body).map (fun o => { o with bridged := true }))
              else
                match s.npFree with
                | none => .wait
                | some n' =>
                  let who := Owner.fabric k.hdr.src k.hdr.stream k.hdr.tag k.hdr.addr false fbe lbe
                  s.toFabric k dst k.hdr.stream true [{ readPkt h n' r with owner := who }]
          | _ => .drop rWINDOW_MISS

/-- Whether a message code is one the bridge knows (R380). -/
def knownMsg (c : Nat) : Bool :=
  c == 1 || c == 2 || c == 0x10 || c == 0x11 || c == 0x12 || c == 0x13 || c == 0x20 || c == 0x21 || c == 0x22

/-- Whether a fabric packet is malformed (R76, R236, R237, R380). -/
def fabMalformed (h : FabHdr) (data : List Nat) (own : Bool) : Bool :=
  decide (8 ≤ h.type) || h.lenBad
    || (if h.type = tADMIN then data.length != 0 && data.length != h.lenBytes else data.length != h.payload)
    || (own && h.type == tMESSAGE && !h.drain && !knownMsg (msgCodeOf data))

/-- A TLP as it leaves at a local port: a Configuration Request as a switch downstream port converts it (R355, R382). -/
def State.belowVdsp (s : State) (q : Nat) (t : Tlp) : Tlp :=
  match s.vdspOf s.did q with
  | some (hd, dev) => if t.kind.isCfg then { t with kind := s.cfgKind hd dev (t.addr / 2 ^ 24 % 256) t.kind.hasData } else t
  | none => t

/-- The form in which a packet leaves or is taken (R93, R97 tests 5 to 8). -/
def State.formOf (s : State) (k : Pkt) (data : List Nat) : Form :=
  if k.fab then
    if k.hdr.dst = s.did then
      if k.hdr.type = tWRITE ∨ k.hdr.type = tREAD ∨ k.hdr.type = tINTERRUPT
          ∨ (k.hdr.type = tMESSAGE ∧ k.hdr.drain = false ∧ (msgCodeOf data = 1 ∨ msgCodeOf data = 2)) then
        s.localForm k data
      else .inside [k.mark { fab := true, hdr := k.hdr, data := data, le := k.len }]
    else
      match s.fabPort k.hdr.dst k.hdr.src k.hdr.stream (k.flow.bind FlowEnt.hopSel) with
      | (some p, held) =>
        let o : QPkt := { fab := true, hdr := k.hdr, data := data, le := 32 + data.length, bridged := fabPosted k.hdr data && k.hdr.src != s.did }
        .queue p [k.mark o] held
      | (none, _) => .drop rNO_ROUTE
  else if k.unsup then .drop rUNSUPPORTED
  else
    match k.dest with
    | .acs => .drop rACS
    | .windowMiss => .drop rWINDOW_MISS
    | .noRoute => .drop rNO_ROUTE
    | .port q => .queue q [k.mark { fab := false, tlp := s.belowVdsp q k.tlp, data := data, le := k.len }] false
    | .fabric d => s.tlpToFabric k data d
    | .endpoint f => .endpoint f k.tlp data
    | .broadcast hd => .broadcast hd
    | .self => .complete
    | .line _ => .drop rWINDOW_MISS

end Sys2Proof.Machine
end

