-- ==== Sys2Proof/Machine/Decide.lean ====
section
/-! DEFINITION. The decision at commit (R97), what a committed packet leaves behind (R99, R103, R259, R378, R389,
R392 to R394), and the answers of bridged requests (R383, R397). -/

namespace Sys2Proof.Machine

/-! ## Answers to hosts and to fabric requesters (R383) -/

/-- A completion TLP of a bridged request, split by the Max Payload Size of its port (R359, R383). -/
def cplPieces (r : HostReq) (mps status cplr : Nat) (poison : Bool) (data : List Nat) : Nat → Nat → List QPkt
  | 0, _ => []
  | fuel + 1, off =>
    let rest := data.drop off
    let piece := rest.take mps
    let t : Tlp :=
      { kind := if data.isEmpty then .cpl else .cplD, req := r.req, cplr := cplr, tag := r.tag, tc := r.tc,
        addr := (r.addr + off) % 128, dw := ceilDiv piece.length 4 % 1024, ep := poison, hdrDw := 3, status := status,
        byteCount := rest.length % 4096 }
    let o : QPkt := { fab := false, tlp := t, data := piece, le := 12 + piece.length, ing := r.port, ingFab := true }
    if rest.length ≤ mps then [o] else o :: cplPieces r mps status cplr poison data fuel (off + mps)

/-- A bridged request answered at its port: the completion joins a queue of that port (R355, R383); the completer ID
is a free value (log entry 26). -/
def State.hostAnswer (s : State) (r : HostReq) (status : Nat) (poison : Bool) (data : List Nat) : State :=
  let mps := s.mps r.port
  let os := cplPieces r mps status (s.freeVal 65536) poison data (data.length / mps + 1) 0
  os.foldl (fun t o =>
    let o' := { o with sl := t.slOf r.port r.tc, sub := t.rd PORT_FWD_CFG_DEF_SUBSCRIBER r.port }
    match t.link r.port o' cGREEN with
    | some u => u
    | none => (t.noteSpill r.port o' cGREEN).countDrop r.port rBUFFER_FULL) s.useFree

/-- The PCIe status a host sees for a fabric status (R383). -/
def hostStatus (status : Nat) (cfg : Bool) : Nat :=
  if status = stOK then cplSC
  else if status = stNOT_PERMITTED then cplCA
  else if status = stTIMEOUT ∧ cfg then cplRRS
  else cplUR

/-- The fabric status for a PCIe completion at the issuing port (R383). -/
def issueStatus (status : Nat) (cfg : Bool) : Nat :=
  if status = cplSC then stOK
  else if status = cplCA then stNOT_PERMITTED
  else if status = cplRRS ∧ cfg then stTIMEOUT
  else stREMOTE_ERROR

/-- Bytes that a masked read does not enable return 0 (R380). -/
def maskBytes (fbe lbe : Nat) (data : List Nat) : List Nat :=
  (List.range data.length).map (fun k => if byteEnabled (data.length / 4) fbe lbe k then byteAt data k else 0)

/-- The fabric requester of an entry answered (R238, R383). -/
def State.ownerReply (s : State) (did stream tag addr fbe lbe port status : Nat) (poison : Bool) (data : List Nat) : State :=
  let h : FabHdr := { type := tREAD, src := did, stream := stream, tag := tag, addr := addr }
  s.answerFab port h status (if status = stOK then maskBytes fbe lbe data else []) poison

/-- A bridged request's entry ends with a fabric status and data that starts at address `base` (R383, R397). -/
def State.endHost (s : State) (r : HostReq) (status : Nat) (poison : Bool) (base : Nat) (data : List Nat) : State :=
  let st := hostStatus status r.cfg
  s.hostAnswer r st (poison && st == cplSC) (if st = cplSC ∧ r.write = false then readBack r base data else [])

/-- A completion TLP that answers a request the device issued at port `p` (R378, R383). -/
def State.completeAtPort (s : State) (p : Nat) (t : Tlp) (data : List Nat) : State :=
  match s.npAtPort p t.req t.tag with
  | none => s.raise 82 { port := some p }
  | some (n, e) =>
    match e.owner with
    | .fabric did stream tag addr cfg fbe lbe =>
      let got := e.got ++ data
      let bad := e.poisoned || t.ep
      if t.status = cplSC ∧ got.length < e.bytes then s.setNp n (some { e with got := got, poisoned := bad })
      else
        let st := issueStatus t.status cfg
        (s.setNp n none).ownerReply did stream tag addr fbe lbe p st bad (if st = stOK then got else [])
    | _ => s.setNp n none

/-! ## Non-posted entries of committed packets -/

/-- The dwords that a MASKED_READ message asks for. -/
def maskedCount (data : List Nat) : Nat := bits (bytesAt data 0 3) 25 16

/-- The bytes that a MASKED_WRITE message writes. -/
def maskedBytes (data : List Nat) : Nat :=
  let w := bytesAt data 0 3
  let n := data.length - 4
  ((List.range n).filter (byteEnabled (n / 4) (bits w 11 8) (bits w 15 12))).length

/-- The entry that a committed request takes (R378). -/
def State.takeNp (s : State) (p : Nat) (o : QPkt) : State :=
  let bytes := if o.hdr.type ≠ tMESSAGE then o.hdr.lenBytes
    else if msgCodeOf o.data = 1 then maskedBytes o.data else 4 * maskedCount o.data
  match o.owner with
  | .host r =>
    let e : NpEnt := { owner := .host r, dst := o.hdr.dst, stream := o.hdr.stream, tag := o.hdr.tag, bytes := bytes,
                       addr := o.hdr.addr, issued := s.ns }
    s.setNp o.hdr.tag (some e)
  | .fabric d st tg a c f l =>
    if o.fab then
      let e : NpEnt := { owner := .fabric d st tg a c f l, dst := o.hdr.dst, stream := o.hdr.stream, tag := o.hdr.tag,
                         bytes := bytes, addr := o.hdr.addr, issued := s.ns }
      s.setNp o.hdr.tag (some e)
    else
      match s.npFree with
      | none => s
      | some n =>
        let e : NpEnt := { owner := .fabric d st tg a c f l, port := some p, dst := d, stream := o.hdr.stream, tag := o.tlp.tag,
                           bytes := if o.tlp.kind.hasData then 0 else 4 * o.tlp.dws, addr := o.tlp.addr, issued := s.ns }
        s.setNp n (some e)
  | .none | .move _ | .session _ | .ack _ _ _ | .dirty _ _ | .line _ => s
  | own =>
    let e : NpEnt := { owner := own, dst := o.hdr.dst, stream := o.hdr.stream, tag := o.hdr.tag, bytes := bytes,
                       addr := o.hdr.addr, issued := s.ns }
    s.setNp o.hdr.tag (some e)

/-! ## Prefetch (R391 to R395) -/

/-- The prefetch lines that hold data or await it. -/
def State.lineList (s : State) : List (Nat × Line) := s.brg.lines.filterMap (fun e => e.2.map (fun l => (e.1, l)))

/-- BRG_PF_STATUS follows the lines. -/
def State.syncLines (s : State) : State :=
  let l := s.lineList
  (s.wr BRG_PF_STATUS_FILLING (l.filter (fun e => !e.2.filled)).length).wr BRG_PF_STATUS_VALID
    (l.filter (fun e => e.2.filled)).length

/-- A line set or freed. -/
def State.setLine (s : State) (n : Nat) (l : Option Line) : State :=
  { s with brg := { s.brg with lines := SMap.set s.brg.lines n l none } }.syncLines

/-- The reads that wait for a line that is gone belong to no line; R384 answers them (log entry 27). -/
def State.orphanWaits (s : State) (n : Nat) : State :=
  { s with brg := { s.brg with waits := s.brg.waits.map (fun w => if w.line = n then { w with line := 384 } else w) } }

/-- A line discarded and counted (R394). -/
def State.discardLine (s : State) (n : Nat) : State := ((s.setLine n none).orphanWaits n).inc BRG_PF_DISCARDED_VALUE

/-- Lines that a test picks are discarded. -/
def State.discardLines (s : State) (f : Line → Bool) : State :=
  (s.lineList.filter (fun e => f e.2)).foldl (fun t e => t.discardLine e.1) s

/-- The line of a domain and window that holds a whole range (R393). -/
def State.lineFor (s : State) (hd slot a n : Nat) : Option (Nat × Line) :=
  s.lineList.find? (fun e => e.2.hd == hd && e.2.slot == slot && decide (e.2.base ≤ a) && decide (a + n ≤ e.2.base + e.2.len))

/-- A free line, else the oldest filled one (R392). -/
def State.lineSlot (s : State) : Option Nat :=
  let n := lowestFree s.brg.lines 0
  if s.blockAsked 0x40 then none
  else if n < 384 then some n
  else
    ((s.lineList.filter (fun e => e.2.filled)).foldl (fun (a : Option (Nat × Nat)) e =>
      match a with
      | some x => if e.2.order < x.2 then some (e.1, e.2.order) else a
      | none => some (e.1, e.2.order)) none).map (·.1)

/-- One prefetch READ of `n` bytes at fabric address `a` issued, when a line and an entry are free (R392). -/
def State.prefetchOne (s : State) (k : Pkt) (w : Window) (stream a n : Nat) : State :=
  match s.lineSlot, s.npFree with
  | some l, some tag =>
    let hd := k.hd.getD 0
    let h : FabHdr := { type := tREAD, dst := a / 2 ^ 52, src := s.did, stream := stream, tag := tag, addr := a % 2 ^ 52, prefetch := true }
    let x := s.sendFab (k.mark { fabReq h n with owner := .line l })
    if x.1 = 0 then
      let t := if (SMap.get x.2.brg.lines l none).isSome then x.2.discardLine l else x.2
      let line : Line := { hd := hd, slot := w.slot, base := a, len := n, tick := s.time.tick, order := t.brg.order, tag := tag }
      let e : NpEnt := { owner := .line l, dst := h.dst, stream := stream, tag := tag, bytes := n, addr := h.addr, issued := s.ns }
      ((({ t with brg := { t.brg with order := t.brg.order + 1 } }).setLine l (some line)).setNp tag (some e)).inc
        BRG_PF_ISSUED_VALUE
    else s
  | _, _ => s

/-- The first byte at or after `a` that no line of the window covers, within `fuel` lines. -/
def State.uncovered (s : State) (hd slot : Nat) : Nat → Nat → Nat
  | 0, a => a
  | fuel + 1, a =>
    match s.lineFor hd slot a 1 with
    | some (_, l) => State.uncovered s hd slot fuel (l.base + l.len)
    | none => a

/-- Prefetch READs for the bytes after a read's last byte (R392). `a` is the fabric address after that byte. -/
def State.prefetch (s : State) (k : Pkt) (w : Window) (stream a : Nat) : State :=
  if !s.on BRG_CTRL_PF_EN then s
  else
    let stop := min (a + s.rd BRG_CTRL_PF_UNITS * 256) (w.fab + 2 ^ w.log)
    let from_ := s.uncovered (k.hd.getD 0) w.slot 384 a
    if stop ≤ from_ then s
    else
      let mid := min stop ((from_ / 4096 + 1) * 4096)
      let s1 := s.prefetchOne k w stream from_ (mid - from_)
      if mid < stop then s1.prefetchOne k w stream mid (min stop (mid + 4096) - mid) else s1

/-! ## After a commit -/

/-- The record beside the flow entry takes the packet that R94 sent to a fabric next hop (R259). -/
def State.record (s : State) (k : Pkt) (p : Nat) (o : QPkt) : State :=
  match k.flow with
  | some e =>
    match s.findFlow e.src e.stream with
    | some i =>
      let hop := ((s.hopPos o.hdr.dst o.hdr.src o.hdr.stream e.hopSel).getD 0)
      let old := (s.flowRec i).getD {}
      s.setRec i (some { old with dst := o.hdr.dst, port := p, hop := hop, sl := o.sl, sub := o.sub })
    | none => s
  | none => s

/-- A packet in its ingress form as bytes (R105). -/
def Pkt.bytes (k : Pkt) (data : List Nat) : List Nat :=
  if k.fab then k.hdr.wire ++ data else k.tlp.header ++ data

/-- Copies at commit: by the ingress port and by the flow entry (R103). -/
def State.ingressCopies (s : State) (k : Pkt) (p : Nat) (data : List Nat) : State :=
  let o : QPkt := { ing := k.ing, fab := k.fab, hdr := k.hdr, tlp := k.tlp, sl := k.sl, sub := k.sub, colour := k.colour }
  let s1 := if s.on PORT_FWD_CFG_ING_MIRROR_EN k.ing then
      s.copyTo (s.rd PORT_FWD_CFG_ING_SESSION k.ing) false o (k.bytes data) k.len p s.ns
    else s
  match k.flow with
  | some e => if e.mirEn then s1.copyTo e.mirSess false o (k.bytes data) k.len p s.ns else s1
  | none => s1

/-- A bridged write discards the lines it touches (R394). -/
def State.touchLines (s : State) (o : QPkt) : State :=
  if o.fab && fabPosted o.hdr o.data && s.did == o.hdr.src then
    let a := o.hdr.dst * 2 ^ 52 + o.hdr.addr
    let n := if o.hdr.type = tMESSAGE then o.data.length - 4 else o.data.length
    s.discardLines (fun l => decide (a < l.base + l.len) && decide (l.base < a + n))
  else s

/-- The packets of one TLP or fabric packet linked one after another; none when admission refuses one. -/
def State.linkAll (s : State) (p : Nat) (c : Nat) (held : Bool) : List QPkt → Option State
  | [] => some s
  | o :: r =>
    match s.link p { o with held := held } c with
    | none => none
    | some t => ((t.takeNp p o).touchLines o).linkAll p c held r

/-- What a committed packet leaves behind: its debit is committed and its headroom cells are free (R99, R112). -/
def State.settleCommit (s : State) (k : Pkt) : State := (s.commitDebit k).freeHeadroom k.cells

/-! ## Holding a write through a TIMED window (R389) -/

/-- The launch table's use in its register (R209). -/
def State.syncLaunch (s : State) : State := s.wr GATE_LAUNCH_STATUS_USED s.gate.launch.length

/-- A launch-table entry written or freed. -/
def State.setLaunch (s : State) (n : Nat) (l : Option Launch) : State :=
  { s with gate := { s.gate with launch := SMap.set s.gate.launch n l none } }.syncLaunch

/-- Run-ahead cells taken in a queue for a held write (R195, R196). -/
def State.takeRunAhead (s : State) (qn n m sh : Nat) : State :=
  let s1 := s.takeOnchip qn m sh
  let q := s1.queue qn
  s1.setQueue qn { q with runAhead := q.runAhead + n }

/-- A write held for its launch edge: its cells become run-ahead cells of its queue (R389). -/
def State.holdWrite (s : State) (k : Pkt) (p delay : Nat) (outs : List QPkt) (data : List Nat) : Option State :=
  match s.launchFree, s.queueFor p k.sl k.sub with
  | some n, some qn =>
    let cells := sum (outs.map (fun o => cellsOf o.le))
    match s.admitOnchip (s.queue qn) cells with
    | none => none
    | some (m, sh) =>
      let l : Launch :=
        { kind := .window, lt := s.edgeOf (s.time.tick + 1 + delay), released := true, queue := qn, cells := cells, arrived := true,
          egress := p, src := { k with cells := 0 }, outs := outs, pkt := { data := data } }
      some (((s.freeHeadroom k.cells).takeRunAhead qn cells m sh).setLaunch n (some l))
  | _, _ => none

/-! ## The decision order (R97) -/

/-- Test 2: malformed packets (R76, R78). -/
def State.malformed (s : State) (k : Pkt) (ecrcOk : Bool) (data : List Nat) : Bool :=
  if k.fab then fabMalformed k.hdr data (k.hdr.dst == s.did)
  else
    k.tlp.malformed || (data.length != (if k.tlp.kind.hasData then 4 * k.tlp.dws else 0)) ||
      (k.tlp.td && !ecrcOk && (match k.dest with
        | .fabric _ => true
        | _ => false))

/-- The domain of a packet's destination (test 10). -/
def State.destHd (s : State) (p : Nat) (outs : List QPkt) : Option Nat :=
  if s.isFab p then
    match outs with
    | o :: _ => if streamReq o.hdr.stream < 0xFFE0 then some (streamHd o.hdr.stream) else none
    | [] => none
  else s.portHd p

/-- The action of the flow entry or of the port's miss setting: 0 forward, 1 drop, 2 trap. -/
def State.actionOf (s : State) (k : Pkt) : Nat :=
  match k.flow with
  | some e => e.action
  | none => s.rd PORT_FWD_CFG_MISS_ACTION k.ing

/-- What the decision order makes of a packet: discarded for a reason, taken, or waiting for a non-posted entry. -/
inductive Verdict where
  | drop (s : State) (k : Pkt) (reason : Nat)
  | done (s : State)
  | wait

/-- A committed completion of an endpoint ends the request of another port that it answers, with its last bytes. -/
def State.endAsked (s : State) (k : Pkt) : State :=
  if !k.fab && k.tlp.kind.isCpl && (k.tlp.status != cplSC || decide (k.tlp.remaining + k.tlp.addr % 4 ≤ 4 * k.tlp.dws)) then
    let x := s.pport k.ing
    let l := x.asked.filter (fun a => !(a.2.1 == k.tlp.req && a.2.2 == k.tlp.tag))
    if l = x.asked then s else s.setPport k.ing { x with asked := l }
  else s

/-- Tests 12 to 16 for a packet whose form is `f` (R97). -/
def State.verdictLate (s : State) (k : Pkt) (data : List Nat) (f : Form) (act : Nat) : Verdict :=
  let held := match f, k.timedDelay with
    | .queue _ _ _, some _ => act != 2
    | _, _ => false
  let s0 := if held then s else s.countColour k
  if k.metered ∧ k.colour = cRED ∧ k.redDrop then .drop (s.countColour k) k rMETER_RED
  else if act = 2 then
    if s0.trapFull then .drop s0 k rTRAP_FULL
    else .done ((s0.trapPut k k.flow.isNone data).settleCommit k)
  else
    match f with
    | .drop r => .drop s k r
    | .wait => .wait
    | .inside outs =>
      let s1 : State := { s0 with loop := s0.loop ++ outs }
      .done ((outs.foldl (fun (t : State) o => (t.takeNp 255 o).touchLines o) s1).settleCommit k)
    | .complete => .done ((s0.completeAtPort k.ing k.tlp data).settleCommit k)
    | .endpoint f t body =>
      let who := if k.fab then Owner.fabric k.hdr.src k.hdr.stream k.hdr.tag k.hdr.addr false t.fbe t.lbe else Owner.none
      let o : QPkt := { id := f, ing := k.ing, fab := false, hdr := k.hdr, tlp := t, data := body, owner := who }
      .done ({ s0 with loop := s0.loop ++ [o] }.settleCommit k)
    | .broadcast hd =>
      .done ((((s0.vdspsOf hd).filterMap (fun d => match s0.behind hd d with
        | .local_ q => some q
        | _ => none)).foldl (fun t q => t.emit (.message q k.tlp.msgCode data)) s0).settleCommit k)
    | .queue p outs h =>
      match k.timedDelay with
      | some d =>
        match s0.holdWrite k p d outs data with
        | some t => .done t
        | none => .drop s0 k rBUFFER_FULL
      | none =>
        match (s0.freeHeadroom k.cells).linkAll p k.colour h outs with
        | some t0 =>
          let t := t0.endAsked k
          let t1 := t.commitDebit k
          let t2 := match outs with
            | o :: _ => if s.isFab p then t1.record k p o else t1
            | [] => t1
          .done (t2.ingressCopies k p data)
        | none =>
          let o := outs.headD {}
          .drop (s0.noteSpill p o k.colour) k rBUFFER_FULL

/-- The decision order of R97 after the check has passed. -/
def State.verdict (s : State) (k : Pkt) (ecrcOk : Bool) (data : List Nat) : Verdict :=
  if s.malformed k ecrcOk data then .drop s k rMALFORMED
  else if s.portContained k.ing || (match k.hd with
      | some d => s.hdContained d
      | none => false) then .drop s k rCONTAINED
  else if s.streamFrozen k.ing (streamReq k.keyStream) then .drop s k rFROZEN
  else
    let f := s.formOf k data
    let act := s.actionOf k
    match f with
    | .drop r =>
      let away : Bool := match k.hd with
        | some d => (s.hdPort d).isNone
        | none => false
      let s1 := if r = rWINDOW_MISS ∧ k.fab = false ∧ s.isDown k.ing ∧ away then s.raise 92 (s.streamSubj k) else s
      .drop s1 k r
    | .queue p outs _ =>
      let k' := { k with egress := p }
      if act = 1 then .drop s k' (if k.flow.isSome then rFLOW_DROP else rMISS_DROP)
      else if s.egressContained p || (match s.destHd p outs with
          | some d => s.hdContained d
          | none => false) then .drop s k' rCONTAINED
      else if outs.any (s.tooLarge p) then .drop s k' rTOO_LARGE
      else s.verdictLate k' data f act
    | _ =>
      if act = 1 then .drop s k (if k.flow.isSome then rFLOW_DROP else rMISS_DROP)
      else s.verdictLate k data f act

/-- The decision carried out: none when the packet waits for a non-posted entry. -/
def State.decidePkt (s : State) (k : Pkt) (ecrcOk : Bool) (data : List Nat) : Option State :=
  match s.verdict k ecrcOk data with
  | .drop t k' r => some (t.discard k' r data)
  | .done t => some t
  | .wait => none

/-! ## Reads that a prefetch line answers (R393) -/

/-- The window, carried stream and fabric span of a read through a prefetchable window. -/
def State.pfRead (s : State) (k : Pkt) : Option (Window × Nat × HostReq × Nat × Nat) :=
  if k.fab = false ∧ k.tlp.kind = .memRd then
    match k.window.bind (fun n => SMap.get s.brg.windows n none) with
    | some w =>
      if bit w.attr 0 then
        let r := hostReqOf k (bits w.attr 2 1) (bits w.attr 4 3) (w.fab + (k.tlp.addr - w.base)) false
        let x := readSpan r
        some (w, (carried k w.attr w.slot).1, r, x.1, 4 * x.2.1)
      else none
    | none => none
  else none

/-- Whether the TLP enables every byte of its dwords. -/
def Tlp.whole (t : Tlp) : Bool := t.fbe == 15 && (t.dw == 1 || t.lbe == 15)

/-- A read answered from a filled line, or made to wait for a filling one; it starts prefetch beyond its last byte. -/
def State.serveLine (s : State) (k : Pkt) (w : Window) (stream : Nat) (r : HostReq) (a n : Nat) (ln : Nat) (l : Line) : State :=
  let s1 := (s.inc BRG_PF_HITS_VALUE).settleCommit k
  let s2 := if l.filled then
      s1.hostAnswer r cplSC l.poison (readBack r a ((l.data.drop (a - l.base)).take n))
    else
      let x : LineWait := { line := ln, r := r, a := a, n := n, at_ := s.ns }
      { s1 with brg := { s1.brg with waits := s1.brg.waits ++ [x] } }
  if k.tlp.whole then s2.prefetch k w stream (a + n) else s2

/-- PACKET_COMMIT: the last byte of a packet is checked; it is undone, discarded, answered from a line, or committed
(R69, R72, R97, R392, R393). -/
def State.packetCommit (s : State) (id : Nat) (ok ecrcOk : Bool) (data : List Nat) : State :=
  match s.pkt id with
  | none => s
  | some k =>
    if !ok then (s.dropPkt id).undo k
    else if k.stage ≠ .reserved then s
    else
      let s1 := s.dropPkt id
      match s1.pfRead k with
      | some (w, stream, r, a, n) =>
        match (if s1.malformed k ecrcOk data || s1.portContained k.ing || s1.streamFrozen k.ing (streamReq k.keyStream)
                  || s1.hdContained (k.hd.getD 0) || s1.actionOf k != 0 then none
               else s1.lineFor (k.hd.getD 0) w.slot a n) with
        | some (ln, l) => (s1.countColour k).serveLine k w stream r a n ln l
        | none =>
          match s1.decidePkt k ecrcOk data with
          | none => s
          | some t => if k.tlp.whole && (t.ring.np.length != s1.ring.np.length) then t.prefetch k w stream (a + n) else t
      | none =>
        match s1.decidePkt k ecrcOk data with
        | none => s
        | some t => t

end Sys2Proof.Machine
end

