-- ==== Sys2Proof/Machine/Mpu.lean ====
section
/-! DEFINITION. Region images and the mover protection units (R503 to R508), the freeze of a ring (R447, R510), and
the undoing of timed work (R199). -/

namespace Sys2Proof.Machine

/-! ## Region images (R504) -/

def imgBase (i : Nat) : Nat := bits i 63 0
def imgSize (i : Nat) : Nat := bits i 95 64
def imgPerm (i : Nat) : Nat := bits i 103 96
def imgSpace (i : Nat) : Nat := bits i 111 104
def imgValid (i : Nat) : Bool := bit i 112

/-- Whether a unit takes a region image: a core's or a mover's. An image with VALID = 0 has only its reserved bits
tested (log entry 29). -/
def imageOk (core : Bool) (i : Nat) : Bool :=
  decide (bits i 127 113 = 0) && decide (imgBase i % 64 = 0)
    && decide (imgPerm i < (if core then 16 else 4))
    && (!imgValid i ||
      (decide (1 ≤ imgSize i) && decide (imgBase i + 64 * imgSize i ≤ 2 ^ 64)
        && (if core then decide (imgSpace i ≤ 2) else decide (1 ≤ imgSpace i) && decide (imgSpace i ≤ 2))))

/-- Whether an address matches a region (R505). -/
def imgHas (space a i : Nat) : Bool :=
  imgValid i && imgSpace i == space && decide (imgBase i ≤ a) && decide (a < imgBase i + 64 * imgSize i)

/-- The lowest-numbered region that decides an address. -/
def decider (l : List (Nat × Nat)) (space a : Nat) : Option (Nat × Nat) := l.find? (fun e => imgHas space a e.2)

/-! ## Movers -/

/-- Address spaces of R504 that a mover reaches. -/
def spHost : Nat := 1
def spFab : Nat := 2

/-- The regions of a PD that are valid (R503). -/
def State.pdRegions (s : State) (pd : Nat) : List (Nat × Nat) :=
  (List.range 16).filterMap (fun r =>
    let i := SMap.get s.chm.regions (pd * 16 + r) 0
    if imgValid i then some (r, i) else none)

/-- Whether one byte is allowed to a QP's mover, and the region that decided (31: none) (R505, R506). -/
def State.moverByte (s : State) (q : Qp) (space : Nat) (wr : Bool) (a : Nat) : Bool × Nat :=
  match q.fn with
  | none => (false, 31)
  | some f =>
    match decider (s.pdRegions f) space a with
    | some (r, i) => (bit (imgPerm i) (if wr then 1 else 0), r)
    | none => (decide (2048 ≤ f) && q.loc == 0, 31)

/-- The first forbidden byte of an access with its region (R507). -/
def State.moverBad (s : State) (q : Qp) (space : Nat) (wr : Bool) (a n : Nat) : Option (Nat × Nat) :=
  (List.range n).findSome? (fun k =>
    let x := s.moverByte q space wr (a + k)
    if x.1 then none else some (a + k, x.2))

/-- Whether a REGIONS operation on a PD is reading its images (R461). -/
def State.regionsBusy (s : State) (pd : Nat) : Bool :=
  s.ring.qps.any (fun e => e.2.inProg.any (fun d =>
    d.isOp 0x18 3 && d.hostReads != 0 && d.outcome.isNone && bytesAt d.img 42 43 == pd))

/-- Whether a PD is in update hold (R461, R508). -/
def State.pdHeld (s : State) (pd : Nat) : Bool :=
  s.regionsBusy pd || (!s.on MOVER_MPU_HOLD_ENABLE && (s.on MOVER_MPU_HOLD_ALL || s.rd MOVER_MPU_HOLD_PD == pd))

/-- Whether the movers hold a QP's new accesses. -/
def State.qpHeld (s : State) (qn : Nat) : Bool :=
  match (s.qp qn).fn with
  | some f => s.pdHeld f
  | none => false

/-- MOVER_MPU_STATUS follows the held steps. -/
def State.syncHeld (s : State) : State :=
  let qs := s.chm.held.filterMap (fun h => match h with
    | .start q _ => some (q % 16)
    | .release n => (SMap.get s.gate.launch n none).bind (fun l => match l.kind with
      | .write q _ => some (q % 16)
      | _ => none))
  s.wr MOVER_MPU_STATUS_HOLDING (sum ((List.range 16).map (fun m => b2n (qs.contains m) * 2 ^ m)))

/-- A mover step kept back by the hold. -/
def State.holdStep (s : State) (h : MoverHeld) : State :=
  ({ s with chm := { s.chm with held := s.chm.held ++ [h] } }).syncHeld

/-- The QP of a held step. -/
def State.heldQp (s : State) (h : MoverHeld) : Option Nat :=
  match h with
  | .start q _ => some q
  | .release n => (SMap.get s.gate.launch n none).bind (fun l => match l.kind with
    | .write q _ => some q
    | _ => none)

/-- Held steps of a QP that is stopped are discarded and never performed (R508). -/
def State.dropHeld (s : State) (qn : Nat) : State :=
  ({ s with chm := { s.chm with held := s.chm.held.filter (fun h => s.heldQp h != some qn) } }).syncHeld

/-! ## Timed work undone (R199) -/

/-- The run-ahead cells of an entry return to the free list. -/
def State.undoRunAhead (s : State) (l : Launch) : State :=
  if l.cells = 0 ∨ !l.released then s
  else
    let q := s.queue l.queue
    (s.setQueue l.queue { q with runAhead := q.runAhead - l.cells }).freeOnchip l.queue l.cells

/-- The cue pin. -/
def State.pin (s : State) (n : Nat) : CuePin := SMap.get s.cue.pins n {}

/-- The cue pin replaced. -/
def State.setPin (s : State) (n : Nat) (p : CuePin) : State :=
  { s with cue := { s.cue with pins := SMap.set s.cue.pins n p {} } }

/-- The edges of one descriptor removed from every pin. -/
def State.dropEdges (s : State) (qn idx : Nat) : State :=
  s.cue.pins.foldl (fun (t : State) e =>
    t.setPin e.1 { e.2 with queue := e.2.queue.filter (fun x => x.qp != some (qn, idx)) }) s

/-- Launch-table entries of a QP with their descriptors. -/
def State.qpLaunches (s : State) (qn : Nat) : List (Nat × Launch × Nat) :=
  s.gate.launch.filterMap (fun e => e.2.bind (fun l => match l.kind with
    | .write q i => if q = qn then some (e.1, l, i) else none
    | .cue q i => if q = qn then some (e.1, l, i) else none
    | .window => none))

/-- The timed descriptors of a QP that have not launched are cancelled with a status (R199, R429). -/
def State.cancelTimed (s : State) (qn status : Nat) : State :=
  (s.qpLaunches qn).foldl (fun (t : State) e =>
    let t1 := ((t.undoRunAhead e.2.1).setLaunch e.1 none).dropEdges qn e.2.2
    match (t1.qp qn).desc e.2.2 with
    | some d => t1.setOutcome qn d { cookie := d.cookie, status := status, time := t1.ns % 2 ^ 32, irq := d.irq }
    | none => t1) s

/-! ## Freezing a ring (R447, R510) -/

/-- The non-posted entries of a QP's descriptors freed; a late completion finds none. -/
def State.freeNpOf (s : State) (own : Owner → Bool) : State :=
  { s with ring := { s.ring with np := s.ring.np.filter (fun e => match e.2 with
      | some x => !own x.owner
      | none => true) } }

/-- Whether an owner is a descriptor of the QP. -/
def ownedBy (qn : Nat) : Owner → Bool
  | .desc q _ => q == qn
  | _ => false

/-- A QP becomes FROZEN; descriptors in progress, but the one that `keep` names, complete with FROZEN. -/
def State.freezeQp (s : State) (qn : Nat) (keep : Option Nat := none) : State :=
  let s1 := (s.setQp qn { s.qp qn with state := .frozen, fetching := 0 }).dropHeld qn
  let s2 := s1.cancelTimed qn stFROZEN
  let s3 := ((s2.qp qn).inProg.filter (fun d => d.started && !d.free_ && d.outcome.isNone && some d.idx != keep)).foldl
    (fun (t : State) d => t.setOutcome qn d
      { cookie := d.cookie, status := stFROZEN, bytesDone := d.done, time := t.ns % 2 ^ 32, irq := d.irq }) s2
  let q := s3.qp qn
  -- descriptors that have not started stay in the ring and run after release (R447)
  let back := q.inProg.filter (fun d => !d.started)
  match back with
  | [] => s3
  | d :: _ => s3.setQp qn { q with inProg := q.inProg.filter (·.started), head := d.idx % 2 ^ q.sqLog }

/-- A mover violation: the offending descriptor completes with ACCESS_FAULT, the ring freezes, and the record stays
until release (R447, R510). -/
def State.moverViolation (s : State) (qn : Nat) (d : Desc) (wr : Bool) (a region bytesDone : Nat) : State :=
  let r : FreezeRec := { kind := b2n wr, addr := a, region := region, idx := d.idx, at_ := s.ns }
  let s1 := s.setQp qn { s.qp qn with freeze := some r }
  let s2 := s1.setOutcome qn d
    { cookie := d.cookie, status := stACCESS_FAULT, bytesDone := bytesDone, time := s1.ns % 2 ^ 32, irq := d.irq }
  (s2.freezeQp qn).raise 65 { qp := some qn, hd := (s.qp qn).fn.bind s.fnHd }

/-! ## Host accesses of a mover (R514) -/

/-- An access cut where it would cross a boundary of `unit` bytes. -/
def cuts (unit : Nat) : Nat → Nat → Nat → List (Nat × Nat)
  | 0, _, _ => []
  | fuel + 1, a, n =>
    if n = 0 then []
    else
      let k := min n (unit - a % unit)
      (a, k) :: cuts unit fuel (a + k) (n - k)

/-- An access cut at 4 KiB boundaries. -/
def pages (a n : Nat) : List (Nat × Nat) := cuts 4096 (n / 4096 + 2) a n

/-- The reads of host memory that a descriptor needs are issued, when its MPU allows every byte; `who` waits. -/
def State.hostReads (s : State) (qn a n : Nat) (who : Owner) : State :=
  match (s.qp qn).fn with
  | none => s
  | some f => (pages a n).foldl (fun (t : State) p => t.emit (.hostRead f p.1 p.2 who)) s

/-- Bytes written to host memory for a QP's function, page by page, in the endpoint's posted stream (R448). -/
def State.hostWrites (s : State) (f a : Nat) (bytes : List Nat) : State :=
  (pages a bytes.length).foldl (fun (t : State) p => t.hostWrite f p.1 ((bytes.drop (p.1 - a)).take p.2)) s

end Sys2Proof.Machine
end

