-- ==== Sys2Proof/Machine/RingOps.lean ====
section
/-! DEFINITION. The ring engine: doorbells, descriptor fetches, and the WRITE, READ and SEND descriptors
(R426 to R451). -/

namespace Sys2Proof.Machine

/-! ## Rings and functions -/

/-- BRG_CTRL.NP_TIMEOUT in ns. -/
def State.npTimeout (s : State) : Nat := s.rd BRG_CTRL_NP_TIMEOUT * 100000

/-- The routing ID of a function: PF n is device 0, function 0 of its bus, and VF i of a PF follows it by i
(R348, R415, R456). -/
def State.fnRid (s : State) (f : Nat) : Nat :=
  match s.fnPf f with
  | none => 0
  | some n =>
    let pf := s.vc (fnKey (pfIndex n) vfBus) * 256
    if 2048 ≤ f then pf else (pf + f - s.rd RING_PF_VF_VF_BASE n + 1) % 65536

/-- The global QP of a function's local QP (R426). -/
def State.localQp (s : State) (f l : Nat) : Option Nat := (s.fn f).qps[l]?

/-- An error of a function logged in its AER capability: status bit and TLP header (R450). -/
def State.aerLog (s : State) (f bitNo : Nat) (header : List Nat := []) : State :=
  let x := s.fn f
  s.setFn f { x with aer := x.aer ||| 2 ^ bitNo, aerHeader := if x.aerHeader.isEmpty then header else x.aerHeader }

/-- AER bits: Poisoned TLP Received, Completion Timeout, Unexpected Completion, Malformed TLP, Unsupported Request,
Uncorrectable Internal Error, numbered as PCI Express numbers them (log entry 25). -/
def aerPoisoned : Nat := 12
def aerTimeout : Nat := 14
def aerUnexpected : Nat := 16
def aerMalformed : Nat := 18
def aerUnsupported : Nat := 20
def aerInternal : Nat := 22

/-- Whether anything of a QP is outstanding: a fetch, a host read, or a non-posted entry (R429). -/
def State.qpBusy (s : State) (qn : Nat) : Bool :=
  let q := s.qp qn
  q.fetching != 0 || q.inProg.any (fun d => d.hostReads != 0)
    || s.ring.np.any (fun e => match e.2 with
      | some x => ownedBy qn x.owner
      | none => false)

/-! ## QP commands (R428, R429) -/

/-- QP_CMD ENABLE for a QP (R428, R471). -/
def State.qpEnable (s : State) (f : Nat) : State :=
  let x := s.fn f
  let bad : State := s.setFn f { x with cfgRejected := true }
  match s.localQp f x.qpSel with
  | none => s
  | some qn =>
    let q := s.qp qn
    if x.reset.isNone ∧ q.state = .disabled ∧ q.sqLog ≤ q.cqLog ∧ q.sqBase ≠ 0 ∧ q.cqBase ≠ 0 ∧ q.freeze = none then
      s.setQp qn { q with
        state := .active, head := 0, tail := 0, cqTail := 0, cqHead := 0, phase := true, inProg := [], held := [],
        fetching := 0, msiPending := false }
    else if x.reset.isSome then s
    else bad

/-- A QP starts draining: it fetches and writes nothing more, and its timed work is undone (R429). -/
def State.drainQp (s : State) (qn : Nat) : State :=
  let q := s.qp qn
  let s1 := (s.setQp qn { q with state := .draining, held := [], msiPending := false, drainAt := s.ns }).dropHeld qn
  let s2 := s1.cancelTimed qn stABORTED_RESET
  let q2 := s2.qp qn
  s2.setQp qn { q2 with inProg := q2.inProg.filter (fun d => d.started && d.outcome.isNone) }

/-- A DRAINING QP of which nothing is outstanding is DISABLED (R429). -/
def State.endDrain (s : State) (qn : Nat) : State :=
  let s1 := s.freeNpOf (ownedBy qn)
  s1.setQp qn { s1.qp qn with state := .disabled, inProg := [], fetching := 0 }

/-- QP_CMD DISABLE for a QP (R429). -/
def State.qpDisable (s : State) (f : Nat) : State :=
  let x := s.fn f
  match s.localQp f x.qpSel with
  | none => s
  | some qn =>
    let q := s.qp qn
    if x.reset.isSome then s
    else if q.state = .active ∨ q.state = .frozen then s.drainQp qn
    else s.setFn f { x with cfgRejected := true }

/-- QP_DRAIN_DONE: nothing of the QP is outstanding, or its reads are squashed after NP_TIMEOUT (R429). -/
def State.qpDrainDone (s : State) (qn : Nat) : State :=
  let q := s.qp qn
  if q.state = .draining ∧ (q.fn.bind (fun f => (s.fn f).reset)).isNone
      ∧ (s.qpBusy qn = false ∨ q.drainAt + s.npTimeout ≤ s.ns) then s.endDrain qn
  else s

/-! ## Doorbells (R430 to R433) -/

/-- A doorbell error (R431). -/
def State.doorbellError (s : State) (f qn : Nat) : State :=
  let s1 := s.setFn f { s.fn f with doorbellErr := true }
  let q := s1.qp qn
  let s2 := s1.setQp qn { q with freeze := some { q.freeze.getD {} with at_ := s.ns } }
  (s2.freezeQp qn).raise 93 { qp := some qn, hd := s.fnHd f }

/-- The QP that a doorbell of a function reaches: mapped, and not DISABLED or DRAINING (R430, R467). -/
def State.doorbellQp (s : State) (f l : Nat) : Option Nat :=
  if (s.fn f).reset.isSome then none
  else (s.localQp f l).bind (fun qn =>
    let q := s.qp qn
    if q.state = .disabled ∨ q.state = .draining then none else some qn)

/-- SQ_DOORBELL (R431). -/
def State.sqDoorbell (s : State) (f l v : Nat) : State :=
  match s.doorbellQp f l with
  | none => s
  | some qn =>
    let q := s.qp qn
    let size := 2 ^ q.sqLog
    if size ≤ v ∨ (v + size - q.head) % size < (q.tail + size - q.head) % size then s.doorbellError f qn
    else (s.setQp qn { q with tail := v }).fetchMore qn

/-- CQ_DOORBELL (R431, R433). -/
def State.cqDoorbell (s : State) (f l v : Nat) : State :=
  match s.doorbellQp f l with
  | none => s
  | some qn =>
    let q := s.qp qn
    let size := 2 ^ q.cqLog
    if size ≤ v ∨ (q.cqTail + size - q.cqHead) % size < (v + size - q.cqHead) % size then s.doorbellError f qn
    else (s.setQp qn { q with cqHead := v }).pumpQp qn

/-! ## Descriptor fetches (R434, R451) -/

/-- The descriptors of a fetch, from submission index `i` on. -/
def descsOf (size : Nat) (bytes : List Nat) : Nat → Nat → List Desc
  | 0, _ => []
  | n + 1, i =>
    let img := bytes.take 64
    let op := bytesAt img 0 1
    let d : Desc :=
      { idx := i % size, img := img, timed := op == 4 || op == 5, free_ := op == 0x15 || (op == 0x1B && byteAt img 40 == 2) }
    d :: descsOf size (bytes.drop 64) n (i + 1)

/-- DESCRIPTOR_FETCH: `status` 0 SC, 1 UR, 4 CA, 5 poisoned, 7 none in time (R451). -/
def State.descriptorFetch (s : State) (qn status : Nat) (bytes : List Nat) : State :=
  let q := s.qp qn
  if q.fetching = 0 then s
  else if q.state = .draining then s.setQp qn { q with fetching := 0 }
  else if status ≠ 0 then
    let s1 := s.setQp qn { q with fetching := 0, freeze := some { q.freeze.getD {} with at_ := s.ns } }
    let s2 := match q.fn with
      | some f => if status = 7 then s1.aerLog f aerTimeout else s1
      | none => s1
    (s2.freezeQp qn).raise 94 { qp := some qn, hd := q.fn.bind s.fnHd }
  else if bytes.length ≠ 64 * q.fetching then s
  else
    let size := 2 ^ q.sqLog
    (s.setQp qn { q with
      fetching := 0, head := (q.head + q.fetching) % size, inProg := q.inProg ++ descsOf size bytes q.fetching q.head }).pumpQp qn

/-! ## Packets of a ring (R435, R460) -/

/-- What became of a ring's packet. -/
inductive Sent where
  | ok (s : State)
  | failed (s : State) (status : Nat)
  | wait

/-- The stream ID of a ring's packets (R81, R435). -/
def State.ringStream (s : State) (qn : Nat) (d : Desc) : Nat :=
  let f := (s.qp qn).fn.getD 0
  let req := if d.ordSel = 0 then s.fnRid f else if d.ordSel = 1 then 0x8000 + qn else d.reqId
  mkStream req ((s.fnHd f).getD 0) d.tc

/-- The packet in the pipeline's form: its port is the function's upstream port, whose maps and defaults apply, its
subscriber is the function's, and the function meter replaces the port's default meter (R435, R460). -/
def State.ringPkt (s : State) (f : Nat) (o : QPkt) : Pkt :=
  let x := s.fn f
  let k : Pkt :=
    { ing := (s.fnPort f).getD 255, fab := true, hdr := o.hdr, stage := .reserved, tc := streamTc o.hdr.stream, keyDid := s.did,
      keyStream := o.hdr.stream, hd := s.fnHd f, len := 32 + o.data.length }
  { s.classify k (if x.meterEn then some x.meter else none) (some f) with cells := 0 }

/-- A packet of a ring takes the tests of R97 and is committed, or fails with the status of R100. An entry that it
takes is taken first, so that what its own delivery takes is another. -/
def State.ringSend (s : State) (f : Nat) (o : QPkt) : Sent :=
  let s0 := s.takeNp 255 o
  let (s1, k) := s0.debit (s0.ringPkt f o)
  match s1.verdict k true o.data with
  | .wait => .wait
  | .done t => .ok t
  | .drop t k' r =>
    let t1 := t.noteDrop k' r
    .failed (if o.owner = .none then t1 else t1.setNp o.hdr.tag none) ((fabStatus r).getD stREMOTE_ERROR)

/-- Packets of a ring one after another, up to the first that fails. -/
def State.ringSendAll (s : State) (f : Nat) : List QPkt → Sent
  | [] => .ok s
  | o :: r =>
    match s.ringSend f o with
    | .ok t => t.ringSendAll f r
    | .failed t st => .failed t st
    | .wait => .wait

/-- The request form of `n` bytes at fabric byte address `a`, for R379's dwords and enables. -/
def spanReq (a n : Nat) (wr : Bool) : HostReq :=
  let o := a % 4
  let dw := ceilDiv (o + n) 4
  let full := 15 / 2 ^ o * 2 ^ o
  let tail := if (o + n) % 4 = 0 then 15 else 2 ^ ((o + n) % 4) - 1
  { addr := a, dw := dw, fbe := if dw = 1 then Nat.land full tail else full, lbe := if dw = 1 then 0 else tail,
    fab := a / 4 * 4, write := wr }

/-- The packets that write bytes at a fabric address (R379, R439). -/
def fabWrites (h : FabHdr) (a : Nat) (bytes : List Nat) : List QPkt :=
  let r := spanReq a bytes.length true
  writePkts { h with dst := a / 2 ^ 52 % 4096 } tWRITE r
    (List.replicate (a % 4) 0 ++ bytes ++ List.replicate (4 * r.dw - a % 4 - bytes.length) 0)

/-- The allowed runs of an access, as offset and length (R507). -/
def allowedRuns (ok : Nat → Bool) : Nat → Nat → List (Nat × Nat)
  | 0, _ => []
  | n + 1, i =>
    let rest := allowedRuns ok n (i + 1)
    if ok i then
      match rest with
      | (j, m) :: r => if j = i + 1 then (i, m + 1) :: r else (i, 1) :: rest
      | [] => [(i, 1)]
    else rest

/-! ## WRITE (R439) -/

/-- Every earlier descriptor of the ring that sends packets has sent them all (R438). -/
def Qp.turnOf (q : Qp) (idx : Nat) : Bool :=
  (q.inProg.takeWhile (fun d => d.idx != idx)).all (fun d => d.timed || d.allSent || d.outcome.isSome || decide (2 < d.opcode))

/-- The next host read of a descriptor's source, page by page; its MPU checks each byte first (R439, R507, R514). -/
def State.nextHostRead (s : State) (qn : Nat) (d : Desc) : State :=
  if d.length ≤ d.asked ∨ d.hostReads ≠ 0 then s
  else if s.qpHeld qn then s.holdStep (.start qn d.idx)
  else
    let a := d.source + d.asked
    let n := min (d.length - d.asked) (4096 - a % 4096)
    match s.moverBad (s.qp qn) spHost false a n with
    | some (b, r) => s.moverViolation qn d false b r d.done
    | none => (s.setDesc qn { d with asked := d.asked + n, hostReads := 1 }).hostReads qn a n (.desc qn d.idx)

/-- Tags for the packets of an acknowledged WRITE (R239). -/
def State.tagAcks (s : State) (own : Owner) : List QPkt → List QPkt
  | [] => []
  | o :: r =>
    match s.ackFree with
    | some t =>
      let o' : QPkt := { o with hdr := { o.hdr with ackReq := true, tag := t }, owner := own }
      o' :: (s.setNp t (some {})).tagAcks own r
    | none => [o]

/-- One piece of a WRITE is sent when all of its bytes have arrived: the parts the MPU allows (R439, R507). None: it
waits. -/
def State.writePiece (s : State) (qn : Nat) (d : Desc) : Option State :=
  let q := s.qp qn
  let f := q.fn.getD 0
  let a := d.dest + d.sent
  let n := min (d.length - d.sent) (4096 - a % 4096)
  if n = 0 ∨ d.buf.length < n ∨ !q.turnOf d.idx then none
  else
    let bytes := d.buf.take n
    let h : FabHdr := { src := s.did, stream := s.ringStream qn d, poison := d.poisoned }
    let runs := allowedRuns (fun i => (s.moverByte q spFab true (a + i)).1) n 0
    let pkts := runs.flatMap (fun r => fabWrites h (a + r.1) ((bytes.drop r.1).take r.2))
    let pkts' := if d.ackWait then s.tagAcks (.desc qn d.idx) pkts else pkts
    let got := sum (runs.map (·.2))
    if d.ackWait ∧ pkts'.any (fun o => !o.hdr.ackReq) then none
    else
      match s.ringSendAll f pkts' with
      | .wait => none
      | .failed t st => some ((t.freeNpOf (· == .desc qn d.idx)).finish qn d st d.done)
      | .ok t =>
        let d' : Desc :=
          { d with buf := d.buf.drop n, sent := d.sent + n, done := if d.ackWait then d.done else d.done + got,
                   outstanding := if d.ackWait then d.outstanding + pkts.length else 0, allSent := decide (d.length ≤ d.sent + n) }
        match s.moverBad q spFab true a n with
        | some (b, r) => some ((t.setDesc qn d').moverViolation qn d' true b r d'.done)
        | none =>
          if d'.allSent ∧ !d.ackWait then some ((t.setDesc qn d').finish qn d' (if d.poisoned then stPOISONED else stOK) d.length)
          else some (t.setDesc qn d')

/-- The WRITE descriptors of a ring send what they can, in ring order. -/
def State.pumpWrites (s : State) (qn : Nat) : Nat → State
  | 0 => s
  | n + 1 =>
    if s.qpHeld qn then s
    else
      match (s.qp qn).inProg.find? (fun d => d.started && d.opcode == 1 && !d.allSent && d.outcome.isNone) with
      | none => s
      | some d =>
        match s.writePiece qn d with
        | some t => t.pumpWrites qn n
        | none => s

/-- The ranges and reserved bytes of a data-moving descriptor (R435, R436, R439). -/
def Desc.moveOk (d : Desc) (ack : Bool) (max : Nat) : Bool :=
  decide (bytesAt d.img 2 3 < (if ack then 8 else 4)) && decide (1 ≤ d.length) && decide (d.length ≤ max)
    && decide (byteAt d.img 28 < 32) && decide (d.ordSel < 3) && (d.ordSel == 2 || d.reqId == 0) && d.zero 29 29 && d.zero 32 63

/-- RING_WRITE (R439). -/
def State.ringWrite (s : State) (q idx : Nat) : State :=
  s.withDesc q idx fun d =>
    if d.asked ≠ 0 then s.pumpWrites q 64
    else s.guardDesc q d (d.moveOk true 16777216) (s.nextHostRead q d)

/-! ## READ (R440) -/

/-- The fabric byte at which the piece of a READ that its packet at `addr` carries begins, and its length. -/
def Desc.piece (d : Desc) (a : Nat) : Nat × Nat :=
  let lo := max d.dest a
  (lo, min (d.dest + d.length) ((a / 4096 + 1) * 4096) - lo)

/-- The READs of a descriptor, each at most 4,096 B within a page of the fabric address; one that finds no entry
waits (R440). -/
def State.readPieces (s : State) (qn idx : Nat) : Nat → State
  | 0 => s
  | fuel + 1 =>
    let q := s.qp qn
    match q.desc idx with
    | none => s
    | some d =>
      let a := d.dest + d.sent
      let n := min (d.length - d.sent) (4096 - a % 4096)
      if d.outcome.isSome ∨ n = 0 ∨ !q.turnOf idx then s
      else if s.qpHeld qn then s.holdStep (.start qn idx)
      else
        match s.moverBad q spFab false a n with
        | some (b, r) => (s.freeNpOf (· == .desc qn idx)).moverViolation qn d false b r 0
        | none =>
          match s.npFree with
          | none => s
          | some tag =>
            let h : FabHdr := { dst := a / 2 ^ 52 % 4096, src := s.did, stream := s.ringStream qn d }
            match s.ringSend (q.fn.getD 0) { readPkt h tag (spanReq a n false) with owner := .desc qn idx } with
            | .wait => s
            | .failed t st => (t.freeNpOf (· == .desc qn idx)).finish qn d st 0
            | .ok t =>
              let d' : Desc :=
                { d with sent := d.sent + n, outstanding := d.outstanding + 1, allSent := decide (d.length ≤ d.sent + n) }
              (t.setDesc qn d').readPieces qn idx fuel

/-- RING_READ (R440). -/
def State.ringRead (s : State) (q idx : Nat) : State :=
  s.withDesc q idx fun d => s.guardDesc q d (d.moveOk false 16777216) (s.readPieces q idx 4098)

/-- The completion of a ring READ: its bytes go to host memory as far as the MPU allows, and the descriptor ends with
the last of them, or with an error (R440, R507). -/
def State.readDone (s : State) (qn idx : Nat) (e : NpEnt) (status : Nat) (poison : Bool) (data : List Nat) : State :=
  match (s.qp qn).desc idx with
  | none => s
  | some d =>
    if d.outcome.isSome then s
    else if status ≠ stOK then (s.freeNpOf (· == .desc qn idx)).finish qn d status 0
    else
      let p := d.piece (e.dst * 2 ^ 52 + e.addr)
      let bytes := readBack (spanReq p.1 p.2 false) (p.1 / 4 * 4) data
      let body := (bytes.drop (p.1 % 4)).take p.2
      let a := d.source + (p.1 - d.dest)
      let q := s.qp qn
      let runs := allowedRuns (fun i => (s.moverByte q spHost true (a + i)).1) p.2 0
      let s1 := runs.foldl (fun (t : State) r => t.hostWrites (q.fn.getD 0) (a + r.1) ((body.drop r.1).take r.2)) s
      let d' : Desc := { d with outstanding := d.outstanding - 1, done := d.done + p.2, poisoned := d.poisoned || poison }
      match s.moverBad q spHost true a p.2 with
      | some (b, r) => ((s1.freeNpOf (· == .desc qn idx)).setDesc qn d').moverViolation qn d' true b r d.done
      | none =>
        if d'.allSent ∧ d'.outstanding = 0 then
          if d'.poisoned then (s1.setDesc qn d').finish qn d' stPOISONED d.length
          else (s1.setDesc qn d').finish qn d' stOK d.length
        else s1.setDesc qn d'

/-- The acknowledgement of one packet of a WRITE with ACK_WAIT (R439). -/
def State.writeAcked (s : State) (qn idx : Nat) (e : NpEnt) (status : Nat) : State :=
  match (s.qp qn).desc idx with
  | none => s
  | some d =>
    if d.outcome.isSome then s
    else if status ≠ stOK then (s.freeNpOf (· == .desc qn idx)).finish qn d status d.done
    else
      let d' : Desc := { d with outstanding := d.outstanding - 1, done := min d.length (d.done + e.bytes) }
      if d'.allSent ∧ d'.outstanding = 0 then
        (s.setDesc qn d').finish qn d' (if d.poisoned then stPOISONED else stOK) d.length
      else s.setDesc qn d'

/-- A ring's READ or acknowledged WRITE answered (R439, R440). -/
def State.ringCompletion (s : State) (qn idx : Nat) (e : NpEnt) (status : Nat) (poison : Bool) (data : List Nat) : State :=
  if e.tag < npTotal then s.readDone qn idx e status poison data else s.writeAcked qn idx e status

/-- The entry with a tag, when its owner is a descriptor and it has waited for NP_TIMEOUT. -/
def State.dueEntry (s : State) (tag : Nat) : Option (NpEnt × Nat × Nat) :=
  match s.np tag with
  | some e =>
    match e.owner with
    | .desc q i => if e.issued + s.npTimeout ≤ s.ns then some (e, q, i) else none
    | _ => none
  | none => none

/-- WRITE_ACK_TIMEOUT (R439). -/
def State.writeAckTimeout (s : State) (tag : Nat) : State :=
  match s.dueEntry tag with
  | some (_, q, i) =>
    if tag < npTotal then s
    else
      let s1 := s.freeNpOf (· == .desc q i)
      match (s1.qp q).desc i with
      | some d => if d.outcome.isSome then s1 else s1.finish q d stTIMEOUT d.done
      | none => s1
  | none => s

/-- READ_TIMEOUT (R440). -/
def State.readTimeout (s : State) (tag : Nat) : State :=
  match s.dueEntry tag with
  | some (_, q, i) =>
    if npTotal ≤ tag then s
    else
      let s1 := s.freeNpOf (· == .desc q i)
      match (s1.qp q).desc i with
      | some d => if d.outcome.isSome then s1 else s1.finish q d stTIMEOUT 0
      | none => s1
  | none => s

/-! ## SEND (R441) -/

/-- The function that a SEND names. -/
def Desc.target (d : Desc) : Nat := if bit d.dest 27 then pfIndex (bits d.dest 20 16) else bits d.dest 26 16

/-- Whether the destination bytes of a SEND hold nothing but the named fields. -/
def State.sendShape (s : State) (d : Desc) : Bool :=
  bits d.dest 63 52 == s.did && bits d.dest 51 28 == 0 && bits d.dest 15 9 == 0 && (!bit d.dest 27 || bits d.dest 26 21 == 0)

/-- Whom a function may send to (R441). -/
def State.maySend (s : State) (f to_ : Nat) : Bool :=
  f == to_ || (if f < 2048 then (s.vfPf f).map pfIndex == some to_ else decide (to_ < 2048) && s.ownsVf (f - 2048) to_)

/-- SEND starts: it is checked, and its data is read from host memory (R441). -/
def State.send (s : State) (q idx : Nat) : State :=
  s.withDesc q idx fun d =>
    let f := (s.qp q).fn.getD 0
    if d.asked ≠ 0 then s
    else if !(d.moveOk false 4096 && s.sendShape d) then s.finish q d stBAD_DESCRIPTOR
    else if !s.maySend f d.target then s.finish q d stNOT_PERMITTED
    else
      match s.localQp d.target (bits d.dest 8 0) with
      | none => s.finish q d stRESOURCE_LIMIT
      | some tq =>
        let t := s.qp tq
        if t.state ≠ .active ∨ t.dataBase = 0 ∨ t.cqFull then s.finish q d stRESOURCE_LIMIT
        else if 2 ^ t.dataLog < d.length then s.finish q d stBAD_DESCRIPTOR
        else s.nextHostRead q d

/-- The data of a SEND is copied to the target's slot, with its RECEIVE entry, and the sender completes (R441). -/
def State.sendCopy (s : State) (qn : Nat) (d : Desc) : State :=
  match s.localQp d.target (bits d.dest 8 0) with
  | none => s.finish qn d stRESOURCE_LIMIT
  | some tq =>
    let t := s.qp tq
    if t.state ≠ .active ∨ t.dataBase = 0 ∨ t.cqFull then s.finish qn d stRESOURCE_LIMIT
    else if 2 ^ t.dataLog < d.length then s.finish qn d stBAD_DESCRIPTOR
    else if d.poisoned then s.finish qn d stPOISONED
    else
      let c : Cpl :=
        { cookie := d.cookie, status := stOK, receive := true, bytesDone := d.length, time := s.ns % 2 ^ 32, irq := true,
          image := d.buf.take d.length }
      (s.writeCpl tq c).finish qn d stOK d.length

/-! ## Data read from host memory -/

/-- The host read of a descriptor fails (R446, R450). -/
def State.hostReadFailed (s : State) (qn : Nat) (d : Desc) (status : Nat) : State :=
  let s1 := match (s.qp qn).fn with
    | some f => if status = 7 then s.aerLog f aerTimeout else s
    | none => s
  s1.finish qn d (if status = 7 then stTIMEOUT else stREMOTE_ERROR) d.done

/-- The bytes of the page that a descriptor waits for. -/
def Desc.awaited (d : Desc) : Nat :=
  d.asked - d.buf.length - d.sent

/-- Host data of a WRITE or SEND: its packets are sent, or copied, and the next page is read (R439, R441). -/
def State.hostData (s : State) (q idx status : Nat) (poison : Bool) (data : List Nat) : State :=
  s.withDesc q idx fun d =>
    if d.hostReads = 0 then s
    else if status ≠ 0 then s.hostReadFailed q d status
    else if data.length ≠ d.awaited then s
    else
      let d' : Desc := { d with buf := d.buf ++ data, hostReads := 0, poisoned := d.poisoned || poison }
      let s1 := s.setDesc q d'
      if d.opcode = 3 then
        if d.length ≤ d'.buf.length then s1.sendCopy q d' else s1.nextHostRead q d'
      else
        let s2 := s1.pumpWrites q 64
        match (s2.qp q).desc idx with
        | some e => if e.outcome.isSome then s2 else s2.nextHostRead q e
        | none => s2

/-- A step of a mover that an update hold kept back goes on (R508). -/
def State.resumeStart (s : State) (qn idx : Nat) : State :=
  match (s.qp qn).desc idx with
  | none => s
  | some d =>
    if d.outcome.isSome ∨ !d.started then s
    else if d.opcode = 2 then s.readPieces qn idx 4098
    else
      let s1 := s.pumpWrites qn 64
      match (s1.qp qn).desc idx with
      | some e => if e.outcome.isSome then s1 else s1.nextHostRead qn e
      | none => s1

end Sys2Proof.Machine
end

