-- ==== Sys2Proof/Machine/LaunchOps.lean ====
section
/-! DEFINITION. Gate lists and swaps (R177 to R183, R205 to R207), timed writes and timed cues (R191 to R204), the cue
pins' edge queues (R58 to R60, R401 to R403), and writes held by TIMED windows (R389). -/

namespace Sys2Proof.Machine

/-! ## Tick arithmetic across a pending change (R33) -/

/-- The cell time of the edge of tick `n`, with a pending period change. -/
def State.edgeNum (s : State) (n : Nat) : Nat :=
  match s.time.pend with
  | some (nc, q, sp) => if nc < n then s.edgeOf nc + (n - nc) * periodOf q sp else s.edgeOf n
  | none => s.edgeOf n

/-- The tick period in force at cell time `t`. -/
def State.periodAt (s : State) (t : Nat) : Nat :=
  match s.pendingChange with
  | some (e, per) => if e ≤ t then per else s.tTick
  | none => s.tTick

/-- The edge one tick before the edge at `t`. -/
def State.edgeBefore (s : State) (t : Nat) : Nat :=
  match s.pendingChange with
  | some (e, per) => if e < t then t - per else t - s.tTick
  | none => t - s.tTick

/-! ## Gate lists (R205, R206) -/

/-- The reserved bytes of a GATE_LIST_LOAD, and its ranges. -/
def Desc.listOk (d : Desc) : Bool :=
  d.flagsOk && d.zero 16 23 && d.zero 28 39 && d.zero 46 63 && decide (d.source % 4 = 0) && decide (4 ≤ d.length)
    && decide (d.length ≤ 4096) && decide (d.length % 4 = 0) && decide (byteAt d.img 40 < 96) && decide (bytesAt d.img 42 43 < 1024)

/-- A load is accepted and its host array is read, when PORT exists and its admin list is not locked (R178, R206). -/
def State.gateListLoad (s : State) (q idx : Nat) : State :=
  s.withDesc q idx fun d =>
    let p := byteAt d.img 40
    let first := bytesAt d.img 42 43
    let len := bytesAt d.img 44 45
    if d.asked ≠ 0 then s
    else if !(d.listOk && byteAt d.img 41 == 0 && decide (1 ≤ len) && decide (len ≤ 1024) && decide (first + d.length / 4 ≤ len)
        && s.portExists p) then s.finish q d stBAD_DESCRIPTOR
    else if (s.gatePort p).swap.isSome then s.finish q d stNOT_PERMITTED
    else if s.qpHeld q then s.holdStep (.start q idx)
    else
      match s.moverBad (s.qp q) spHost false d.source d.length with
      | some (b, r) => s.moverViolation q d false b r 0
      | none =>
        let x : ListLoad := { qp := q, idx := idx, port := p, first := first, len := len, bytes := d.length }
        let s1 := (s.setDesc q { d with asked := d.length }).hostReads q d.source d.length (.desc q idx)
        { s1 with gate := { s1.gate with loads := s1.gate.loads ++ [x] } }

/-- Words written into a list from entry `i` on. -/
def putWords (m : SMap Nat) (i : Nat) : List Nat → SMap Nat
  | [] => m
  | w :: r => putWords (SMap.set m i w 0) (i + 1) r

/-- The 32-bit little-endian words of some bytes. -/
def wordsOf : Nat → List Nat → List Nat
  | 0, _ => []
  | n + 1, bs => leNat (bs.take 4) :: wordsOf n (bs.drop 4)

/-- GATE_LIST_FETCH_DONE: the host array arrives, or its read fails (R206). -/
def State.gateListFetchDone (s : State) (q idx status : Nat) (poison : Bool) (bytes : List Nat) : State :=
  match s.gate.loads.find? (fun x => x.qp == q && x.idx == idx) with
  | none => s
  | some x =>
    let s0 : State := { s with gate := { s.gate with loads := s.gate.loads.filter (fun y => y != x) } }
    s0.withDesc q idx fun d =>
      if status ≠ 0 then s0.hostReadFailed q d status
      else if poison then s0.finish q d stPOISONED
      else if bytes.length ≠ x.bytes then s
      else
        let g := s0.gatePort x.port
        if g.swap.isSome then s0.finish q d stNOT_PERMITTED
        else
          let m := putWords g.admin x.first (wordsOf (x.bytes / 4) bytes)
          let l := gateList m x.len
          if l.any (fun e => e.1 == 0) ∨ 2 ^ 32 ≤ cycleOf l then s0.finish q d stBAD_DESCRIPTOR
          else (s0.setGate x.port { g with admin := m, adminLen := x.len }).finish q d stOK x.bytes

/-- GATE_LIST_LOAD with READ: a list is copied to the host array (R205, R206). -/
def State.gateListRead (s : State) (q idx : Nat) : State :=
  s.withDesc q idx fun d =>
    let p := byteAt d.img 40
    let fl := byteAt d.img 41
    let first := bytesAt d.img 42 43
    if !(d.listOk && (fl == 1 || fl == 3) && d.zero 44 45 && decide (first + d.length / 4 ≤ 1024) && s.portExists p) then
      s.finish q d stBAD_DESCRIPTOR
    else if s.qpHeld q then s.holdStep (.start q idx)
    else
      match s.moverBad (s.qp q) spHost true d.source d.length with
      | some (b, r) => s.moverViolation q d true b r 0
      | none =>
        let g := s.gatePort p
        let m := if fl = 3 then g.oper else g.admin
        let bytes := wordBytes ((List.range (d.length / 4)).map (fun k => SMap.get m (first + k) 0))
        (s.hostWrites ((s.qp q).fn.getD 0) d.source bytes).finish q d stOK d.length

/-! ## Swaps (R177 to R183) -/

/-- GATE_SWAP (R177, R207). -/
def State.gateSwap (s : State) (q idx : Nat) : State :=
  s.withDesc q idx fun d =>
    let p := byteAt d.img 40
    let toOpen := byteAt d.img 41 == 1
    let g := s.gatePort p
    let at_ := d.launch
    let shape := d.flagsOk && d.zero 8 31 && d.zero 42 63 && decide (byteAt d.img 41 < 2) && s.portExists p
    if g.swap.any (fun w => w.qp == q && w.idx == idx) then s
    else if !shape then s.finish q d stBAD_DESCRIPTOR
    else if !s.ticking then s.finish q d stNOT_PERMITTED
    else
      let per := s.periodAt at_
      let ok := decide (at_ % per = 0) && decide (s.edgeNum (s.time.tick + 2) ≤ at_)
        && decide (at_ ≤ s.edgeNum (s.time.tick + 65536))
        && (g.state != 1 || (at_ - g.base) % cycleOf g.operList == 0)
        && (toOpen || (decide (1 ≤ g.adminLen) && legalFor (cycleOf g.adminList) per))
      if !ok then s.finish q d stBAD_DESCRIPTOR
      else if g.swap.isSome then s.finish q d stNOT_PERMITTED
      else s.setGate p { g with swap := some { at_ := at_, toOpen := toOpen, qp := q, idx := idx }, swapTime := at_ }

/-- The GATE_SWAP descriptor of a swap completes. -/
def State.endSwap (s : State) (w : Swap) (status : Nat) (time : Nat) : State :=
  match (s.qp w.qp).desc w.idx with
  | some d => s.finish w.qp d status 0 none (some time)
  | none => s

/-- A pending swap is dropped (R179). -/
def State.dropSwap (s : State) (p status : Nat) : State :=
  let g := s.gatePort p
  match g.swap with
  | none => s
  | some w => (s.setGate p { g with swap := none }).endSwap w status s.ns

/-- The arm job of a swap is abandoned at this edge: the swap is dropped with LATE when the next edge finds it (R66, R179). -/
def State.swapMiss (s : State) (p : Nat) : State :=
  let g := s.gatePort p
  match g.swap with
  | none => s
  | some w => if w.armed ∨ s.ns < s.edgeBefore w.at_ then s else s.setGate p { g with swap := some { w with late := true } }

/-- The arm edge: the swap is armed, or dropped when its list is not legal for the period at S or its arm job was
abandoned (R179). -/
def State.swapArm (s : State) (p : Nat) : State :=
  let g := s.gatePort p
  match g.swap with
  | none => s
  | some w =>
    if w.armed ∨ s.ns < s.edgeBefore w.at_ then s
    else if w.late then (if s.ns < w.at_ then s else s.dropSwap p stLATE)
    else if w.toOpen ∨ (1 ≤ g.adminLen ∧ legalFor (cycleOf g.adminList) (s.periodAt w.at_)) then
      s.setGate p { g with swap := some { w with armed := true } }
    else s.dropSwap p stBAD_DESCRIPTOR

/-- At S an armed swap takes effect; one that a change edge at S makes illegal is dropped (R180, R183). -/
def State.swapTake (s : State) (p : Nat) : State :=
  let s0 := s.swapArm p
  let g := s0.gatePort p
  match g.swap with
  | none => s0
  | some w =>
    if s0.ns < w.at_ ∨ !w.armed then s0
    else if w.toOpen then ((s0.setGate p { g with swap := none, state := 0 }).closeMoves p w.at_).endSwap w stOK w.at_
    else if legalFor (cycleOf g.adminList) s0.tTick then
      ((s0.setGate p
        { g with swap := none, state := 1, base := w.at_, which := !g.which, oper := g.admin, operLen := g.adminLen,
                 admin := g.oper, adminLen := g.operLen }).closeMoves p w.at_).endSwap w stOK w.at_
    else s0.dropSwap p stBAD_DESCRIPTOR

/-- The change edge examines the operational list of a LISTED port (R183). -/
def State.changeEdgeGate (s : State) (p : Nat) : State :=
  let s0 := s.swapTake p
  let g := s0.gatePort p
  if g.state ≠ 1 then s0
  else if g.base = s0.time.edge then s0
  else if legalFor (cycleOf g.operList) s0.tTick ∧ (s0.time.edge - g.base) % cycleOf g.operList = 0 then
    s0.setGate p { g with base := s0.time.edge }
  else s0.holdClosed p

/-! ## Cue pins (R58, R59, R401) -/

/-- A descriptor that owns a cue edge ends. -/
def State.endCueDesc (s : State) (own : Nat × Nat) (status time : Nat) : State :=
  let s1 := (s.qpLaunches own.1).foldl (fun (t : State) e => if e.2.2 = own.2 then t.setLaunch e.1 none else t) s
  let s2 := if status = stLATE then (s1.inc GATE_LATE_VALUE).raise 105 { qp := some own.1 }
    else if status = stRESOURCE_LIMIT then s1.inc GATE_REFUSED_VALUE else s1
  match (s2.qp own.1).desc own.2 with
  | some d => s2.finish own.1 d status 0 none (some time)
  | none => s2

/-- A CUE packet's COMPLETION (R203): source DID, stream, tag. -/
def State.cueReply (s : State) (r : Nat × Nat × Nat) (status : Nat) : State :=
  s.answerFab 0 { src := r.1, stream := r.2.1, tag := r.2.2 } status

/-- Whoever waits for an edge learns a status. -/
def State.endEdge (s : State) (e : CueEdge) (status time : Nat) : State :=
  let s1 := match e.qp with
    | some own => s.endCueDesc own status time
    | none => s
  match e.remote with
  | some r => s1.cueReply r status
  | none => s1

/-- An edge offered to a pin's queue: its status, and the state (R59, R204). An edge at the time of a queued one
replaces it, and what owned the replaced one ends as R401 ends the owner of a removed edge (log entry 30). -/
def State.queueEdge (s : State) (pin : Nat) (e : CueEdge) : Nat × State :=
  let p := s.pin pin
  if 48 ≤ pin ∨ p.mode ≠ 1 then (stNOT_PERMITTED, s)
  else if e.at_ < s.ns then (stLATE, s)
  else
    match p.queue.find? (fun x => x.at_ == e.at_) with
    | some old =>
      let s1 := s.setPin pin { p with queue := p.queue.map (fun x => if x.at_ = e.at_ then e else x) }
      (stOK, if old.qp = e.qp ∧ old.remote = e.remote then s1 else s1.endEdge old stNOT_PERMITTED s.ns)
    | none =>
      if 4 ≤ p.queue.length then (stRESOURCE_LIMIT, s)
      else (stOK, s.setPin pin { p with queue := (sortBy ((p.queue ++ [e]).map (fun x => (x.at_, x)))).map (·.2) })

/-- One edge or a pulse of two offered for one owner: both are queued, or neither (R204). -/
def State.queueCue (s : State) (pin lt : Nat) (level : Bool) (width : Option Nat) (qp : Option (Nat × Nat))
    (remote : Option (Nat × Nat × Nat)) : Nat × State :=
  match width with
  | none => s.queueEdge pin { at_ := lt, level := level, qp := qp, remote := remote }
  | some w =>
    let x := s.queueEdge pin { at_ := lt, level := level, last := false, qp := qp, remote := remote }
    if x.1 ≠ stOK then x
    else
      let y := x.2.queueEdge pin { at_ := lt + w, level := !level, qp := qp, remote := remote }
      if y.1 = stOK then y
      else
        let p := x.2.pin pin
        (y.1, x.2.setPin pin { p with queue := p.queue.filter (fun e => e.at_ != lt) })

/-- CUE_EDGE_DUE: the first queued edge whose time has come is driven (R58, R204). -/
def State.cueEdgeDue (s : State) (pin : Nat) : State :=
  let p := s.pin pin
  match p.queue with
  | [] => s
  | e :: r =>
    if s.ns < e.at_ then s
    else
      let s1 := (s.setPin pin { p with level := e.level, before := p.level, edgeAt := e.at_, queue := r }).emit
        (.pin 9 pin (b2n e.level))
      let s2 := if e.qp.isSome then s1.inc GATE_LAUNCHED_VALUE else s1
      if e.last then s2.endEdge e stOK e.at_ else s2

/-- A pin leaves mode 0b01: its queued edges are removed and their owners end with NOT_PERMITTED (R401). -/
def State.clearPin (s : State) (pin : Nat) : State :=
  let p := s.pin pin
  (p.queue.filter (·.last)).foldl (fun (t : State) e => t.endEdge e stNOT_PERMITTED t.ns) (s.setPin pin { p with queue := [] })

/-- CUE_SCHED (R403): a write of CUE_SCHED_CMD. -/
def State.cueSched (s : State) (v : Nat) : State :=
  if !bit v 31 then s
  else
    let t := s.rd64 CUE_SCHED_LO_VALUE CUE_SCHED_HI_VALUE
    let x := s.queueEdge (bits v 5 0) { at_ := t, level := bit v 8 }
    let code := if x.1 = stOK then 1 else if x.1 = stLATE then 2 else if x.1 = stRESOURCE_LIMIT then 3 else 4
    x.2.wr CUE_SCHED_STATUS_RESULT code

/-- A CUE packet arrives (R203). -/
def State.cuePacket (s : State) (h : FabHdr) (data : List Nat) : State :=
  let pulse := bit h.addr 9
  let w := bytesAt data 0 3
  let who := (h.src, h.stream, h.tag)
  let x := s.queueCue (bits h.addr 5 0) h.ts (bit h.addr 8) (if pulse then some w else none) none (some who)
  if x.1 = stOK then x.2 else x.2.cueReply who x.1

/-! ## The launch table (R191 to R201) -/

/-- A timed descriptor completes LATE (R198, R192). -/
def State.endLate (s : State) (q : Nat) (d : Desc) (time : Nat) : State :=
  ((s.inc GATE_LATE_VALUE).raise 105 { qp := some q }).finish q d stLATE 0 none (some time)

/-- A timed descriptor completes RESOURCE_LIMIT and is counted (R209). -/
def State.endRefused (s : State) (q : Nat) (d : Desc) : State := (s.inc GATE_REFUSED_VALUE).finish q d stRESOURCE_LIMIT

/-- The descriptor of a launch-table entry. -/
def State.launchDesc (s : State) (l : Launch) : Option (Nat × Desc) :=
  match l.kind with
  | .write q i => ((s.qp q).desc i).map (q, ·)
  | .cue q i => ((s.qp q).desc i).map (q, ·)
  | .window => none

/-- The entry ends: its run-ahead is undone and its descriptor completes (R199). -/
def State.endLaunch (s : State) (n : Nat) (l : Launch) (status : Nat) : State :=
  let s1 := (s.undoRunAhead l).setLaunch n none
  match s1.launchDesc l with
  | some (q, d) => if status = stRESOURCE_LIMIT then s1.endRefused q d else s1.finish q d status
  | none => s1

/-- The release edge of a launch time: the edge of the tick before the one it falls in (R192). -/
def State.releaseEdge (s : State) (lt : Nat) : Nat :=
  let per := s.periodAt lt
  s.edgeBefore (lt / per * per)

/-- Where a timed write goes: its egress port, by R93 and R94. -/
def State.timedEgress (s : State) (did stream : Nat) : Option Nat := s.nextHop did s.did stream none

/-- The SL of a ring's packets and the queue at an egress port (R96, R195). -/
def State.ringQueue (s : State) (f p tc : Nat) : Option Nat := s.queueFor p (s.slOf ((s.fnPort f).getD 255) tc) f

/-- A timed write is released: run-ahead cells are obtained and its data fetched (R195). -/
def State.releaseWrite (s : State) (n : Nat) (l : Launch) (q : Nat) (d : Desc) : State :=
  let f := (s.qp q).fn.getD 0
  if s.qpHeld q then s.holdStep (.release n)
  else
    let did := d.dest / 2 ^ 52 % 4096
    let own := did == s.did
    let pkts := fabWrites { src := s.did, stream := s.ringStream q d } d.dest (List.replicate d.length 0)
    let cells := sum (pkts.map (fun o => cellsOf o.le))
    let go (t : State) (l' : Launch) : State :=
      match t.moverBad (t.qp q) spHost false d.source d.length, t.moverBad (t.qp q) spFab true d.dest d.length with
      | some (b, r), _ => t.setLaunch n (some l') |>.moverViolation q d false b r 0
      | none, some (b, r) => t.setLaunch n (some l') |>.moverViolation q d true b r 0
      | none, none => (t.setLaunch n (some l')).hostReads q d.source d.length (.launch n)
    if own then go s { l with released := true, dest := .self }
    else
      match s.timedEgress did (s.ringStream q d) with
      | none => s.endLaunch n l stREMOTE_UNREACHABLE
      | some p =>
        match s.ringQueue f p d.tc with
        | none => s.endLaunch n l stRESOURCE_LIMIT
        | some qn =>
          match s.admitOnchip (s.queue qn) cells with
          | none => s.endLaunch n l stRESOURCE_LIMIT
          | some (m, sh) =>
            go (s.takeRunAhead qn cells m sh)
              { l with released := true, dest := .fabric did, egress := p, queue := qn, cells := cells }

/-- A timed cue is released: queued on the pin, or sent to the device that holds it (R203). -/
def State.releaseCue (s : State) (n : Nat) (l : Launch) (q : Nat) (d : Desc) : State :=
  let did := d.dest / 2 ^ 52 % 4096
  let pin := byteAt d.img 40
  let level := bit (byteAt d.img 41) 0
  let pulse := bit (byteAt d.img 41) 1
  let w := bytesAt d.img 42 45
  if did = s.did then
    let x := s.queueCue pin l.lt level (if pulse then some w else none) (some (q, d.idx)) none
    if x.1 = stOK then x.2.setLaunch n (some { l with released := true })
    else x.2.endCueDesc (q, d.idx) x.1 l.lt
  else
    match s.npFree with
    | none => s
    | some tag =>
      let h : FabHdr :=
        { type := tCUE, dst := did, src := s.did, stream := s.ringStream q d, tag := tag,
          addr := pin + b2n level * 256 + b2n pulse * 512, ts := l.lt }
      match s.ringSend ((s.qp q).fn.getD 0) { fabPkt h (leBytes 4 w) with owner := .launch n } with
      | .wait => s
      | .ok t => t.setLaunch n (some { l with released := true })
      | .failed t st => t.endLaunch n l st

/-- A launch-table entry is released when its release edge has come, or ends LATE when its time has (R192). -/
def State.timedRelease (s : State) (n : Nat) : State :=
  match SMap.get s.gate.launch n none with
  | none => s
  | some l =>
    if l.released ∨ s.ns < s.releaseEdge l.lt then s
    else
      match l.kind, s.launchDesc l with
      | .write _ _, some (q, d) =>
        if l.lt ≤ s.ns then (s.setLaunch n none).endLate q d l.lt else s.releaseWrite n l q d
      | .cue _ _, some (q, d) =>
        if l.lt ≤ s.ns then (s.setLaunch n none).endLate q d l.lt else s.releaseCue n l q d
      | _, _ => s

/-- A timed descriptor takes a launch-table entry, when it is well formed and there is room (R191, R192). -/
def State.takeLaunch (s : State) (q idx : Nat) (ok : Desc → Bool) (kind : LaunchKind) : State :=
  s.withDesc q idx fun d =>
    if (s.qpLaunches q).any (fun e => e.2.2 == idx) then s
    else if !ok d ∨ s.edgeNum (s.time.tick + 65536) + (s.ns - s.time.edge) < d.launch then s.finish q d stBAD_DESCRIPTOR
    else
      match s.launchFree with
      | none => s.endRefused q d
      | some n =>
        if d.launch ≤ s.ns then s.endLate q d d.launch
        else (s.setLaunch n (some { kind := kind, lt := d.launch })).timedRelease n

/-- TIMED_WRITE (R194). -/
def State.timedWrite (s : State) (q idx : Nat) : State :=
  s.takeLaunch q idx
    (fun d => d.flagsOk && decide (1 ≤ d.length) && decide (d.length ≤ 4096) && decide (byteAt d.img 28 < 32)
      && decide (d.ordSel < 3) && (d.ordSel == 2 || d.reqId == 0) && d.zero 29 29 && d.zero 40 63) (.write q idx)

/-- TIMED_CUE (R202). -/
def State.timedCue (s : State) (q idx : Nat) : State :=
  s.takeLaunch q idx
    (fun d =>
      let w := bytesAt d.img 42 45
      d.flagsOk && d.zero 8 15 && d.zero 24 31 && d.zero 46 63 && decide (d.dest % 2 ^ 52 = 0) && decide (byteAt d.img 40 < 48)
        && decide (byteAt d.img 41 < 4)
        && (if bit (byteAt d.img 41) 1 then decide (1 ≤ w) && decide (w < 2 ^ 24) else w == 0)) (.cue q idx)

/-- TIMED_FETCH_DONE: data of a timed write arrives; what arrives after its entry has ended is discarded
(R198, R200). -/
def State.timedFetchDone (s : State) (n status : Nat) (poison : Bool) (data : List Nat) : State :=
  match SMap.get s.gate.launch n none with
  | none => s
  | some l =>
    match l.kind, s.launchDesc l with
    | .write _ _, some (q, d) =>
      if !l.released ∨ l.arrived then s
      else if status ≠ 0 then ((s.undoRunAhead l).setLaunch n none).hostReadFailed q d status
      else
        let all := l.pkt.data ++ data
        s.setLaunch n (some { l with pkt := { l.pkt with data := all }, poison := l.poison || poison,
                                     arrived := decide (d.length ≤ all.length) })
    | _, _ => s

/-- A packet whose run-ahead cells are held joins its queue: on the on-chip head with those cells, or behind the tail
through staging, for which they are given up; none when staging refuses it (R197). -/
def State.commitRunAhead (s : State) (qn cells : Nat) (pkts : List QPkt) : Option State :=
  let q := s.queue qn
  let s1 := s.setQueue qn { q with runAhead := q.runAhead - cells }
  let c (o : QPkt) : QPkt := { o with commitNs := s.ns }
  if !q.spill then some (pkts.foldl (fun (t : State) o => t.pushHead qn (c o)) s1)
  else
    pkts.foldl (fun (a : Option State) o =>
      a.bind (fun t =>
        match t.spillAdmit (t.queue qn) (cellsOf o.le) o.le cGREEN with
        | .stage b => some (t.pushStaged qn (c o) b)
        | _ => none)) (some (s1.freeOnchip qn cells))

/-- Tests 3, 4, 8 and 10 of R97 for a timed packet at its launch (R197, R389): the reason, if one applies. -/
def State.launchTest (s : State) (ing req : Nat) (hd : Option Nat) (did stream : Nat) (useHop : Option Nat) : Option Nat :=
  if s.portContained ing ∨ (hd.any s.hdContained) then some rCONTAINED
  else if s.streamFrozen ing req then some rFROZEN
  else
    match s.nextHop did s.did stream useHop with
    | none => some rNO_ROUTE
    | some p => if s.egressContained p then some rCONTAINED else none

/-- A timed write whose data is complete is committed at L_t, performed locally, or ends by a test of R197 (R201). -/
def State.launchWrite (s : State) (n : Nat) (l : Launch) (q : Nat) (d : Desc) : State :=
  let f := (s.qp q).fn.getD 0
  let ing := (s.fnPort f).getD 255
  let stream := s.ringStream q d
  let h : FabHdr := { src := s.did, stream := stream, poison := l.poison, timed := true, ts := l.lt }
  let pkts := (fabWrites h d.dest (l.pkt.data.take d.length)).map (fun o =>
    { o with ing := ing, ingFab := false, sl := s.slOf ing d.tc, sub := f })
  let done (t : State) : State :=
    match (t.qp q).desc d.idx with
    | some e => ((t.setLaunch n none).inc GATE_LAUNCHED_VALUE).finish q e (if l.poison then stPOISONED else stOK) d.length
    | none => t.setLaunch n none
  match l.dest with
  | .self =>
    match pkts.foldl (fun (a : Sent) o => match a with
        | .ok t =>
          (match t.verdict { t.ringPkt f o with flow := some {}, metered := false } true o.data with
           | .done u => .ok u
           | .wait => .failed t stRESOURCE_LIMIT
           | .drop u k r => .failed (u.noteDrop k r) ((fabStatus r).getD stREMOTE_ERROR))
        | x => x) (Sent.ok s) with
    | .ok t => done t
    | .failed t st => t.endLaunch n l st
    | .wait => s
  | _ =>
    match s.launchTest ing (streamReq stream) (s.fnHd f) (d.dest / 2 ^ 52 % 4096) stream none with
    | some r =>
      (s.endLaunch n l ((fabStatus r).getD stREMOTE_ERROR)).countDrop ing r
    | none =>
      match s.commitRunAhead l.queue l.cells pkts with
      | some t => done t
      | none => (s.endLaunch n l stRESOURCE_LIMIT).countDrop ing rBUFFER_FULL

/-- TIMED_LAUNCH: at L_t a timed write commits when its data is complete, or completes LATE (R197, R198). -/
def State.timedLaunch (s : State) (n : Nat) : State :=
  match SMap.get s.gate.launch n none with
  | none => s
  | some l =>
    match l.kind, s.launchDesc l with
    | .write _ _, some (q, d) =>
      if s.ns < l.lt then s
      else if l.arrived then s.launchWrite n l q d
      else ((s.undoRunAhead l).setLaunch n none).endLate q d l.lt
    | _, _ => s

/-- The COMPLETION of a CUE packet ends its descriptor (R203, R204). -/
def State.cueCompletion (s : State) (n status : Nat) : State :=
  match SMap.get s.gate.launch n none with
  | none => s
  | some l =>
    match s.launchDesc l with
    | some (q, d) =>
      let w := if bit (byteAt d.img 41) 1 then bytesAt d.img 42 45 else 0
      s.endCueDesc (q, d.idx) status (if status = stOK then l.lt + w else s.ns)
    | none => s.setLaunch n none

/-- TIMED_WINDOW_LAUNCH: a held write is tested and committed at its launch edge (R389). -/
def State.timedWindowLaunch (s : State) (n : Nat) : State :=
  match SMap.get s.gate.launch n none with
  | none => s
  | some l =>
    if l.kind ≠ .window ∨ s.ns < l.lt then s
    else
      let k := l.src
      let o := l.outs.headD {}
      let s0 := s.setLaunch n none
      let fail (r : Nat) : State :=
        (((s0.undoRunAhead l).noteDrop k r).raise 90 (s0.streamSubj k))
      match s0.launchTest k.ing (streamReq k.keyStream) k.hd o.hdr.dst o.hdr.stream (k.flow.bind FlowEnt.hopSel) with
      | some r => fail r
      | none =>
        let pkts := l.outs.map (fun x => { x with hdr := { x.hdr with timed := true, ts := l.lt } })
        match s0.commitRunAhead l.queue l.cells pkts with
        | some t => (pkts.foldl (fun (u : State) x => u.touchLines x) ((t.countColour k).commitDebit k)).ingressCopies k l.egress l.pkt.data
        | none => fail rBUFFER_FULL

end Sys2Proof.Machine
end

