-- ==== Sys2Proof/Machine/ObserveOps.lean ====
section
/-! DEFINITION. Observer counters, tick shadows, queue samples and snapshots (R211 to R232), and OBSERVER_SET (R444). -/

namespace Sys2Proof.Machine

/-! ## Counters (R215 to R218) -/

/-- Where counter `j` of port `p` stands: 0 SLOTS, 1 to 8 PC0 to PC7. -/
def obsKey (p j : Nat) : Nat := p * 9 + j

/-- An observer counter goes up by `n`; a wrap is remembered for the port's interrupt (R216, R218). -/
def State.obsAdd (s : State) (p j n : Nat) : State :=
  let v := SMap.get s.obs.cnt (obsKey p j) 0
  let w := wraps48 v n && s.on OBS_PORT_CTRL_IRQ_ON_WRAP p && !s.obs.wrapped.contains p
  { s with obs := { s.obs with cnt := bumpAt s.obs.cnt (obsKey p j) n, wrapped := if w then p :: s.obs.wrapped else s.obs.wrapped } }

/-- The event selector in force for a counter: EVENT [7:0], SL_MASK [15:8], SUB_EN [16], SUBSCRIBER [29:17] (R217). -/
def State.evtSel (s : State) (p i : Nat) : Nat := SMap.get s.obs.active (p * 8 + i) 0xFF00

/-- The filters of an event (R215): bit 0 SL, bit 1 subscriber. -/
def evtFilters (e : Nat) : Nat :=
  match e with
  | 1 | 2 | 6 | 7 | 8 | 9 => 3
  | 3 => 1
  | _ => 0

/-- Event `e` counted `n` times at a port, for an SL and a subscriber (R215). -/
def State.obsEvent (s0 : State) (p e n sl sub : Nat) : State :=
  let s : State := if e = 4 then { s0 with obs := { s0.obs with back := bumpAt s0.obs.back p n } } else s0
  (List.range 8).foldl (fun (t : State) i =>
    let v := t.evtSel p i
    let f := evtFilters e
    if bits v 7 0 = e ∧ (bit f 0 = false ∨ bit (bits v 15 8) sl) ∧ (bit f 1 = false ∨ bit v 16 = false ∨ bits v 29 17 = sub) then
      t.obsAdd p (i + 1) n
    else t) s

/-- A subscriber counter goes up (R221). -/
def State.subAdd (s : State) (sub c n : Nat) : State :=
  { s with obs := { s.obs with subs := bumpAt s.obs.subs (sub * 4 + c) n } }

/-- OBS_COUNTER_CLEAR: OBS_PORT_CTRL.CLEAR (R217); the sticky overflow stays. -/
def State.obsClear (s : State) (p : Nat) : State :=
  { s with obs := { s.obs with back := SMap.set s.obs.back p 0 0, cnt := (List.range 9).foldl (fun m j =>
      let v := SMap.get m (obsKey p j) 0
      SMap.set m (obsKey p j) (v / 2 ^ 63 * 2 ^ 63) 0) s.obs.cnt } }

/-- A write of OBS_EVT_SEL: it takes effect, and zeroes the counter, at the next tick edge (R217). -/
def State.evtSelWrite (s : State) (p i v : Nat) : State :=
  let s1 := (((s.wr OBS_EVT_SEL_EVENT (bits v 7 0) p i).wr OBS_EVT_SEL_SL_MASK (bits v 15 8) p i).wr OBS_EVT_SEL_SUB_EN
    (bits v 16 16) p i).wr OBS_EVT_SEL_SUBSCRIBER (bits v 29 17) p i
  let img := bits v 29 0
  let k := p * 8 + i
  let rest := s.obs.cfgPending.filter (fun e => e.1 != k)
  { s1 with obs := { s1.obs with cfgPending := if img = s.evtSel p i then rest else rest ++ [(k, img)] } }

/-- The tick edge takes over changed selectors (R217). -/
def State.evtSelTick (s : State) : State :=
  s.obs.cfgPending.foldl (fun (t : State) e =>
    let key := obsKey (e.1 / 8) (e.1 % 8 + 1)
    let v := SMap.get t.obs.cnt key 0
    { t with obs := { t.obs with active := SMap.set t.obs.active e.1 e.2 0xFF00, cnt := SMap.set t.obs.cnt key (v / 2 ^ 63 * 2 ^ 63) 0 } })
    { s with obs := { s.obs with cfgPending := [] } }

/-- The wrap interrupts of the tick (R218). -/
def State.wrapIrqs (s : State) : State :=
  if s.obs.wrapped.isEmpty then s
  else
    s.obs.wrapped.foldl (fun (t : State) _ => t.regIrq OBS_IRQ_EN OBS_IRQ_PF OBS_IRQ_VECTOR)
      { s with obs := { s.obs with wrapped := [] } }

/-- A counter set without its sticky overflow, as a shadow holds it. -/
def copyCounters (m : SMap Nat) : SMap Nat := m

/-- The shadow job of a tick edge (R219, R220). -/
def State.shadowTick (s : State) : State :=
  if s.on OBS_CTRL_SHADOW_HOLD then s
  else
    ({ s with
        obs := { s.obs with shd := s.obs.cnt, backShadow := s.obs.back, subsShadow := s.obs.subs },
        fwd := { s.fwd with dropShadow := s.fwd.drops },
        sch := { s.sch with colourShadow := s.sch.colour } }).wr64
      OBS_SHADOW_TICK_LO_VALUE OBS_SHADOW_TICK_HI_VALUE s.time.tick

/-! ## Queue samples (R223 to R227) -/

/-- The oldest packet of a queue that has not started egress. -/
def Queue.oldest (q : Queue) : Option QPkt := q.packets.head?

/-- The head-of-line sojourn of a queue in ns (R223). -/
def State.sojourn (s : State) (q : Queue) : Nat :=
  match q.oldest with
  | some k => s.ns - k.commitNs
  | none => 0

/-- The sample times of a tick for SUBDIV `k` (R223). -/
def State.sampleTime (s : State) (j k : Nat) : Nat := s.time.edge + j * s.tTick / 2 ^ k

/-- The 16 bytes of a ring entry (R226). -/
def sampleEntry (q j flags depth soj tick : Nat) : List Nat :=
  leBytes 2 q ++ [j % 32, flags] ++ leBytes 6 depth ++ leBytes 4 soj ++ leBytes 2 tick

/-- One ring entry written, or dropped when the ring is full (R226, R227). -/
def State.sampleOne (s : State) (qn j : Nat) : State :=
  let n := 2 ^ s.rd OBS_RING_CFG_LOG2_ENTRIES
  let tail := s.rd OBS_RING_TAIL_INDEX
  if (tail + 1) % n = s.rd OBS_RING_HEAD_INDEX % n then (s.inc OBS_RING_DROPS_VALUE).setOn OBS_RING_STATUS_DROPPED
  else
    let q := s.queue qn
    let so := s.sojourn q
    let depth := if q.valid then q.depth else 0
    let fl := b2n q.spill + 2 * b2n (decide (2 ^ 32 ≤ so)) + 4 * b2n (!q.valid) + 128 * b2n s.obs.ringPhase
    let e := sampleEntry qn j fl depth (if q.valid then min so (2 ^ 32 - 1) else 0) s.time.tick
    let a := s.rd64 OBS_RING_BASE_LO_VALUE OBS_RING_BASE_HI_VALUE + tail * 16
    let s1 := s.hostWrite (pfIndex (s.rd OBS_RING_CFG_PF)) a e
    let t := (tail + 1) % n
    let s2 := s1.wr OBS_RING_TAIL_INDEX t
    { s2 with obs := { s2.obs with ringPhase := if t = 0 then !s2.obs.ringPhase else s2.obs.ringPhase } }

/-- QUEUE_SAMPLE_POINT: sample point `j` of the tick (R223 to R227). -/
def State.samplePoint (s : State) (j : Nat) : State :=
  let k := s.rd OBS_RING_CFG_SUBDIV
  if !s.ticking ∨ 2 ^ k ≤ j ∨ s.ns < s.sampleTime j k then s
  else
    let s1 := s.mapped.foldl (fun (t : State) e =>
      let q := t.queue e.1
      let so := t.sojourn q
      t.setQueue e.1 { q with maxDepth := max q.maxDepth q.depth, maxSojourn := max q.maxSojourn so,
                              lastSojourn := if j = 0 then so else q.lastSojourn }) s
    if !s.on OBS_RING_CFG_EN then s1
    else
      let sel := (List.range (s.rd OBS_SAMPLE_COUNT_N)).filterMap (fun i =>
        let w := SMap.get s.obs.sample i 0
        if bit w 31 then some (w % 65536) else none)
      let s2 := sel.foldl (fun (t : State) q => t.sampleOne q j) s1
      if j + 1 = 2 ^ k ∧ s.on OBS_RING_CFG_IRQ ∧ !sel.isEmpty then s2.regIrq OBS_RING_IRQ_EN OBS_RING_IRQ_PF OBS_RING_IRQ_VECTOR
      else s2

/-- The limits of R223 and R225 for a sample count and SUBDIV. -/
def State.sampleOk (s : State) (n k : Nat) : Bool :=
  decide (k ≤ 5) && decide (n * 2 ^ k ≤ 4096) && decide (1000 * 2 ^ k ≤ s.tTick)

/-- A write of OBS_SAMPLE_COUNT (R225). -/
def State.sampleCountWrite (s : State) (v : Nat) : State :=
  let n := bits v 12 0
  if n ≤ 4096 ∧ s.sampleOk n (s.rd OBS_RING_CFG_SUBDIV) then s.wr OBS_SAMPLE_COUNT_N n
  else s.setOn OBS_RING_STATUS_CFG_REJECTED

/-- A write of OBS_RING_CFG: its new SUBDIV must obey R225, and setting EN starts the ring afresh (R226). -/
def State.ringCfgWrite (s : State) (v : Nat) : State :=
  let k := bits v 2 0
  let s0 := if k ≠ s.rd OBS_RING_CFG_SUBDIV ∧ !s.sampleOk (s.rd OBS_SAMPLE_COUNT_N) k then s.setOn OBS_RING_STATUS_CFG_REJECTED
    else
      let l := bits v 19 16
      let s1 := (((s.wr OBS_RING_CFG_SUBDIV k).wr OBS_RING_CFG_PF (bits v 28 24)).wr OBS_RING_CFG_IRQ (bits v 30 30)).wr
        OBS_RING_CFG_EN (bits v 31 31)
      let s2 := if 6 ≤ l then s1.wr OBS_RING_CFG_LOG2_ENTRIES (min l 16) else s1
      if bit v 31 then
        let s3 := s2.wr OBS_RING_TAIL_INDEX 0
        { s3 with obs := { s3.obs with ringPhase := true } }
      else s2
  s0

/-- A write of table 0x41: both maxima take the values of this sample (R224). -/
def State.maximaWrite (s : State) (qn : Nat) : State :=
  let q := s.queue qn
  s.setQueue qn { q with maxDepth := q.depth, maxSojourn := s.sojourn q }

/-! ## Snapshots (R228 to R230) -/

/-- A capture asked for; one for the same tick is joined with it (R229). -/
def State.askCapture (s : State) (tick content id : Nat) : State :=
  let has := s.obs.requests.any (fun r => r.tick == tick)
  let l := if has then s.obs.requests.map (fun r =>
      if r.tick = tick then { r with content := r.content ||| content, id := id } else r)
    else s.obs.requests ++ [{ tick := tick, content := content, id := id }]
  ({ s with obs := { s.obs with requests := l } }).setOn OBS_SNAP_STATUS_PENDING

/-- The selected state is copied into the snapshot bank (R230). -/
def State.capture (s : State) (r : SnapReq) : State :=
  let c := r.content
  let o := s.obs
  let q := s.mapped
  let obs' : ObsSt :=
    { o with
      snapObs := if bit c 0 then o.cnt else [],
      snapDrops := if bit c 1 then s.fwd.drops else [],
      snapColour := if bit c 2 then s.sch.colour else [],
      snapSubs := if bit c 3 then o.subs else [],
      snapQueues := if bit c 4 then q.map (fun e => (e.1, (e.2.depth, min (s.sojourn e.2) (2 ^ 32 - 1)))) else [],
      snapMeters := if bit c 5 then s.sch.meters.map (fun e =>
          let m := s.meterNow e.1
          (e.1, (m.comC, m.comP))) else [] }
  (((({ s with obs := obs' }).setOn OBS_SNAP_STATUS_VALID).wr OBS_SNAP_STATUS_CONTENT c).inc OBS_SNAP_STATUS_SEQ).wr64
    OBS_SNAP_TICK_LO_VALUE OBS_SNAP_TICK_HI_VALUE r.tick |>.wr OBS_SNAP_ID_VALUE r.id

/-- The captures due at the present tick taken out of the list, PENDING cleared when none is left. -/
def State.dueCaptures (s : State) : List SnapReq × State :=
  let due := s.obs.requests.filter (fun r => decide (r.tick ≤ s.time.tick))
  let rest := s.obs.requests.filter (fun r => decide (s.time.tick < r.tick))
  (due, ({ s with obs := { s.obs with requests := rest } }).wr OBS_SNAP_STATUS_PENDING (b2n (!rest.isEmpty)))

/-- The SNAPSHOT descriptors with SCOPE 0x01 whose capture tick was `tick` complete (R230). -/
def State.endLocalSnaps (s : State) (tick : Nat) : State :=
  s.herd.snaps.foldl (fun (t : State) w =>
    match (t.qp w.qp).desc w.idx with
    | some d => if d.op40 = 1 ∧ w.id = tick then t.finish w.qp d stOK 0 none (some t.time.edge) else t
    | none => t) { s with herd := { s.herd with snaps := s.herd.snaps.filter (fun w => match (s.qp w.qp).desc w.idx with
      | some d => d.op40 != 1 || w.id != tick
      | none => false) } }

/-- SNAPSHOT_CAPTURE at the present edge; `missed` when R66 abandoned it (R230). The captures taken are returned. -/
def State.snapCapture (s : State) (missed : Bool) : List SnapReq × State :=
  let (due, s1) := s.dueCaptures
  let s2 := due.foldl (fun (t : State) r =>
    if missed then (t.wr OBS_SNAP_STATUS_VALID 0).raise 107 else (t.capture r).endLocalSnaps r.tick) s1
  (due, s2)

/-- A SNAPSHOT descriptor's reserved bytes and ranges (R228). -/
def Desc.snapOk (d : Desc) : Bool :=
  d.flagsOk && d.zero 8 39 && d.zero 46 63 && decide (byteAt d.img 41 < 64) && decide (1 ≤ byteAt d.img 41)

/-- SNAPSHOT_LOCAL (R229). -/
def State.snapLocal (s : State) (q idx : Nat) : State :=
  s.withDesc q idx fun d =>
    if s.herd.snaps.any (fun w => w.qp == q && w.idx == idx) then s
    else if !d.snapOk then s.finish q d stBAD_DESCRIPTOR
    else if s.on OBS_SNAP_STATUS_PENDING then s.finish q d stNOT_PERMITTED
    else
      let n := s.time.tick + 1
      let s1 := s.askCapture n (byteAt d.img 41) (bytesAt d.img 42 45)
      { s1 with herd := { s1.herd with snaps := s1.herd.snaps ++ [{ qp := q, idx := idx, id := n }] } }

/-! ## OBSERVER_SET (R444) -/

/-- The bytes that every OBSERVER_SET leaves 0. -/
def Desc.obsOk (d : Desc) : Bool := d.flagsOk && d.zero 8 39 && d.zero 48 63

/-- OBSERVER_EVT_SEL. -/
def State.observerEvtSel (s : State) (q idx : Nat) : State :=
  s.withDesc q idx fun d =>
    let p := byteAt d.img 41
    let i := bytesAt d.img 42 43
    let v := bytesAt d.img 44 47
    s.guardDesc q d (d.obsOk && decide (i < 8) && decide (v < 2 ^ 30) && decide (bits v 7 0 ≤ 11) && s.portExists p)
      ((s.evtSelWrite p i v).finish q d stOK)

/-- OBSERVER_SAMPLE. -/
def State.observerSample (s : State) (q idx : Nat) : State :=
  s.withDesc q idx fun d =>
    let i := bytesAt d.img 42 43
    let v := bytesAt d.img 44 47
    s.guardDesc q d (d.obsOk && d.zero 41 41 && decide (i < 4096) && decide (bits v 30 16 = 0))
      (({ s with obs := { s.obs with sample := SMap.set s.obs.sample i v 0 } }).finish q d stOK)

/-- OBSERVER_VF_VIS. -/
def State.observerVfVis (s : State) (q idx : Nat) : State :=
  s.withDesc q idx fun d =>
    let v := bytesAt d.img 42 43
    let x := bytesAt d.img 44 47
    s.guardDesc q d (d.obsOk && d.zero 41 41 && decide (v < 2048) && decide (x < 2))
      ((s.wr OBS_VF_VIS_VALUE (setBit (s.rd OBS_VF_VIS_VALUE (v / 32)) (v % 32) (x == 1)) (v / 32)).finish q d stOK)

/-- OBSERVER_CLEAR. -/
def State.observerClear (s : State) (q idx : Nat) : State :=
  s.withDesc q idx fun d =>
    let p := byteAt d.img 41
    s.guardDesc q d (d.obsOk && d.zero 42 47 && s.portExists p) ((s.obsClear p).finish q d stOK)

end Sys2Proof.Machine
end

