-- ==== Sys2Proof/Machine/LinkTx.lean ====
section
/-! DEFINITION. The sending side of a Gazelle link: sequence numbers, the replay buffer, credits and counters
(R311, R318, R322, R323, R340), and the control slots that Herd sends (R241). -/

namespace Sys2Proof.Machine

/-- The link of an octet. -/
def State.lnk (s : State) (k : Nat) : LinkSt := SMap.get s.gaz k {}

/-- The link of an octet replaced. -/
def State.setLnk (s : State) (k : Nat) (x : LinkSt) : State := { s with gaz := SMap.set s.gaz k x {} }

/-- The training state of an octet. -/
def State.trn (s : State) (k : Nat) : TrainSt := SMap.get s.train k {}

/-- The training state of an octet replaced. -/
def State.setTrn (s : State) (k : Nat) (x : TrainSt) : State := { s with train := SMap.set s.train k x {} }

/-- OCT_FAB_STATUS.TRAIN_STATE codes (R305). -/
def trOFF : Nat := 0
def trDETECT : Nat := 1
def trALIGN : Nat := 2
def trCONFIG : Nat := 3
def trSTEP : Nat := 4
def trACTIVE : Nat := 5
def trDOZE : Nat := 6
def trHIBERNATE : Nat := 7
def trFAILED : Nat := 8

/-- TRAIN_STATE of an octet. -/
def State.trState (s : State) (k : Nat) : Nat := s.rd OCT_FAB_STATUS_TRAIN_STATE k

/-- Whether the link of a fabric port is up (R340). -/
def State.fabUp (s : State) (k : Nat) : Bool := s.on LINK_STATUS_UP k

/-- Link counter `j` of an octet goes up (R340). -/
def State.lnkCount (s : State) (k j n : Nat) : State :=
  let x := s.lnk k
  s.setLnk k { x with cnt := bumpAt x.cnt j n }

/-- Credits of a channel that may still be used: allocation less what is in flight (R323). -/
def LinkSt.credit (x : LinkSt) (vc : Nat) : Nat :=
  SMap.get x.alloc vc 0 - (SMap.get x.sent vc 0 + 4096 - SMap.get x.returned vc 0) % 4096

/-- LINK_TX_CREDIT follows the counters. -/
def State.syncCredit (s : State) (k vc : Nat) : State :=
  let x := s.lnk k
  (s.wr LINK_TX_CREDIT_AVAILABLE (x.credit vc) k vc).wr LINK_TX_CREDIT_PARTNER_ALLOC (SMap.get x.alloc vc 0) k vc

/-- A sequence number moved on by `n` modulo 2^32. -/
def seqAdd (a n : Nat) : Nat := (a + n) % 2 ^ 32

/-- How far `a` lies before `b`, modulo 2^32. -/
def seqDist (a b : Nat) : Nat := (b + 2 ^ 32 - a) % 2 ^ 32

/-- Whether the transmitter may start a sequenced flit: the partner's CREDIT_INIT is in, fewer than 1,024 flits are
unacknowledged, and no planned change has been acknowledged (R311, R322, R333). -/
def State.mayStart (s : State) (k : Nat) : Bool :=
  let x := s.lnk k
  x.creditIn && decide (seqDist (s.rd LINK_SEQ_TX_ACKED_VALUE k) (s.rd LINK_SEQ_TX_NEXT_VALUE k) < 1024)
    && !(x.change.any (·.acked))

/-- The first transmission of a flit of channel `vc`: it takes number N, a credit and a replay entry (R311, R323). -/
def State.sendFlit (s : State) (k vc type : Nat) (slots : List Nat := []) : State :=
  let n := s.rd LINK_SEQ_TX_NEXT_VALUE k
  let x := s.lnk k
  let e : FlitEnt := { seq := n, vc := vc, type := type, slots := slots }
  (((s.setLnk k { x with
      sent := SMap.set x.sent vc ((SMap.get x.sent vc 0 + 1) % 4096) 0, replay := x.replay ++ [e],
      flight := SMap.set x.flight vc (SMap.get x.flight vc [] ++ [n]) [],
      cnt := bumpAt x.cnt 0 1, busyAt := s.ns }).wr LINK_SEQ_TX_NEXT_VALUE (seqAdd n 1) k).syncCredit k vc)

/-- A Herd message joins the bypass channel of a fabric octet: its code and body, 14 bytes (R241, R316). -/
def State.herdSend (s : State) (k code : Nat) (body : List Nat) : State :=
  if s.fabUp k then
    let x := s.lnk k
    (s.setLnk k { x with herd := x.herd ++ [leNat (code :: body)] }).emit (.herd k code body)
  else s

/-- A link slot leaves at the next flit: its kind and fields (R316). -/
def State.slotSend (s : State) (k kind : Nat) (body : List Nat) : State := s.emit (.slot k kind body)

/-- A flit of the bypass channel or an IDLE flit in this slot: up to 14 waiting Herd slots go in a BYPASS flit when
credit allows one (R316, R318). -/
def State.bypassSlot (s : State) (k : Nat) : State :=
  let x := s.lnk k
  if !x.herd.isEmpty && s.mayStart k && decide (1 ≤ x.credit 8) then
    let s1 := s.setLnk k { x with herd := x.herd.drop 14 }
    (s1.sendFlit k 8 4 (x.herd.take 14)).lnkCount k 7 1
  else s.lnkCount k 0 1

end Sys2Proof.Machine
end

