-- ==== Sys2Proof/Machine/EgressOps.lean ====
section
/-! DEFINITION. Egress slots: the packet that starts, what a slot carries, and its class (R159, R185 to R188, R211 to
R214), and the posted stream of the management endpoint (R448, R472). -/

namespace Sys2Proof.Machine

/-- Whether a port counts slots: its link is up and its transmitter active (R211). -/
def State.slotting (s : State) (p : Nat) : Bool :=
  if s.isFab p then s.fabUp (p / 4) && s.trState (p / 4) == trACTIVE && !(s.lnk (p / 4)).doze
  else s.portExists p && s.on PORT_STATUS_LINK_UP p && (s.pport p).l0s == 0

/-- The state with every link credit present at a port: what would be chosen if credit were no bar (R212, order 4). -/
def State.withCredit (s : State) (p : Nat) : State :=
  if s.isFab p then (List.range 8).foldl (fun (t : State) v => t.wr LINK_TX_CREDIT_AVAILABLE 4095 (p / 4) v) s else s

/-- The service levels with a packet waiting behind a closed gate or failing the guard test, highest first (R188, R212
order 3). -/
def State.gatedSls (s : State) (p : Nat) : List Nat :=
  if (s.gatePort p).state = 0 then []
  else
    [7, 6, 5, 4, 3, 2, 1, 0].filter (fun sl =>
      s.mapped.any (fun e => e.2.port == p && e.2.sl == sl &&
        (match e.2.head.head? with
         | some k => !s.gateOk p sl k.le s.ns
         | none => false)))

/-- A slot that carries no packet data in first transmission, classed (R212 to R214): `busy` when the link layer or
a missing link condition keeps packets from starting, `mid` when a packet in transmission waits. -/
def State.idleSlot (s : State) (p types : Nat) (busy mid : Bool) : State :=
  match s.gatedSls p with
  | sl :: _ => s.obsEvent p 3 1 sl 0
  | [] =>
    let would := ((s.withCredit p).select p 7).isSome
    if mid || would && (busy || (s.select p types).isNone || (s.isFab p && !s.mayStart (p / 4))) then s.obsEvent p 4 1 0 0
    else s.obsEvent p 5 1 0 0

/-- A list without the first element that equals `x`. -/
def dropFirst {α : Type} [DecidableEq α] (x : α) : List α → List α
  | [] => []
  | y :: r => if y = x then r else y :: dropFirst x r

/-- A packet leaves its queue: its cells are freed, and the deficit rules apply (R152, R160). -/
def State.takeFromQueue (s : State) (qn : Nat) (k : QPkt) : State :=
  let q := s.queue qn
  let n := cellsOf k.le
  let s1 := s.setQueue qn { q with head := dropFirst k q.head, headCells := q.headCells - n }
  let s2 := s1.freeOnchip qn n
  ((if q.dflt then s2.releaseHolds q.port q.sl 1 else s2).syncDeficit qn).spillExit qn

/-- The packet as bytes in its egress form. -/
def QPkt.bytes (k : QPkt) : List Nat := if k.fab then k.hdr.wire ++ k.data else k.tlp.header ++ k.data

/-- What a grant leaves behind besides the queue: counters, copies, and the acknowledgement that the packet owes
(R103, R215, R221, R239). -/
def State.noteGrant (s : State) (p : Nat) (k : QPkt) : State :=
  let poison := if k.fab then k.hdr.poison else k.tlp.ep
  let s1 := ((s.obsEvent p 6 1 k.sl k.sub).obsEvent p 7 k.le k.sl k.sub)
  let s2 := if k.colour = cYELLOW then s1.obsEvent p 8 1 k.sl k.sub else s1
  let s3 := if poison then s2.obsEvent p 9 1 k.sl k.sub else s2
  let s4 := (s3.subAdd k.sub 0 1).subAdd k.sub 1 k.le
  let s5 := if s.on PORT_FWD_CFG_EGR_MIRROR_EN p then
      s4.copyTo (s.rd PORT_FWD_CFG_EGR_SESSION p) true k k.bytes k.le p k.commitNs
    else s4
  match k.owner with
  | .ack did stream tag => s5.answerFab k.ing { src := did, stream := stream, tag := tag } stOK
  | .none =>
    if s5.isDown p && !k.fab && k.tlp.kind.nonPosted then
      s5.setPport p { s5.pport p with asked := (s5.pport p).asked ++ [(k.ing, k.tlp.req, k.tlp.tag)] }
    else s5
  | _ => s5

/-- One DELIVERED slot: on a fabric port it is a data flit of the packet's VC (R212, R310). -/
def State.dataSlot (s : State) (p sl sub type : Nat) : State :=
  let s1 := if s.isFab p then s.sendFlit (p / 4) sl type else s
  s1.obsEvent p 1 1 sl sub

/-- The last byte of a packet leaves in the slot that starts now; past its close time it overran (R187). -/
def State.lastByte (s : State) (p : Nat) (close : Option Nat) : State :=
  match close with
  | some x => if x * 1000 < s.ns * 1000 + s.slotPs p then (s.inc GATE_OVERRUNS_VALUE p).raise 106 { port := some p } else s
  | none => s

/-- The read of the packet buffer that a grant makes: 0 with no error left, 1 when a data word of the packet is
uncorrectable, 2 when a header word is. Which packet a stored word belongs to is a free value (log entry 51). -/
def State.bufferRead (s : State) : Nat × State :=
  match s.ecc.words.find? (fun e => e.1 / 2 ^ 22 == 0) with
  | none => (0, s)
  | some e =>
    let c := s.freeVal 3
    if c = 0 then (0, s.useFree)
    else
      let (ok, t) := s.useFree.eccRead 0 (e.1 % 2 ^ 22)
      (if ok then 0 else c, t)

/-- A packet whose header is lost is discarded at egress: its granted slots are WASTED (R526). -/
def State.losePacket (s : State) (p : Nat) (g : Grant) (k : QPkt) : State :=
  let n := max 1 (s.slotsOf p k.le)
  let s1 := (((s.storeGrant g).debitGrant p g k.le).takeFromQueue g.queue k).inc ECC_LOST_PACKETS_VALUE
  (s1.setTx p { left := n - 1, sl := k.sl, sub := k.sub, lost := decide (1 < n) }).obsEvent p 2 1 k.sl k.sub

/-- A chosen packet starts: the grant, its debits, and its first slot (R155 to R160, R185, R187). -/
def State.startPacket (s : State) (p : Nat) (g : Grant) (k : QPkt) : State :=
  let n := max 1 (s.slotsOf p k.le)
  let close := if (s.gatePort p).state = 1 then s.closeTime p k.sl s.ns else none
  let s1 := (((s.storeGrant g).debitGrant p g k.le).takeFromQueue g.queue k).noteGrant p k
  let s2 := (s1.emit (.packet p k)).setTx p { left := n - 1, sl := k.sl, sub := k.sub, close := close }
  let s3 := s2.dataSlot p k.sl k.sub (if n = 1 then 3 else 0)
  if n = 1 then s3.lastByte p close else s3

/-- A posted write of the management endpoint in egress order: it is logged, and leaves (R448, R472). -/
def State.dirtyMark (s : State) (w : EpWrite) : State :=
  if 2048 ≤ w.fn ∨ w.msi then s
  else
    let x := s.fn w.fn
    let l := x.log
    if !l.logging then s
    else if w.addr < l.base ∨ l.base + 2 ^ l.span ≤ w.addr then (s.setOn VF_STATE_OVERRANGE w.fn).raise 161 { hd := s.fnHd w.fn }
    else
      let i := (w.addr - l.base) / 4096
      let put (m : SMap Nat) : SMap Nat := SMap.set m (i / 64) (SMap.get m (i / 64) 0 ||| 2 ^ (i % 64)) 0
      s.setFn w.fn { x with log := if l.sel then { l with cacheB := put l.cacheB } else { l with cacheA := put l.cacheA } }

/-- The oldest write of an upstream port's endpoint stream is granted egress. -/
def State.endpointWrite (s : State) (p : Nat) : Option State :=
  match s.portPf p with
  | none => none
  | some n =>
    match SMap.get s.ep n [] with
    | [] => none
    | w :: r =>
      let s1 : State := { s with ep := SMap.set s.ep n r [] }
      some ((s1.dirtyMark w).emit (.hostWrite w.fn w.addr w.bytes))

/-- EGRESS_SLOT: a slot of a port starts. `kind` is 0 when the transmitter may send packet data, 1 when it replays a
TLP, 2 when the link layer uses the slot, 3 when the endpoint's stream is granted; `types` gives the flow-control
credit of a PCIe port. -/
def State.egressSlot (s : State) (p kind types : Nat) : State :=
  if !s.slotting p then s
  else
    let s0 := s.obsAdd p 0 1
    let fab := s.isFab p
    let x := s0.txOf p
    if fab ∧ !(s0.lnk (p / 4)).resend.isEmpty then
      let l := s0.lnk (p / 4)
      let q := l.resend.headD 0
      let e := (l.replay.find? (fun f => f.seq == q)).getD {}
      ((((s0.setLnk (p / 4) { l with resend := l.resend.drop 1, cnt := bumpAt (bumpAt l.cnt 0 1) 4 1 }).obsEvent p 2 1 (e.vc % 8) x.sub).obsEvent
        p 10 1 0 0)).slotSend (p / 4) (if e.bad then 15 else if e.vc = 8 then 6 else 5) [q % 65536]
    else if !fab ∧ kind = 1 then (s0.obsEvent p 2 1 x.sl x.sub).obsEvent p 10 1 0 0
    else if kind = 2 then
      let s1 := s0.obsEvent p 11 1 0 0
      let s2 := s1.idleSlot p types true (decide (x.left ≠ 0))
      if fab then s2.bypassSlot (p / 4) else s2
    else if x.left ≠ 0 ∧ x.lost then
      (s0.setTx p { x with left := x.left - 1, lost := decide (x.left ≠ 1) }).obsEvent p 2 1 x.sl x.sub
    else if x.left ≠ 0 then
      if fab ∧ !s0.mayStart (p / 4) then s0.idleSlot p types true true
      else
        let s1 := (s0.setTx p { x with left := x.left - 1 }).dataSlot p x.sl x.sub (if x.left = 1 then 2 else 1)
        if x.left = 1 then s1.lastByte p x.close else s1
    else if kind = 3 ∧ !fab then
      match s0.endpointWrite p with
      | some t => t.obsEvent p 1 1 (t.slOf p 0) (pfIndex ((t.portPf p).getD 0))
      | none => s0.idleSlot p types false false
    else if (fab ∧ !s0.mayStart (p / 4)) ∨ s0.blockAsked (p / 4) then s0.idleSlot p types true false
    else
      match s0.select p types with
      | none => s0.idleSlot p types false false
      | some g =>
        match s0.headOf (s0.queue g.queue) types with
        | some k =>
          let (c, s1) := s0.bufferRead
          if c = 2 then s1.losePacket p g k
          else if c = 1 then
            let q := s1.queue g.queue
            (s1.setQueue g.queue { q with head := q.head.map (fun x => if x = k then k.poison else x) }).startPacket p g k.poison
          else s1.startPacket p g k
        | none => s0.idleSlot p types false false

end Sys2Proof.Machine
end

