-- ==== Sys2Proof/Machine/FlowOps.lean ====
section
/-! DEFINITION. FLOW_SET, moves of flows (R83 to R91, R259 to R261), copy sessions, drop capture and the FORWARD
registers with rules of their own. -/

namespace Sys2Proof.Machine

/-! ## Entry images (R83) -/

/-- The 128-bit image of a flow entry. -/
def FlowEnt.image (e : FlowEnt) : Nat :=
  2 ^ 127 + e.src % 2 ^ 12 * 2 ^ 115 + e.stream % 2 ^ 32 * 2 ^ 83 + e.action % 4 * 2 ^ 81 + b2n e.subEn * 2 ^ 80
    + e.sub % 2 ^ 13 * 2 ^ 67 + b2n e.slEn * 2 ^ 66 + e.sl % 8 * 2 ^ 63 + b2n e.meterEn * 2 ^ 62 + e.meter % 2 ^ 18 * 2 ^ 44
    + b2n e.reroutable * 2 ^ 43 + b2n e.hopEn * 2 ^ 42 + e.hop % 4 * 2 ^ 40 + b2n e.mirEn * 2 ^ 39 + e.mirSess % 8 * 2 ^ 36

/-- The flow entry of a 128-bit image. -/
def FlowEnt.ofImage (v : Nat) : FlowEnt :=
  { src := bits v 126 115, stream := bits v 114 83, action := bits v 82 81, subEn := bit v 80, sub := bits v 79 67, slEn := bit v 66,
    sl := bits v 65 63, meterEn := bit v 62, meter := bits v 61 44, reroutable := bit v 43, hopEn := bit v 42, hop := bits v 41 40,
    mirEn := bit v 39, mirSess := bits v 38 36 }

/-- The image at an index of table 0x01; 0 where no entry is valid. -/
def State.flowImage (s : State) (i : Nat) : Nat :=
  match s.flowAt i with
  | some e => e.image
  | none => 0

/-! ## Placing an entry (R84, R86) -/

/-- The first free slot of an enabled bucket. -/
def State.freeSlot (s : State) (bucket : Nat) : Option Nat :=
  if s.groupOn bucket then ((List.range 4).map (bucket * 4 + ·)).find? (fun i => (s.flowAt i).isNone) else none

/-- The other candidate bucket of the entry at an index. -/
def State.altBucket (s : State) (i : Nat) : Option Nat :=
  (s.flowAt i).bind (fun e =>
    let a := s.bucketA e.src e.stream
    let b := s.bucketB e.src e.stream
    if a = b then none else some (if i / 4 = a then b else a))

/-- An entry and its record moved from one index to another. -/
def State.moveFlow (s : State) (i j : Nat) : State :=
  (((s.setFlow j (s.flowAt i)).setRec j (s.flowRec i)).setFlow i none).setRec i none

/-- A slot of a full bucket freed by moving resident entries to their alternate buckets, `fuel` moves at most: the
first resident whose alternate bucket has room, else the first one whose alternate bucket can be given room (R86; log
entry 28). -/
def State.makeRoom (s : State) (bucket : Nat) : Nat → Option (State × Nat)
  | 0 => none
  | fuel + 1 =>
    if s.groupOn bucket then
      let slots := (List.range 4).map (bucket * 4 + ·)
      match slots.findSome? (fun i => (s.altBucket i).bind (fun b => (s.freeSlot b).map (fun j => (i, j)))) with
      | some (i, j) => some (s.moveFlow i j, i)
      | none =>
        match slots.findSome? (fun i => (s.altBucket i).map (fun b => (i, b))) with
        | none => none
        | some (i, b) =>
          match s.makeRoom b fuel with
          | some (t, j) => if (t.altBucket i).isSome ∧ j / 4 = b then some (t.moveFlow i j, i) else none
          | none => none
    else none

/-- Where an ADD places its entry (R86, R88). -/
def State.placeFor (s : State) (did stream : Nat) : Option (State × Nat) :=
  let a := s.bucketA did stream
  let b := s.bucketB did stream
  match s.freeSlot a, s.freeSlot b with
  | some i, _ => some (s, i)
  | none, some i => some (s, i)
  | none, none =>
    match s.makeRoom a 8 with
    | some x => some x
    | none => s.makeRoom b 8

/-- FLOW_COUNT follows the table. -/
def State.syncFlows (s : State) : State := s.wr FLOW_COUNT_COUNT s.fwd.flows.length

/-! ## Moves (R259 to R261) -/

/-- A move-table entry. -/
def State.move (s : State) (n : Nat) : Option Move := SMap.get s.herd.moves n none

/-- A move-table entry written or freed. -/
def State.setMove (s : State) (n : Nat) (m : Option Move) : State :=
  { s with herd := { s.herd with moves := SMap.set s.herd.moves n m none } }

/-- Whether an ordering ID has a move in progress. -/
def State.moving (s : State) (src stream : Nat) : Bool :=
  s.herd.moves.any (fun e => match e.2 with
    | some m => m.src == src && m.stream == stream
    | none => false)

/-- The drain marker of move entry `n` (R259 step 1). -/
def State.marker (s : State) (n src stream : Nat) (r : FlowRec) : QPkt :=
  { fabPkt { type := tMESSAGE, dst := r.dst, src := src, stream := stream, tag := 0xFFC0 + n, drain := true, ackReq := true,
             addr := s.did } [0, 0, 0, 0] with
    sl := r.sl, sub := r.sub, owner := .move n }

/-- A move starts: its entry is taken and its marker committed on the recorded port; none when the table is full or
the marker is not admitted. -/
def State.startMove (s : State) (src stream : Nat) (r : FlowRec) (hop : Option Nat) (why : MoveWhy) : Option State :=
  let n := lowestFree s.herd.moves 0
  if 64 ≤ n then none
  else
    match s.link r.port (s.marker n src stream r) cGREEN with
    | none => none
    | some t =>
      some (t.setMove n (some { src := src, stream := stream, dst := r.dst, oldPort := r.port,
                                newPort := (s.nextHop r.dst src stream hop).getD r.port, why := why }))

/-- HELD marks of an ordering ID cleared in every queue (R259 step 3). -/
def State.clearHeld (s : State) (src stream : Nat) : State :=
  let f (l : List QPkt) : List QPkt :=
    l.map (fun k => if k.fab ∧ k.hdr.src = src ∧ k.hdr.stream = stream then { k with held := false } else k)
  { s with sch := { s.sch with queues := s.sch.queues.map (fun e =>
      (e.1, { e.2 with head := f e.2.head, staged := f e.2.staged, tail := f e.2.tail, refill := f e.2.refill })) } }

/-- The change that a move makes to the flow table (R259 step 3, R91). -/
def State.applyMove (s : State) (m : Move) : State :=
  match s.findFlow m.src m.stream with
  | none => s
  | some i =>
    match m.why with
    | .engine h => s.setFlow i ((s.flowAt i).map (fun e => { e with hopEn := true, hop := h }))
    | .replace _ _ img => s.setFlow i (some (FlowEnt.ofImage img))
    | .delete _ _ => ((s.setFlow i none).setRec i none).syncFlows

/-- The descriptor that a move answers. -/
def MoveWhy.desc : MoveWhy → Option (Nat × Nat)
  | .engine _ => none
  | .replace q i _ => some (q, i)
  | .delete q i => some (q, i)

/-- A move ends: the flow entry changes, HELD marks are cleared, the entry is free, and a FLOW_SET completes
(R259 step 3, R91). -/
def State.endMove (s : State) (n : Nat) : State :=
  match s.move n with
  | none => s
  | some m =>
    let s1 := ((s.applyMove m).clearHeld m.src m.stream).setMove n none
    match m.why.desc with
    | some (q, i) => s1.withDesc q i (fun d => s1.finish q d stOK)
    | none => s1

/-- MOVE_TIMEOUT: TIMEOUT ticks have passed without the marker's COMPLETION (R261). -/
def State.moveTimeout (s : State) (n : Nat) : State :=
  match s.move n with
  | none => s
  | some m =>
    if s.rd HERD_MOVE_CFG_TIMEOUT ≤ m.ticks then ((s.endMove n).setOn HERD_EVENTS_MOVE_TIMEOUT).raise 151 { arg := n } else s

/-- Ticks counted in the move table at a tick edge (R261). -/
def State.moveTick (s : State) : State :=
  { s with herd := { s.herd with moves := s.herd.moves.map (fun e => (e.1, e.2.map (fun m => { m with ticks := m.ticks + 1 }))) } }

/-- Whether a change of hop selection needs a move (R91): the entry has a record whose destination still has a next
hop. -/
def State.needsMove (s : State) (i : Nat) (e : FlowEnt) (hop : Option Nat) : Option FlowRec :=
  if e.hopSel = hop then none
  else
    match s.flowRec i with
    | some r => if (s.nextHop r.dst e.src e.stream hop).isSome then some r else none
    | none => none

/-! ## FLOW_SET (R85, R86, R90, R91) -/

/-- The 128-bit ENTRY of a FLOW_SET. -/
def Desc.flowImg (d : Desc) : Nat := bytesAt d.img 40 55

/-- Whether the descriptor's own change is already being carried out as a move. -/
def State.flowBegun (s : State) (q idx : Nat) : Bool :=
  s.herd.moves.any (fun e => match e.2 with
    | some m => (match m.why with
        | .replace a b _ => a == q && b == idx
        | .delete a b => a == q && b == idx
        | .engine _ => false)
    | none => false)

/-- The common conditions of FLOW_SET. -/
def Desc.flowOk (d : Desc) (set : Bool) : Bool :=
  d.flagsOk && d.zero 8 39 && d.zero 57 63 &&
    (if set then bit d.flowImg 127 && bits d.flowImg 82 81 != 3 && bits d.flowImg 35 0 == 0
     else !bit d.flowImg 127 && bits d.flowImg 82 0 == 0)

/-- FLOW_SET ADD (R85, R86, R88, R90). -/
def State.flowAdd (s : State) (q idx : Nat) : State :=
  s.withDesc q idx fun d =>
    let e := FlowEnt.ofImage d.flowImg
    s.guardDesc q d (d.flowOk true && (s.findFlow e.src e.stream).isNone)
      (match s.placeFor e.src e.stream with
       | some (t, i) => (((t.setFlow i (some e)).setRec i none).syncFlows).finish q d stOK
       | none => s.finish q d stRESOURCE_LIMIT)

/-- FLOW_SET REPLACE (R85, R90, R91). -/
def State.flowReplace (s : State) (q idx : Nat) : State :=
  s.withDesc q idx fun d =>
    let e := FlowEnt.ofImage d.flowImg
    match s.findFlow e.src e.stream with
    | none => s.finish q d stBAD_DESCRIPTOR
    | some i =>
      s.guardDesc q d (d.flowOk true)
        (if s.flowBegun q idx then s else if s.moving e.src e.stream then s.finish q d stNOT_PERMITTED
         else
          match s.needsMove i ((s.flowAt i).getD {}) e.hopSel with
          | some r =>
            match s.startMove e.src e.stream r e.hopSel (.replace q idx d.flowImg) with
            | some t => t
            | none => s.finish q d stRESOURCE_LIMIT
          | none => (s.setFlow i (some e)).finish q d stOK)

/-- FLOW_SET DELETE (R85, R90, R91). -/
def State.flowDelete (s : State) (q idx : Nat) : State :=
  s.withDesc q idx fun d =>
    let e := FlowEnt.ofImage d.flowImg
    match s.findFlow e.src e.stream with
    | none => s.finish q d stBAD_DESCRIPTOR
    | some i =>
      s.guardDesc q d (d.flowOk false)
        (if s.flowBegun q idx then s else if s.moving e.src e.stream then s.finish q d stNOT_PERMITTED
         else
          match s.needsMove i ((s.flowAt i).getD {}) none with
          | some r =>
            match s.startMove e.src e.stream r none (.delete q idx) with
            | some t => t
            | none => s.finish q d stRESOURCE_LIMIT
          | none => (((s.setFlow i none).setRec i none).syncFlows).finish q d stOK)

/-- FLOW_SET READ (R85, R90). -/
def State.flowRead (s : State) (q idx : Nat) : State :=
  s.withDesc q idx fun d =>
    let e := FlowEnt.ofImage d.flowImg
    s.guardDesc q d (d.flowOk false)
      (s.finishData q d (leBytes 16 (match s.findFlow e.src e.stream with
        | some i => s.flowImage i
        | none => 0)))

/-! ## FORWARD registers with rules of their own (R88, R95, R104, R107) -/

/-- A SESS_CTRL write; setting EN zeroes SEQ and restarts sampling (R104, R107). -/
def State.sessCtrlWrite (s : State) (n v : Nat) : State :=
  let was := s.on SESS_CTRL_EN n
  let s1 := (((s.wr SESS_CTRL_EN (bits v 31 31) n).wr SESS_CTRL_SL (bits v 30 28) n).wr SESS_CTRL_SLOT_SIZE (bits v 27 26) n).wr
    SESS_CTRL_SAMPLE_N (bits v 25 10) n
  if bit v 31 && !was then
    { (s1.wr SESS_SEQ_VALUE 0 n) with fwd := { s1.fwd with sessSeen := SMap.set s1.fwd.sessSeen n 0 0 } }
  else s1

/-- An FWD_CTRL write; CAPTURE_ARM is set by writing 1 (R107). -/
def State.fwdCtrlWrite (s : State) (v : Nat) : State :=
  let s1 := s.wr FWD_CTRL_FLOW_EN (bits v 0 0)
  if bit v 1 then s1.setOn FWD_CTRL_CAPTURE_ARM else s1

/-- Whether any fabric port is up. -/
def State.anyFabUp (s : State) : Bool := s.fabOcts.any (fun k => s.on LINK_STATUS_UP k)

/-- FWD_MP_SEED, FWD_HASH_SEED_A and FWD_HASH_SEED_B writes (R95). -/
def State.mpSeedWrite (s : State) (v : Nat) : State := if s.anyFabUp then s else s.wr FWD_MP_SEED_VALUE v

/-- A write of one of the two flow-table seeds (R95). -/
def State.flowSeedWrite (s : State) (f : Fld) (v : Nat) : State := if s.fwd.flows.isEmpty then s.wr f v else s

/-- A FLOW_GROUP_EN write: discarded while a group it would clear holds a valid entry (R88). -/
def State.groupEnWrite (s : State) (v : Nat) : State :=
  if s.fwd.flows.any (fun e => bit (s.rd FLOW_GROUP_EN_GROUP_EN) (e.1 / 2 ^ 19) && !bit v (e.1 / 2 ^ 19)) then s
  else s.wr FLOW_GROUP_EN_GROUP_EN v

end Sys2Proof.Machine
end

