-- ==== Sys2Proof/Machine/HerdGraph.lean ====
section
/-! DEFINITION. The link-state database, the tree depth and the routes computed from them (R248 to R255). -/

namespace Sys2Proof.Machine

/-! ## The database as a graph (R250, R251) -/

/-- An edge that routing may use: origin, neighbour, origin port, cost. -/
structure Edge where
  a : Nat := 0
  b : Nat := 0
  port : Nat := 0
  cost : Nat := 1
deriving DecidableEq, Repr

/-- The LSU stored for a DID and adjacency. -/
def State.lsuAt (s : State) (did adj : Nat) : Option Lsu := SMap.get s.herd.db (did * 32 + adj) none

/-- Whether the other end of an LSU advertises the adjacency as up as well (R250). -/
def State.bothUp (s : State) (origin : Nat) (l : Lsu) : Bool :=
  l.up && (match s.lsuAt l.nbr (l.nport / 4) with
    | some m => m.up && m.nbr == origin && m.oport == l.nport
    | none => false)

/-- Every edge of the database. -/
def State.edges (s : State) : List Edge :=
  s.herd.db.filterMap (fun e =>
    match e.2 with
    | some l => if s.bothUp (e.1 / 32) l then some { a := e.1 / 32, b := l.nbr, port := l.oport, cost := l.cost } else none
    | none => none)

/-- Whether distance `x` (cost, hops) is better than `y`. -/
def closer (x y : Nat × Nat) : Bool := decide (x.1 < y.1) || (x.1 == y.1 && decide (x.2 < y.2))

/-- Distances (cost, hops) after one round over every edge. -/
def relax (es : List Edge) (m : SMap (Option (Nat × Nat))) : SMap (Option (Nat × Nat)) :=
  es.foldl (fun m e =>
    match SMap.get m e.a none with
    | none => m
    | some (c, h) =>
      let x := (c + e.cost, h + 1)
      match SMap.get m e.b none with
      | some y => if closer x y then SMap.set m e.b (some x) none else m
      | none => SMap.set m e.b (some x) none) m

/-- Rounds until nothing can change. -/
def relaxAll (es : List Edge) : Nat → SMap (Option (Nat × Nat)) → SMap (Option (Nat × Nat))
  | 0, m => m
  | n + 1, m => relaxAll es n (relax es m)

/-- Least costs and hops from a DID to every DID it reaches. -/
def distances (es : List Edge) (src : Nat) : SMap (Option (Nat × Nat)) :=
  relaxAll es (min 4096 (es.length + 1)) [(src, some (0, 0))]

/-- Hop counts from a DID, every port at cost 1. -/
def depths (es : List Edge) (src : Nat) : SMap (Option (Nat × Nat)) :=
  distances (es.map (fun e => { e with cost := 1 })) src

/-! ## h, D and D_max (R248) -/

/-- h in ns: 300 plus the largest one-way delay of the database. -/
def State.hNs (s : State) : Nat :=
  300 + s.herd.db.foldl (fun m e => match e.2 with
    | some l => max m l.delay
    | none => m) 0

/-- D_max for a tick period. -/
def State.dMaxFor (s : State) (t : Nat) : Nat := (t - 2000) / (2 * s.hNs)

/-- The DID bound to a UID. -/
def State.didOf (s : State) (uid : Nat) : Option Nat :=
  (s.herd.dids.find? (fun e => e.2.assigned && e.2.uid == uid)).map (·.1)

/-- The tree depth D: the largest distance of a device from the Herd root. -/
def State.treeDepth (s : State) : Nat :=
  match s.didOf s.herd.best.uid with
  | none => 0
  | some r => (depths s.edges r).foldl (fun m e => max m ((e.2.map (·.2)).getD 0)) 0

/-- ceil(2·D·h / T_TICK) + 1, the ticks an announcement needs (R33, R252, R267). -/
def State.lead (s : State) : Nat := ceilDiv (2 * s.treeDepth * s.hNs) s.tTick + 1

/-! ## Routes at an epoch (R251, R253) -/

/-- The least-cost next hops to DID `d`, at most the 4 lowest ports, and the hops of the path. -/
def State.hopsTo (s : State) (es : List Edge) (near : List (Edge × SMap (Option (Nat × Nat))))
    (mine : SMap (Option (Nat × Nat))) (d : Nat) : List Nat × Nat :=
  match SMap.get mine d none with
  | none => ([], 0)
  | some (c, h) =>
    let ok := near.filter (fun x => match SMap.get x.2 d none with
      | some (c2, _) => x.1.cost + c2 == c
      | none => false)
    ((sortBy (ok.map (fun x => (x.1.port, ())))).map (·.1) |>.take 4, if es.isEmpty then 0 else h)

/-- RING_DIR of a set of ports (R251). -/
def State.ringDir (s : State) (ports : List Nat) : Nat :=
  let r := ports.map (fun p => s.rd HERD_PORT_CFG_RING_ROLE (p / 4))
  if r.isEmpty then 0
  else if r.all (· == 1) then 1
  else if r.all (· == 2) then 2
  else if r.contains 1 && r.contains 2 then 3
  else 0

/-- A route with its hop set changed to the ports `l` in ascending order (R253). -/
def Route.update (r : Route) (l : List Nat) : Route :=
  let old := r.positions
  let keep := old.filter (fun i => l.contains (r.hop i))
  let join := l.filter (fun p => !(old.any (fun i => r.hop i == p)))
  let free := (List.range 4).filter (fun i => !keep.contains i)
  let placed := join.zip free
  let hv := sum ((keep ++ placed.map (·.2)).map (2 ^ ·))
  let r1 := placed.foldl (fun (x : Route) (e : Nat × Nat) => x.setHop e.2 e.1) { r with hv := hv }
  if old.isEmpty then r1.fillMap
  else
    let takers := if keep.isEmpty then placed.map (·.2)
      else (sortBy (keep.map (fun i => (r.hop i, i)))).map (·.2)
    if takers.isEmpty then { r1 with map := 0 }
    else
      let lost := (List.range 64).filter (fun k => !keep.contains (r.slot k))
      { r1 with map := packMap (fun k =>
          if keep.contains (r.slot k) then r.slot k
          else takers.getD ((lost.takeWhile (· < k)).length % takers.length) 0) }

/-- The route to one DID after an epoch. -/
def State.newRoute (s : State) (r : Route) (l : List Nat) (hops : Nat) : Route :=
  if r.pinned then { r with dist := if l.isEmpty then r.dist else hops }
  else if l.isEmpty then {}
  else { r.update l with valid := true, dir := s.ringDir l, dist := hops }

/-- Every route computed from the database (R251 to R253). -/
def State.computeRoutes (s : State) : SMap Route :=
  let es := s.edges
  let me := s.did
  let near := (es.filter (fun e => e.a == me)).map (fun e => (e, distances es e.b))
  let mine := distances es me
  let dids := (sortBy ((mine.map (fun e => (e.1, ()))) ++ s.herd.routes.map (fun e => (e.1, ())))).map (·.1)
  (dids.filter (· != me)).foldl (fun m d =>
    let (l, h) := s.hopsTo es near mine d
    SMap.set m d (s.newRoute (s.route d) l h) {}) []

/-- The DIDs reachable from this device, itself among them. -/
def State.reachable (s : State) : List Nat := (distances s.edges s.did).map (·.1)

end Sys2Proof.Machine
end

