-- ==== Sys2Proof/Machine/HerdOps.lean ====
section
/-! DEFINITION. Herd: adjacencies, election, device IDs, link state, epochs and host domains (R240 to R266). -/

namespace Sys2Proof.Machine

/-- HERD_STATUS.STATE codes. -/
def hsDISABLED : Nat := 0
def hsDISCOVERING : Nat := 1
def hsJOINED : Nat := 2
def hsROOT : Nat := 3
def hsISOLATED : Nat := 4

/-- HERD_STATUS.STATE. -/
def State.herdState (s : State) : Nat := s.rd HERD_STATUS_STATE

/-- Whether the device is JOINED or ROOT. -/
def State.joined (s : State) : Bool := s.herdState == hsJOINED || s.herdState == hsROOT

/-- The UID of this device: fuse row 0 (R575). -/
def State.uid (s : State) : Nat := SMap.get s.rst.shadow 0 0 % 2 ^ 64

/-- Whether this device takes part in Herd. -/
def State.herdOn (s : State) : Bool := s.on HERD_CTRL_ENABLE

/-- HERD replaced. -/
def State.setHerd (s : State) (f : HerdSt → HerdSt) : State := { s with herd := f s.herd }

/-- An entry of the DID table replaced. -/
def State.setDid (s : State) (d : Nat) (e : DidEnt) : State := s.setHerd (fun h => { h with dids := SMap.set h.dids d e {} })

/-- What is known of the partner of octet `k`. -/
def State.adj (s : State) (k : Nat) : Adj := SMap.get s.herd.adj k {}

/-- The adjacency of octet `k` replaced, and what its registers show (R276). -/
def State.setAdj (s : State) (k : Nat) (a : Adj) : State :=
  let s1 := s.setHerd (fun h => { h with adj := SMap.set h.adj k a {} })
  let s2 := ((((s1.wr HERD_PORT_STATUS_TWO_WAY (b2n a.twoWay) k).wr HERD_PORT_STATUS_CHILD (b2n a.child) k).wr
    HERD_PORT_STATUS_HELD (b2n a.held) k).wr HERD_PORT_STATUS_NBR_PORT a.port k).wr HERD_PORT_STATUS_NBR_DID a.did k
  (s2.wr HERD_NBR_UID_LO_VALUE a.uid k).wr HERD_NBR_UID_HI_VALUE (a.uid / 2 ^ 32) k

/-- The octets with a two-way adjacency. -/
def State.twoWays (s : State) : List Nat := (s.herd.adj.filter (fun e => e.2.twoWay)).map (·.1)

/-- Whether this device is the Herd root: its own vector is the best and established. -/
def State.isRoot (s : State) : Bool := s.herd.known && s.herd.best.uid == s.uid && s.herd.best.est

/-- Herd message codes (R241). -/
def hmHELLO : Nat := 1
def hmCLAIM : Nat := 2
def hmTIME_CLAIM : Nat := 3
def hmJOIN : Nat := 4
def hmASSIGN : Nat := 5
def hmLSU : Nat := 6
def hmGLOBAL : Nat := 7
def hmGLOBAL_UP : Nat := 8
def hmFAULT_NOTICE : Nat := 9
def hmDOMAIN_CLAIM : Nat := 10
def hmDOMAIN : Nat := 11

/-- A message to every fabric port whose link is up, except `skip`. -/
def State.flood (s : State) (skip : Option Nat) (code : Nat) (body : List Nat) : State :=
  (s.fabOcts.filter (fun k => s.fabUp k && skip != some k)).foldl (fun t k => t.herdSend k code body) s

/-- A message towards the root. -/
def State.toParent (s : State) (code : Nat) (body : List Nat) : State :=
  match s.herd.parent with
  | some k => s.herdSend k code body
  | none => s

/-! ## Diameter (R248, R249) -/

/-- h, D and D_max as the registers show them; a joined device whose D comes to exceed D_max raises
DIAMETER_EXCEEDED. -/
def State.syncDiameter (s : State) : State :=
  let d := s.treeDepth
  let m := min (s.dMaxFor s.tTick) 2047
  let was := decide (s.rd HERD_DIAMETER_DMAX < s.rd HERD_DIAMETER_TREE_DEPTH)
  let s1 := ((s.wr HERD_H_H s.hNs).wr HERD_DIAMETER_TREE_DEPTH d).wr HERD_DIAMETER_DMAX m
  if s.joined && decide (m < d) && !was then (s1.setOn HERD_EVENTS_DIAMETER).raise 149 else s1

/-! ## Global announcements of the root (R252, R267) -/

/-- Global operations as GLOBAL and GLOBAL_UP number them: 1 to 4 as HERD_GLOBAL_CMD.OP, 5 a snapshot, 6 a route
epoch; 16 more is COMPLETE, 32 more is DONE (log entry 31). -/
def goBARRIER : Nat := 1
def goBROADCAST : Nat := 2
def goRESET_HERD : Nat := 3
def goRESET_DEVICE : Nat := 4
def goSNAPSHOT : Nat := 5
def goEPOCH : Nat := 6

/-- A GLOBAL message's body (R241). -/
def globalBody (op arg value tick : Nat) : List Nat := [op, arg % 256] ++ leBytes 4 value ++ leBytes 6 tick

/-- A GLOBAL_UP message's body (R241). -/
def globalUpBody (op id count status value : Nat) : List Nat :=
  [op] ++ leBytes 4 id ++ leBytes 2 count ++ [status % 256] ++ leBytes 4 value

/-- The root announces a route epoch, while it issues tick edges (R252, R53). -/
def State.announceEpoch (s : State) : State :=
  if !s.isRoot then s
  else if !s.ticking then s.setHerd (fun h => { h with epochAgain := true })
  else
    let t := s.time.tick + s.lead
    let s1 := s.setHerd (fun h => { h with epochAgain := false, epochs := if h.epochs.contains t then h.epochs else h.epochs ++ [t] })
    (s1.setOn HERD_EPOCH_PENDING).flood none hmGLOBAL (globalBody goEPOCH 0 0 t)

/-! ## Link state (R250) -/

/-- Whether a 16-bit sequence number is newer than another, by serial arithmetic. -/
def newer (a b : Nat) : Bool := let d := (a + 65536 - b) % 65536; decide (0 < d) && decide (d < 32768)

/-- An LSU's body (R241). -/
def lsuBody (origin : Nat) (l : Lsu) : List Nat :=
  leBytes 2 origin ++ leBytes 2 l.seq ++ leBytes 2 l.nbr ++ [l.oport, l.nport, l.cost] ++ leBytes 2 l.delay ++ [b2n l.up]

/-- An LSU stored. -/
def State.putLsu (s : State) (origin : Nat) (l : Lsu) : State :=
  (s.setHerd (fun h => { h with db := SMap.set h.db (origin * 32 + l.oport / 4) (some l) none })).syncDiameter

/-- This device originates the LSU of octet `k` with its state `up`, once both device IDs are known (R250). -/
def State.originate (s : State) (k : Nat) (up : Bool) : State :=
  let a := s.adj k
  if s.on HERD_STATUS_DID_VALID && a.did != 4096 && (s.didOf a.uid).isSome || (s.lsuAt s.did k).isSome then
    let old := (s.lsuAt s.did k).getD {}
    let seq := (s.herd.seq + 1) % 65536
    let l : Lsu :=
      { nbr := (s.didOf a.uid).getD old.nbr, oport := 4 * k, nport := if a.heard then a.port else old.nport,
        cost := s.rd HERD_PORT_CFG_COST k, delay := s.rd LINK_DELAY_DELAY_NS k, seq := seq, up := up && !a.held }
    if !s.on HERD_STATUS_DID_VALID then s
    else
      let s1 := (s.setHerd (fun h => { h with seq := seq })).putLsu s.did l
      (s1.flood none hmLSU (lsuBody s.did l)).announceEpoch
  else s

/-- Every two-way adjacency's LSU originated anew. -/
def State.originateAll (s : State) : State := s.twoWays.foldl (fun t k => t.originate k true) s

/-- LSU: it replaces an older stored one and is forwarded; at the root it brings an epoch (R242, R250, R252). One
that names this device as the neighbour tells the device ID behind that port. -/
def State.lsu (s : State) (k origin : Nat) (l : Lsu) : State :=
  let old := s.lsuAt origin (l.oport / 4)
  let fresh := match old with
    | none => true
    | some o => newer l.seq o.seq
  if !s.herdOn || !fresh || (s.on HERD_STATUS_DID_VALID && origin == s.did) then s
  else
    let s1 := (s.putLsu origin l).flood (some k) hmLSU (lsuBody origin l)
    let kk := l.nport / 4
    let a := s1.adj kk
    let s2 := if s1.on HERD_STATUS_DID_VALID && l.nbr == s1.did && a.twoWay && (s1.didOf a.uid).isNone then
        (((s1.setDid origin { (SMap.get s1.herd.dids origin {}) with uid := a.uid, assigned := true }).setAdj kk
            { a with did := origin }).originate kk true)
      else s1
    s2.announceEpoch

/-! ## Election (R244, R245) -/

/-- Whether root vector `a` is preferred to `b`: an established root keeps its place, then priority, then UID. -/
def RootVec.better (a b : RootVec) : Bool :=
  if a.est != b.est then a.est
  else decide (a.prio < b.prio) || (a.prio == b.prio && decide (a.uid < b.uid))

/-- Whether two vectors name the same root. -/
def RootVec.same (a b : RootVec) : Bool := a.prio == b.prio && a.uid == b.uid

/-- The vectors heard on two-way ports, with the port. -/
def State.heardClaims (s : State) : List (Nat × RootVec) :=
  s.herd.adj.filterMap (fun e => if e.2.twoWay then e.2.claim.map (fun v => (e.1, v)) else none)

/-- This device's own vector, when it competes. -/
def State.ownVec (s : State) : Option RootVec :=
  if s.rd HERD_PRIORITY_PRIORITY = 0xFF then none
  else some { prio := s.rd HERD_PRIORITY_PRIORITY, uid := s.uid, dist := 0, est := s.isRoot }

/-- Claims of a root that only children still offer are forgotten, since they came from this device (log entry 32). -/
def State.forgetStale (s : State) : State :=
  let b := s.herd.best
  let live := (s.ownVec.any (·.same b)) ||
    s.herd.adj.any (fun e => e.2.twoWay && !e.2.child && e.2.claim.any (·.same b))
  if live || !s.herd.known then s
  else s.setHerd (fun h => { h with adj := h.adj.map (fun e =>
    (e.1, if e.2.child && e.2.claim.any (·.same b) then { e.2 with claim := none } else e.2)) })

/-- The best vector among the candidates, with the port it came from. -/
def bestOf : List (Option Nat × RootVec) → Option (Option Nat × RootVec)
  | [] => none
  | x :: r =>
    match bestOf r with
    | none => some x
    | some y => if y.2.better x.2 then some y
        else if y.2.same x.2 && y.2.est == x.2.est && decide (y.2.dist < x.2.dist) then some y else some x

/-- A CLAIM's body (R241). -/
def RootVec.body (v : RootVec) : List Nat := [v.prio] ++ leBytes 8 v.uid ++ leBytes 2 v.dist ++ [b2n v.est]

/-- HERD_STATUS, HERD_ROOT_UID, HERD_FABRIC.DEPTH and the parent bits follow the election. -/
def State.syncElect (s : State) : State :=
  let h := s.herd
  let uid := if h.known then h.best.uid else 0
  let s1 := (s.wr HERD_ROOT_UID_LO_VALUE uid).wr HERD_ROOT_UID_HI_VALUE (uid / 2 ^ 32)
  let s2 := (List.range 24).foldl (fun (t : State) k => t.wr HERD_PORT_STATUS_PARENT (b2n (h.parent == some k)) k) s1
  s2.wr HERD_FABRIC_DEPTH (if s.on HERD_STATUS_DID_VALID then min h.best.dist 0x7FF else 0x7FF)

/-- Every global operation in progress fails: the root has left (R273). -/
def State.failGlobals (s : State) : State :=
  let h := s.herd
  let n := (h.ops.filter (fun o => o.op != goEPOCH)).length + h.ownOps.length + (if h.barrier.isSome then 1 else 0)
  let s1 := s.setHerd (fun h => { h with ops := [], ownOps := [], barrier := none, report := none, running := [], epochs := [] })
  let s2 := (s1.wr HERD_GLOBAL_STATUS_BUSY 0).wr HERD_EPOCH_PENDING 0
  let s3 := if h.barrier.isSome then s2.setOn HERD_GLOBAL_STATUS_BARRIER_FAIL else s2
  let s4 := if n = 0 then s3 else (s3.raise 152).regIrq HERD_GLOBAL_IRQ_EN HERD_GLOBAL_IRQ_PF HERD_GLOBAL_IRQ_VECTOR
  (h.snaps.filter (fun w => ((s.qp w.qp).desc w.idx).any (fun d => d.op40 == 2))).foldl (fun (t : State) w =>
    t.withDesc w.qp w.idx (fun d => t.finish w.qp d stREMOTE_ERROR)) s4

/-- The election run anew; a change is advertised at once, except on the port that brought it (R242, R244). -/
def State.elect (s0 : State) (skip : Option Nat) : State :=
  let s := s0.forgetStale
  let h := s.herd
  let cands : List (Option Nat × RootVec) :=
    (s.ownVec.toList.map (fun v => ((none : Option Nat), v))) ++
      s.heardClaims.map (fun e => (some e.1, { e.2 with dist := e.2.dist + 1 }))
  match bestOf cands with
  | none =>
    if h.known then
      (s.failGlobals.setHerd (fun h => { h with known := false, best := {}, parent := none, since := 0, joinSent := false })).syncElect
    else s
  | some (p, v) =>
    let newRoot := !h.known || !v.same h.best
    let changed := newRoot || v.est != h.best.est || v.dist != h.best.dist || p != h.parent
    if !changed then s
    else
      let merge := h.known && newRoot && h.best.est && v.est && s.on HERD_STATUS_DID_VALID
      let s1 := (if h.known && newRoot && h.best.est then s.failGlobals else s).setHerd (fun h =>
        { h with known := true, best := v, parent := p, since := if newRoot then 0 else h.since,
                 joinSent := h.joinSent && !newRoot, mergeDue := h.mergeDue || merge })
      let s2 := if h.known && newRoot && s.joined && !merge then (s1.setOn HERD_EVENTS_ROOT_CHANGE).raise 153 else s1
      (s2.syncElect).flood skip hmCLAIM v.body

/-! ## Loss of an adjacency (R243, R254, R262) -/

/-- The answers to packets that a flush removed from a fabric port (R262). -/
def State.answerFlushed (s : State) (p : Nat) (l : List QPkt) : State :=
  l.foldl (fun (t : State) k =>
    if !k.fab then t
    else if fabNonPosted k.hdr k.data || (k.hdr.type == tWRITE && k.hdr.ackReq) then
      (t.sendFab { t.marked (t.reply k.hdr stREMOTE_UNREACHABLE []) p with own := k.hdr.src == t.did }).2
    else t) s

/-- The queues of a port flushed; the packets that they held, in queue order. -/
def State.flushPort (s : State) (p : Nat) : State × List QPkt :=
  (s.mapped.filter (fun e => e.2.port == p)).foldl (fun (x : State × List QPkt) e =>
    (x.1.flushQueue e.1, x.2 ++ e.2.packets)) (s, [])

/-- The queues of a fabric port flushed and answered (R262). -/
def State.flushFab (s : State) (p : Nat) : State :=
  let (t, l) := s.flushPort p
  t.answerFlushed p l

/-- An adjacency goes down: ADJ_DOWN, the queues flushed, the hop lost in every route, the LSU flooded. -/
def State.adjDown (s : State) (k : Nat) : State :=
  let a := s.adj k
  if !a.heard && a.uid = 0 && !a.twoWay then s
  else
    let s1 := (s.setAdj k {}).loseHop (4 * k)
    let s2 := if a.twoWay then
        ((s1.raise 144 { port := some (4 * k), arg := a.did }).originate k false).flushFab (4 * k)
      else s1
    s2.elect none

/-! ## HELLO (R243) -/

/-- The adjacency becomes two-way (R243, R256). -/
def State.adjUp (s : State) (k : Nat) : State :=
  let a := s.adj k
  let s1 := s.setAdj k { a with twoWay := true, held := s.on HERD_CTRL_JOIN_HOLD && s.on HERD_STATUS_DID_VALID,
                                did := (s.didOf a.uid).getD 0 }
  let s2 := if s1.herd.known then s1.herdSend k hmCLAIM s1.herd.best.body else s1
  (s2.originate k true).elect none

/-- A HELLO arrives: the partner's UID, priority and port, its flags and depth. -/
def State.hello (s : State) (k uid prio port flags depth : Nat) : State :=
  if !s.herdOn || !s.fabUp k then s
  else
    let s1 := if (s.adj k).heard && (s.adj k).uid != uid then s.adjDown k else s
    let a := s1.adj k
    let a' := { a with uid := uid, prio := prio, port := port, heard := true, age := 0, heardYou := bit flags 0,
                       child := bit flags 1, joined := bit flags 2, depth := depth, did := (s1.didOf uid).getD 0 }
    let s2 := s1.setAdj k a'
    if bit flags 0 && !a.twoWay then s2.adjUp k else s2

/-- A HELLO sent on octet `k`. -/
def State.sendHello (s : State) (k : Nat) : State :=
  let a := s.adj k
  let flags := b2n a.heard + 2 * b2n (s.herd.parent == some k) + 4 * b2n (s.on HERD_STATUS_DID_VALID)
    + 8 * b2n (s.herdState == hsISOLATED)
  s.herdSend k hmHELLO
    (leBytes 8 s.uid ++ [s.rd HERD_PRIORITY_PRIORITY, 4 * k, flags] ++ leBytes 2 (s.rd HERD_FABRIC_DEPTH))

/-- ADJACENCY_TIMEOUT: 3 ticks without a HELLO (R243). -/
def State.adjTimeout (s : State) (k : Nat) : State :=
  let a := s.adj k
  if a.heard && decide (3 ≤ a.age) then s.adjDown k else s

/-- CLAIM. -/
def State.claim (s : State) (k prio uid dist : Nat) (est : Bool) : State :=
  let a := s.adj k
  if !s.herdOn || !a.twoWay then s
  else (s.setAdj k { a with claim := some { prio := prio, uid := uid, dist := dist, est := est } }).elect (some k)

/-! ## Host domains (R265, R266) -/

/-- A DOMAIN_CLAIM's body. -/
def claimBody (uid hd port : Nat) (claim : Bool) : List Nat := leBytes 8 uid ++ leBytes 2 (hd % 1024) ++ [port, b2n claim]

/-- A claim or release goes towards the root, or is recorded at it. -/
def State.domainClaim (s : State) (uid hd port : Nat) (claim : Bool) : State :=
  if s.isRoot then
    s.setHerd (fun h => { h with claims := h.claims ++
      [{ uid := uid, did := (s.didOf uid).getD 0, hd := hd, port := port, claim := claim }] })
  else s.toParent hmDOMAIN_CLAIM (claimBody uid hd port claim)

/-- DOMAIN_CLAIM from a child. -/
def State.domainClaimMsg (s : State) (uid hd port : Nat) (claim : Bool) : State :=
  if s.herdOn then s.domainClaim uid hd port claim else s

/-- Upstream port `p` claims its domain (R265). -/
def State.claimPort (s : State) (p : Nat) : State :=
  if s.on HERD_STATUS_DID_VALID && s.isUp p && s.portEn p then
    let hd := s.rd PORT_CFG_HD p
    (s.setHerd (fun h => { h with claimed := SMap.set h.claimed p (hd + 1) 0, refusedPort := SMap.set h.refusedPort p false false })).domainClaim
      s.uid hd p true
  else s

/-- Upstream port `p` releases the domain it claimed (R265). -/
def State.releasePort (s : State) (p : Nat) : State :=
  match SMap.get s.herd.claimed p 0 with
  | 0 => s
  | hd + 1 =>
    (s.setHerd (fun h => { h with claimed := SMap.set h.claimed p 0 0, refusedPort := SMap.set h.refusedPort p false false })).domainClaim
      s.uid hd p false

/-- Every enabled upstream port claims. -/
def State.claimAll (s : State) : State := s.upPorts.foldl (fun t p => t.claimPort p) s

/-- A DOMAIN message's body. -/
def domainBody (hd did port flags claimant seq : Nat) : List Nat :=
  leBytes 2 hd ++ leBytes 2 did ++ [port, flags] ++ leBytes 2 claimant ++ leBytes 2 seq

/-- The effect of a DOMAIN decision on this device: its domain table, and a refusal of its own claim (R266). -/
def State.domainEffect (s : State) (hd did port flags claimant : Nat) : State :=
  let served := bit flags 0
  let refused := bit flags 1
  let d := SMap.get s.herd.doms hd {}
  let e : Domain := if served then { d with valid := true, home := did, homePort := port } else {}
  let s1 := if refused then s else s.setHerd (fun h => { h with doms := SMap.set h.doms hd e {} })
  if refused && claimant == s.did && s.on HERD_STATUS_DID_VALID then
    (s1.upPorts.filter (fun p => SMap.get s1.herd.claimed p 0 == hd + 1 && !(did == s1.did && port == p)
        && !SMap.get s1.herd.refusedPort p false)).foldl (fun (t : State) p =>
      ((t.setPport p { t.pport p with refused := true }).setHerd (fun h =>
        { h with refusedPort := SMap.set h.refusedPort p true false })).raise 163 { port := some p }) s1
  else s1

/-- DOMAIN: a newer decision takes effect and is forwarded (R242, R266). -/
def State.domainMsg (s : State) (k hd did port flags claimant seq : Nat) : State :=
  if !s.herdOn || s.isRoot || !(newer seq s.herd.domSeq) then s
  else
    ((s.setHerd (fun h => { h with domSeq := seq })).flood (some k) hmDOMAIN
      (domainBody hd did port flags claimant seq)).domainEffect hd did port flags claimant

/-- The root floods a decision. -/
def State.floodDomain (s : State) (hd did port flags claimant : Nat) : State :=
  let seq := (s.herd.domSeq + 1) % 65536
  ((s.setHerd (fun h => { h with domSeq := seq })).flood none hmDOMAIN (domainBody hd did port flags claimant seq)).domainEffect
    hd did port flags claimant

/-- One claim decided by the root (R266). -/
def State.decideClaim (s : State) (c : DomClaim) : State :=
  let home := SMap.get s.herd.homes c.hd none
  let mine := home == some (c.did, c.port)
  let put (v : Option (Nat × Nat)) (t : State) : State := t.setHerd (fun h => { h with homes := SMap.set h.homes c.hd v none })
  if c.claim then
    match home with
    | none => (put (some (c.did, c.port)) s).floodDomain c.hd c.did c.port 1 c.did
    | some (d, p) => if mine then s.floodDomain c.hd c.did c.port 1 c.did else s.floodDomain c.hd d p 2 c.did
  else if mine then (put none s).floodDomain c.hd c.did c.port 0 c.did
  else s

/-- The root decides the claims of the past interval in ascending order of claimant UID (R266). -/
def State.decideClaims (s : State) : State :=
  if !s.isRoot then s
  else
    let l := (sortBy (s.herd.claims.map (fun c => (c.uid, c)))).map (·.2)
    l.foldl (fun t c => t.decideClaim c) (s.setHerd (fun h => { h with claims := [] }))

/-- The home entries of devices that are lost removed, and the others flooded again, at an epoch (R266). -/
def State.refloodHomes (s : State) (lost : List Nat) : State :=
  if !s.isRoot then s
  else s.herd.homes.foldl (fun (t : State) e =>
    match e.2 with
    | some (d, p) =>
      if lost.contains d then
        (t.setHerd (fun h => { h with homes := SMap.set h.homes e.1 none none })).floodDomain e.1 d p 0 d
      else t.floodDomain e.1 d p 1 d
    | none => t) s

/-- A device that becomes root rebuilds the home entries from its own domain table (R266). -/
def State.rebuildHomes (s : State) : State :=
  s.setHerd (fun h => { h with homes := h.doms.foldl (fun m e =>
    if e.2.valid then SMap.set m e.1 (some (e.2.home, e.2.homePort)) none else m) h.homes })

/-! ## Device IDs (R246) -/

/-- Whether a DID is free for a UID and not pinned to another. -/
def State.didFree (s : State) (uid d : Nat) : Bool :=
  let e := SMap.get s.herd.dids d {}
  decide (d < 4096) && !e.assigned && !(e.pinned && e.pinUid != uid)

/-- The DID the root chooses for a UID with a requested DID (R246, R275). -/
def State.chooseDid (s : State) (uid : Nat) (req : Option Nat) : Option Nat :=
  match s.didOf uid with
  | some d => some d
  | none =>
    match s.herd.dids.find? (fun e => e.2.pinned && e.2.pinUid == uid && !e.2.assigned) with
    | some e => some e.1
    | none =>
      match req.filter (s.didFree uid) with
      | some d => some d
      | none => (List.range 4096).find? (fun d => let e := SMap.get s.herd.dids d {}; !e.assigned && !e.pinned)

/-- A binding of a UID to a DID recorded; the UID's other binding is dropped. -/
def State.bindDid (s : State) (uid did : Nat) : State :=
  s.setHerd (fun h =>
    let l := h.dids.foldl (fun m e =>
      if e.2.assigned && e.2.uid == uid && e.1 != did then SMap.set m e.1 { e.2 with assigned := false, uid := 0, live := false } {} else m) h.dids
    { h with dids := SMap.set l did { (SMap.get l did {}) with uid := uid, assigned := true } {} })

/-- This device has its DID (R246, R265). -/
def State.takeDid (s : State) (did : Nat) : State :=
  let changed := s.herd.oldDid.any (· != did)
  let had := s.on HERD_STATUS_DID_VALID && s.did == did
  let s1 := ((s.wr HERD_STATUS_DID did).setOn HERD_STATUS_DID_VALID).setHerd (fun h => { h with oldDid := some did })
  let s2 := if changed then (s1.setOn HERD_EVENTS_DID_CHANGED).raise 148 else s1
  if had then s2 else (s2.syncElect).claimAll

/-- An ASSIGN takes effect here. -/
def State.assignEffect (s : State) (uid did : Nat) : State :=
  let s1 := s.bindDid uid did
  let s2 := if uid = s.uid then s1.takeDid did else s1
  let ks := (s2.herd.adj.filter (fun e => e.2.uid == uid && e.2.heard)).map (·.1)
  let s3 := ks.foldl (fun (t : State) k => t.setAdj k { t.adj k with did := did }) s2
  if uid = s.uid then s3.originateAll
  else (ks.filter (fun k => (s3.adj k).twoWay)).foldl (fun (t : State) k => t.originate k true) s3

/-- An ASSIGN's body. -/
def assignBody (uid did seq : Nat) : List Nat := leBytes 8 uid ++ leBytes 2 did ++ leBytes 2 seq

/-- ASSIGN: a new binding is recorded and forwarded (R242, R246). -/
def State.assign (s : State) (k uid did seq : Nat) : State :=
  if !s.herdOn || (s.didOf uid == some did && !(uid == s.uid && !s.on HERD_STATUS_DID_VALID)) then s
  else ((s.flood (some k) hmASSIGN (assignBody uid did seq)).assignEffect uid did)

/-- The root assigns a DID and floods it; it refuses a device beyond D_max (R246, R248). -/
def State.rootAssign (s : State) (uid : Nat) (req : Option Nat) (dist : Nat) : State :=
  if s.dMaxFor s.tTick < dist then s
  else
    match s.chooseDid uid req with
    | none => s
    | some d =>
      let seq := (s.herd.asgSeq + 1) % 65536
      ((s.setHerd (fun h => { h with asgSeq := seq })).flood none hmASSIGN (assignBody uid d seq)).assignEffect uid d

/-- A JOIN's body. -/
def joinBody (uid : Nat) (req : Option Nat) : List Nat :=
  leBytes 8 uid ++ leBytes 2 (match req with
    | some d => d + 32768
    | none => 0)

/-- JOIN: answered by the root, passed towards it by any other device (R246). `dist` is the joining device's
distance, which the root's test needs (log entry 33). -/
def State.join (s : State) (uid : Nat) (req : Option Nat) (dist : Nat) : State :=
  if !s.herdOn then s
  else if s.isRoot then s.rootAssign uid req dist
  else s.toParent hmJOIN (joinBody uid req)

/-- The DID this device asks for. -/
def State.didReq (s : State) : Option Nat := if s.on HERD_DID_REQ_VALID then some (s.rd HERD_DID_REQ_DID) else none

/-- JOIN_SEND: after 3 steps with the same root vector (R246); a device beyond D_max becomes ISOLATED (R248). -/
def State.joinSend (s : State) : State :=
  let h := s.herd
  if s.herdOn && h.known && h.best.uid != s.uid && decide (3 ≤ h.since) && !h.joinSent then
    let s1 := (s.setHerd (fun h => { h with joinSent := true })).toParent hmJOIN (joinBody s.uid s.didReq)
    if s.dMaxFor s.tTick < h.best.dist && !s.on HERD_STATUS_DID_VALID then
      ((s1.wr HERD_STATUS_STATE hsISOLATED).setOn HERD_EVENTS_DIAMETER).raise 149
    else s1
  else s

/-- ROOT_ESTABLISHED: the own vector has been the best and unchanged for 3 steps (R245, R246). A fabric of one is then
in ROOT. -/
def State.rootEstablished (s : State) : State :=
  let h := s.herd
  if s.herdOn && h.known && h.best.uid == s.uid && !h.best.est && decide (3 ≤ h.since) then
    let s1 := s.setHerd (fun h => { h with best := { h.best with est := true } })
    let s2 := (s1.rebuildHomes).rootAssign s1.uid s1.didReq 0
    let s3 := if s2.twoWays.isEmpty then (s2.wr HERD_STATUS_STATE hsROOT).wr HERD_FABRIC_DEVICES 1 else s2
    (s3.syncElect).flood none hmCLAIM s3.herd.best.body
  else s

/-! ## Epochs (R252, R263) -/

/-- Routes installed from the database; devices that became unreachable are lost (R252, R263, R264). -/
def State.installRoutes (s : State) : State :=
  let s1 := s.setHerd (fun h => { h with routes := s.computeRoutes })
  let live := s1.reachable
  let lost := (s1.herd.dids.filter (fun e => e.2.live && !live.contains e.1)).map (·.1)
  let s2 := s1.setHerd (fun h => { h with dids := h.dids.foldl (fun m e =>
    SMap.set m e.1 { e.2 with live := live.contains e.1 } {}) [] })
  let s3 := lost.foldl (fun (t : State) d => (t.setOn HERD_EVENTS_DEVICE_LOST).raise 145 { arg := d }) s2
  let s4 := ((s3.wr HERD_FABRIC_DEVICES live.length).inc HERD_EPOCH_COUNT).setOn HERD_EVENTS_TOPOLOGY
  let s5 := if s4.on HERD_STATUS_DID_VALID then s4.wr HERD_STATUS_STATE (if s4.isRoot then hsROOT else hsJOINED) else s4
  let s6 := s5.setHerd (fun h => { h with barrier := h.barrier.map (fun g => { g with epochSeen := true }),
                                          ops := h.ops.map (fun o => if o.op = goBARRIER then { o with arg := 1 } else o) })
  ((s6.syncElect).syncDiameter).refloodHomes lost

/-- EPOCH_INSTALL: an announced epoch whose tick has come (R252). -/
def State.epochInstall (s : State) : State :=
  if s.herd.epochs.any (fun t => decide (t ≤ s.time.tick)) then
    let rest := s.herd.epochs.filter (fun t => decide (s.time.tick < t))
    ((s.setHerd (fun h => { h with epochs := rest })).wr HERD_EPOCH_PENDING (b2n (!rest.isEmpty))).installRoutes
  else s

/-- REBALANCE (R255). -/
def State.rebalance (s : State) : State :=
  s.setHerd (fun h => { h with routes := h.routes.map (fun e => (e.1, e.2.fillMap)) })

/-- APPLY_PENDING: held adjacencies are advertised as up (R256). -/
def State.applyPending (s : State) : State :=
  ((s.herd.adj.filter (fun e => e.2.held)).map (·.1)).foldl (fun (t : State) k =>
    (t.setAdj k { t.adj k with held := false }).originate k true) s

/-- A change of a port's cost or delay (R250). -/
def State.costChanged (s : State) (k : Nat) : State := if (s.adj k).twoWay then s.originate k true else s

/-! ## ROUTE_PIN (R274, R275) -/

/-- The reserved bytes that every ROUTE_PIN leaves 0, and those of its operation. -/
def Desc.pinOk (d : Desc) : Bool :=
  d.flagsOk && d.zero 8 39 && d.zero 41 41 && d.zero 56 63 && decide (bytesAt d.img 42 43 < 4096)
    && (d.op40 == 1 || d.zero 44 51) && (d.op40 == 3 || d.zero 52 55)

/-- ROUTE_PIN_DID. -/
def State.pinDid (s : State) (q idx : Nat) : State :=
  s.withDesc q idx fun d => s.guardDesc q d d.pinOk
    (let n := bytesAt d.img 42 43
     (s.setDid n { (SMap.get s.herd.dids n {}) with pinned := true, pinUid := bytesAt d.img 44 51 }).finish q d stOK)

/-- ROUTE_UNPIN_DID. -/
def State.unpinDid (s : State) (q idx : Nat) : State :=
  s.withDesc q idx fun d => s.guardDesc q d d.pinOk
    (let n := bytesAt d.img 42 43
     (s.setDid n { (SMap.get s.herd.dids n {}) with pinned := false, pinUid := 0 }).finish q d stOK)

/-- The ports that PIN_HOPS names, by position. -/
def Desc.pinPorts (d : Desc) : List (Nat × Nat) :=
  ((List.range 4).map (fun i => (i, byteAt d.img (52 + i)))).filter (fun e => e.2 != 0xFF)

/-- ROUTE_PIN_HOPS. -/
def State.pinHops (s : State) (q idx : Nat) : State :=
  s.withDesc q idx fun d =>
    let l := d.pinPorts
    let ok := d.pinOk && !l.isEmpty && decide ((l.map (·.2)).Nodup) && l.all (fun e => s.isFab e.2)
    s.guardDesc q d ok
      (let n := bytesAt d.img 42 43
       let r := s.route n
       let r1 := l.foldl (fun (x : Route) e => x.setHop e.1 e.2) { r with hv := sum (l.map (fun e => 2 ^ e.1)) }
       (s.setRoute n { r1.fillMap with valid := true, pinned := true, dir := s.ringDir (l.map (·.2)) }).finish q d stOK)

/-- ROUTE_UNPIN_HOPS. -/
def State.unpinHops (s : State) (q idx : Nat) : State :=
  s.withDesc q idx fun d => s.guardDesc q d d.pinOk
    (let n := bytesAt d.img 42 43
     (s.setRoute n { s.route n with pinned := false }).finish q d stOK)

/-- ROUTE_READ. -/
def State.routeRead (s : State) (q idx : Nat) : State :=
  s.withDesc q idx fun d => s.guardDesc q d d.pinOk
    (s.finishData q d (leBytes 32 (s.route (bytesAt d.img 42 43)).image))

end Sys2Proof.Machine
end

