-- ==== Sys2Proof/Machine/HerdGlobal.lean ====
section
/-! DEFINITION. Herd: global operations, the fabric reset and the steps of each tick (R243 to R247, R267 to R273). -/

namespace Sys2Proof.Machine

/-! ## Requests and the root (R267, R273) -/

/-- An operation requested here has ended. -/
def State.endOwnOp (s : State) (op : Nat) : State :=
  let l := s.herd.ownOps.filter (fun e => e.1 != op)
  (s.setHerd (fun h => { h with ownOps := l })).wr HERD_GLOBAL_STATUS_BUSY (b2n (!l.isEmpty))

/-- HERD_GLOBAL_IRQ, sent when a bit of HERD_GLOBAL_STATUS [3:0] is set. -/
def State.globalIrq (s : State) : State := s.regIrq HERD_GLOBAL_IRQ_EN HERD_GLOBAL_IRQ_PF HERD_GLOBAL_IRQ_VECTOR

/-- The full tick number that the low 48 bits of one name (R242). -/
def fillTick (now t : Nat) : Nat :=
  let base := now / 2 ^ 48 * 2 ^ 48 + t % 2 ^ 48
  if base + 2 ^ 47 < now then base + 2 ^ 48
  else if now + 2 ^ 47 < base ∧ 2 ^ 48 ≤ base then base - 2 ^ 48
  else base

/-- An announcement takes effect on this device: it waits for its tick (R267, R229). -/
def State.announced (s : State) (o : GlobalOp) : State :=
  if o.op = goEPOCH then
    (s.setHerd (fun h => { h with epochs := if h.epochs.contains o.tick then h.epochs else h.epochs ++ [o.tick] })).setOn
      HERD_EPOCH_PENDING
  else
    let s1 := s.setHerd (fun h => { h with ops := h.ops ++ [o] })
    if o.op = goSNAPSHOT then s1.askCapture o.tick o.arg o.value else s1

/-- The root chooses T and announces an operation (R267 steps 2 and 3). -/
def State.announce (s : State) (op arg value : Nat) : State :=
  let t := s.time.tick + s.lead
  let s1 := s.setHerd (fun h => { h with running := SMap.set h.running op true false })
  (s1.flood none hmGLOBAL (globalBody op arg value t)).announced { op := op, arg := arg, value := value, tick := t }

/-- The snapshot descriptors of SCOPE 0x02 on this device complete (R271). -/
def State.endFabricSnaps (s : State) (status count : Nat) : State :=
  let mine (w : SnapWait) : Bool := ((s.qp w.qp).desc w.idx).any (fun d => d.op40 == 2)
  let l := s.herd.snaps.filter mine
  l.foldl (fun (t : State) w => t.withDesc w.qp w.idx (fun d => t.finish w.qp d status count none (some w.at_)))
    (s.setHerd (fun h => { h with snaps := h.snaps.filter (fun w => !mine w) }))

/-- GLOBAL COMPLETE takes effect: the end of a snapshot, or the refusal of a request made here (R271, R273). -/
def State.completed (s : State) (op status value : Nat) : State :=
  let announced := s.herd.ops.any (fun o => o.op == op)
  let own := s.herd.ownOps.any (fun e => e.1 == op && (op != goBARRIER || e.2 == value))
  if status = stNOT_PERMITTED then
    if own && !announced then
      let s1 := s.endOwnOp op
      if op = goSNAPSHOT then s1.endFabricSnaps stNOT_PERMITTED 0
      else (s1.setOn HERD_GLOBAL_STATUS_REFUSED).globalIrq
    else s
  else if op = goSNAPSHOT then ((s.setHerd (fun h => { h with report := none })).endOwnOp op).endFabricSnaps status value
  else s

/-- The root sends GLOBAL COMPLETE down the tree and acts on it itself. -/
def State.sendComplete (s : State) (op status value : Nat) : State :=
  let s1 := s.setHerd (fun h => { h with running := if status = stNOT_PERMITTED then h.running else SMap.set h.running op false false })
  (s1.flood none hmGLOBAL (globalBody (op + 16) status value s1.time.tick)).completed op status value

/-- A request reaches the root: announced, or refused while one of its kind is in progress (R273). -/
def State.rootRequest (s : State) (op id arg value : Nat) : State :=
  if SMap.get s.herd.running op false then s.sendComplete op stNOT_PERMITTED id
  else s.announce op arg (if op = goSNAPSHOT then id else value)

/-- A request of this device goes to the root (R267 step 1). -/
def State.request (s : State) (op id arg value : Nat) : State :=
  if s.isRoot then s.rootRequest op id arg value
  else s.toParent hmGLOBAL_UP (globalUpBody op id 1 arg value)

/-! ## Barriers (R269) -/

/-- The children of this device: the ports whose partner names it its parent (R269). -/
def State.children (s : State) : List Nat := (s.herd.adj.filter (fun e => e.2.twoWay && e.2.child)).map (·.1)

/-- The barrier moves up once this device and every child have arrived; at the root it is announced. -/
def State.barrierCheck (s : State) : State :=
  match s.herd.barrier with
  | none => s
  | some g =>
    if g.own && !g.sent && s.children.all (fun k => g.children.contains k) then
      let s1 := s.setHerd (fun h => { h with barrier := some { g with sent := true } })
      let bad := b2n (g.bad || g.epochSeen)
      if s.isRoot then s1.announce goBARRIER bad g.id
      else s1.toParent hmGLOBAL_UP (globalUpBody goBARRIER g.id (g.count + 1) bad 0)
    else s

/-- An arrival at a barrier: of this device (`child` none) or of a child. -/
def State.arrive (s : State) (child : Option Nat) (id count : Nat) (bad : Bool) : State :=
  let put (g : Gather) : State :=
    (s.setHerd (fun h => { h with barrier := some { g with
      own := g.own || child.isNone, children := g.children ++ child.toList, count := g.count + (if child.isNone then 0 else count),
      bad := g.bad || bad } })).barrierCheck
  match s.herd.barrier with
  | none => put { id := id }
  | some g =>
    if g.id = id then put g
    else if s.isRoot then s.sendComplete goBARRIER stNOT_PERMITTED id
    else s.toParent hmGLOBAL_UP (globalUpBody goBARRIER id count (b2n bad) 0)

/-- An operation requested here is in progress. -/
def State.beginOwnOp (s : State) (op id : Nat) : State :=
  (s.setHerd (fun h => { h with ownOps := h.ownOps ++ [(op, id)] })).setOn HERD_GLOBAL_STATUS_BUSY

/-- HERD_GLOBAL_CMD (R269 to R272); a device without a root has nowhere to send it. -/
def State.globalCmd (s : State) (op id : Nat) : State :=
  if !s.on HERD_STATUS_DID_VALID || !s.ticking then s
  else if op = goBARRIER then (s.beginOwnOp op id).arrive none id 1 false
  else if op = goBROADCAST then (s.beginOwnOp op id).request op id 0 (s.rd HERD_GLOBAL_ARG_VALUE)
  else if op = goRESET_HERD ∨ op = goRESET_DEVICE then (s.beginOwnOp op id).request op id 0 0
  else s

/-- SNAPSHOT_FABRIC (R229, R271). -/
def State.snapFabric (s : State) (q idx : Nat) : State :=
  s.withDesc q idx fun d =>
    if s.herd.snaps.any (fun w => w.qp == q && w.idx == idx) then s
    else if !d.snapOk then s.finish q d stBAD_DESCRIPTOR
    else if s.on OBS_SNAP_STATUS_PENDING then s.finish q d stNOT_PERMITTED
    else
      let id := bytesAt d.img 42 45
      ((s.setHerd (fun h => { h with snaps := h.snaps ++ [{ qp := q, idx := idx, id := id }] })).beginOwnOp goSNAPSHOT id).request
        goSNAPSHOT id (byteAt d.img 41) 0

/-! ## Reports (R267 steps 5 and 6) -/

/-- A snapshot's report moves up once this device and its children are done. -/
def State.reportCheck (s : State) : State :=
  match s.herd.report with
  | none => s
  | some g =>
    if g.own && !g.sent && s.children.all (fun k => g.children.contains k) then
      let st := if g.bad then stREMOTE_ERROR else stOK
      if s.isRoot then (s.setHerd (fun h => { h with report := none })).sendComplete goSNAPSHOT st g.count
      else (s.setHerd (fun h => { h with report := some { g with sent := true } })).toParent hmGLOBAL_UP
        (globalUpBody (goSNAPSHOT + 32) g.id g.count (b2n g.bad) 0)
    else s

/-- A report of this device or of a child joins the gathering. -/
def State.report (s : State) (child : Option Nat) (id count : Nat) (bad : Bool) : State :=
  let g := s.herd.report.getD { id := id }
  (s.setHerd (fun h => { h with report := some { g with
    own := g.own || child.isNone, children := g.children ++ child.toList, count := g.count + count, bad := g.bad || bad } })).reportCheck

/-- GLOBAL_UP: merged and passed up, or handled at the root. -/
def State.globalUp (s : State) (k op id count status value : Nat) : State :=
  if !s.herdOn then s
  else if op = goBARRIER then s.arrive (some k) id count (bit status 0)
  else if op = goSNAPSHOT + 32 then s.report (some k) id count (bit status 0)
  else if op ≤ 5 then
    if s.isRoot then s.rootRequest op id status value else s.toParent hmGLOBAL_UP (globalUpBody op id count status value)
  else s

/-- GLOBAL: an announcement or COMPLETE from the root, forwarded down the tree. -/
def State.globalMsg (s : State) (k op arg value tick : Nat) : State :=
  if !s.herdOn || s.isRoot then s
  else
    let t := fillTick s.time.tick tick
    if op < 16 then
      let o : GlobalOp := { op := op, arg := arg, value := value, tick := t }
      let known := if op = goEPOCH then s.herd.epochs.contains t else s.herd.ops.contains o
      if known || decide (t ≤ s.time.tick) then s
      else (s.announced o).flood (some k) hmGLOBAL (globalBody op arg value tick)
    else if s.herd.parent == some k then
      (s.flood (some k) hmGLOBAL (globalBody op arg value tick)).completed (op - 16) arg value
    else s

/-! ## The fabric reset (R245, R272) -/

/-- Outstanding fabric requests of this device answered with ABORTED_RESET (R272). -/
def State.abortFabric (s : State) : State :=
  let l := s.ring.np.filterMap (fun e => match e.2 with
    | some n => if n.port.isNone && n.owner != .none then some (e.1, n) else none
    | none => none)
  { s with loop := s.loop ++ l.map (fun e =>
      { fab := true, own := true, hdr := { type := tCOMPLETION, dst := s.did, src := e.2.dst, stream := e.2.stream, tag := e.2.tag, ts := stABORTED_RESET },
        le := 32, ingFab := false }) }

/-- The move table emptied: no HELD mark is left and a FLOW_SET that waits ends ABORTED_RESET. -/
def State.dropMoves (s : State) : State :=
  let l := s.herd.moves.filterMap (·.2)
  let s1 := l.foldl (fun (t : State) m => t.clearHeld m.src m.stream) (s.setHerd (fun h => { h with moves := [] }))
  l.foldl (fun (t : State) m => match m.why.desc with
    | some (q, i) => t.withDesc q i (fun d => t.finish q d stABORTED_RESET)
    | none => t) s1

/-- Discovery starts again from nothing: pins, the DID held before and the sequence number are kept. -/
def State.restartDiscovery (s : State) : State :=
  let s1 := (List.range 24).foldl (fun (t : State) k => if SMap.get t.herd.adj k {} = ({} : Adj) then t else t.setAdj k {}) s
  let h := s.herd
  let pins : SMap DidEnt := h.dids.foldl (fun m e =>
    if e.2.pinned then SMap.set m e.1 { pinned := true, pinUid := e.2.pinUid } {} else m) []
  let h' : HerdSt := { dids := pins, oldDid := h.oldDid, seq := h.seq, asgSeq := h.asgSeq, snaps := s1.herd.snaps }
  let s2 := s1.setHerd (fun _ => h')
  let s3 := ((((s2.wr HERD_STATUS_DID_VALID 0).wr HERD_STATUS_DID 0).wr HERD_EPOCH_PENDING 0).wr HERD_FABRIC_DEVICES 0).wr
    HERD_GLOBAL_STATUS_BUSY 0
  let s4 := s3.wr HERD_STATUS_STATE (if s.herdOn then hsDISCOVERING else hsDISABLED)
  (s4.syncElect).syncDiameter

/-- A Herd fabric reset on this device (R272). -/
def State.herdReset (s : State) : State :=
  let s1 := (s.fabOcts).foldl (fun (t : State) k => (t.flushPort (4 * k)).1) s
  let s2 := ((s1.abortFabric).dropMoves).restartDiscovery
  if s.herdOn then s2.elect none else s2

/-! ## Actions at the edge of T (R267 step 4) -/

/-- One operation performed at its tick; a device reset is left to the caller. -/
def State.globalAct (s : State) (o : GlobalOp) : State :=
  let s1 := (s.wr64 HERD_GLOBAL_TICK_LO_VALUE HERD_GLOBAL_TICK_HI_VALUE o.tick).setHerd (fun h =>
    { h with running := if o.op = goSNAPSHOT then h.running else SMap.set h.running o.op false false })
  if o.op = goBARRIER then
    let s2 := (s1.setHerd (fun h => { h with barrier := none })).endOwnOp goBARRIER
    if o.arg = 0 then (s2.setOn HERD_GLOBAL_STATUS_BARRIER_DONE).globalIrq
    else ((s2.setOn HERD_GLOBAL_STATUS_BARRIER_FAIL).raise 152).globalIrq
  else if o.op = goBROADCAST then
    (((s1.wr HERD_BCAST_VALUE_VALUE o.value).setOn HERD_GLOBAL_STATUS_BCAST).endOwnOp goBROADCAST).globalIrq
  else if o.op = goRESET_HERD then (s1.endOwnOp goRESET_HERD).herdReset
  else s1.endOwnOp (if o.op = goSNAPSHOT then 0 else o.op)

/-- GLOBAL_ACTION: the operations whose tick has come, in the order announced; whether a device reset is among them. -/
def State.globalActs (s : State) : Bool × State :=
  let due := s.herd.ops.filter (fun o => decide (o.tick ≤ s.time.tick))
  let s1 := s.setHerd (fun h => { h with ops := h.ops.filter (fun o => decide (s.time.tick < o.tick)) })
  (due.any (fun o => o.op == goRESET_DEVICE), due.foldl (fun t o => t.globalAct o) s1)

/-- After the captures of an edge: each announced one reports, done or failed (R230, R271). -/
def State.snapReports (s : State) (due : List SnapReq) (missed : Bool) (announced : List GlobalOp) : State :=
  announced.foldl (fun (t : State) o =>
    if o.op = goSNAPSHOT && due.any (fun r => r.tick == o.tick) then
      let t1 := t.setHerd (fun h => { h with snaps := h.snaps.map (fun w =>
        if w.id = o.value then { w with at_ := t.time.edge } else w) })
      t1.report none o.value (b2n (!missed)) missed
    else t) s

/-! ## The steps of a tick (R243 to R246, R53) -/

/-- The Herd steps of a tick edge, or of an interval of R53. -/
def State.herdStep (s : State) : State :=
  if !s.herdOn then s
  else
    let ks := s.herd.adj.map (·.1)
    let s1 := s.setHerd (fun h =>
      { h with adj := h.adj.map (fun e => (e.1, { e.2 with age := e.2.age + 1 })), since := if h.known then h.since + 1 else 0 })
    let s2 := ks.foldl (fun (t : State) k => t.adjTimeout k) s1
    let s3 := (s2.fabOcts).foldl (fun (t : State) k => t.sendHello k) s2
    let s4 := if s3.herd.known then s3.flood none hmCLAIM s3.herd.best.body else s3
    let s5 := (s4.rootEstablished).joinSend
    let s6 := s5.decideClaims
    if s6.herd.epochAgain && s6.ticking then s6.announceEpoch else s6

/-! ## HERD_CTRL and HERD_PORT_CFG (R276) -/

/-- ENABLE changes: taking part starts or ends. -/
def State.herdEnable (s : State) (on : Bool) : State :=
  if on == s.herdOn then s
  else if on then ((s.setOn HERD_CTRL_ENABLE).wr HERD_STATUS_STATE hsDISCOVERING).elect none
  else
    let s1 := (s.herd.adj.map (·.1)).foldl (fun (t : State) k => t.adjDown k) s
    ((s1.wr HERD_CTRL_ENABLE 0).failGlobals).restartDiscovery

/-- A write of HERD_CTRL. -/
def State.herdCtrlWrite (s : State) (v : Nat) : State :=
  let s1 := ((s.wr HERD_CTRL_JOIN_HOLD (bits v 2 2)).wr HERD_CTRL_REMOTE_ADMIN (bits v 1 1)).herdEnable (bit v 0)
  let s2 := if bit v 3 then s1.rebalance else s1
  if bit v 4 then s2.applyPending else s2

/-- A write of HERD_PRIORITY. -/
def State.herdPriorityWrite (s : State) (v : Nat) : State :=
  let s1 := s.wr HERD_PRIORITY_PRIORITY v
  if s1.herdOn then s1.elect none else s1

/-- A write of HERD_PORT_CFG of octet `k`. -/
def State.herdPortCfgWrite (s : State) (k v : Nat) : State :=
  let s1 := s.wr HERD_PORT_CFG_RING_ROLE (bits v 5 4) k
  if bits v 3 0 = s.rd HERD_PORT_CFG_COST k then s1 else (s1.wr HERD_PORT_CFG_COST (bits v 3 0) k).costChanged k

end Sys2Proof.Machine
end

