-- ==== Sys2Proof/Machine/TimeOps.lean ====
section
/-! DEFINITION. Cell time, the time root, sources, holdover and the tick period (R28 to R57). -/

namespace Sys2Proof.Machine

/-- TIME replaced. -/
def State.setTime (s : State) (f : TimeSt → TimeSt) : State := { s with time := f s.time }

/-- TIME_STATUS.STATE set. -/
def State.timeTo (s : State) (st : Nat) : State := s.wr TIME_STATUS_STATE st

/-- The time port of octet `k`. -/
def State.tport (s : State) (k : Nat) : TimePort := SMap.get s.time.ports k {}

/-- The time port of octet `k` replaced. -/
def State.setTport (s : State) (k : Nat) (x : TimePort) : State :=
  s.setTime (fun t => { t with ports := SMap.set t.ports k x {} })

/-- The time root's UID and this device's hops to it, as the registers show them. -/
def State.timeRoot (s : State) (uid hops : Nat) : State :=
  ((s.wr ROOT_UID_LO_VALUE uid).wr ROOT_UID_HI_VALUE (uid / 2 ^ 32)).wr TIME_STATUS_HOPS_TO_ROOT (min hops 0xFF)

/-- The period in force replaced by another (R33, R37, R54). -/
def State.setPeriod (s : State) (quanta split : Nat) : State :=
  (s.wr TICK_PERIOD_QUANTA quanta).wr TICK_PERIOD_SPLIT split

/-! ## Sources (R48 to R50) -/

/-- What the partner of octet `k` reports as its state, and whether it is the time root in HOLDOVER. -/
def State.partnerRoot (s : State) (k : Nat) : Bool :=
  match (s.tport k).slot with
  | some x => x.state == tsROOT || x.state == tsLOCKED || (x.state == tsHOLDOVER && x.rootUid == (s.adj k).uid && x.hops == 0)
  | none => false

/-- Whether fabric port P(4k) may serve as a time source (R48). -/
def State.timeCand (s : State) (k : Nat) : Bool :=
  s.fabUp k && (s.tport k).calOk && !(s.tport k).clockLost && s.partnerRoot k

/-- The candidate of fewest hops, then of the lowest octet. -/
def State.bestSource (s : State) (skip : Option Nat) : Option Nat :=
  let l := (s.fabOcts.filter (fun k => s.timeCand k && skip != some k)).map (fun k =>
    ((((s.tport k).slot.map (·.hops)).getD 255) * 32 + k, k))
  (sortBy l).head?.map (·.2)

/-- This device follows octet `k`. -/
def State.follow (s : State) (k : Nat) : State :=
  let x := ((s.tport k).slot).getD {}
  (s.wr TIME_STATUS_SOURCE_OCTET k).timeRoot x.rootUid (x.hops + 1)

/-- HOLDOVER entered. -/
def State.enterHoldover (s : State) : State :=
  (((s.timeTo tsHOLDOVER).setOn TIME_EVENTS_HOLDOVER_ENTER).wr TIME_STATUS_SOURCE_OCTET 0x1F).setTime
    (fun t => { t with slew := .none, cand := none, winSteps := 0 })

/-- SOURCE_LOSS of octet `k`: the next candidate, or HOLDOVER (R49, R50). -/
def State.sourceLost (s : State) (k : Nat) : State :=
  if s.timeState = tsLOCKED ∧ s.rd TIME_STATUS_SOURCE_OCTET = k then
    match s.bestSource (some k) with
    | some k2 => ((s.follow k2).setOn TIME_EVENTS_SOURCE_SWITCH).raise 98 { port := some (4 * k2) }
    | none => s.enterHoldover.raise 97
  else s

/-- SOURCE_LOSS by its cause: the clock lane has stopped, two marks in a row are missing, or the link is down. -/
def State.sourceLossEvent (s : State) (k cause : Nat) : State :=
  if cause = 0 then (s.setTport k { s.tport k with clockLost := true }).sourceLost k
  else if cause = 1 then (if 2 ≤ (s.tport k).missed then s.sourceLost k else s)
  else if !s.fabUp k then s.sourceLost k
  else s

/-! ## Marks and TIME slots (R42, R43, R54) -/

/-- MARK_ERROR. -/
def State.markError (s : State) (k : Nat) : State :=
  (s.setOn TIME_EVENTS_MARK_ERROR).raise 99 { port := some (4 * k) }

/-- A TIME slot arrives on octet `k`. A mark that the slot before it announced and that never came is missing. A
follower takes the pending change from its source (R33, R43). -/
def State.timeSlotIn (s : State) (k : Nat) (x : TimeSlot) : State :=
  let p := s.tport k
  let s1 := if p.markDue then (s.setTport k { p with missed := p.missed + 1 }).markError k else s
  let p1 := s1.tport k
  let s2 := s1.setTport k { p1 with slot := some x, markDue := true }
  let s3 := if 2 ≤ p1.missed then s2.sourceLost k else s2
  if s3.timeState = tsLOCKED ∧ s3.rd TIME_STATUS_SOURCE_OCTET = k then
    (s3.setTime (fun t => { t with pend :=
      if x.pendTick = 0 then none else some (x.pendTick, x.pendQuanta, x.pendSplit) })).timeRoot x.rootUid (x.hops + 1)
  else s3

/-- The one-way delay to a port's partner as a mark's correction, in 2^-16 ns: LINK_DELAY and half the trim (R45,
R47; log entry 34). -/
def State.delayOf (s : State) (k : Nat) : Int :=
  (s.rd LINK_DELAY_DELAY_NS k * 65536 + s.rd LINK_DELAY_DELAY_FRAC k : Nat)
    + toSigned 16 (s.rd LINK_ASYM_TRIM_TRIM_PS k) * 65536 / 2000

/-- Entering ACQUIRING ends at the first mark: cell time, tick number and period come from the source (R54). -/
def State.lockTo (s : State) (k n : Nat) (freq : Nat) : State :=
  let x := ((s.tport k).slot).getD {}
  let t := periodOf x.quanta x.split
  let ct := (((n * t * 65536 : Nat) : Int) + s.delayOf k).toNat
  let s1 := ((s.setPeriod x.quanta x.split).wr FREQ_OFFSET_VALUE freq).setTime (fun y =>
    { y with ct := ct, tick := n, edge := n * t, epoch := none, winSteps := 0, root := false,
             pend := if x.pendTick = 0 then none else some (x.pendTick, x.pendQuanta, x.pendSplit) })
  (s1.timeTo tsLOCKED).follow k

/-- The tick number that a mark arriving now on octet `k` should carry, by this device's own time. -/
def State.markNumber (s : State) (k : Nat) : Nat :=
  let at_ := ((s.time.ct : Int) - s.delayOf k - ((s.time.edge * 65536 : Nat) : Int))
  let t : Int := (s.tTick * 65536 : Nat)
  (((s.time.tick : Int) + (at_ + t / 2) / t)).toNat

/-- TICK_MARK: a mark is accepted on the clock lane of octet `k` (R42, R43, R54). -/
def State.tickMark (s : State) (k freq : Nat) : State :=
  let p := s.tport k
  match p.slot with
  | none => s.markError k
  | some x =>
    if !p.markDue then s.markError k
    else if s.timeState = tsLOCKED ∧ s.rd TIME_STATUS_SOURCE_OCTET = k ∧ s.markNumber k ≠ x.tick then
      (s.setTport k { p with markDue := false }).markError k
    else
      let s1 := s.setTport k { p with markDue := false, missed := 0 }
      if s1.timeState = tsACQUIRING ∧ s1.bestSource none = some k then s1.lockTo k x.tick freq else s1

/-- TIME_SLOT_SEND on octet `k` (R43, R320): the TIME_A and TIME_B fields. -/
def State.timeSlotSend (s : State) (k : Nat) : State :=
  if !s.ticking || !s.fabUp k then s
  else
    let n := s.time.tick + 1
    let pend := match s.time.pend with
      | some (t, q, sp) => if t - n < 2 ^ 24 then (sp * 2 ^ 20 + q, t - n) else (0, 0)
      | none => (0, 0)
    let root := s.rd64 ROOT_UID_LO_VALUE ROOT_UID_HI_VALUE
    s.slotSend k 5 ([s.timeState] ++ leBytes 6 n ++ leBytes 3 (s.rd TICK_PERIOD_SPLIT * 2 ^ 20 + s.rd TICK_PERIOD_QUANTA)
      ++ [s.rd TIME_STATUS_HOPS_TO_ROOT] ++ leBytes 8 root ++ leBytes 3 pend.1 ++ leBytes 3 pend.2)

/-! ## Calibration (R45, R46, R321) -/

/-- The mean and the spread of a list of delays. -/
def meanSpread (l : List Nat) : Nat × Nat :=
  (sum l / max l.length 1, (l.foldl max 0) - (l.foldl min (l.headD 0)))

/-- One delay exchange ends with a one-way delay in 2^-16 ns; the 64th ends the calibration. -/
def State.delayResult (s : State) (k one : Nat) : State :=
  let p := s.tport k
  let l := p.exchanges ++ [one]
  if l.length < 64 then s.setTport k { p with exchanges := l }
  else
    let (m, sp) := meanSpread l
    let bad := decide (200 * 65536 < sp * 1000)
    let s1 := s.setTport k { p with exchanges := [], calOk := !bad }
    if bad then ((s1.setOn TIME_EVENTS_CAL_FAIL).raise 102 { port := some (4 * k) })
    else
      let changed := s1.rd LINK_DELAY_DELAY_NS k != m / 65536
      let s2 := (s1.wr LINK_DELAY_DELAY_NS (m / 65536) k).wr LINK_DELAY_DELAY_FRAC m k
      if changed then s2.costChanged k else s2

/-- A calibration starts afresh: the link came up, retrained or changed its rate (R45). -/
def State.calRestart (s : State) (k : Nat) : State :=
  s.setTport k { s.tport k with exchanges := [], calOk := false }

/-- What TIME forgets of a port whose link goes down. -/
def State.timeLinkDown (s : State) (k : Nat) : State :=
  let s1 := (s.setTport k {}).setTime (fun t => { t with claims := SMap.set t.claims k none none })
  s1.sourceLost k

/-! ## Election (R35, R36) -/

/-- This device's source class (R35). -/
def State.srcClass (s : State) : Nat :=
  if s.on TIME_CTRL_SOURCE && s.on TIME_STATUS_CELLREF_OK then 0
  else if s.on TIME_CTRL_TICK_IN_EN && s.on TIME_STATUS_TICK_IN_OK then 1
  else 2

/-- Whether vector `a` beats `b` (R35). -/
def TimeVec.better (a b : TimeVec) : Bool :=
  decide (a.prio < b.prio) ||
    (a.prio == b.prio && (decide (a.cls < b.cls) || (a.cls == b.cls && decide (a.uid < b.uid))))

/-- This device's own vector, when it is a candidate. -/
def State.timeVec (s : State) : Option TimeVec :=
  if s.on TIME_CTRL_ENABLE && s.rd TIME_PRIORITY_PRIORITY != 0xFF then
    some { prio := s.rd TIME_PRIORITY_PRIORITY, cls := s.srcClass, uid := s.uid, hops := 0 }
  else none

/-- The best vector this device knows; of one root's vectors, the one of fewest hops (log entry 69). -/
def State.bestTime (s : State) : Option TimeVec :=
  (s.timeVec.toList ++ s.time.claims.filterMap (·.2)).foldl (fun m v => match m with
    | none => some v
    | some w => if v.better w || (!w.better v && decide (v.hops < w.hops)) then some v else some w) none

/-- A TIME_CLAIM's body (R241). -/
def TimeVec.body (v : TimeVec) : List Nat := [v.prio, v.cls] ++ leBytes 8 v.uid ++ [v.hops]

/-- TIME_CLAIM: the vector heard on a port; a change of the best is forwarded (R35, R242). A vector that has made 254
hops is no longer believed (log entry 69). -/
def State.timeClaim (s : State) (k : Nat) (v : TimeVec) : State :=
  if !s.fabUp k then s
  else
    let was := s.bestTime
    let s1 := s.setTime (fun t =>
      { t with claims := SMap.set t.claims k (if v.prio = 0xFF ∨ 254 ≤ v.hops then none else some { v with hops := v.hops + 1 }) none,
               claimSeen := t.claimSeen || v.prio != 0xFF })
    let now := s1.bestTime
    if now == was then s1 else
      match now with
      | some b => s1.flood (some k) hmTIME_CLAIM b.body
      | none => s1

/-- Whether a time root is known to this device (R35). -/
def State.rootKnown (s : State) : Bool :=
  s.timeState == tsROOT || s.timeState == tsLOCKED || s.time.root || s.fabOcts.any (fun k => s.fabUp k && s.partnerRoot k)

/-- This device becomes time root (R36, R39): from ACQUIRING its time starts at the loaded epoch. -/
def State.enterRoot (s : State) : State :=
  let fresh := s.timeState == tsACQUIRING
  let s1 := s.setTime (fun t =>
    { t with root := true, cls := s.srcClass, winSteps := 0, slew := .none, cand := none,
             onCellref := s.on TIME_CTRL_SOURCE && s.on TIME_STATUS_CELLREF_OK, epoch := none })
  let s2 := if fresh then s1.setTime (fun t =>
      { t with ct := (s.time.epoch.getD (0, 0)).1 * 65536, edge := (s.time.epoch.getD (0, 0)).1, tick := (s.time.epoch.getD (0, 0)).2 })
    else s1.setOn TIME_EVENTS_HOLDOVER_EXIT
  ((s2.timeTo tsROOT).wr TIME_STATUS_SOURCE_OCTET 0x1F).timeRoot s.uid 0

/-- This device's view of the Herd root vector as one number. -/
def State.rootView (s : State) : Nat :=
  if s.herd.known then (s.herd.best.prio * 2 ^ 64 + s.herd.best.uid) + 1 else 0

/-- A step of the election: the claims sent, a candidate's wins counted, NO_TIME_ROOT after 3 quiet steps (R35). -/
def State.timeStep (s : State) : State :=
  if !s.on TIME_CTRL_ENABLE then s
  else
    let s0 := match s.bestTime with
      | some b => s.flood none hmTIME_CLAIM b.body
      | none => s
    let known := s0.rootKnown
    let mine := s0.timeVec.isSome && s0.bestTime == s0.timeVec
    let free := s0.timeState == tsACQUIRING || s0.timeState == tsHOLDOVER
    let wins := if free && !known && mine then s0.time.winSteps + 1 else 0
    let quiet := !known && !s0.time.claimSeen && s0.timeVec.isNone && s0.rootView == s0.time.lastView
    let n := if quiet then s0.time.quietSteps + 1 else 0
    let s1 := s0.setTime (fun t => { t with winSteps := wins, quietSteps := n, claimSeen := false, lastView := s0.rootView,
                                            quietDone := t.quietDone && quiet })
    let s2 := if 3 ≤ n ∧ !s1.time.quietDone then (s1.setTime (fun t => { t with quietDone := true })).raise 109 else s1
    if 3 ≤ wins then s2.enterRoot else s2

/-! ## TIME_CTRL and the loads (R39, R52, R56) -/

/-- TIME_ENABLE_WRITE: ENABLE changes. -/
def State.timeEnable (s : State) (on : Bool) : State :=
  if on == s.on TIME_CTRL_ENABLE then s
  else if on then
    ((s.setOn TIME_CTRL_ENABLE).timeTo tsACQUIRING).setTime (fun t =>
      { t with epoch := some (s.rd64 CELL_TIME_LOAD_LO_VALUE CELL_TIME_LOAD_HI_VALUE, s.rd64 TICK_NUM_LOAD_LO_VALUE TICK_NUM_LOAD_HI_VALUE),
               winSteps := 0, quietSteps := 0, quietDone := false, lastView := s.rootView })
  else
    ((((s.wr TIME_CTRL_ENABLE 0).timeTo tsDISABLED).wr TIME_STATUS_SOURCE_OCTET 0x1F).timeRoot 0 0xFF).setTime (fun t =>
      { t with root := false, pend := none, slew := .none, cand := none, stepReq := false, epoch := none, winSteps := 0 })

/-- STEP_NOW. -/
def State.stepNow (s : State) : State := s.setTime (fun t => { t with stepReq := true })

/-- A write of TIME_CTRL. -/
def State.timeCtrlWrite (s : State) (v : Nat) : State :=
  let s1 := (((s.wr TIME_CTRL_CELLREF_OUT_EN (bits v 6 6)).wr TIME_CTRL_TICK_OUT_EN (bits v 5 5)).wr TIME_CTRL_TICK_IN_EN (bits v 4 4)).wr
    TIME_CTRL_SOURCE (bits v 3 3)
  let s2 := s1.timeEnable (bit v 0)
  if bit v 7 then s2.stepNow else s2

/-- CELL_TIME_LOAD: a write of the pair CELL_TIME_LOAD, or of TICK_NUM_LOAD (R39). -/
def State.cellTimeLoad (s : State) (tickNum : Bool) (v : Nat) : State :=
  if s.on TIME_CTRL_ENABLE || (!tickNum && v % s.tTick != 0) then s.setOn TIME_EVENTS_LOAD_REJECTED
  else if tickNum then s.wr64 TICK_NUM_LOAD_LO_VALUE TICK_NUM_LOAD_HI_VALUE v
  else s.wr64 CELL_TIME_LOAD_LO_VALUE CELL_TIME_LOAD_HI_VALUE v

/-! ## The tick period (R31 to R34) -/

/-- PERIOD_REJECTED. -/
def State.periodRejected (s : State) : State := (s.setOn TIME_EVENTS_PERIOD_REJECTED).raise 103

/-- A write of TICK_PERIOD_NEXT: it counts only on the time root, and a period outside its range is rejected (R31, R32). -/
def State.periodNextWrite (s : State) (v : Nat) : State :=
  if !s.time.root then s
  else if !periodOk (bits v 19 0) (bits v 21 20) then s.periodRejected
  else (s.wr TICK_PERIOD_NEXT_QUANTA (bits v 19 0)).wr TICK_PERIOD_NEXT_SPLIT (bits v 21 20)

/-- TICK_CHANGE_AT_WRITE (R32, R33, R248). -/
def State.tickChangeAt (s : State) (v : Nat) : State :=
  if !s.time.root then s
  else
    let l := s.lead
    let held := match s.time.pend with
      | some (t, _, _) => decide (t < s.time.tick + l)
      | none => false
    let q := s.rd TICK_PERIOD_NEXT_QUANTA
    let sp := s.rd TICK_PERIOD_NEXT_SPLIT
    if v = 0 then
      if s.time.pend.isNone then s else if held then s.periodRejected else s.setTime (fun t => { t with pend := none })
    else if held || decide (v < s.time.tick + l) || !periodOk q sp
        || (s.time.edge + (v - s.time.tick) * s.tTick) % periodOf q sp != 0
        || decide (s.dMaxFor (periodOf q sp) < s.treeDepth) then s.periodRejected
    else s.setTime (fun t => { t with pend := some (v, q, sp) })

/-- PERIOD_CHANGE_EDGE: the pending change whose tick this is takes effect, and gate lists are examined (R33, R34). -/
def State.periodChange (s : State) : State :=
  match s.time.pend with
  | none => s
  | some (t, q, sp) =>
    if t ≤ s.time.tick then
      let s1 := ((s.setPeriod q sp).setTime (fun t => { t with pend := none })).syncDiameter
      (s1.gate.ports.map (·.1)).foldl (fun (x : State) p => x.changeEdgeGate p) s1
    else s

/-! ## CELLREF and TICK_IN (R36, R38) -/

/-- CELLREF_LOSS. -/
def State.cellrefLoss (s : State) : State :=
  let s1 := s.wr TIME_STATUS_CELLREF_OK 0
  if s.time.root && s.timeState == tsROOT && s.time.onCellref then s1.enterHoldover.raise 101 else s1

/-- CELLREF_RETURN. -/
def State.cellrefReturn (s : State) : State :=
  let s1 := s.setOn TIME_STATUS_CELLREF_OK
  if s.time.root && s.on TIME_CTRL_SOURCE then
    let s2 := s1.setTime (fun t => { t with slew := .cellref, onCellref := true })
    if s.timeState = tsHOLDOVER then (s2.timeTo tsROOT).setOn TIME_EVENTS_HOLDOVER_EXIT
    else if s.time.onCellref then s1
    else s2
  else s1

/-- TICK_IN_EDGE at cell time `t`: regular edges come at multiples of T_TICK within 3 ns (R38; log entry 35). -/
def State.tickInEdge (s : State) : State :=
  let t := s.ns
  let ok := match s.time.tickInLast with
    | some l =>
      let d := t - l
      decide (s.tTick ≤ d + 3) && (decide (d % s.tTick ≤ 3) || decide (s.tTick ≤ d % s.tTick + 3))
    | none => false
  let s1 := (s.wr TIME_STATUS_TICK_IN_OK (b2n ok)).setTime (fun x => { x with tickInLast := some t })
  if s.on TIME_CTRL_TICK_IN_EN && s.time.root then s1.setTime (fun x => { x with slew := .tickIn }) else s1

/-- TICK_IN_LOSS. -/
def State.tickInLoss (s : State) : State :=
  (s.wr TIME_STATUS_TICK_IN_OK 0).setTime (fun x => { x with tickInLast := none })

/-! ## Holdover exit (R37, R51, R52) -/

/-- CANDIDATE_VALID: in HOLDOVER, the offset of octet `k` is `off` in 2^-16 ns and its tick number now is `n`. A small
one is slewed away; a larger one, or one of another period or numbering, waits for a step. -/
def State.candidateValid (s : State) (k : Nat) (off : Int) (n : Nat) : State :=
  if s.timeState ≠ tsHOLDOVER ∨ s.time.root = true ∨ !s.timeCand k then s
  else
    let x := ((s.tport k).slot).getD {}
    let t := periodOf x.quanta x.split
    let there := ((s.time.ct : Int) + off).toNat / 65536
    let same := t == s.tTick && n + s.ns / max t 1 == s.time.tick + there / max t 1
    let small := decide (off.natAbs ≤ s.rd HOLDOVER_CTRL_STEP_THRESHOLD * 65536) && same
    let s1 := s.setTime (fun y => { y with cand := some (k, off, s.ns, n), slew := if small then .source else .none })
    if !small && s.on HOLDOVER_CTRL_AUTO_STEP then s1.stepNow else s1

/-- SLEW_LOCKED: the offset is within 1 ns (R51), or the root has reached CELLREF or TICK_IN. -/
def State.slewLocked (s : State) : State :=
  let s1 := s.setTime (fun t => { t with slew := .none })
  match s.time.slew with
  | .none => s
  | .source =>
    match s.time.cand with
    | some (k, _, _, _) =>
      if s.timeState = tsHOLDOVER then
        ((((s1.setTime (fun t => { t with cand := none, stepReq := false })).timeTo tsLOCKED).setOn TIME_EVENTS_HOLDOVER_EXIT).follow k)
      else s1
    | none => s1
  | _ => s1

/-- Timed launches whose launch time a forward step skipped complete LATE (R52). -/
def State.skipLaunches (s : State) (from_ to_ : Nat) : State :=
  (s.gate.launch.filterMap (fun e => e.2.map (fun l => (e.1, l)))).foldl (fun (t : State) e =>
    if from_ < e.2.lt ∧ e.2.lt < to_ then
      match t.launchDesc e.2 with
      | some (q, d) => (((t.undoRunAhead e.2).setLaunch e.1 none).inc GATE_LATE_VALUE).finish q d stLATE
      | none => t
    else t) s

/-- The step asked for takes effect at a tick sample (R52, R37). -/
def State.takeStep (s : State) : State :=
  match s.time.cand with
  | none => s
  | some (k, off, t0, n0) =>
    if !s.time.stepReq || s.timeState != tsHOLDOVER || s.time.root then s
    else
      let x := ((s.tport k).slot).getD {}
      let t := max 1 (periodOf x.quanta x.split)
      let old := s.ns
      let ct := ((s.time.ct : Int) + off).toNat
      let ns := ct / 65536
      let src0 := ((t0 * 65536 : Nat) + off).toNat / 65536
      let n := n0 + ns / t - src0 / t
      let illegal := t != s.tTick
      let s1 := if illegal then s.setPeriod x.quanta x.split else s
      let s2 := s1.setTime (fun y =>
        { y with ct := ct, stepReq := false, cand := none, slew := .none,
                 tick := if s.time.tick < n then n else y.tick, edge := if s.time.edge < ns / t * t then ns / t * t else y.edge })
      let s3 := ((((s2.timeTo tsLOCKED).setOn TIME_EVENTS_HOLDOVER_EXIT).setOn TIME_EVENTS_STEP).raise 100).follow k
      let s4 := s3.skipLaunches old ns
      if illegal then (s4.gate.ports.map (·.1)).foldl (fun (y : State) p =>
        let g := y.gatePort p
        if g.state = 1 ∧ !legalFor (cycleOf g.operList) t then y.holdClosed p else y) s4
      else s4

/-- The cell time of a fabric that merges: its time root leaves ROOT and every device enters HOLDOVER (R37, R50). -/
def State.mergeTime (s : State) : State :=
  if s.ticking then (s.enterHoldover.raise 97).setTime (fun t => { t with root := false, pend := none }) else s

/-- FABRIC_MERGE_RESET: the Herd fabric reset that a merge asks for, at the next tick edge (R245, R37). -/
def State.fabricMergeReset (s : State) : State :=
  if s.herd.mergeDue then
    let s1 := ((s.setOn HERD_EVENTS_ROOT_CHANGE).raise 153)
    (s1.failGlobals).herdReset.mergeTime
  else s

/-! ## PTM at upstream ports (R57) -/

/-- PTM_REQUESTER: host time sampled at the tick edge gives HOST_OFFSET. -/
def State.ptmRequester (s : State) (n host : Nat) : State :=
  let i := s.rd PTM_CTRL_INTERVAL
  match s.pfPort n with
  | none => s
  | some p =>
    if i = 0 ∨ s.time.tick % max i 1 ≠ 0 ∨ !s.ticking ∨ !s.on PORT_STATUS_LINK_UP p then s
    else
      let d := ofSigned 64 ((host : Int) - (s.time.edge : Int))
      (s.wr HOST_OFFSET_LO_VALUE d n).wr HOST_OFFSET_HI_VALUE (d / 2 ^ 32) n

/-- TICK_OUT_PULSE_END (R56). -/
def State.tickOutEnd (s : State) : State :=
  if s.time.tickOut && decide (s.time.edge + min (s.rd TICK_OUT_CTRL_WIDTH) (s.tTick / 2) ≤ s.ns) then
    (s.setTime (fun t => { t with tickOut := false })).emit (.pin 1 0 0)
  else s

end Sys2Proof.Machine
end

