-- ==== Sys2Proof/Machine/LinkOps.lean ====
section
/-! DEFINITION. Gazelle links: up and down, credit and acknowledgement slots, planned changes, Doze and Hibernate
(R293 to R299, R322 to R336). -/

namespace Sys2Proof.Machine

/-! ## Link up and down (R322, R330, R331) -/

/-- Link-down reasons (R330). -/
def ldCRC_RATE : Nat := 1
def ldREPLAY_LIMIT : Nat := 2
def ldSEQ_LOST : Nat := 3
def ldDRAIN_TIMEOUT : Nat := 4
def ldPROTOCOL : Nat := 5
def ldPARTNER_LOST : Nat := 6
def ldSOFTWARE : Nat := 7
def ldCHANGE_FAIL : Nat := 8
def ldPORT_DISABLED : Nat := 9

/-- TRAIN_STATE set, with the time of entry; the clock lane runs outside OFF, DETECT and HIBERNATE (R293, R297), and its
receiver has no clock in OFF and DETECT. -/
def State.trainTo (s : State) (k st : Nat) : State :=
  let off := st == trOFF || st == trDETECT
  let s1 := (s.wr OCT_FAB_STATUS_TRAIN_STATE st k).wr CK_STATUS_TX_ACTIVE (b2n (!off && st != trHIBERNATE)) k
  (if off then s1.wr CK_STATUS_RX_LOCK 0 k else s1).setTrn k { s.trn k with since := s.ns }

/-- Nine 12-bit numbers in 14 bytes (R316). -/
def packNine (f : Nat → Nat) : List Nat := leBytes 14 (sum ((List.range 9).map (fun i => f i % 4096 * 4096 ^ i)))

/-- Number `i` of nine 12-bit numbers. -/
def nineOf (slot : List Nat) (i : Nat) : Nat := leNat ((slot.drop 2).take 14) / 4096 ^ i % 4096

/-- The sequence numbers and credits of an octet restart (R311, R322, R331). -/
def State.linkRestart (s : State) (k : Nat) : State :=
  let x := s.lnk k
  let s1 := s.setLnk k { cnt := x.cnt, reqNo := x.reqNo, busyAt := s.ns }
  let s2 := (((s1.wr LINK_SEQ_TX_NEXT_VALUE 0 k).wr LINK_SEQ_TX_ACKED_VALUE 0 k).wr LINK_SEQ_RX_EXPECT_VALUE 0 k).wr LINK_SEQ_RX_DELIVER_VALUE 0 k
  (List.range 9).foldl (fun (t : State) v => t.syncCredit k v) (s2.wr LINK_ERR_NOW_COUNT 0 k)

/-- The port enters ACTIVE from bring-up: both ends start afresh and send CREDIT_INIT (R311, R322). -/
def State.enterActive (s : State) (k : Nat) : State :=
  let s1 := (s.trainTo k trACTIVE).linkRestart k
  let alloc (v : Nat) : Nat := if v = 8 then 8 else s.rd LINK_RX_ALLOC_ALLOC k v
  let m : SMap Nat := (List.range 9).foldl (fun a v => SMap.set a v (alloc v) 0) []
  (s1.setLnk k { s1.lnk k with mine := m }).slotSend k 1 (packNine alloc)

/-- The DELAY_REQ of the next exchange leaves (R45, R321). -/
def State.delayReq (s : State) (k : Nat) : State :=
  (s.setLnk k { s.lnk k with delayOut := some s.time.ct }).slotSend k 7 [(s.tport k).exchanges.length]

/-- Calibration starts (R45). -/
def State.calibrate (s : State) (k : Nat) : State := (s.calRestart k).delayReq k

/-- CREDIT_INIT accepted: the link is up (R322). -/
def State.creditInit (s : State) (k : Nat) (slot : List Nat) : State :=
  let x := s.lnk k
  if x.creditIn || s.trState k != trACTIVE then s
  else
    let m : SMap Nat := (List.range 9).foldl (fun a v => SMap.set a v (nineOf slot v) 0) []
    let s1 := (s.setLnk k { x with creditIn := true, alloc := m }).setOn LINK_STATUS_UP k
    ((List.range 9).foldl (fun (t : State) v => t.syncCredit k v) s1).calibrate k

/-- The events that a link-down reason raises (R337). -/
def downSources (reason : Nat) : List Nat :=
  0 :: (if reason = ldREPLAY_LIMIT then [3] else if reason = ldSEQ_LOST then [4]
        else if reason = ldDRAIN_TIMEOUT ∨ reason = ldCHANGE_FAIL then [5] else if reason = ldPROTOCOL then [87] else [])

/-- Whether an octet's link is in use: from ACTIVE on, or in a planned change. -/
def State.linkLive (s : State) (k : Nat) : Bool :=
  s.trState k == trACTIVE || s.trState k == trDOZE || s.trState k == trHIBERNATE || s.on LINK_STATUS_CHANGING k

/-- The lanes of an octet's fabric port are no longer in use. -/
def State.lanesIdle (s : State) (k : Nat) : State :=
  ((s.wr OCT_STATUS_LANE_ACTIVE 0 k).wr OCT_FAB_STATUS_WIDTH 0 k).wr OCT_FAB_STATUS_LANES_USED 0 k

/-- What a fabric port loses with its link: packets in reception, the adjacency, the queues, the time source. -/
def State.fabLost (s : State) (k : Nat) : State :=
  (((s.failPackets (4 * k)).adjDown k).flushFab (4 * k)).timeLinkDown k

/-- An end declares the link down (R330, R331): `next` is the state that bring-up goes to. -/
def State.linkDown (s : State) (k reason : Nat) (next : Nat := trDETECT) : State :=
  if !s.linkLive k then s
  else
    let failed := s.on LINK_STATUS_CHANGING k
    let s1 := ((((s.wr LINK_STATUS_UP 0 k).wr LINK_STATUS_CHANGING 0 k).wr LINK_STATUS_DOWN_REASON reason k).inc LINK_STATUS_DOWN_COUNT k).lanesIdle k
    let s2 := if failed then s1.wr LINK_STATUS_CHANGE_RESULT 4 k else s1
    let s3 := (downSources reason).foldl (fun (t : State) n => t.raise n { port := some (4 * k) }) s2
    (((s3.trainTo k next).linkRestart k).fabLost k)

/-- FORCE_DOWN. -/
def State.forceDown (s : State) (k : Nat) : State := s.linkDown k ldSOFTWARE

/-- PARTNER_LOST: electrical idle, unless a DOZE flit or a failed flit came just before (R330, R336). -/
def State.partnerLost (s : State) (k : Nat) : State :=
  let x := s.lnk k
  if x.rxDoze then s
  else if 0 < x.failRun then s.setLnk k { x with rxDoze := true }
  else s.linkDown k ldPARTNER_LOST

/-! ## Credits and acknowledgements (R323 to R326) -/

/-- The ack point moves on to `d`, when it is newer: replay entries below it are freed, their queued replays dropped. -/
def State.ackTo (s : State) (k d : Nat) : State :=
  let a := s.rd LINK_SEQ_TX_ACKED_VALUE k
  let n := s.rd LINK_SEQ_TX_NEXT_VALUE k
  let adv := seqDist a d
  if adv = 0 ∨ seqDist a n < adv then s
  else
    let x := s.lnk k
    let live (q : Nat) : Bool := decide (adv ≤ seqDist a q)
    (s.setLnk k { x with replay := x.replay.filter (fun f => live f.seq), resend := x.resend.filter live,
                         served := x.served.filter (fun e => live e.1) }).wr LINK_SEQ_TX_ACKED_VALUE d k

/-- Whether an ACK or NAK point lies above N (R339). -/
def State.ackBad (s : State) (k d : Nat) : Bool :=
  let a := s.rd LINK_SEQ_TX_ACKED_VALUE k
  let n := s.rd LINK_SEQ_TX_NEXT_VALUE k
  decide (seqDist a n < seqDist a d) && decide (seqDist a d < 2 ^ 31)

/-- Whether a CREDIT slot names a counter past the flits sent (R339). -/
def State.creditBad (s : State) (k : Nat) (slot : List Nat) : Bool :=
  let x := s.lnk k
  (List.range 9).any (fun v =>
    let r := SMap.get x.returned v 0
    decide ((SMap.get x.sent v 0 + 4096 - r) % 4096 < (nineOf slot v + 4096 - r) % 4096))

/-- A CREDIT slot: the returned counters, and the ack point of the newest flit they cover (R325). -/
def State.creditIn (s : State) (k : Nat) (slot : List Nat) : State :=
  (List.range 9).foldl (fun (t : State) v =>
    let x := t.lnk k
    let r := SMap.get x.returned v 0
    let n := (nineOf slot v + 4096 - r) % 4096
    if n = 0 then t
    else
      let l := SMap.get x.flight v []
      let t1 := (t.setLnk k { x with returned := SMap.set x.returned v (nineOf slot v) 0,
                                     flight := SMap.set x.flight v (l.drop n) [] }).syncCredit k v
      match (l.take n).getLast? with
      | some q => t1.ackTo k (seqAdd q 1)
      | none => t1) s

/-- The numbers that a NAK slot names. -/
def nakNumbers (slot : List Nat) : List Nat :=
  let f := bytesAt slot 2 5
  f :: (bitsSet (bytesAt slot 6 7) 16).map (fun i => seqAdd f (1 + i))

/-- A NAK slot: the numbers not yet acknowledged are queued for replay (R326, R328). -/
def State.nakIn (s : State) (k : Nat) (slot : List Nat) : State :=
  let a := s.rd LINK_SEQ_TX_ACKED_VALUE k
  let n := s.rd LINK_SEQ_TX_NEXT_VALUE k
  (nakNumbers slot).foldl (fun (t : State) q =>
    let x := t.lnk k
    if seqDist a n ≤ seqDist a q ∨ byteAt slot 1 ≤ SMap.get x.served q 0 then t
    else t.setLnk k { x with resend := x.resend ++ [q], served := SMap.set x.served q (byteAt slot 1) 0 }) s

/-- Whether a NAK names a number at or above N; one below A is only ignored (R326, R328). -/
def State.nakBad (s : State) (k : Nat) (slot : List Nat) : Bool :=
  let n := s.rd LINK_SEQ_TX_NEXT_VALUE k
  (nakNumbers slot).any (fun q => decide (seqDist n q < 2 ^ 31))

/-- CREDIT and ACK sent (R324). -/
def State.sendCredit (s : State) (k : Nat) : State :=
  let x := s.lnk k
  (s.slotSend k 2 (packNine (fun v => SMap.get x.given v 0))).slotSend k 3 (leBytes 4 (s.rd LINK_SEQ_RX_DELIVER_VALUE k))

/-- CREDIT_KEEPALIVE. -/
def State.creditKeepalive (s : State) (k : Nat) : State := if s.fabUp k then s.sendCredit k else s

/-- A NAK slot sent for one number (R327). -/
def State.sendNak (s : State) (k q attempt : Nat) : State :=
  (s.lnkCount k 5 1).slotSend k 4 ([attempt] ++ leBytes 4 q ++ [0, 0] ++ leBytes 4 (s.rd LINK_SEQ_RX_DELIVER_VALUE k))

/-- NAK_RETRY: numbers still missing are NAKed again, or the link goes down after the fourth attempt (R327). -/
def State.nakRetry (s : State) (k : Nat) : State :=
  let w := s.rd LINK_REPLAY_CFG_NAK_RETRY_NS k
  let x := s.lnk k
  let due := x.missing.filter (fun m => decide (m.at_ + w ≤ s.ns))
  if due.any (fun m => decide (4 ≤ m.attempt)) then s.linkDown k ldREPLAY_LIMIT
  else
    let s1 := s.setLnk k { x with missing := x.missing.map (fun m =>
      if m.at_ + w ≤ s.ns then { m with attempt := m.attempt + 1, at_ := s.ns } else m) }
    due.foldl (fun (t : State) m => t.sendNak k m.seq (m.attempt + 1)) s1

/-! ## Planned changes (R332 to R335) -/

/-- The legal width codes of a fabric port (R287). -/
def State.widthOk (s : State) (k w : Nat) : Bool :=
  if s.octMode k = 4 then w == 2 || w == 3 || w == 4 else w == 1 || w == 2 || w == 3

/-- A LINK_REQ slot sent: UID, kind, targets, flags, number (R316). -/
def State.sendLinkReq (s : State) (k uid kind rate width flags num : Nat) : State :=
  s.slotSend k 9 (leBytes 8 uid ++ [kind, rate, width, flags] ++ leBytes 2 num)

/-- LINK_CHANGE_REQ: a request of this end (R332). -/
def State.linkChangeReq (s : State) (k : Nat) : State :=
  let x := s.lnk k
  if !s.fabUp k || x.change.isSome then s
  else
    let n := (x.reqNo + 1) % 65536
    let c : Change := { kind := s.rd LINK_CTRL_CHANGE_KIND k, rate := s.rd LINK_CTRL_TARGET_RATE k, width := s.rd LINK_CTRL_TARGET_WIDTH k,
                        num := n, mine := true, at_ := s.ns }
    (((s.setLnk k { x with reqNo := n, change := some c }).setOn LINK_STATUS_CHANGING k).wr LINK_STATUS_CHANGE_RESULT 0 k).sendLinkReq
      k s.uid c.kind c.rate c.width 0 n

/-- A write of LINK_CTRL. -/
def State.linkCtrlWrite (s : State) (k v : Nat) : State :=
  let s1 := ((s.wr LINK_CTRL_CHANGE_KIND (bits v 29 28) k).wr LINK_CTRL_TARGET_RATE (bits v 27 24) k).wr LINK_CTRL_TARGET_WIDTH (bits v 23 21) k
  let s2 := if bit v 31 then s1.forceDown k else s1
  if bit v 30 then s2.linkChangeReq k else s2

/-- Whether this end has drained: A = N and E = D (R333). -/
def State.drained (s : State) (k : Nat) : Bool :=
  s.rd LINK_SEQ_TX_ACKED_VALUE k == s.rd LINK_SEQ_TX_NEXT_VALUE k && s.rd LINK_SEQ_RX_EXPECT_VALUE k == s.rd LINK_SEQ_RX_DELIVER_VALUE k

/-- A change moves on: CHANGE_NOW once drained, and the lanes switch when both ends have sent and accepted it. -/
def State.changeCheck (s : State) (k : Nat) : State :=
  match (s.lnk k).change with
  | none => s
  | some c =>
    let s1 := if c.acked && !c.nowSent && s.drained k then
        (s.setLnk k { s.lnk k with change := some { c with nowSent := true } }).slotSend k 10 (leBytes 2 c.num)
      else s
    match (s1.lnk k).change with
    | some d => if d.nowSent && d.nowSeen && s1.trState k == trACTIVE then
        s1.trainTo k (if d.kind = 1 then trCONFIG else trSTEP)
      else s1
    | none => s1

/-- A change agreed: this end stops starting sequenced flits. -/
def State.takeChange (s : State) (k : Nat) (c : Change) : State :=
  ((s.setLnk k { s.lnk k with change := some c }).setOn LINK_STATUS_CHANGING k).changeCheck k

/-- A LINK_REQ slot arrives (R332, R335). -/
def State.linkReqIn (s : State) (k : Nat) (slot : List Nat) : State :=
  let uid := bytesAt slot 2 9
  let kind := byteAt slot 10
  let rate := byteAt slot 11
  let width := byteAt slot 12
  let num := bytesAt slot 14 15
  let x := s.lnk k
  if bit (byteAt slot 13) 0 then
    match x.change with
    | some c => if c.mine && c.num == num && !c.acked then s.takeChange k { c with acked := true, at_ := s.ns } else s
    | none => s
  else if bit (byteAt slot 13) 1 then
    match x.change with
    | some c =>
      if c.mine && c.num == num && !c.acked then
        ((s.setLnk k { x with change := none }).wr LINK_STATUS_CHANGING 0 k).wr LINK_STATUS_CHANGE_RESULT 3 k
      else s
    | none => s
  else
    let c : Change := { kind := kind, rate := rate, width := width, num := num, mine := false, acked := true, at_ := s.ns }
    let ok := decide (1 ≤ kind) && decide (kind ≤ 3) && (rate == 2 || rate == 4 || rate == 5 || rate == 6)
      && s.widthOk k width && decide (rate ≤ s.rd OCT_FAB_CFG_MAX_RATE k)
    let answer (t : State) (f : Nat) : State := t.sendLinkReq k uid kind rate width f num
    match x.change with
    | some d =>
      if d.mine && !d.acked then
        if uid < s.uid then
          if ok then ((answer s 1).wr LINK_STATUS_CHANGE_RESULT 2 k).takeChange k c
          else ((((answer s 2).setLnk k { x with change := none }).wr LINK_STATUS_CHANGE_RESULT 2 k).wr LINK_STATUS_CHANGING 0 k)
        else s
      else if d.num = num ∧ d.mine = false then answer s 1
      else answer s 2
    | none => if ok then (answer s 1).takeChange k c else answer s 2

/-- A CHANGE_NOW slot arrives. -/
def State.changeNowIn (s : State) (k : Nat) (slot : List Nat) : State :=
  match (s.lnk k).change with
  | some c => if c.num = bytesAt slot 14 15 then
      (s.setLnk k { s.lnk k with change := some { c with nowSeen := true } }).changeCheck k
    else s
  | none => s

/-- DRAIN_TIMEOUT (R333). -/
def State.drainTimeout (s : State) (k : Nat) : State :=
  match (s.lnk k).change with
  | some c =>
    if c.acked && !(s.drained k && c.nowSent) && decide (c.at_ + s.rd LINK_REPLAY_CFG_DRAIN_TIMEOUT k * 100 ≤ s.ns) then
      s.linkDown k ldDRAIN_TIMEOUT
    else s
  | none => s

/-- The lanes of a width code. -/
def lanesOf (w : Nat) : Nat := if w = 0 then 0 else 2 ^ w

/-- The rate and width in use, as the registers show them (R305). -/
def State.setLanes (s : State) (k rate width : Nat) : State :=
  let n := lanesOf width
  let total := if s.octMode k = 4 then 16 else 8
  let mask := if s.on OCT_FAB_STATUS_REVERSED k then (2 ^ n - 1) * 2 ^ (total - n) else 2 ^ n - 1
  let s1 := (((s.wr OCT_FAB_STATUS_RATE rate k).wr OCT_FAB_STATUS_WIDTH width k).wr OCT_FAB_STATUS_LANES_USED mask k).wr
    OCT_STATUS_LANE_ACTIVE (mask % 256) k
  let s2 := if total = 16 then s1.wr OCT_STATUS_LANE_ACTIVE (mask / 256) (k + 1) else s1
  (List.range total).foldl (fun (t : State) i => t.wr LANE_STATUS_RATE rate (k + i / 8) (i % 8)) s2

/-- LINK_CHANGE_DONE: the lanes have switched to a rate and width, or the change has failed (R334). -/
def State.linkChangeDone (s : State) (k : Nat) (ok : Bool) (rate width : Nat) : State :=
  match (s.lnk k).change with
  | none => s
  | some c =>
    if !(c.nowSent && c.nowSeen) then s
    else if !ok then s.linkDown k ldCHANGE_FAIL
    else
      let r := if c.kind = 2 then s.rd OCT_FAB_STATUS_RATE k else if c.kind = 3 then c.rate else rate
      let w := if c.kind = 3 then s.rd OCT_FAB_STATUS_WIDTH k else if c.kind = 2 then c.width else width
      let s1 := ((s.setLanes k r w).trainTo k trACTIVE).setLnk k { s.lnk k with change := none }
      ((s1.wr LINK_STATUS_CHANGING 0 k).wr LINK_STATUS_CHANGE_RESULT (if c.mine then 1 else 2) k).calibrate k

/-! ## Doze (R295, R296, R336) -/

/-- Whether the transmitter of a fabric octet has data or a bypass flit to send. -/
def State.txReady (s : State) (k : Nat) : Bool :=
  let x := s.lnk k
  !x.herd.isEmpty || !x.resend.isEmpty || (s.txOf (4 * k)).left != 0
    || s.mapped.any (fun e => e.2.port == 4 * k && !e.2.head.isEmpty)

/-- DOZE_ENTRY. -/
def State.dozeEntry (s : State) (k : Nat) : State :=
  let x := s.lnk k
  if s.on OCT_POWER_DOZE_EN k && s.fabUp k && s.trState k == trACTIVE && x.change.isNone && !x.doze && !s.txReady k
      && decide (x.busyAt + s.rd OCT_POWER_DOZE_IDLE_NS k ≤ s.ns) && decide (s.slotPs (4 * k) ≤ 40000) then
    let n := leBytes 4 (s.rd LINK_SEQ_TX_NEXT_VALUE k)
    (((s.setLnk k { x with doze := true }).slotSend k 11 n).slotSend k 11 n).wr OCT_FAB_STATUS_TRAIN_STATE trDOZE k
  else s

/-- The transmitter leaves Doze. -/
def State.wake (s : State) (k : Nat) : State :=
  let x := s.lnk k
  if x.doze then
    (s.setLnk k { x with doze := false, busyAt := s.ns }).wr OCT_FAB_STATUS_TRAIN_STATE trACTIVE k
  else s

/-- DOZE_EXIT: a flit is ready. -/
def State.dozeExit (s : State) (k : Nat) : State := if s.txReady k then s.wake k else s

/-- DOZE_TIMED_WAKE: 250 ns before the next tick edge, or before a gate entry that opens a TIMED level (R296). -/
def State.dozeTimedWake (s : State) (k : Nat) : State :=
  let t := s.ns + 250
  let next := (s.time.edge / s.tTick + 1) * s.tTick
  let p := 4 * k
  let now := s.openMask p (t - 1)
  let then_ := s.openMask p t
  let opens := (List.range 8).any (fun l => bit then_ l && !bit now l && s.slClass p l == 0)
  if (decide (next ≤ t) && s.ticking) || opens then s.wake k else s

/-! ## Hibernate (R297 to R299) -/

/-- HIBERNATE_ENTER. -/
def State.hibernateEnter (s : State) (k : Nat) : State :=
  if !(s.trState k == trACTIVE || s.trState k == trDOZE) || (s.lnk k).change.isSome then s
  else if s.rd TIME_STATUS_SOURCE_OCTET = k ∨ s.fabOcts.filter s.timeCand = [k] then s.setOn OCT_STATUS_HIB_REFUSED k
  else
    let x := s.trn k
    let s1 := s.setTrn k { x with hibRate := s.rd OCT_FAB_STATUS_RATE k, hibWidth := s.rd OCT_FAB_STATUS_WIDTH k, leaving := false }
    let s2 := ((s1.setOn OCT_POWER_HIBERNATE_REQ k).wr LINK_STATUS_UP 0 k).trainTo k trHIBERNATE
    ((s2.setLnk k { s2.lnk k with doze := false, rxDoze := false }).lanesIdle k).fabLost k

/-- HIBERNATE_EXIT: the lanes start to relock. -/
def State.hibernateExit (s : State) (k : Nat) : State :=
  let s1 := s.wr OCT_POWER_HIBERNATE_REQ 0 k
  if s.trState k = trHIBERNATE then (s1.setTrn k { s1.trn k with leaving := true }).wr CK_STATUS_TX_ACTIVE 1 k else s1

/-- HIBERNATE_EXIT_DONE. -/
def State.hibernateExitDone (s : State) (k : Nat) (ok : Bool) : State :=
  let x := s.trn k
  if s.trState k ≠ trHIBERNATE ∨ !x.leaving then s
  else if ok then
    let s1 := ((s.setLanes k x.hibRate x.hibWidth).trainTo k trACTIVE)
    let s2 := s1.setTrn k { s1.trn k with leaving := false }
    (if (s2.lnk k).creditIn then (s2.setOn LINK_STATUS_UP k).calibrate k else s2)
  else (((s.setTrn k { x with leaving := false }).trainTo k trDETECT).linkRestart k).raise 20 { port := some (4 * k) }

/-- A write of OCT_POWER. -/
def State.octPowerWrite (s : State) (k v : Nat) : State :=
  let s1 := (s.wr OCT_POWER_DOZE_EN (bits v 30 30) k).wr OCT_POWER_DOZE_IDLE_NS (bits v 15 0) k
  let was := s.on OCT_POWER_HIBERNATE_REQ k
  if bit v 31 && !was then s1.hibernateEnter k
  else if !bit v 31 && was then s1.hibernateExit k
  else s1

/-! ## Clock lanes (R294) -/

/-- CLOCK_LANE_LOSS. -/
def State.clockLaneLoss (s : State) (k : Nat) : State :=
  if !s.on CK_STATUS_RX_LOCK k then s
  else
    let s1 := ((s.wr CK_STATUS_RX_LOCK 0 k).setTport k { s.tport k with clockLost := true, calOk := false })
    (s1.raise 19 { port := some (4 * k) }).sourceLost k

/-- CLOCK_LANE_RELOCK: a calibration follows before the port is a candidate again. -/
def State.clockLaneRelock (s : State) (k : Nat) : State :=
  if s.on CK_STATUS_RX_LOCK k || !s.fabOct k || s.trState k == trOFF || s.trState k == trDETECT then s
  else
    let s1 := (s.setOn CK_STATUS_RX_LOCK k).setTport k { s.tport k with clockLost := false }
    if s1.fabUp k then s1.calibrate k else s1

/-! ## Link configuration -/

/-- A write of LINK_ERR_CFG zeroes the count (R329). -/
def State.linkErrCfgWrite (s : State) (k v : Nat) : State :=
  (((s.wr LINK_ERR_CFG_LOG2_WINDOW (bits v 28 24) k).wr LINK_ERR_CFG_THRESHOLD (bits v 9 0) k).wr LINK_ERR_NOW_COUNT 0 k).setLnk k
    { s.lnk k with fails := [] }

/-- A write of LINK_RX_ALLOC (R340). -/
def State.rxAllocWrite (s : State) (k j v : Nat) : State :=
  let total := sum ((List.range 8).map (fun i => if i = j then v % 1024 else s.rd LINK_RX_ALLOC_ALLOC k i))
  if 1016 < total then s.setOn LINK_STATUS_CFG_REJECTED k else s.wr LINK_RX_ALLOC_ALLOC v k j

end Sys2Proof.Machine
end

