-- ==== Sys2Proof/Machine/VfOps.lean ====
section
/-! DEFINITION. Virtual functions: enabling, resources, VF reset and dirty-page logs (R453 to R479). -/

namespace Sys2Proof.Machine

/-! ## VF reset (R466 to R471) -/

/-- The queues mapped to a subscriber flushed, and their tokens set by RESET_MODE (R467 steps 6 and 7). -/
def State.flushSub (s : State) (f : Nat) : State :=
  (s.mapped.filter (fun e => e.2.sub == f && !e.2.dflt)).foldl (fun (t : State) e =>
    let t1 := t.flushQueue e.1
    let q := t1.queue e.1
    t1.setQueue e.1 { q with sh := q.sh.resetTokens t1.ns }) s

/-- The descriptors of a function's QPs that a reset aborts or cancels. -/
def State.abortCount (s : State) (f : Nat) : Nat :=
  sum ((s.fn f).qps.map (fun qn => ((s.qp qn).inProg.filter (fun d => d.started && d.outcome.isNone)).length))

/-- The configuration space of a function takes its reset values. -/
def State.clearFnCfg (s : State) (f : Nat) : State :=
  let lo := fnKey f 0
  { s with port := { s.port with vcfg := s.port.vcfg.filter (fun e => decide (e.1 < lo) || decide (lo + 64 ≤ e.1)) } }

/-- A reset of a function starts, or a trigger joins the one in progress (R466, R467). -/
def State.fnReset (s : State) (f : Nat) (flr : Bool) (who : Option (Nat × Nat)) : State :=
  let x := s.fn f
  match x.reset with
  | some r => s.setFn f { x with reset := some { r with qp := r.qp ++ who.toList, flr := r.flr || flr } }
  | none =>
    let r : VfReset := { at_ := s.ns, qp := who.toList, flr := flr, aborted := s.abortCount f }
    let x' : Fn := { x with reset := some r,
                            msix := (x.msix.map (fun e => (e.1, { e.2 with pending := false }))).filter (fun e => e.2 != {}) }
    let s1 := ((s.setFn f x').clearFnCfg f)
    let s2 := if f < 2048 then s1.setOn VF_STATE_RESETTING f else s1
    let s3 := (x.qps).foldl (fun (t : State) qn => t.drainQp qn) s2
    s3.flushSub f

/-- Whether reads of a function's rings are still outstanding (R468). -/
def State.fnBusy (s : State) (f : Nat) : Bool := (s.fn f).qps.any s.qpBusy

/-- Whether a posted write of a function waits for egress (R468). -/
def State.fnPosted (s : State) (f : Nat) : Bool := s.ep.any (fun e => e.2.any (fun w => w.fn == f))

/-- VF_RESET_SQUASH: NP_TIMEOUT after the trigger (R468). -/
def State.vfResetSquash (s : State) (f : Nat) : State :=
  let x := s.fn f
  match x.reset with
  | none => s
  | some r =>
    if r.squashed || !s.fnBusy f || decide (s.ns < r.at_ + s.rd RING_RESET_CFG_NP_TIMEOUT * 10000) then s
    else
      let s1 := x.qps.foldl (fun (t : State) qn =>
        (t.freeNpOf (ownedBy qn)).setQp qn { t.qp qn with fetching := 0, inProg := [] }) s
      (s1.setFn f { s1.fn f with reset := some { r with squashed := true } }).raise 160 { arg := f }

/-- VF_RESET_COMPLETE: reads are done or squashed and the posted writes have left (R468). -/
def State.vfResetComplete (s : State) (f : Nat) : State :=
  let x := s.fn f
  match x.reset with
  | none => s
  | some r =>
    if s.fnBusy f || s.fnPosted f then s
    else
      let s1 := x.qps.foldl (fun (t : State) qn => t.endDrain qn) s
      let s2 := s1.setFn f { s1.fn f with reset := none }
      let s3 := if f < 2048 then s2.wr VF_STATE_RESETTING 0 f else s2
      r.qp.foldl (fun (t : State) w => t.withDesc w.1 w.2 (fun d => t.finish w.1 d stOK r.aborted)) s3

/-- The enabled VFs of PF `n`. -/
def State.enabledVfs (s : State) (n : Nat) : List Nat :=
  ((List.range (s.rd RING_PF_VF_VF_LIMIT n)).map (fun i => s.rd RING_PF_VF_VF_BASE n + i)).filter (fun v =>
    decide (v < 2048) && s.on VF_STATE_ENABLED v)

/-- The number of enabled VFs in RING_VF_ENABLED. -/
def State.countVfs (s : State) (add sub : Nat) : State := s.wr RING_VF_ENABLED_COUNT (s.rd RING_VF_ENABLED_COUNT + add - sub)

/-- VF_ENABLE (R453, R454). -/
def State.vfEnable (s : State) (n : Nat) : State :=
  let x := s.fn (pfIndex n)
  if x.vfEnable then s
  else if x.numVfs = 0 ∨ s.rd RING_PF_VF_VF_LIMIT n < x.numVfs then s.setOn RING_STATUS_CFG_REJECTED
  else
    let vs := (List.range x.numVfs).map (fun i => s.rd RING_PF_VF_VF_BASE n + i)
    (vs.foldl (fun (t : State) v => (t.setFn v { t.fn v with present := true }).setOn VF_STATE_ENABLED v)
      (s.setFn (pfIndex n) { x with vfEnable := true })).countVfs vs.length 0

/-- VF_ENABLE_CLEAR: every VF of the PF is removed and reset (R454). -/
def State.vfEnableClear (s : State) (n : Nat) : State :=
  let x := s.fn (pfIndex n)
  if !x.vfEnable then s
  else
    let vs := s.enabledVfs n
    (vs.foldl (fun (t : State) v =>
      ((t.setFn v { t.fn v with present := false }).wr VF_STATE_ENABLED 0 v).fnReset v false none)
      (s.setFn (pfIndex n) { x with vfEnable := false })).countVfs 0 vs.length

/-- FUNCTION_LEVEL_RESET of a VF, or of a PF with its enabled VFs first (R466). -/
def State.flr (s : State) (f : Nat) : State :=
  if f < 2048 then (if (s.fn f).present then s.fnReset f true none else s)
  else
    let n := f - 2048
    if (s.pfPort n).isNone then s
    else ((s.enabledVfs n).foldl (fun (t : State) v => t.fnReset v true none) s).vfEnableClear n |>.fnReset f true none

/-- VF_RESET descriptor (R466). -/
def State.vfReset (s : State) (q idx : Nat) : State :=
  s.withDesc q idx fun d =>
    let v := bytesAt d.img 42 43
    let joined := match (s.fn v).reset with
      | some r => r.qp.contains (q, idx)
      | none => false
    if joined then s
    else s.guardDesc q d (d.flagsOk && d.zero 8 41 && d.zero 44 63 && decide (v < 2048)) (s.fnReset v false (some (q, idx)))

/-! ## Resources (R457 to R464) -/

/-- The bytes that every VF_RESOURCES leaves 0, with those an operation does not use. -/
def Desc.vfOk (d : Desc) : Bool :=
  let o := d.op40
  d.flagsOk && d.zero 24 39 && d.zero 41 41 && d.zero 57 63 && decide (bytesAt d.img 42 43 < 2048)
    && (o == 3 || o == 6 || d.zero 8 15) && (o == 6 || (d.zero 16 23 && d.zero 48 56))

/-- The VALUE of a VF_RESOURCES. -/
def Desc.vfValue (d : Desc) : Nat := bytesAt d.img 44 47

/-- A VF_RESOURCES operation on its VF: refused while the VF is resetting (R463). -/
def State.vfOp (s : State) (q idx : Nat) (ok : Desc → Bool) (f : Desc → Nat → State) : State :=
  s.withDesc q idx fun d =>
    let v := bytesAt d.img 42 43
    s.guardDesc q d (d.vfOk && ok d) (if (s.fn v).reset.isSome && d.op40 != 9 then s.finish q d stNOT_PERMITTED else f d v)

/-- The global QPs that no function holds, lowest first, at most `n`. -/
def State.freeQps (s : State) (n : Nat) : List Nat :=
  ((List.range 16384).filter (fun g => (s.qp g).fn.isNone)).take n

/-- What RING_POOL and VF_STATE show of a function's QPs. -/
def State.syncQps (s : State) (f : Nat) : State :=
  let used := (s.ring.qps.filter (fun e => e.2.fn.isSome)).length
  let s1 := s.wr RING_POOL_FREE_QPS (16384 - used)
  if f < 2048 then s1.wr VF_STATE_QP_COUNT (s.fn f).qps.length f else s1

/-- A function's QP count set; the status when it cannot be (R458). -/
def State.setQps (s : State) (f n : Nat) : Nat × State :=
  let x := s.fn f
  let have_ := x.qps.length
  if n < have_ then
    let gone := x.qps.drop n
    if gone.any (fun g => (s.qp g).state != .disabled || (s.qp g).freeze.isSome) then (stNOT_PERMITTED, s)
    else (stOK, (gone.foldl (fun (t : State) g => t.setQp g {}) (s.setFn f { x with qps := x.qps.take n })).syncQps f)
  else
    let new := s.freeQps (n - have_)
    if new.length < n - have_ then (stRESOURCE_LIMIT, s)
    else
      let s1 := (new.zip (List.range new.length)).foldl (fun (t : State) e =>
        t.setQp e.1 { fn := some f, loc := have_ + e.2 }) (s.setFn f { x with qps := x.qps ++ new })
      (stOK, s1.syncQps f)

/-- VF_QPS. -/
def State.vfQps (s : State) (q idx : Nat) : State :=
  s.vfOp q idx (fun d => decide (d.vfValue ≤ 512)) fun d v =>
    let (st, t) := s.setQps v d.vfValue
    t.finish q d st

/-- A function's vector count set; the status when it cannot be (R459). -/
def State.setVectors (s : State) (f n : Nat) : Nat × State :=
  let x := s.fn f
  if x.qps.any (fun g => (s.qp g).state != .disabled && decide (n ≤ (s.qp g).vector)) then (stNOT_PERMITTED, s)
  else if s.rd RING_POOL_FREE_VECTORS + x.vectors < n then (stRESOURCE_LIMIT, s)
  else
    (stOK, (s.setFn f { x with vectors := n, msix := x.msix.filter (fun e => decide (e.1 < n)) }).wr RING_POOL_FREE_VECTORS
      (s.rd RING_POOL_FREE_VECTORS + x.vectors - n))

/-- VF_VECTORS. -/
def State.vfVectors (s : State) (q idx : Nat) : State :=
  s.vfOp q idx (fun d => decide (d.vfValue ≤ 2048)) fun d v =>
    let (st, t) := s.setVectors v d.vfValue
    t.finish q d st

/-- VF_METER. -/
def State.vfMeter (s : State) (q idx : Nat) : State :=
  s.vfOp q idx (fun d => bits d.vfValue 30 18 == 0) fun d v =>
    (s.setFn v { s.fn v with meter := bits d.vfValue 17 0, meterEn := bit d.vfValue 31 }).finish q d stOK

/-- VF_COALESCE. -/
def State.vfCoalesce (s : State) (q idx : Nat) : State :=
  s.vfOp q idx (fun d => decide (1 ≤ d.vfValue) && decide (d.vfValue ≤ 255)) fun d v =>
    (s.setFn v { s.fn v with coalesce := d.vfValue }).finish q d stOK

/-- VF_RESOURCES_READ: the image of R462. -/
def State.vfRead (s : State) (q idx : Nat) : State :=
  s.vfOp q idx (fun d => d.vfValue == 0) fun d v =>
    let x := s.fn v
    let l := x.log
    let flags := b2n (s.on VF_STATE_ENABLED v) + 2 * b2n x.reset.isSome + 4 * b2n l.logging + 8 * b2n l.sel
    s.finishData q d (leBytes 2 x.qps.length ++ leBytes 2 x.vectors ++ leBytes 4 (x.meter + b2n x.meterEn * 2 ^ 31)
      ++ [x.coalesce, flags] ++ List.replicate 6 0 ++ leBytes 8 l.base ++ [l.span] ++ List.replicate 7 0)

/-! ## Dirty-page logs (R472 to R475) -/

/-- A VF's log replaced, and what VF_STATE shows of it. -/
def State.setLog (s : State) (v : Nat) (l : DirtyLog) : State :=
  ((s.setFn v { s.fn v with log := l }).wr VF_STATE_LOGGING (b2n l.logging) v).wr VF_STATE_LOG_SEL (b2n l.sel) v

/-- The cached words of bitmap A or B. -/
def DirtyLog.cache (l : DirtyLog) (b : Bool) : SMap Nat := if b then l.cacheB else l.cacheA

/-- The cached words of a bitmap replaced. -/
def DirtyLog.setCache (l : DirtyLog) (b : Bool) (m : SMap Nat) : DirtyLog :=
  if b then { l with cacheB := m } else { l with cacheA := m }

/-- The host address of word `w` of a bitmap. -/
def DirtyLog.addr (l : DirtyLog) (b : Bool) (w : Nat) : Nat := (if b then l.mapB else l.mapA) + 8 * w

/-- The PF whose host memory holds a VF's bitmaps (R473). -/
def State.logPf (s : State) (v : Nat) : Nat := pfIndex ((s.vfPf v).getD 0)

/-- Every cached word of the bitmap being merged that has no merge in flight is read (R473). -/
def State.mergeIssue (s : State) (v : Nat) : State :=
  let l := (s.fn v).log
  match l.syncing with
  | none => s
  | some b =>
    let ws := ((l.cache b).map (·.1)).filter (fun w => SMap.get l.written w 0 == 0)
    let l' := { l with written := ws.foldl (fun m w => SMap.set m w 1 0) l.written }
    ws.foldl (fun (t : State) w => t.emit (.hostRead (s.logPf v) (l.addr b w) 8 (.dirty v w))) (s.setLog v l')

/-- The merge of a bitmap is over: the descriptor completes and a stop ends the logging (R474). -/
def State.mergeEnd (s : State) (v : Nat) : State :=
  let l := (s.fn v).log
  match l.syncing with
  | none => s
  | some b =>
    if !l.written.isEmpty || !(l.cache b).isEmpty then s
    else
      let n := if b then l.newB else l.newA
      let s1 := s.setLog v { l with syncing := none, stopping := false, waiter := none, logging := l.logging && !l.stopping }
      match l.waiter with
      | some (q, i) => s1.withDesc q i (fun d => s1.finish q d stOK (if l.stopping then 0 else n))
      | none => s1

/-- DIRTY_START. -/
def State.dirtyStart (s : State) (q idx : Nat) : State :=
  s.vfOp q idx (fun d =>
      let sp := byteAt d.img 56
      d.vfValue == 0 && decide (27 ≤ sp) && decide (sp ≤ 48) && bytesAt d.img 48 55 % 2 ^ sp == 0
        && d.source % 4096 == 0 && d.dest % 4096 == 0) fun d v =>
    if (s.fn v).log.logging then s.finish q d stNOT_PERMITTED
    else
      (s.setLog v { mapA := d.source, mapB := d.dest, base := bytesAt d.img 48 55, span := byteAt d.img 56, logging := true }).finish
        q d stOK

/-- DIRTY_SYNC: the other bitmap becomes active in this sample. -/
def State.dirtySync (s : State) (q idx : Nat) : State :=
  s.vfOp q idx (fun d => d.vfValue == 0) fun d v =>
    let l := (s.fn v).log
    if l.waiter = some (q, idx) then s
    else if !l.logging || l.syncing.isSome then s.finish q d stNOT_PERMITTED
    else
      let l1 := { l with sel := !l.sel, syncing := some l.sel, waiter := some (q, idx) }
      let l2 := if l.sel then { l1 with newA := 0 } else { l1 with newB := 0 }
      ((s.setLog v l2).mergeIssue v).mergeEnd v

/-- DIRTY_STOP. -/
def State.dirtyStop (s : State) (q idx : Nat) : State :=
  s.vfOp q idx (fun d => d.vfValue == 0) fun d v =>
    let l := (s.fn v).log
    if l.waiter = some (q, idx) then s
    else if !l.logging || l.syncing.isSome then s.finish q d stNOT_PERMITTED
    else ((s.setLog v { l with syncing := some l.sel, stopping := true, waiter := some (q, idx) }).mergeIssue v).mergeEnd v

/-- A merge fails: logging stops (R475). -/
def State.logFail (s : State) (v status : Nat) : State :=
  let l := (s.fn v).log
  let s1 := ((s.setLog v { l with logging := false, syncing := none, stopping := false, waiter := none, written := [] }).setOn
    VF_STATE_LOG_FAIL v).raise 162 { arg := v }
  match l.waiter with
  | some (q, i) => s1.withDesc q i (fun d => s1.finish q d (if status = 7 then stTIMEOUT else stREMOTE_ERROR))
  | none => s1

/-- The number of bits set in a 64-bit word. -/
def popcount64 (n : Nat) : Nat := (bitsSet n 64).length

/-- DIRTY_MERGE_DONE: the read of word `w` returned `host`, or its write has left; `status` other than 0 is a failure. -/
def State.dirtyMergeDone (s : State) (v w : Nat) (write : Bool) (status host : Nat) : State :=
  let l := (s.fn v).log
  match l.syncing with
  | none => s
  | some b =>
    let st := SMap.get l.written w 0
    if st ≠ (if write then 2 else 1) then s
    else if status ≠ 0 then s.logFail v status
    else if write then ((s.setLog v { l with written := SMap.set l.written w 0 0 }).mergeIssue v).mergeEnd v
    else
      let c := SMap.get (l.cache b) w 0
      let all := c ||| host
      let fresh := popcount64 all - popcount64 host
      let l1 := (l.setCache b (SMap.set (l.cache b) w 0 0))
      let l2 := if b then { l1 with newB := l1.newB + fresh } else { l1 with newA := l1.newA + fresh }
      (s.setLog v { l2 with written := SMap.set l2.written w 2 0 }).hostWrite (s.logPf v) (l.addr b w) (leBytes 8 all)

end Sys2Proof.Machine
end

