-- ==== Sys2Proof/Machine/SlotOps.lean ====
section
/-! DEFINITION. The status bits and vectors of virtual ports, the watchers of a port, and a slot's reset output
(R353, R364 to R368, R381). -/

namespace Sys2Proof.Machine

/-! ## Messages that the device itself originates -/

/-- A MESSAGE packet of this device; the spec gives its ordering ID no value, so it is a free one (log entry 37). -/
def State.sendMsg (s : State) (dst p : Nat) (data : List Nat) : State :=
  let st := s.freeVal (2 ^ 32)
  let s1 := s.useFree
  (s1.sendFab (s1.marked (fabPkt { type := tMESSAGE, dst := dst, src := s1.did, stream := st } data) p)).2

/-- The PORT_STATE message of a port (R380). -/
def State.portStateData (s : State) (p : Nat) : List Nat :=
  leBytes 4 (0x11 + p * 2 ^ 16 + s.rd PORT_STATUS_LINK_UP p * 2 ^ 24 + s.rd PORT_SLOT_STATUS_PRESENT p * 2 ^ 25
    + s.rd PORT_STATUS_DPC_ACTIVE p * 2 ^ 26 + s.rd PORT_STATUS_SPEED p * 2 ^ 28) ++ leBytes 4 (s.rd PORT_STATUS_WIDTH p)

/-- PORT_STATE sent to every watcher of a port (R381). -/
def State.tellWatchers (s : State) (p : Nat) : State :=
  let s1 := { s with port := { s.port with watches := s.port.watches.map (fun w =>
    if w.port = p then { w with sent := s.time.tick } else w) } }
  (s.port.watches.filter (fun w => w.port == p)).foldl (fun (t : State) w => t.sendMsg w.did p (t.portStateData p)) s1

/-! ## Vectors and status of virtual ports (R353, R364) -/

/-- The vector of a virtual port of a domain, when MSI-X and the vector are on. -/
def State.sendVpVec (s : State) (hd dev : Nat) : State :=
  let k (f : Nat) : Nat := s.vc (vfKey hd dev f)
  match s.hdFn hd with
  | none => s
  | some f =>
    if k vfMsixOn = 1 ∧ k vfVecOn = 1 then s.hostWrite f (k vfVecAddr) (leBytes 4 (k vfVecData)) true else s

/-- A status change of a vDSP; it sends the vector when Hot-Plug Interrupt Enable and its own enable bit are set
(log entry 25). -/
def State.vdspSet (s : State) (hd dev en : Nat) (f : Vdsp → Vdsp) : State :=
  let s1 := s.setVdsp hd dev (f (s.vdsp hd dev))
  let e := s.vc (vfKey hd dev vfSlotEnables)
  if bit e 5 && bit e en then s1.sendVpVec hd dev else s1

/-- A status change of the vDSP on this device that presents a local port, if there is one. -/
def State.portVdsp (s : State) (p en : Nat) (f : Vdsp → Vdsp) : State :=
  match s.vdspOf s.did p with
  | some (hd, dev) => s.vdspSet hd dev en f
  | none => s

/-- The bits of Slot Control that enable a vector, by PCI Express (log entry 25). -/
def seBUTTON : Nat := 0
def sePFAULT : Nat := 1
def sePRESENCE : Nat := 3
def seCOMMAND : Nat := 4
def seDLL : Nat := 12

/-- Presence Detect State of a local port's vDSP and its watchers follow the slot. -/
def State.portPresence (s : State) (p : Nat) (on : Bool) : State :=
  ((s.wr PORT_SLOT_STATUS_PRESENT (b2n on) p).portVdsp p sePRESENCE (fun v =>
    { v with present := on, pdc := v.pdc || v.present != on })).tellWatchers p

/-- Data Link Layer Link Active of a local port's vDSP and its watchers follow the link. -/
def State.portDll (s : State) (p : Nat) (on : Bool) : State :=
  (s.portVdsp p seDLL (fun v => { v with dllActive := on, dllChanged := v.dllChanged || v.dllActive != on,
                                         speed := s.rd PORT_STATUS_SPEED p, width := s.rd PORT_STATUS_WIDTH p })).tellWatchers p

/-! ## Slots and PERSTO_N (R364 to R368) -/

/-- The channel of a port that is a hot-plug slot. -/
def State.slotChan (s : State) (p : Nat) : Option Nat :=
  if s.isDown p && s.on PORT_SLOT_CFG_SLOT_EN p then some (s.rd PORT_SLOT_CFG_IBEX_CH p) else none

/-- The port whose slot a channel serves (R603). -/
def State.chanPort (s : State) (n : Nat) : Option Nat := (List.range 96).find? (fun p => s.slotChan p == some n)

/-- The pins that the device drives, as `Emit.pin` numbers them: 0 FAULT_N, 1 TICK_OUT, 2 an injected bit of a lane, 3
PERSTO_N, 4 PWR_LED, 5 ATTN_LED, 6 GATE, 7 PRECHG, 8 PFAIL_N, 9 a cue pin, 10 RESET_N, 11 THERMTRIP_N, 12 WAKE. -/
def pnPERST : Nat := 3

/-- PERSTO_N of a slot asserted. -/
def State.assertPerst (s : State) (p : Nat) : State :=
  match s.slotChan p with
  | none => s
  | some n => if s.on PORT_SLOT_STATUS_PERST p then s else (s.setOn PORT_SLOT_STATUS_PERST p).emit (.pin pnPERST n 0)

/-- Whether a port belongs to a domain in a host-domain reset. -/
def State.inHdReset (s : State) (p : Nat) : Bool := s.rst.hds.any (fun e => s.portHd p == some e.1)

/-- PERST_DEASSERT: 100 ms after the channel reported ON, with its clock enabled and nothing holding it (R367). -/
def State.perstDeassert (s : State) (p : Nat) : State :=
  match s.slotChan p, (s.pport p).onAt with
  | some n, some t =>
    let clock := if 2 * n < 32 then bit (s.rd REFOUT_EN_LO_VALUE) (2 * n) else bit (s.rd REFOUT_EN_HI_VALUE) (2 * n - 32)
    if s.on PORT_SLOT_STATUS_POWER_ON p && decide (t + 99000000 ≤ s.ns) && clock && !s.on PORT_SLOT_CTRL_PERST_FORCE p
        && !s.inHdReset p && s.rst.phase != .held && s.on PORT_SLOT_STATUS_PERST p then
      (s.wr PORT_SLOT_STATUS_PERST 0 p).emit (.pin pnPERST n 1)
    else s
  | _, _ => s

/-- A write of PORT_SLOT_CTRL. -/
def State.slotCtrlWrite (s : State) (p v : Nat) : State :=
  let s1 := s.wr PORT_SLOT_CTRL_PERST_FORCE (bits v 31 31) p
  if bit v 31 then s1.assertPerst p else s1

/-- The level of an indicator: on, off, or blinking with bit 28 of cell time (R366). -/
def State.indLevel (s : State) (c : Nat) : Nat :=
  if c = 1 then 1 else if c = 2 then s.ns / 2 ^ 28 % 2 else 0

/-- An indicator of a slot set: its register and its LED (R364). -/
def State.setInd (s : State) (p : Nat) (attn : Bool) (c : Nat) : State :=
  match s.slotChan p with
  | none => s
  | some n =>
    let s1 := if attn then s.wr PORT_SLOT_STATUS_ATTN_IND c p else s.wr PORT_SLOT_STATUS_PWR_IND c p
    s1.emit (.pin (if attn then 5 else 4) n (s1.indLevel c))

/-- INDICATOR_BLINK: bit 28 of cell time has changed (R366). -/
def State.indicatorBlink (s : State) : State :=
  (List.range 96).foldl (fun (t : State) p =>
    match t.slotChan p with
    | none => t
    | some n =>
      let t1 := if t.rd PORT_SLOT_STATUS_PWR_IND p = 2 then t.emit (.pin 4 n (t.indLevel 2)) else t
      if t.rd PORT_SLOT_STATUS_ATTN_IND p = 2 then t1.emit (.pin 5 n (t.indLevel 2)) else t1) s

end Sys2Proof.Machine
end

