-- ==== Sys2Proof/Machine/IbexOps.lean ====
section
/-! DEFINITION. The Ibex slot power channels: states, trips, presence, banks and the die-to-die link (R602 to R624). -/

namespace Sys2Proof.Machine

/-- Channel states (R606). -/
def cOFF : Nat := 0
def cQUALIFY : Nat := 1
def cPRECHARGE : Nat := 2
def cRAMP : Nat := 3
def cON : Nat := 4
def cRETRY_WAIT : Nat := 5
def cLATCHED : Nat := 6
def cLOCKED : Nat := 7

/-- A channel. -/
def State.chan (s : State) (n : Nat) : Chan := SMap.get s.ibx.chans n {}

/-- A bank: 0 for IBX0 to IBX11, 1 for IBX12 to IBX23 (R602). -/
def State.bank (s : State) (b : Nat) : Bank := SMap.get s.ibx.banks b {}

/-- The bank of a channel. -/
def bankOf (n : Nat) : Nat := n / 12

/-- The die-to-die link is up. -/
def State.ibxUp (s : State) : Bool := s.on IBEX_STATUS_LINK_UP

/-- Whether a channel is assigned (R603). -/
def State.assigned (s : State) (n : Nat) : Bool := (s.chanPort n).isSome

/-- The bit of IBX_EVENTS as a field. -/
def ibxEvent (j : Nat) : Fld :=
  match j with
  | 0 => IBX_EVENTS_TRIP
  | 1 => IBX_EVENTS_FAST_TRIP
  | 2 => IBX_EVENTS_LATCH_OFF
  | 3 => IBX_EVENTS_GATE_FAIL
  | 4 => IBX_EVENTS_FET_SHORT
  | 5 => IBX_EVENTS_PFAIL
  | 6 => IBX_EVENTS_UV_OV
  | 7 => IBX_EVENTS_PRECHG_TIMEOUT
  | 8 => IBX_EVENTS_PRESENCE
  | _ => IBX_EVENTS_BUTTON

/-- The slot's registers of the PORT block and its vDSP follow the channel (R364, R367, R606). -/
def State.syncSlot (s : State) (n : Nat) (c : Chan) : State :=
  match s.chanPort n with
  | none => s
  | some p =>
    let on := c.st == cON
    let was := s.on PORT_SLOT_STATUS_POWER_ON p
    let fault := c.st == cRETRY_WAIT || c.st == cLATCHED || c.st == cLOCKED
    let hadFault := s.on PORT_SLOT_STATUS_POWER_FAULT p
    let s1 := ((s.wr PORT_SLOT_STATUS_POWER_ON (b2n on) p).wr PORT_SLOT_STATUS_POWER_FAULT (b2n fault) p).wr
      PORT_SLOT_STATUS_BUTTON (b2n c.button) p
    let s2 := if on && !was then s1.setPport p { s1.pport p with onAt := some s1.ns }
      else if !on && was then (s1.setPport p { s1.pport p with onAt := none }).assertPerst p
      else s1
    let s3 := if fault && !hadFault then s2.portVdsp p sePFAULT (fun v => { v with pfault := true }) else s2
    if c.present != s3.on PORT_SLOT_STATUS_PRESENT p then s3.portPresence p c.present else s3

/-- IBX_STATUS and IBX_TRIPS of a channel, its events and its sources, while the link is up (R619, R622). -/
def State.syncChan (s : State) (n : Nat) : State :=
  if !s.ibxUp then s
  else
    let c := s.chan n
    let s1 := (((((((((s.wr IBX_STATUS_STATE c.st n).wr IBX_STATUS_RETRY_QUALIFY (b2n (c.st == cQUALIFY && c.retry)) n).wr
      IBX_STATUS_RETRY_COUNT (min c.count 7) n).wr IBX_STATUS_ASSIGNED (b2n (s.assigned n)) n).wr IBX_STATUS_PRESENT (b2n c.present) n).wr
      IBX_STATUS_BUTTON (b2n c.button) n).wr IBX_STATUS_POWER_REQ (b2n c.req) n).wr IBX_STATUS_IN_LIMIT (b2n c.inLimit) n).wr
      IBX_STATUS_PFAIL (b2n c.pfail) n).wr IBX_STATUS_LAST_TRIP c.lastTrip n
    let s2 := c.events.foldl (fun (t : State) j => t.setOn (ibxEvent j) n) (s1.wr IBX_TRIPS_VALUE c.trips n)
    let s3 := c.sources.foldl (fun (t : State) src => t.raise src { port := s.chanPort n, slot := some n }) s2
    let c' := { c with events := [], sources := [] }
    ({ s3 with ibx := { s3.ibx with chans := SMap.set s3.ibx.chans n c' {} } }).syncSlot n c'

/-- A channel replaced. -/
def State.setChan (s : State) (n : Nat) (c : Chan) : State :=
  ({ s with ibx := { s.ibx with chans := SMap.set s.ibx.chans n c {} } }).syncChan n

/-- A channel in a new state: the gate, PRECHG and PFAIL_N outputs follow (R606, R614, R616). -/
def State.chanTo (s : State) (n st : Nat) (f : Chan → Chan := id) : State :=
  let c := s.chan n
  let pre := st == cPRECHARGE || (st == cRAMP && c.st == cPRECHARGE)
  let gate := st == cRAMP || st == cON
  let c' := f { c with st := st, since := s.ns, retry := false, pfail := c.pfail && st != cOFF,
                       inLimit := c.inLimit && (st == cPRECHARGE || st == cRAMP || st == cON),
                       goodAt := none, count := if st = cOFF then 0 else c.count }
  let s1 := (s.emit (.pin 6 n (b2n gate))).emit (.pin 7 n (b2n pre))
  (if c.pfail && !c'.pfail then s1.emit (.pin 8 n 1) else s1).setChan n c'

/-- OFF with the channel assigned, presence qualified and the request on starts a fresh sequence (R607). -/
def State.tryStart (s : State) (n : Nat) : State :=
  let c := s.chan n
  if c.st = cOFF ∧ s.assigned n ∧ c.present ∧ c.req then s.chanTo n cQUALIFY (fun c => { c with count := 0 }) else s

/-- The channel goes OFF and may start again. -/
def State.chanOff (s : State) (n : Nat) : State := (s.chanTo n cOFF).tryStart n

/-- The bank has held its window: PRECHARGE or RAMP, and the start timer starts (R607, R612). -/
def State.powerUp (s : State) (n : Nat) : State :=
  let st := if 20 ≤ n ∧ s.on IBX_CFG1_PRECHG_EN n then cPRECHARGE else cRAMP
  s.chanTo n st (fun c => { c with startAt := s.ns })

/-- INSERT_DELAY_EXPIRE. -/
def State.insertDelay (s : State) (n : Nat) : State :=
  let c := s.chan n
  let b := s.bank (bankOf n)
  if c.st = cQUALIFY ∧ c.retry = false ∧ b.inside ∧ max c.since b.since + s.rd IBX_CFG2_INSERT_DELAY n * 1000000 ≤ s.ns then s.powerUp n
  else s

/-- PRECHARGE_DONE. -/
def State.prechargeDone (s : State) (n : Nat) : State :=
  if (s.chan n).st = cPRECHARGE then s.chanTo n cRAMP else s

/-- OUTPUT_GOOD: GATE is driven to full enhancement (R613). -/
def State.outputGood (s : State) (n : Nat) : State :=
  let c := s.chan n
  if c.st = cRAMP ∧ c.goodAt.isNone then (s.setChan n { c with goodAt := some s.ns }).emit (.pin 6 n 2) else s

/-- GATE_RISE_OK. -/
def State.gateRiseOk (s : State) (n : Nat) : State :=
  let c := s.chan n
  if c.st = cRAMP ∧ c.goodAt.isSome then s.chanTo n cON else s

/-- An event bit and its source noted. -/
def Chan.note (c : Chan) (event src : Nat) : Chan := { c with events := c.events ++ [event], sources := c.sources ++ [src] }

/-- GATE_FAIL: 1 ms without 4 V (R613). -/
def State.gateFail (s : State) (n : Nat) : State :=
  let c := s.chan n
  match c.goodAt with
  | some t => if c.st = cRAMP ∧ t + 1000000 ≤ s.ns then s.chanTo n cLOCKED (fun c => { c.note 3 115 with lastTrip := 5 }) else s
  | none => s

/-- A trip: the retry count goes up, and the channel waits to retry or is latched off (R607, R608). -/
def State.trip (s : State) (n kind event src : Nat) : State :=
  let c := s.chan n
  if c.st = cPRECHARGE ∨ c.st = cRAMP ∨ c.st = cON then
    let k := c.count + 1
    let latch := decide (s.rd IBX_CFG3_RETRIES n < k)
    s.chanTo n (if latch then cLATCHED else cRETRY_WAIT) (fun c =>
      let d := { (c.note event src) with count := k, lastTrip := kind, trips := (c.trips + 1) % 2 ^ 32 }
      if latch then d.note 2 114 else d)
  else s

/-- FAULT_TIMER_TRIP (R610). -/
def State.faultTimerTrip (s : State) (n : Nat) : State :=
  let c := s.chan n
  if c.inLimit ∧ c.limitAt + s.rd IBX_CFG1_FAULT_TIMER n * 100000 ≤ s.ns then s.trip n 1 0 112 else s

/-- FAST_TRIP (R611). -/
def State.fastTrip (s : State) (n : Nat) : State := s.trip n 2 1 113

/-- START_TIMER_TRIP (R612). -/
def State.startTimerTrip (s : State) (n : Nat) : State :=
  let c := s.chan n
  if (c.st = cPRECHARGE ∨ c.st = cRAMP) ∧ c.startAt + s.rd IBX_CFG1_START_TIMER n * 1000000 ≤ s.ns then s.trip n 3 0 112 else s

/-- PRECHARGE_TIMEOUT (R614). -/
def State.prechargeTimeout (s : State) (n : Nat) : State :=
  let c := s.chan n
  if c.st = cPRECHARGE ∧ c.startAt + s.rd IBX_CFG2_PRECHG_TIMEOUT n * 1000000 ≤ s.ns then s.trip n 4 7 119 else s

/-- RETRY_DELAY_EXPIRE: QUALIFY, retry, and at once on when the bank is inside its window (R607). -/
def State.retryDelay (s : State) (n : Nat) : State :=
  let c := s.chan n
  if c.st = cRETRY_WAIT ∧ c.since + s.rd IBX_CFG3_RETRY_DELAY n * 100000000 ≤ s.ns then
    let s1 := s.chanTo n cQUALIFY (fun c => { c with retry := true })
    if (s1.bank (bankOf n)).inside then s1.powerUp n else s1
  else s

/-- ON_TIMER_EXPIRE (R608). -/
def State.onTimer (s : State) (n : Nat) : State :=
  let c := s.chan n
  if c.st = cON ∧ c.since + 1000000000 ≤ s.ns then s.setChan n { c with count := 0 } else s

/-- CURRENT_LIMIT_ENTER. -/
def State.limitEnter (s : State) (n : Nat) : State :=
  let c := s.chan n
  if (c.st = cPRECHARGE ∨ c.st = cRAMP ∨ c.st = cON) ∧ c.inLimit = false then s.setChan n { c with inLimit := true, limitAt := s.ns } else s

/-- CURRENT_LIMIT_EXIT. -/
def State.limitExit (s : State) (n : Nat) : State :=
  let c := s.chan n
  if c.inLimit then s.setChan n { c with inLimit := false } else s

/-- The channels of a bank. -/
def chansOf (b : Nat) : List Nat := (List.range 12).map (fun i => 12 * b + i)

/-- A bank replaced. -/
def State.setBank (s : State) (b : Nat) (x : Bank) : State :=
  (({ s with ibx := { s.ibx with banks := SMap.set s.ibx.banks b x {} } }).wr IBEX_BANK_STATUS_IN_WINDOW (b2n x.inside) b).wr
    IBEX_BANK_STATUS_BELOW_PFAIL (b2n x.below) b

/-- BANK_WINDOW_EXIT (R615). -/
def State.bankExit (s : State) (b : Nat) : State :=
  let x := s.bank b
  if !x.inside then s
  else
    (chansOf b).foldl (fun (t : State) n =>
      let c := t.chan n
      if c.st = cPRECHARGE ∨ c.st = cRAMP ∨ c.st = cON then
        t.chanTo n cQUALIFY (fun c => { (c.note 6 118) with lastTrip := 7, count := 0 })
      else t) ((s.setBank b { x with inside := false }).raise 131)

/-- BANK_WINDOW_RETURN. -/
def State.bankReturn (s : State) (b : Nat) : State :=
  let x := s.bank b
  if x.inside then s
  else
    (chansOf b).foldl (fun (t : State) n =>
      let c := t.chan n
      if c.st = cQUALIFY ∧ c.retry then t.powerUp n else t) (s.setBank b { x with inside := true, since := s.ns })

/-- PFAIL_ASSERT (R616). -/
def State.pfailAssert (s : State) (b : Nat) : State :=
  let x := s.bank b
  if x.below then s
  else
    (chansOf b).foldl (fun (t : State) n =>
      let c := t.chan n
      if c.st = cRAMP ∨ c.st = cON then (t.setChan n { (c.note 5 117) with pfail := true }).emit (.pin 8 n 0) else t)
      (s.setBank b { x with below := true })

/-- PFAIL_RELEASE. -/
def State.pfailRelease (s : State) (b : Nat) : State :=
  (chansOf b).foldl (fun (t : State) n =>
    let c := t.chan n
    if c.pfail then (t.setChan n { c with pfail := false }).emit (.pin 8 n 1) else t) (s.setBank b { s.bank b with below := false })

/-- FET_SHORT (R617). -/
def State.fetShort (s : State) (n : Nat) : State :=
  let c := s.chan n
  if s.assigned n ∧ (c.st = cOFF ∨ c.st = cQUALIFY ∨ c.st = cRETRY_WAIT ∨ c.st = cLATCHED) then
    s.chanTo n cLOCKED (fun c => { (c.note 4 116) with lastTrip := 6 })
  else s

/-- CLEAR_LOCK (R618). -/
def State.clearLock (s : State) (n : Nat) : State := if (s.chan n).st = cLOCKED then s.chanOff n else s

/-- PRESENCE_QUALIFIED (R609). -/
def State.presenceQualified (s : State) (n : Nat) : State :=
  let c := s.chan n
  if s.assigned n && !c.present then
    (s.setChan n { c with present := true, events := c.events ++ [8] }).tryStart n
  else s

/-- PRESENCE_LOST (R607, R609). -/
def State.presenceLost (s : State) (n : Nat) : State :=
  let c := s.chan n
  if s.assigned n && c.present then
    let s1 := s.setChan n { c with present := false, events := c.events ++ [8] }
    if c.st = cOFF ∨ c.st = cLOCKED then s1 else s1.chanTo n cOFF
  else s

/-- BUTTON_PRESS (R364, R365, R607). -/
def State.buttonPress (s : State) (n : Nat) : State :=
  let c := s.chan n
  match s.chanPort n with
  | none => s
  | some p =>
    if c.button then s
    else
      let s1 := (s.setChan n { c with button := true, events := c.events ++ [9] }).portVdsp p seBUTTON (fun v => { v with button := true })
      if c.st = cLATCHED then s1.chanOff n else s1

/-- BUTTON_RELEASE. -/
def State.buttonRelease (s : State) (n : Nat) : State :=
  let c := s.chan n
  if c.button then s.setChan n { c with button := false } else s

/-- The power request reaches the channel (R603, R607). -/
def State.powerReq (s : State) (n : Nat) (on : Bool) : State :=
  let c := s.chan n
  if !s.ibxUp || c.req == on then s
  else
    let s1 := s.setChan n { c with req := on }
    if on then s1.tryStart n
    else if c.st = cOFF ∨ c.st = cLOCKED then s1
    else s1.chanTo n cOFF

/-- Power Controller Control of a slot's port (R364, R365). -/
def State.setPower (s : State) (p : Nat) (off : Bool) : State :=
  let s1 := s.setPport p { s.pport p with off := off }
  match s1.slotChan p with
  | some n => s1.powerReq n (!off)
  | none => s1

/-- The assignment of channels has changed: an unassigned one enters OFF (R603). -/
def State.reassign (s : State) (n : Nat) : State :=
  match s.chanPort n with
  | some p => ((s.syncChan n).powerReq n (!(s.pport p).off)).tryStart n
  | none =>
    let c := s.chan n
    if c.st = cLOCKED then s.setChan n { c with present := false, req := false }
    else (s.chanTo n cOFF).setChan n { (s.chanTo n cOFF).chan n with present := false, req := false }

/-- IBEX_LINK_DOWN (R619). -/
def State.ibexDown (s : State) : State := if s.ibxUp then (s.wr IBEX_STATUS_LINK_UP 0).raise 120 else s

/-- IBEX_LINK_RESTORE: requests are sent again and the registers become current (R619). -/
def State.ibexRestore (s : State) : State :=
  if s.ibxUp then s
  else (List.range 24).foldl (fun (t : State) n =>
    match t.chanPort n with
    | some p => (t.syncChan n).powerReq n (!(t.pport p).off)
    | none => t.syncChan n) (s.setOn IBEX_STATUS_LINK_UP)

/-- A cold device reset of the channels (R620). -/
def State.ibexCold (s : State) : State := { s with ibx := {} }

/-! ## Writes (R614, R616, R624) -/

/-- Whether a channel's settings may change (R624). -/
def State.chanIdle (s : State) (n : Nat) : Bool :=
  let c := (s.chan n).st
  c == cOFF || c == cLATCHED || c == cLOCKED

/-- A write of a settings register of a channel: `f` applies it. -/
def State.ibxCfgWrite (s : State) (n : Nat) (f : State → State) : State :=
  if s.chanIdle n then f s else s.setOn IBEX_STATUS_CFG_REJECTED

/-- A write of IBEX_BANK_CFG0 (`first`) or IBEX_BANK_CFG1 of a bank. -/
def State.bankCfgWrite (s : State) (b v : Nat) (first : Bool) : State :=
  let uv := if first then bits v 9 0 else s.rd IBEX_BANK_CFG0_UV b
  let ov := if first then bits v 25 16 else s.rd IBEX_BANK_CFG0_OV b
  let pf := if first then s.rd IBEX_BANK_CFG1_PFAIL b else bits v 9 0
  if !(chansOf b).all s.chanIdle then s.setOn IBEX_STATUS_CFG_REJECTED
  else if decide (ov ≤ uv) || decide (pf * 100 < uv * 102 + 200) then s
  else ((s.wr IBEX_BANK_CFG0_UV uv b).wr IBEX_BANK_CFG0_OV ov b).wr IBEX_BANK_CFG1_PFAIL pf b

end Sys2Proof.Machine
end

