-- ==== Sys2Proof/Machine/PcieOps.lean ====
section
/-! DEFINITION. PCIe ports: link up and DL_Down, containment (DPC), configuration fields of virtual ports and of the
management function, the virtual hierarchy table, and host-domain and port resets (R341 to R373, R587 to R589). -/

namespace Sys2Proof.Machine

/-- Codes of PORT_STATUS.LTSSM (R372). -/
def lsDETECT : Nat := 0
def lsL0 : Nat := 3
def lsRECOVERY : Nat := 4
def lsL0s : Nat := 5
def lsL1 : Nat := 6
def lsDISABLED : Nat := 8
def lsHOTRESET : Nat := 10

/-- Lanes of a port by its octet's mode (R18, R19). -/
def State.modeLanes (s : State) (p : Nat) : Nat :=
  match s.octMode (p / 4) with
  | 1 => 8
  | 2 => 4
  | 3 => 2
  | 4 => 16
  | _ => 0

/-- Whether a port is a PCIe port. -/
def State.isPcie (s : State) (p : Nat) : Bool := s.isUp p || s.isDown p

/-- The key base of the virtual port that stands for a PCIe port of this device. -/
def State.portKey (s : State) (p : Nat) : Option (Nat → Nat) :=
  if s.isUp p then some (vfKey (s.rd PORT_CFG_HD p) vUSP)
  else (s.vdspOf s.did p).map (fun e => vfKey e.1 e.2)

/-! ## AER of virtual ports (R353, R371) -/

/-- An uncorrectable error logged in the AER capability of a port's vUSP or vDSP (R371). -/
def State.uncorrectable (s : State) (p bitNo : Nat) : State :=
  match s.portKey p with
  | none => s
  | some k => (s.setVc (k vfUncStatus) (s.vc (k vfUncStatus) ||| 2 ^ bitNo)).raise 89 { port := some p }

/-- Whether an error of a port is unmasked and selected by DPC Trigger Enable: 1 fatal errors, 2 every one (R362, log
entry 25). -/
def State.dpcSelects (s : State) (p bitNo : Nat) : Bool :=
  match s.portKey p with
  | none => false
  | some k =>
    let en := s.vc (k vfDpcEnable)
    !bit (s.vc (k vfUncMask)) bitNo && (en == 2 || (en == 1 && bit (s.vc (k vfUncSeverity)) bitNo))

/-! ## DL_Down (R357, R369, R371) -/

/-- A non-posted request that a port's link cannot carry any more, answered with a completion status (R357, R362). -/
def State.failRequest (s : State) (p : Nat) (k : QPkt) (st : Nat) : State :=
  if k.fab || !k.tlp.kind.nonPosted then s
  else
    match k.owner with
    | .fabric did stream tag addr cfg fbe lbe =>
      let s1 := match s.npAtPort p k.tlp.req k.tlp.tag with
        | some (n, _) => s.setNp n none
        | none => s
      s1.ownerReply did stream tag addr fbe lbe p (issueStatus st cfg) false []
    | _ => if k.ing < 96 then s.emit (.answer k.ing k.tlp.req k.tlp.tag st []) else s

/-- The queues of a port flushed, their non-posted requests answered. -/
def State.flushPcie (s : State) (p st : Nat) : State :=
  let (t, l) := s.flushPort p
  l.foldl (fun (u : State) k => u.failRequest p k st) t

/-- The registers of a port whose link is down. -/
def State.linkOff (s : State) (p ltssm : Nat) : State :=
  let s1 := ((((s.wr PORT_STATUS_LINK_UP 0 p).wr PORT_STATUS_FLIT 0 p).wr PORT_STATUS_SPEED 0 p).wr PORT_STATUS_WIDTH 0 p).wr
    PORT_STATUS_LTSSM ltssm p
  (s1.setPport p { s1.pport p with l0s := 0, asked := [] }).setTx p {}

/-- A port goes DL_Down: packets in reception fail, a downstream port's queues are flushed and answered with `st`, and
its virtual port and watchers see it. `ours` says that this device took the link down. -/
def State.dlDown (s : State) (p ltssm : Nat) (ours : Bool) (st : Nat := cplUR) : State :=
  let was := s.on PORT_STATUS_LINK_UP p
  let s1 := (s.failPackets p).linkOff p ltssm
  let s2 := if s.isDown p then s1.flushPcie p st else s1
  let s3 := if was then s2.portDll p false else s2
  let gone := (s.slotChan p).isSome && !s.on PORT_SLOT_STATUS_PRESENT p
  if was && !ours && !gone then s3.raise 6 { port := some p } else s3

/-! ## Containment (R362, R363) -/

/-- The requests that await a completion from a port's endpoint, answered with `st` (R362). -/
def State.failOutstanding (s : State) (p st : Nat) : State :=
  let s1 := (s.pport p).asked.foldl (fun (t : State) a => t.emit (.answer a.1 a.2.1 a.2.2 st [])) s
  s1.ring.np.foldl (fun (t : State) e =>
    match e.2 with
    | some x => if x.port = some p then
        match x.owner with
        | .fabric did stream tag addr cfg fbe lbe =>
          (t.setNp e.1 none).ownerReply did stream tag addr fbe lbe p (issueStatus st cfg) false []
        | _ => t
      else t
    | none => t) s1

/-- A downstream port enters DPC with a reason and its extension (R362). -/
def State.dpcEnter (s : State) (p reason ext : Nat) : State :=
  if !s.isDown p || s.on PORT_STATUS_DPC_ACTIVE p then s
  else
    let vd := s.vdspOf s.did p
    let ur := match vd with
      | some (hd, dev) => s.vc (vfKey hd dev vfDpcUr) == 1
      | none => false
    let st := if ur then cplUR else cplCA
    let s1 := (((s.setOn PORT_STATUS_DPC_ACTIVE p).wr PORT_DPC_REASON reason p).wr PORT_DPC_REASON_EXT ext p)
    let s2 := s1.setPport p { s1.pport p with dpcCa := !ur }
    let s3 := (s2.failOutstanding p st).dlDown p lsDISABLED true st
    let s4 := match vd with
      | some (hd, dev) =>
        let t := s3.setVdsp hd dev { s3.vdsp hd dev with dpc := true, dpcReason := reason, dpcExt := ext }
        if t.vc (vfKey hd dev vfDpcIntEn) = 1 then t.sendVpVec hd dev else t
      | none => s3
    (s4.tellWatchers p).raise 88 { port := some p, hd := vd.map (·.1) }

/-- DPC_ENTRY: `kind` 0 an uncorrectable error (AER bit `bitNo`), 1 ERR_NONFATAL, 2 ERR_FATAL (R362). -/
def State.dpcEvent (s : State) (p kind bitNo : Nat) : State :=
  if !s.isDown p then s
  else if kind = 0 then
    let s1 := s.uncorrectable p bitNo
    if s.dpcSelects p bitNo then s1.dpcEnter p 0 0 else s1
  else
    let en := match s.portKey p with
      | some k => s.vc (k vfDpcEnable)
      | none => 0
    if kind = 1 ∧ en = 2 then s.dpcEnter p 1 0
    else if kind = 2 ∧ (en = 1 ∨ en = 2) then s.dpcEnter p 2 0
    else s

/-- DPC_SOFTWARE_TRIGGER and PORT_DPC.TRIGGER: reason 3, extension 1 (R362, R372). -/
def State.dpcSoftware (s : State) (p : Nat) : State := s.dpcEnter p 3 1

/-- Containment of a port by the collector and DPC end; the link trains again (R363). -/
def State.dpcRelease (s : State) (p : Nat) : State :=
  if s.on PORT_STATUS_DPC_ACTIVE p then
    let s1 := (s.wr PORT_STATUS_DPC_ACTIVE 0 p).wr PORT_STATUS_LTSSM (if (s.pport p).disabled then lsDISABLED else lsDETECT) p
    let s2 := s1.setPport p { s1.pport p with dpcCa := false }
    let s3 := s2.wr FAULT_PORT_CONTAINED_VALUE (setBit (s2.rd FAULT_PORT_CONTAINED_VALUE (p / 32)) (p % 32) false) (p / 32)
    let s4 := match s3.vdspOf s3.did p with
      | some (hd, dev) => s3.setVdsp hd dev { s3.vdsp hd dev with dpc := false }
      | none => s3
    s4.tellWatchers p
  else s

/-- A write of PORT_DPC (R372). -/
def State.portDpcWrite (s : State) (p v : Nat) : State :=
  let s1 := if bit v 30 then s.dpcSoftware p else s
  if bit v 31 then s1.dpcRelease p else s1

/-- Clearing DPC Trigger Status: a local port is released, a remote one is asked for (R363, R381). -/
def State.dpcStatusClear (s : State) (hd dev : Nat) : State :=
  match s.vent hd dev with
  | none => s
  | some e =>
    if !(s.vdsp hd dev).dpc then s
    else if e.did = s.did then s.dpcRelease e.port
    else s.sendMsg e.did ((s.hdPort hd).getD 0) (leBytes 4 (0x12 + e.port * 2 ^ 16))

/-! ## Link up (R342, R343, R346, R371) -/

/-- Whether HIER_READY of some upstream port is set (R346). -/
def State.anyReady (s : State) : Bool := s.upPorts.any (s.on PORT_HIER_CTRL_HIER_READY ·)

/-- Whether a port that is off, contained or held down may train (R343, R346, R362, R364). -/
def State.mayTrain (s : State) (p : Nat) : Bool :=
  let x := s.pport p
  s.isPcie p && s.portEn p && !s.portContained p && !x.disabled && !x.hot && !x.refused && !s.on FAULT_STATUS_HALTED
    && (s.rst.phase == .running || s.rst.phase == .noFirmware || (s.isUp p && s.rst.loaded && bit (SMap.get s.rst.shadow (153 + p) 0) 32 && s.rst.phase != .held && s.rst.phase != .released))
    && (s.isUp p || s.anyReady)
    && (match s.slotChan p with
        | some _ => s.on PORT_SLOT_STATUS_POWER_ON p && !s.on PORT_SLOT_STATUS_PERST p
        | none => true)

/-- The highest rate a port trains to: MAX_RATE and its Target Link Speed, 0 for none set (R343, log entry 25). -/
def State.rateCap (s : State) (p : Nat) : Nat :=
  let m := s.rd PORT_CFG_MAX_RATE p
  match s.portVc p vfTargetSpeed with
  | 0 => m
  | t + 1 => min m t

/-- PCIE_LINK_UP: the link reaches DL_Up at a rate and width the partner allows (R343, R371). -/
def State.pcieUp (s : State) (p rate width : Nat) (flit : Bool) : State :=
  if !s.mayTrain p || s.on PORT_STATUS_LINK_UP p then s
  else
    let r := min rate (s.rateCap p)
    let w := min width (s.modeLanes p)
    let f := flit && decide (5 ≤ s.rd PORT_CFG_MAX_RATE p)
    let s1 := ((((s.setOn PORT_STATUS_LINK_UP p).wr PORT_STATUS_FLIT (b2n f) p).wr PORT_STATUS_SPEED r p).wr PORT_STATUS_WIDTH w p).wr
      PORT_STATUS_LTSSM lsL0 p
    let s2 := s1.portDll p true
    if r < s.rd PORT_CFG_MAX_RATE p ∨ w < s.modeLanes p then s2.raise 7 { port := some p } else s2

/-! ## Host-domain reset (R587, R588) -/

/-- The configuration fields of a domain's vUSP and vDSPs at their reset values, and their status bits clear. -/
def State.clearHdCfg (s : State) (d : Nat) : State :=
  let lo := vfKey d 0 0
  let hi := vfKey (d + 1) 0 0
  let keep := s.port.vcfg.filter (fun e => decide (e.1 < lo) || decide (hi ≤ e.1))
  let clear (v : Vdsp) : Vdsp :=
    { v with pdc := false, button := false, pfault := false, cmdDone := false, dllChanged := false, dpc := false }
  let vs := s.port.vdsp.foldl (fun m e => if e.1 / 32 = d then SMap.set m e.1 (clear e.2) {} else m) s.port.vdsp
  { s with port := { s.port with vcfg := keep, vdsp := vs } }

/-- The local downstream ports of a domain. -/
def State.hdPorts (s : State) (d : Nat) : List Nat := (List.range 96).filter (fun p => s.isDown p && s.portHd p == some d)

/-- A port's link down in hot reset. -/
def State.hotReset (s : State) (p : Nat) : State := (s.setPport p { s.pport p with hot := true }).dlDown p lsHOTRESET true

/-- The reset of host domain `d` starts (R587). -/
def State.hdReset (s : State) (d : Nat) : State :=
  if s.rst.hds.any (fun e => e.1 == d) then s
  else
    let s1 := ({ s with rst := { s.rst with hds := s.rst.hds ++ [(d, s.ns)] } }).setOn RST_HD_BUSY
    let ports := s.hdPorts d
    let s2 := ports.foldl (fun (t : State) p => t.dpcRelease p) s1
    let s3 := s2.wr FAULT_HD_CONTAINED_VALUE (setBit (s2.rd FAULT_HD_CONTAINED_VALUE (d / 32)) (d % 32) false) (d / 32)
    let s4 := (s3.clearHdCfg d)
    let s5 := ports.foldl (fun (t : State) p =>
      let t1 := (t.hotReset p).assertPerst p
      match t1.slotChan p with
      | some _ => ((t1.setPower p (!t1.on PORT_SLOT_CFG_AUTO_POWER p)).setInd p true 3).setInd p false 3
      | none => t1) s4
    (s5.upPorts.filter (fun p => s5.rd PORT_CFG_HD p == d)).foldl (fun (t : State) p =>
      match t.portPf p with
      | some n => (t.vfEnableClear n).fnReset (pfIndex n) false none
      | none => t) s5

/-- HOST_DOMAIN_RESET_DONE: every function of the domain is through, 2 ms after the trigger (R588). -/
def State.hdResetDone (s : State) (d : Nat) : State :=
  match s.rst.hds.find? (fun e => e.1 == d) with
  | none => s
  | some (_, at_) =>
    let pfs := (s.upPorts.filter (fun p => s.rd PORT_CFG_HD p == d)).filterMap s.portPf
    let busy := pfs.any (fun n => (s.fn (pfIndex n)).reset.isSome ||
      (List.range (s.rd RING_PF_VF_VF_LIMIT n)).any (fun i => (s.fn (s.rd RING_PF_VF_VF_BASE n + i)).reset.isSome))
    if busy || decide (s.ns < at_ + 2000000) then s
    else
      let rest := s.rst.hds.filter (fun e => e.1 != d)
      let s1 := ({ s with rst := { s.rst with hds := rest } }).wr RST_HD_BUSY (b2n (!rest.isEmpty))
      ((s1.hdPorts d).foldl (fun (t : State) p =>
        (t.setPport p { t.pport p with hot := false }).wr PORT_STATUS_LTSSM lsDETECT p) s1).raise 195

/-- A write of RST_HD (R587). -/
def State.rstHdWrite (s : State) (v : Nat) : State := if bit v 31 then s.hdReset (v % 1024) else s

/-- PCIE_DL_DOWN: the link is lost, or a hot reset arrives at an upstream port (R347, R357, R369). -/
def State.pcieDown (s : State) (p : Nat) (hot : Bool) : State :=
  if !s.isPcie p || !s.on PORT_STATUS_LINK_UP p then s
  else
    let s1 := s.dlDown p lsDETECT hot
    if s.isUp p then s1.hdReset (s.rd PORT_CFG_HD p)
    else if (s.slotChan p).isSome && !s.on PORT_SLOT_CFG_SURPRISE p then s1.dpcEvent p 0 5
    else s1

/-- A PCIe port whose PORT_EN clears, or that is reset, goes down (R357, R371). -/
def State.pcieOff (s : State) (p : Nat) : State :=
  let up := s.on PORT_STATUS_LINK_UP p
  let s1 := s.dlDown p lsDETECT true
  if up && s.isUp p then s1.hdReset (s.rd PORT_CFG_HD p) else s1

/-- The links of refused upstream ports go down (R345). -/
def State.dropRefused (s : State) : State :=
  s.upPorts.foldl (fun (t : State) p =>
    if (t.pport p).refused && t.rd PORT_STATUS_LTSSM p != lsDISABLED then
      let up := t.on PORT_STATUS_LINK_UP p
      let t1 := t.dlDown p lsDISABLED true
      if up then t1.hdReset (t.rd PORT_CFG_HD p) else t1
    else t) s

/-- HIER_READY (R346). -/
def State.hierReady (s : State) (p : Nat) : State := if s.isUp p then s.setOn PORT_HIER_CTRL_HIER_READY p else s

/-! ## Link control of a local vDSP (R351) -/

/-- The local port behind a vDSP. -/
def State.localPort (s : State) (hd dev : Nat) : Option Nat :=
  match s.behind hd dev with
  | .local_ p => some p
  | _ => none

/-- RETRAIN_LINK: Target Link Speed and a retrain take effect at the physical port. -/
def State.retrain (s : State) (hd dev : Nat) : State :=
  match s.localPort hd dev with
  | none => s
  | some p =>
    if s.on PORT_STATUS_LINK_UP p then s.wr PORT_STATUS_SPEED (min (s.rd PORT_STATUS_SPEED p) (s.rateCap p)) p else s

/-- LINK_DISABLE. -/
def State.linkDisable (s : State) (hd dev : Nat) (on : Bool) : State :=
  match s.localPort hd dev with
  | none => s
  | some p =>
    let s1 := (s.setVc (vfKey hd dev vfLinkDisable) (b2n on)).setPport p { s.pport p with disabled := on }
    if on then s1.dlDown p lsDISABLED true
    else if s.portContained p then s1 else s1.wr PORT_STATUS_LTSSM lsDETECT p

/-- SECONDARY_BUS_RESET: a hot reset on the downstream link while the bit is 1. -/
def State.busReset (s : State) (hd dev : Nat) (on : Bool) : State :=
  match s.localPort hd dev with
  | none => s
  | some p =>
    let s1 := (s.setVc (vfKey hd dev vfBusReset) (b2n on)).setPport p { s.pport p with hot := on }
    if on then s1.dlDown p lsHOTRESET true
    else if s.portContained p || (s.pport p).disabled then s1 else s1.wr PORT_STATUS_LTSSM lsDETECT p

/-- LINK_POWER_STATE_CHANGE: 0 L0, 1 L0s, 2 L0p with `width` lanes, 3 L1, 4 L1.1, 5 L1.2 (R341, R344). -/
def State.linkPower (s : State) (p st width : Nat) : State :=
  let flit := s.on PORT_STATUS_FLIT p
  let aspm := s.portVc p vfAspm
  let row := SMap.get s.rst.shadow 253 0
  let n := p / 4 - 8
  let clkreq := decide (p % 4 = 0) && decide (32 ≤ p) && bits row (4 * n + 3) (4 * n + 2) == 1
  let ok : Bool := match st with
    | 0 => true
    | 1 => !flit && bit aspm 0
    | 2 => flit && decide (1 ≤ width) && decide (width ≤ s.modeLanes p)
    | 3 => bit aspm 1
    | 4 | 5 => bit aspm 1 && clkreq && bit (s.portVc p vfL1Ctl) (st - 4)
    | _ => false
  if !s.isPcie p || !s.on PORT_STATUS_LINK_UP p || !ok then s
  else
    let s1 := s.wr PORT_STATUS_LTSSM (if st = 1 then lsL0s else if 3 ≤ st then lsL1 else lsL0) p
    let s2 := s1.setPport p { s1.pport p with l0s := if st = 2 then 0 else st }
    if st = 2 then s2.wr PORT_STATUS_WIDTH width p else s2

/-! ## Slots (R364, R365, R370) -/

/-- Command Completed after a Slot Control write that changes a control (R364). -/
def State.cmdCompleted (s : State) (hd dev : Nat) : State := s.vdspSet hd dev seCOMMAND (fun v => { v with cmdDone := true })

/-- POWER_CONTROLLER_CONTROL of a vDSP: 1 = off (R364, R365). -/
def State.powerControl (s : State) (hd dev : Nat) (off : Bool) : State :=
  let k := vfKey hd dev vfPowerOff
  match s.localPort hd dev with
  | none => s
  | some p =>
    if (s.slotChan p).isNone || (s.pport p).off == off then s
    else ((s.setVc k (b2n off)).setPower p off).cmdCompleted hd dev

/-- INDICATOR_CONTROL of a vDSP: 1 on, 2 blink, 3 off (R364, R366). -/
def State.indicatorControl (s : State) (hd dev : Nat) (attn : Bool) (c : Nat) : State :=
  let k := vfKey hd dev (if attn then vfAttnInd else vfPwrInd)
  match s.localPort hd dev with
  | none => s
  | some p =>
    if (s.slotChan p).isNone || c = 0 || 3 < c || s.vc k == c then s
    else ((s.setVc k c).setInd p attn c).cmdCompleted hd dev

/-- A write of PORT_SLOT_CFG (R370); the channel's assignment and its power request follow (R365, R603). -/
def State.slotCfgWrite (s : State) (p v : Nat) : State :=
  let en := bit v 31
  let ch := bits v 28 24
  let was := s.slotChan p
  let taken := (List.range 96).any (fun q => q != p && s.on PORT_SLOT_CFG_SLOT_EN q && s.rd PORT_SLOT_CFG_IBEX_CH q == ch)
  if decide (24 ≤ ch) then s
  else if en && (!s.isDown p || taken || s.portEn p) then s.setOn PORT_STATUS_CFG_REJECTED p
  else
    let s1 := ((((((s.wr PORT_SLOT_CFG_SLOT_EN (b2n en) p).wr PORT_SLOT_CFG_AUTO_POWER (bits v 30 30) p).wr
      PORT_SLOT_CFG_SURPRISE (bits v 29 29) p).wr PORT_SLOT_CFG_IBEX_CH ch p).wr PORT_SLOT_CFG_PHYS_SLOT (bits v 23 11) p).wr
      PORT_SLOT_CFG_SPL_SCALE (bits v 9 8) p).wr PORT_SLOT_CFG_SPL_VALUE (bits v 7 0) p
    let now := s1.slotChan p
    if now = was then s1
    else
      let s2 := s1.setPport p { s1.pport p with off := !bit v 30 }
      let s3 := match was with
        | some n => s2.reassign n
        | none => s2
      match now with
      | some n => s3.reassign n
      | none => s3

/-- Whether a write that makes port `p` upstream would exceed 32 upstream ports (R26). -/
def State.roleFull (s : State) (p v : Nat) : Bool :=
  bits v 1 0 == 1 && s.rd PORT_CFG_ROLE p != 1 && decide (32 ≤ s.upPorts.length)

/-- A write of PORT_CFG (R372): HD at any time; role, rate and clocking only with PORT_EN at 0. A role that exceeds R26's
limit is rejected with the write (log entry 70). -/
def State.portCfgWrite (s : State) (p v : Nat) : State :=
  let fab := s.isFab p
  let same := s.rd PORT_CFG_ROLE p = bits v 1 0 ∧ s.rd PORT_CFG_MAX_RATE p = bits v 11 8 ∧ s.rd PORT_CFG_CLK_MODE p = bits v 5 4
  if fab ∨ 6 < bits v 11 8 ∨ bits v 5 4 = 3 ∨ 1 < bits v 1 0 ∨ (s.roleFull p v ∧ !s.portEn p) then s
  else
    let s0 := if s.rd PORT_CFG_HD p = bits v 25 16 then s else s.releasePort p
    let s1 := s0.wr PORT_CFG_HD (bits v 25 16) p
    let s2 := if s.rd PORT_CFG_HD p = bits v 25 16 then s1 else s1.claimPort p
    if s.portEn p then (if same then s2 else s2.setOn PORT_STATUS_CFG_REJECTED p)
    else
      let s3 := ((s2.wr PORT_CFG_MAX_RATE (bits v 11 8) p).wr PORT_CFG_CLK_MODE (bits v 5 4) p).wr PORT_CFG_ROLE (bits v 1 0) p
      match s.slotChan p, s3.slotChan p with
      | some n, none => s3.reassign n
      | none, some n => s3.reassign n
      | _, _ => s3

/-! ## The virtual hierarchy table (R349, R350, R373, R381) -/

/-- An entry removed: a surprise removal at its vDSP (R350, R351). -/
def State.hotRemove (s : State) (hd dev : Nat) : State :=
  let s1 := s.setVdsp hd dev { s.vdsp hd dev with dllActive := false, speed := 0, width := 0 }
  let e := s1.vc (vfKey hd dev vfSlotEnables)
  let s2 := s1.setVdsp hd dev { s1.vdsp hd dev with present := false, pdc := true, dllChanged := true }
  if bit e 5 && (bit e sePRESENCE || bit e seDLL) then s2.sendVpVec hd dev else s2

/-- A write of entry `hd`, `dev`; one that names a pair already in use, or device 0, is discarded. -/
def State.vhierWrite (s : State) (idx v0 : Nat) : State :=
  let hd := idx / 32
  let dev := idx % 32
  let e : VEnt := { did := bits v0 11 0, port := bits v0 18 12 }
  let valid := bit v0 31
  let old := s.vent hd dev
  if dev = 0 ∨ (valid ∧ s.port.vhier.any (fun x => x.1 != idx && x.2 == some e)) then s
  else
    let put (t : State) (x : Option VEnt) : State := { t with port := { t.port with vhier := SMap.set t.port.vhier idx x none } }
    let s1 := match old with
      | some o => if valid ∧ o = e then s else put (s.hotRemove hd dev) none
      | none => s
    if !valid || old == some e then s1
    else
      let s2 := (put s1 (some e)).setVdsp hd dev {}
      let s3 := s2.vdspSet hd dev sePRESENCE (fun x => { x with present := true, pdc := true })
      if e.did ≠ s.did then s3.sendMsg e.did ((s3.hdPort hd).getD 0) (leBytes 4 (0x10 + e.port * 2 ^ 16))
      else s3.portDll e.port (s3.on PORT_STATUS_LINK_UP e.port)

/-- Remote endpoints of devices that the epoch lost report a surprise removal (R351). -/
def State.remoteLost (s : State) (lost : List Nat) : State :=
  let s1 := { s with port := { s.port with watches := s.port.watches.filter (fun w => !lost.contains w.did) } }
  s1.port.vhier.foldl (fun (t : State) e =>
    match e.2 with
    | some x => if x.did ≠ t.did ∧ lost.contains x.did ∧ (t.vdsp (e.1 / 32) (e.1 % 32)).present then t.hotRemove (e.1 / 32) (e.1 % 32)
        else t
    | none => t) s1

/-! ## Messages between holder and home (R380, R381) -/

/-- PORT_WATCH from a device: a watcher registered, and told at once. No message ends a watch (log entry 38). -/
def State.portWatch (s : State) (did p : Nat) : State :=
  let l := s.port.watches.filter (fun w => !(w.port == p && w.did == did))
  let w : Watch := { port := p, did := did, sent := s.time.tick }
  let s1 := { s with port := { s.port with watches := l ++ [w] } }
  s1.sendMsg did p (s1.portStateData p)

/-- PORT_STATE_REFRESH: PORT_STATE to every watcher last told 64 ticks ago. -/
def State.portStateRefresh (s : State) : State :=
  (s.port.watches.filter (fun w => decide (w.sent + 64 ≤ s.time.tick))).foldl (fun (t : State) w =>
    ({ t with port := { t.port with watches := t.port.watches.map (fun x =>
        if x = w then { x with sent := t.time.tick } else x) } }).sendMsg w.did w.port (t.portStateData w.port)) s

/-- PORT_STATE from the device that holds a remote endpoint's port (R351, R363). -/
def State.portStateIn (s : State) (did : Nat) (data : List Nat) : State :=
  let w := bytesAt data 0 3
  match s.port.vhier.find? (fun e => e.2 == some { did := did, port := bits w 22 16 }) with
  | none => s
  | some (i, _) =>
    let hd := i / 32
    let dev := i % 32
    let s1 := s.setVdsp hd dev { s.vdsp hd dev with speed := bits w 31 28, width := bytesAt data 4 7 % 32 }
    let dl := bit w 24
    let s2 := if (s1.vdsp hd dev).dllActive != dl then
        s1.vdspSet hd dev seDLL (fun v => { v with dllActive := dl, dllChanged := true }) else s1
    let pr := bit w 25
    let s3 := if (s2.vdsp hd dev).present != pr then
        s2.vdspSet hd dev sePRESENCE (fun v => { v with present := pr, pdc := true }) else s2
    let dpc := bit w 26
    let was := (s3.vdsp hd dev).dpc
    let s4 := s3.setVdsp hd dev { s3.vdsp hd dev with dpc := dpc, dpcReason := if dpc then 3 else (s3.vdsp hd dev).dpcReason,
                                                      dpcExt := if dpc then 1 else (s3.vdsp hd dev).dpcExt }
    if dpc && !was then
      let s5 := s4.raise 88 { hd := some hd }
      if s5.vc (vfKey hd dev vfDpcIntEn) = 1 then s5.sendVpVec hd dev else s5
    else s4

/-- PCIE_MSG: the home presents the message at the endpoint's vDSP: an interrupt of its host, or a DPC trigger is the
holder's; the message goes up the vUSP (R381). -/
def State.pcieMsgIn (s : State) (did : Nat) (data : List Nat) : State :=
  let w := bytesAt data 0 3
  match s.port.vhier.find? (fun e => e.2 == some { did := did, port := bits w 22 16 }) with
  | none => s
  | some (i, _) =>
    match s.hdPort (i / 32) with
    | none => s
    | some u => s.emit (.message u (ofMsgHeader ((data.drop 4).take 16)).msgCode (data.drop 20))

/-! ## Configuration Requests (R346, R352, R354, R382) -/

/-- Numbers of fields that act when written and hold nothing: Retrain Link, DPC Software Trigger, DPC Trigger Status,
Slot Status, Uncorrectable Error Status, Initiate Function Level Reset; and NumVFs and VF Enable of a PF. -/
def vfRetrain : Nat := 44
def vfDpcTrigger : Nat := 45
def vfDpcStatus : Nat := 46
def vfSlotStatus : Nat := 47
def vfUncClear : Nat := 48
def vfFlr : Nat := 49
def vfNumVfs : Nat := 50
def vfVfEnable : Nat := 51
def vfLinkStatus : Nat := 52

/-- The bits of Slot Status by PCI Express (log entry 25). -/
def Vdsp.slotStatus (v : Vdsp) : Nat :=
  b2n v.button + 2 * b2n v.pfault + 8 * b2n v.pdc + 16 * b2n v.cmdDone + 64 * b2n v.present + 256 * b2n v.dllChanged

/-- The value of a configuration field of a vUSP or vDSP as a host reads it. -/
def State.vpRead (s : State) (hd dev f : Nat) : Nat :=
  let v := s.vdsp hd dev
  if f = vfSlotStatus then v.slotStatus
  else if f = vfDpcStatus then b2n v.dpc + v.dpcReason * 2 + v.dpcExt * 32
  else if f = vfLinkStatus then v.speed + v.width * 16 + b2n v.dllActive * 2 ^ 13
  else if f = vfUncClear then s.vc (vfKey hd dev vfUncStatus)
  else s.vc (vfKey hd dev f)

/-- A write of a configuration field of a vUSP (device 32) or vDSP. -/
def State.vpWrite (s : State) (hd dev f v : Nat) : State :=
  let x := s.vdsp hd dev
  if f = vfRetrain then (if v = 1 then s.retrain hd dev else s)
  else if f = vfLinkDisable then s.linkDisable hd dev (v == 1)
  else if f = vfBusReset then s.busReset hd dev (v == 1)
  else if f = vfDpcTrigger then (match s.localPort hd dev with
    | some p => if v = 1 then s.dpcSoftware p else s
    | none => s)
  else if f = vfDpcStatus then (if v % 2 = 1 then s.dpcStatusClear hd dev else s)
  else if f = vfSlotStatus then
    s.setVdsp hd dev { x with button := x.button && !bit v 0, pfault := x.pfault && !bit v 1, pdc := x.pdc && !bit v 3,
                              cmdDone := x.cmdDone && !bit v 4, dllChanged := x.dllChanged && !bit v 8 }
  else if f = vfUncClear then
    let k := vfKey hd dev vfUncStatus
    s.setVc k (s.vc k - Nat.land (s.vc k) v)
  else if f = vfPowerOff then s.powerControl hd dev (v == 1)
  else if f = vfAttnInd then s.indicatorControl hd dev true v
  else if f = vfPwrInd then s.indicatorControl hd dev false v
  else if f = vfUncStatus ∨ vfCount ≤ f then s
  else s.setVc (vfKey hd dev f) v

/-- The value of a configuration field of a function. -/
def State.fnRead (s : State) (fn f : Nat) : Nat :=
  if f = vfNumVfs then (s.fn fn).numVfs
  else if f = vfVfEnable then b2n (s.fn fn).vfEnable
  else if f = vfUncStatus then (s.fn fn).aer
  else s.vc (fnKey fn f)

/-- A write of a configuration field of a function. -/
def State.fnWrite (s : State) (fn f v : Nat) : State :=
  let x := s.fn fn
  if f = vfFlr then (if v = 1 then s.flr fn else s)
  else if f = vfNumVfs then (if x.vfEnable then s else s.setFn fn { x with numVfs := v % 65536 })
  else if f = vfVfEnable then
    (if fn < 2048 then s else if v = 1 then s.vfEnable (fn - 2048) else s.vfEnableClear (fn - 2048))
  else if f = vfUncClear then s.setFn fn { x with aer := x.aer - Nat.land x.aer v }
  else if f = vfUncStatus ∨ vfCount ≤ f then s
  else s.setVc (fnKey fn f) v

/-- The function of an ID on the bus below vDSP 0 of PF `n`: the PF itself, or an enabled VF. -/
def State.fnAt (s : State) (n rid : Nat) : Option Nat :=
  if rid % 256 = 0 then some (pfIndex n) else (s.enabledVfs n).find? (fun v => s.fnRid v == rid)

/-- CONFIG_REQUEST from the host of upstream port `p` for the ID in the TLP. `fields` are the configuration fields its
register and enables cover, with the values written (log entry 21); a read returns their values. Before HIER_READY
every request is retried. -/
def State.configRequest (s : State) (p : Nat) (t : Tlp) (fields : List (Nat × Nat)) (data : List Nat) : State :=
  if !s.isUp p || !s.on PORT_STATUS_LINK_UP p || !t.kind.isCfg then s
  else
    let hd := s.rd PORT_CFG_HD p
    let n := (s.portPf p).getD 0
    let bus := t.addr / 2 ^ 24 % 256
    let dev := t.addr / 2 ^ 19 % 32
    let fn := t.addr / 2 ^ 16 % 8
    let wr := t.kind.hasData
    let ans (u : State) (st : Nat) (d : List Nat) : State := u.emit (.answer p t.req t.tag st d)
    let at_ (x : Nat) : State :=
      if wr then ans (fields.foldl (fun (u : State) e => u.vpWrite hd x e.1 e.2) s) cplSC []
      else ans s cplSC (fields.map (fun e => s.vpRead hd x e.1))
    if !s.on PORT_HIER_CTRL_HIER_READY p then ans s cplRRS []
    else if t.kind = .cfgRd0 ∨ t.kind = .cfgWr0 then
      if dev = 0 ∧ fn = 0 then at_ vUSP else ans s cplUR []
    else if bus = s.vc (vfKey hd vUSP vfSecBus) then
      if fn = 0 ∧ (dev = 0 ∨ (s.vent hd dev).isSome) then at_ dev else ans s cplUR []
    else if s.inBus hd 0 bus then
      let s1 := if wr then s.setVc (fnKey (pfIndex n) vfBus) (s.vc (vfKey hd 0 vfSecBus)) else s
      match s1.fnAt n (t.addr / 2 ^ 16 % 2 ^ 16) with
      | none => ans s cplUR []
      | some f =>
        if wr then ans (fields.foldl (fun (u : State) e => u.fnWrite f e.1 e.2) s1) cplSC []
        else ans s1 cplSC (fields.map (fun e => s1.fnRead f e.1))
    else
      let k : Pkt :=
        { ing := p, fab := false, tlp := t, tc := t.tc, sl := s.slOf p t.tc, hd := some hd, len := t.length, stage := .reserved,
          keyDid := s.did, keyStream := mkStream t.req hd t.tc, dest := s.cfgDest hd bus,
          sub := s.rd PORT_FWD_CFG_DEF_SUBSCRIBER p }
      (s.decidePkt k true data).getD s

/-! ## Port reset (R589) -/

/-- Ports that have begun to train again leave RST_PORT.BUSY. -/
def State.syncPortBusy (s : State) : State :=
  if s.rst.ports.isEmpty then s
  else
    let rest := s.rst.ports.filter (fun p => if s.isFab p then false else s.isPcie p && s.portEn p && !s.mayTrain p)
    ({ s with rst := { s.rst with ports := rest } }).wr RST_PORT_BUSY (b2n (!rest.isEmpty))

/-- The effect of a port reset: PORT_EN cleared and set again. -/
def State.portReset (s : State) (p : Nat) : State :=
  if !s.portExists p || !s.portEn p then s
  else
    let s1 := { s with rst := { s.rst with ports := s.rst.ports.filter (· != p) ++ [p] } }
    let s2 := if s.isFab p then
        (if s.portContained p then s1
         else if s1.linkLive (p / 4) then s1.linkDown (p / 4) ldPORT_DISABLED
         else (s1.lanesIdle (p / 4)).trainTo (p / 4) trDETECT)
      else ((s1.pcieOff p).releasePort p).claimPort p
    s2.syncPortBusy

/-- A write of RST_PORT (R589). -/
def State.rstPortWrite (s : State) (v : Nat) : State := if bit v 31 then s.portReset (v % 128) else s

end Sys2Proof.Machine
end

