-- ==== Sys2Proof/Machine/OctetOps.lean ====
section
/-! DEFINITION. Octets: modes and port enables, fabric bring-up, and lane tests (R278 to R303). -/

namespace Sys2Proof.Machine

/-! ## Ports on and off (R278, R279, R291, R330) -/

/-- The lanes of a fabric octet's port. -/
def State.fabWidth (s : State) (k : Nat) : Nat := if s.octMode k = 4 then 16 else 8

/-- A field of physical lane `i` of the port of octet `k`; lanes 8 to 15 belong to the odd octet of a pair. -/
def State.laneWr (s : State) (f : Fld) (v k i : Nat) : State := s.wr f v (k + i / 8) (i % 8)

/-- The same, read. -/
def State.laneRd (s : State) (f : Fld) (k i : Nat) : Nat := s.rd f (k + i / 8) (i % 8)

/-- A port starts: a fabric port goes to DETECT unless the collector holds it, an upstream port claims its domain. -/
def State.portOn (s : State) (p : Nat) : State :=
  if s.isFab p then (if s.portContained p then s else (s.trainTo (p / 4) trDETECT).setTrn (p / 4) { since := s.ns })
  else s.claimPort p

/-- A fabric port stops, and its bring-up state becomes `next`. -/
def State.fabStop (s : State) (k next : Nat) (reason : Nat) : State :=
  if s.linkLive k then s.linkDown k reason next else (s.lanesIdle k).trainTo k next

/-- A port stops. -/
def State.portOff (s : State) (p : Nat) : State :=
  if s.isFab p then s.fabStop (p / 4) trOFF ldPORT_DISABLED else (s.pcieOff p).releasePort p

/-- The ports of an octet that a mode creates (R18, R280). -/
def modePorts (mode : Nat) : List Nat :=
  match mode with
  | 1 | 4 => [0]
  | 2 => [0, 2]
  | 3 => [0, 1, 2, 3]
  | _ => []

/-- A rejected write of OCT_MODE (R279, R304). -/
def State.modeRejected (s : State) (k : Nat) : State := (s.setOn OCT_STATUS_MODE_REJECTED k).raise 21 { arg := k }

/-- OCT_MODE_WRITE (R279, R280, R301). A mode whose ports would make more than 32 upstream ports is discarded (R26; log
entry 70); an octet makes one fabric port at most, so R26's limit on those always holds. -/
def State.octModeWrite (s : State) (k v : Nat) : State :=
  let mode := v % 8
  let fab := bit v 4
  let en := bits v 11 8
  let cur := s.rd OCT_MODE_PORT_EN k
  let change := decide (mode ≠ s.octMode k) || fab != s.on OCT_MODE_FABRIC k
  let pair := (mode == 4 || s.octMode k == 4) && k % 2 == 0
  let busy := decide (cur ≠ 0) || decide (en ≠ 0) || (pair && s.rd OCT_MODE_PORT_EN (k + 1) != 0)
  let bad := (mode == 4 && k % 2 == 1) || (fab && (mode == 2 || mode == 3))
    || (bitsSet en 4).any (fun j => !(modePorts mode).contains j || s.octPaired k)
  let test := s.on OCT_TEST_EN k || (pair && s.on OCT_TEST_EN (k + 1))
  let set := ((s.wr OCT_MODE_MODE mode k).wr OCT_MODE_FABRIC (b2n fab) k).wr OCT_MODE_PORT_EN en k
  if 4 < mode then s
  else if (change && busy) || bad then s.modeRejected k
  else if change && decide (32 < set.upPorts.length) then s
  else if test && (bitsSet en 4).any (fun j => !bit cur j) then s
  else
    let off := (bitsSet cur 4).filter (fun j => !bit en j)
    let on := (bitsSet en 4).filter (fun j => !bit cur j)
    let s1 := off.foldl (fun (t : State) j => t.portOff (4 * k + j)) s
    let s2 := ((s1.wr OCT_MODE_MODE mode k).wr OCT_MODE_FABRIC (b2n fab) k).wr OCT_MODE_PORT_EN en k
    let s3 := if k % 2 = 0 then s2.wr OCT_STATUS_PAIRED (b2n (mode == 4)) (k + 1) else s2
    on.foldl (fun (t : State) j => t.portOn (4 * k + j)) s3

/-! ## Bring-up (R285 to R291) -/

/-- A training state that a bring-up may leave by a partner's block or a timeout, outside a planned change. -/
def State.bringing (s : State) (k : Nat) : Bool := s.fabOct k && s.portEn (4 * k) && !s.on LINK_STATUS_CHANGING k

/-- RECEIVER_DETECTION: a partner is found; the port starts at 8 GT/s. -/
def State.detected (s : State) (k : Nat) : State :=
  if s.bringing k && s.trState k == trDETECT then
    let s1 := (List.range (s.fabWidth k)).foldl (fun (t : State) i =>
      ((((t.laneWr LANE_STATUS_LOCKED 0 k i).laneWr LANE_STATUS_RX_INVERTED 0 k i).laneWr LANE_STATUS_LOGICAL 0 k i).laneWr
        LANE_STATUS_FAIL_RATE 15 k i).laneWr LANE_STATUS_RATE 2 k i) s
    (((s1.wr OCT_FAB_STATUS_REVERSED 0 k).wr OCT_FAB_STATUS_RATE 2 k).setTrn k {}).trainTo k trALIGN
  else s

/-- The port gives up; it tries again after 100 ms. -/
def State.bringupFailed (s : State) (k : Nat) : State := (s.lanesIdle k).trainTo k trFAILED

/-- OCT_STATUS.LANE_LOCK follows the lanes. -/
def State.syncLock (s : State) (k : Nat) : State :=
  s.wr OCT_STATUS_LANE_LOCK (sum ((List.range 8).map (fun i => s.rd LANE_STATUS_LOCKED k i * 2 ^ i))) k

/-- The physical lanes of an octet's port that have locked. -/
def State.lockedLanes (s : State) (k : Nat) : List Nat :=
  (List.range (s.fabWidth k)).filter (fun i => s.laneRd LANE_STATUS_LOCKED k i == 1)

/-- The logical lanes usable at this end: locked and not disabled (R292). -/
def State.lanesOk (s : State) (k : Nat) : Nat :=
  sum (((s.lockedLanes k).filter (fun i => s.laneRd LANE_CTRL_DISABLE k i == 0)).map (fun i =>
    2 ^ s.laneRd LANE_STATUS_LOGICAL k i))

/-- The legal width codes of a port, widest first (R287). -/
def State.widths (s : State) (k : Nat) : List Nat := if s.octMode k = 4 then [4, 3, 2] else [3, 2, 1]

/-- The widest legal width whose logical lanes are all in a mask. -/
def State.widest (s : State) (k mask : Nat) : Option Nat :=
  (s.widths k).find? (fun w => (List.range (lanesOf w)).all (bit mask ·))

/-- The rate after a rate in the steps of bring-up (R288). -/
def nextRateOf (r : Nat) : Nat := if r = 2 then 4 else r + 1

/-- The rate of a lane in Gb/s. -/
def rateGbs (r : Nat) : Nat := if r = 2 then 8 else if r = 4 then 32 else if r = 5 then 64 else 128

/-- A training block's bytes with its polarity corrected; none where SYNC is in neither form, or LANE_CTRL forces the
other (R285, R286). -/
def polarity (force : Nat) (b : List Nat) : Option (Bool × List Nat) :=
  let n := bytesAt b 0 1
  if n = 0xA55A then (if force = 2 then none else some (false, b))
  else if n = 0x5AA5 then (if force = 1 then none else some (true, b.map (255 - ·)))
  else none

/-- ALIGN ends: the lanes lie straight or reversed, and the clock lane is found (R286, R293). -/
def State.alignDone (s : State) (k : Nat) : State :=
  let w := s.fabWidth k
  let l := s.lockedLanes k
  let straight := l.all (fun i => s.laneRd LANE_STATUS_LOGICAL k i == i)
  let reversed := l.all (fun i => s.laneRd LANE_STATUS_LOGICAL k i + i + 1 == w)
  if straight then (s.trainTo k trCONFIG).setOn CK_STATUS_RX_LOCK k
  else if reversed then ((s.setOn OCT_FAB_STATUS_REVERSED k).trainTo k trCONFIG).setOn CK_STATUS_RX_LOCK k
  else s.bringupFailed k

/-- The port has reached its rate and width: it waits for the partner's ACTIVE block. -/
def State.bringupDone (s : State) (k rate width : Nat) : State :=
  let x := s.trn k
  let s1 := (s.setLanes k rate width).setTrn k { x with done := true, verify := false }
  let s2 := if rate < x.target then s1.raise 18 { port := some (4 * k) } else s1
  if lanesOf width < lanesOf x.cfgWidth then s2.raise 17 { port := some (4 * k) } else s2

/-- CONFIG ends: target rate and width (R287). -/
def State.configDone (s : State) (k : Nat) : State :=
  let x := s.trn k
  let target := min (s.rd OCT_FAB_CFG_MAX_RATE k) x.partnerRate
  match s.widest k (Nat.land (s.lanesOk k) x.partnerOk) with
  | none => s.bringupFailed k
  | some w =>
    let s1 := (s.setLanes k 2 w).setTrn k
      { x with target := target, cfgWidth := w, prevRate := 2, nextRate := nextRateOf 2, iter := 0, passed := 0, partnerDone := false,
               done := false, verify := false }
    if target ≤ 2 then (s1.trainTo k trSTEP).bringupDone k 2 w else s1.trainTo k trSTEP

/-- A step starts: both ends change rate (R288). -/
def State.stepStart (s : State) (k proposed : Nat) : State :=
  let x := s.trn k
  let r := min x.nextRate proposed
  if x.done ∨ r ≤ s.rd OCT_FAB_STATUS_RATE k then s
  else
    let s1 := s.setLanes k r (s.rd OCT_FAB_STATUS_WIDTH k)
    s1.setTrn k { x with prevRate := s.rd OCT_FAB_STATUS_RATE k, iter := 0, passed := 0, partnerDone := false, since := s.ns }

/-- A step that both ends have passed: the next one, or the end of bring-up (R288, R290). -/
def State.stepPassed (s : State) (k : Nat) : State :=
  let x := s.trn k
  let r := s.rd OCT_FAB_STATUS_RATE k
  let w := s.rd OCT_FAB_STATUS_WIDTH k
  let all := 2 ^ lanesOf w - 1
  if x.partnerDone ∧ Nat.land x.passed all = all ∧ !x.done then
    if r = x.target then s.bringupDone k r w
    else s.setTrn k { x with nextRate := nextRateOf r, prevRate := r, partnerDone := false, passed := 0, iter := 0, since := s.ns }
  else s

/-- A step that ends with lanes failed: choice A or B of R289; the port steps no further (log entry 39). -/
def State.stepFailed (s : State) (k okMask : Nat) : State :=
  let x := s.trn k
  let r := s.rd OCT_FAB_STATUS_RATE k
  let w := s.rd OCT_FAB_STATUS_WIDTH k
  let bad := (List.range (lanesOf w)).filter (fun l => !bit okMask l)
  let s1 := bad.foldl (fun (t : State) l =>
    let phys := if t.on OCT_FAB_STATUS_REVERSED k then t.fabWidth k - 1 - l else l
    (t.laneWr LANE_STATUS_FAIL_RATE r k phys).raise 16 { port := some (4 * k), arg := l }) s
  let a := lanesOf w * rateGbs x.prevRate
  match s1.widest k (Nat.land okMask (2 ^ lanesOf w - 1)) with
  | some wb =>
    if a < lanesOf wb * rateGbs r then s1.bringupDone k r wb
    else (s1.setLanes k x.prevRate w).setTrn k { x with verify := true, passed := 0, since := s.ns }
  | none => (s1.setLanes k x.prevRate w).setTrn k { x with verify := true, passed := 0, since := s.ns }

/-- TRAINING_BLOCK: a block arrives on a physical lane (R285 to R288). -/
def State.trainingBlock (s : State) (k lane : Nat) (raw : List Nat) : State :=
  if !s.bringing k || decide (s.fabWidth k ≤ lane) || raw.length != 32 then s
  else
    match polarity (s.laneRd LANE_CTRL_RX_POLARITY k lane) raw with
    | none => s
    | some (inv, b) =>
      if crc16 (b.take 30) ≠ bytesAt b 30 31 then s
      else
        let kind := byteAt b 2
        let ack := bit (byteAt b 17) 0
        let st := s.trState k
        let x := s.trn k
        let note (t : State) : State :=
          (t.setTrn k { t.trn k with partnerUid := bytesAt b 4 11, partnerRate := byteAt b 12, partnerOk := bytesAt b 14 15 }).wr
            OCT_FAB_STATUS_PARTNER_MAX (byteAt b 12) k
        if st = trALIGN ∧ kind = 1 then
          let s1 := ((note s).laneWr LANE_STATUS_LOCKED 1 k lane).laneWr LANE_STATUS_RX_INVERTED (b2n inv) k lane
          let s2 := (s1.laneWr LANE_STATUS_LOGICAL (byteAt b 3) k lane).syncLock (k + lane / 8)
          if ack then s2.alignDone k else s2
        else if st = trCONFIG ∧ kind = 2 then (if ack then (note s).configDone k else note s)
        else if st = trSTEP ∧ kind = 3 then
          (if bit (byteAt b 17) 1 ∧ !x.done ∧ !x.verify then (note s).stepFailed k (bytesAt b 14 15)
           else if ack then s.stepStart k (byteAt b 13) else s)
        else if st = trSTEP ∧ kind = 4 then
          (if byteAt b 16 ≤ 10 then s.laneWr LANE_STATUS_TX_PRESET (byteAt b 16) k lane else s)
        else if st = trSTEP ∧ kind = 5 ∧ ack then (s.setTrn k { x with partnerDone := true }).stepPassed k
        else if st = trSTEP ∧ kind = 6 ∧ ack ∧ x.done then s.enterActive k
        else s

/-- EQ_COUNT_DONE: error counts over 2^22 bits of logical lanes (R288, R289). -/
def State.eqCount (s : State) (k : Nat) (counts : List (Nat × Nat)) : State :=
  let x := s.trn k
  if !s.bringing k || s.trState k != trSTEP || x.done then s
  else
    let w := s.rd OCT_FAB_STATUS_WIDTH k
    let all := 2 ^ lanesOf w - 1
    let good := counts.filter (fun c => decide (c.1 < 16) && decide (c.2 ≤ s.rd OCT_FAB_CFG_EQ_ERR_LIMIT k))
    let mask := good.foldl (fun a c => setBit a c.1 true) x.passed
    if x.verify then
      (if Nat.land mask all = all then s.bringupDone k (s.rd OCT_FAB_STATUS_RATE k) w else s.bringupFailed k)
    else if s.rd OCT_FAB_STATUS_RATE k ≤ x.prevRate then s
    else
      let s1 := s.setTrn k { x with passed := mask, iter := x.iter + 1 }
      if Nat.land mask all = all then s1.stepPassed k
      else if x.iter + 1 < s.rd OCT_FAB_CFG_EQ_MAX_ITER k then s1
      else s1.stepFailed k mask

/-- BRINGUP_TIMEOUT (R291, R304). -/
def State.bringupTimeout (s : State) (k : Nat) : State :=
  let st := s.trState k
  let limit := if st = trALIGN then 2000000 else if st = trCONFIG then 200000 else 4000000
  if s.bringing k && (st == trALIGN || st == trCONFIG || st == trSTEP) && decide ((s.trn k).since + limit ≤ s.ns) then
    (s.bringupFailed k).raise 20 { port := some (4 * k) }
  else s

/-- BRINGUP_RETRY. -/
def State.bringupRetry (s : State) (k : Nat) : State :=
  if s.bringing k && s.trState k == trFAILED && decide ((s.trn k).since + 100000000 ≤ s.ns) then s.trainTo k trDETECT else s

/-! ## Test patterns (R300 to R303) -/

/-- Whether a pattern fits the signalling of a rate (R300). -/
def patternOk (rate pattern : Nat) : Bool := if rate ≤ 4 then decide (pattern ≤ 3) else pattern == 4 || pattern == 5

/-- A write of OCT_TEST (R301). -/
def State.octTestWrite (s : State) (k v : Nat) : State :=
  if bit v 31 && !s.on OCT_TEST_EN k && s.rd OCT_MODE_PORT_EN k != 0 then s
  else
    let s1 := (s.wr OCT_TEST_EN (bits v 31 31) k).wr OCT_TEST_RATE (bits v 3 0) k
    if bit v 31 then (List.range 8).foldl (fun (t : State) i => t.wr LANE_STATUS_RATE (bits v 3 0) k i) s1
    else (List.range 8).foldl (fun (t : State) i => t.wr LANE_PRBS_ERR_CHK_LOCK 0 k i) s1

/-- PRBS_INJECT: one transmitted bit inverted. -/
def State.prbsInject (s : State) (k i : Nat) : State :=
  if s.on OCT_TEST_EN k && s.on LANE_PRBS_CTRL_GEN_EN k i then s.emit (.pin 2 (8 * k + i) 1) else s

/-- PRBS_CLEAR: both counters are zeroed; errors counted in the same sample stay (R302). -/
def State.prbsClear (s : State) (k i errs : Nat) : State :=
  ((s.wr LANE_PRBS_ERR_ERRORS errs k i).wr LANE_PRBS_BITS_LO_VALUE 0 k i).wr LANE_PRBS_BITS_HI_VALUE 0 k i

/-- A write of LANE_PRBS_CTRL; a pattern that does not fit the test rate is reserved (R300). -/
def State.prbsCtrlWrite (s : State) (k i v : Nat) : State :=
  if !patternOk (s.rd OCT_TEST_RATE k) (v % 8) then s
  else
    let s1 := (((s.wr LANE_PRBS_CTRL_GEN_EN (bits v 31 31) k i).wr LANE_PRBS_CTRL_CHK_EN (bits v 30 30) k i).wr
      LANE_PRBS_CTRL_LOOPBACK (bits v 27 26) k i).wr LANE_PRBS_CTRL_PATTERN (bits v 2 0) k i
    let s2 := if bit v 30 then s1 else s1.wr LANE_PRBS_ERR_CHK_LOCK 0 k i
    let s3 := if bit v 28 then s2.prbsClear k i 0 else s2
    if bit v 29 then s3.prbsInject k i else s3

/-- PRBS_CHECKER_LOCK. -/
def State.prbsLock (s : State) (k i : Nat) : State :=
  if s.on OCT_TEST_EN k && s.on LANE_PRBS_CTRL_CHK_EN k i then s.setOn LANE_PRBS_ERR_CHK_LOCK k i else s

/-- PRBS_CHECKER_LOCK_LOSS: the bits and errors counted since lock go into the counters (R302). -/
def State.prbsLockLoss (s : State) (k i nbits errs : Nat) : State :=
  if s.on LANE_PRBS_ERR_CHK_LOCK k i then
    let n := s.rd LANE_PRBS_BITS_LO_VALUE k i + s.rd LANE_PRBS_BITS_HI_VALUE k i * 2 ^ 32 + nbits
    (((s.wr LANE_PRBS_ERR_CHK_LOCK 0 k i).wr LANE_PRBS_ERR_ERRORS (min (s.rd LANE_PRBS_ERR_ERRORS k i + errs) (2 ^ 31 - 1)) k i).wr
      LANE_PRBS_BITS_LO_VALUE n k i).wr LANE_PRBS_BITS_HI_VALUE (n / 2 ^ 32) k i
  else s

end Sys2Proof.Machine
end

