-- ==== Sys2Proof/Machine/BridgeOps.lean ====
section
/-! DEFINITION. The bridge's own events: prefetch fills and timeouts (R384, R394, R395), host windows (R409), cue pin modes
(R401, R402), and mirror words (R404 to R411). -/

namespace Sys2Proof.Machine

/-! ## Timeouts (R383, R384) -/

/-- The reads that have waited for a line for NP_TIMEOUT, answered with UR (R384, log entry 27). -/
def State.waitTimeouts (s : State) : State :=
  let due := s.brg.waits.filter (fun w => decide (w.at_ + s.npTimeout ≤ s.ns))
  due.foldl (fun (t : State) w => ((t.hostAnswer w.r cplUR false []).inc BRG_READ_TIMEOUTS_VALUE).raise 91)
    { s with brg := { s.brg with waits := s.brg.waits.filter (fun w => decide (s.ns < w.at_ + s.npTimeout)) } }

/-- A request under a TAG ends as its timer ends it (R384). -/
def State.bridgeExpire (s : State) (tag : Nat) (e : NpEnt) : State :=
  let free := s.setNp tag none
  match e.owner with
  | .host r => ((free.hostAnswer r cplUR false []).inc BRG_READ_TIMEOUTS_VALUE).raise 91
  | .fabric did stream t addr _ fbe lbe =>
    ((free.ownerReply did stream t addr fbe lbe 0 stREMOTE_ERROR false []).inc BRG_READ_TIMEOUTS_VALUE).raise 91
  | .line n => (match SMap.get free.brg.lines n none with
    | some l => if l.tag = tag ∧ !l.filled then free.discardLine n else free
    | none => free)
  | .mirror q idx _ => free.withDesc q idx (fun d => free.finish q d stREMOTE_UNREACHABLE)
  | _ => s

/-- BRIDGE_NP_TIMEOUT: a request under a TAG has had no fabric completion (R384). -/
def State.bridgeTimeout (s : State) (tag : Nat) : State :=
  let s0 := s.waitTimeouts
  match s0.np tag with
  | none => s0
  | some e => if s0.ns < e.issued + s0.npTimeout ∨ e.port.isSome then s0 else s0.bridgeExpire tag e

/-- ISSUED_REQUEST_TIMEOUT: a request that the device issued at a PCIe port gets no completion in time (R383). -/
def State.issuedTimeout (s : State) (n : Nat) : State :=
  match s.np n with
  | some e =>
    if e.port.isNone then s
    else
      match e.owner with
      | .fabric did stream tag addr _ fbe lbe =>
        (s.setNp n none).ownerReply did stream tag addr fbe lbe (e.port.getD 0) stREMOTE_ERROR false []
      | _ => s.setNp n none
  | none => s

/-! ## Prefetch (R393 to R395) -/

/-- PREFETCH_FILL: the completion of a line's READ; the reads that wait for the line are answered. -/
def State.prefetchFill (s : State) (tag status : Nat) (poison : Bool) (data : List Nat) : State :=
  match s.np tag with
  | none => s
  | some e =>
    match e.owner with
    | .line n =>
      let s1 := s.setNp tag none
      match SMap.get s1.brg.lines n none with
      | none => s1
      | some l =>
        if l.tag ≠ tag ∨ l.filled then s1
        else if status ≠ stOK then s1.discardLine n
        else
          let s2 := s1.setLine n (some { l with filled := true, poison := poison, data := data })
          let ready := s2.brg.waits.filter (fun w => w.line == n)
          ready.foldl (fun (t : State) w => t.hostAnswer w.r cplSC poison (readBack w.r w.a ((data.drop (w.a - l.base)).take w.n)))
            { s2 with brg := { s2.brg with waits := s2.brg.waits.filter (fun w => w.line != n) } }
    | _ => s

/-- PREFETCH_LINE_EXPIRE: lines issued before the latest tick edge (R394). -/
def State.expireLines (s : State) : State := s.discardLines (fun l => decide (l.tick < s.time.tick))

/-! ## Host windows (R385, R409) -/

/-- The pool entry of a domain's slot. -/
def State.windowAt (s : State) (hd slot : Nat) : Option (Nat × Window) :=
  s.brg.windows.findSome? (fun e =>
    match e.2 with
    | some w => if w.hd = hd ∧ w.slot = slot then some (e.1, w) else none
    | none => none)

/-- A pool entry set or freed; the lines of the old window are discarded (R394). -/
def State.setWindow (s : State) (n : Nat) (w : Option Window) : State :=
  let s1 := match SMap.get s.brg.windows n none with
    | some o => s.discardLines (fun l => l.hd == o.hd && l.slot == o.slot)
    | none => s
  let m := SMap.set s1.brg.windows n w none
  { s1 with brg := { s1.brg with windows := m } }.wr BRG_WINDOWS_USED_COUNT m.length

/-- The window a WINDOW_SET describes. -/
def Desc.window (d : Desc) : Window :=
  { hd := bytesAt d.img 42 43, slot := byteAt d.img 41, base := d.source, log := byteAt d.img 44, fab := d.dest, attr := bytesAt d.img 46 47 }

/-- The reserved bytes of every WINDOW_SET. -/
def Desc.windowOk (d : Desc) : Bool :=
  d.flagsOk && d.zero 24 39 && d.zero 45 45 && d.zero 48 63 && decide (bytesAt d.img 42 43 < 1024)

/-- The range, alignment and overlap rules of R385 and R409. -/
def State.windowFits (s : State) (w : Window) : Bool :=
  let n := 2 ^ w.log
  decide (12 ≤ w.log) && decide (w.log ≤ 63) && w.base % n == 0 && w.fab % 4096 == 0 && decide (w.fab % 2 ^ 52 + n ≤ 2 ^ 52)
    && bits w.attr 2 1 != 3 && bits w.attr 4 3 != 3 && decide (bits w.attr 10 9 < 2)
    && s.brg.windows.all (fun e => match e.2 with
        | some o => o.hd != w.hd || o.slot == w.slot || decide (o.base + 2 ^ o.log ≤ w.base) || decide (w.base + n ≤ o.base)
        | none => true)

/-- WINDOW_SET. -/
def State.windowSet (s : State) (q idx : Nat) : State :=
  s.withDesc q idx fun d =>
    let w := d.window
    s.guardDesc q d (d.windowOk && s.windowFits w)
      (match s.windowAt w.hd w.slot with
       | some (n, _) => (s.setWindow n (some w)).finish q d stOK
       | none =>
         let n := lowestFree s.brg.windows 0
         if n < 65536 then (s.setWindow n (some w)).finish q d stOK else s.finish q d stRESOURCE_LIMIT)

/-- WINDOW_CLEAR. -/
def State.windowClear (s : State) (q idx : Nat) : State :=
  s.withDesc q idx fun d =>
    let w := d.window
    let old := s.windowAt w.hd w.slot
    s.guardDesc q d (d.windowOk && d.zero 8 23 && d.zero 44 47 && old.isSome)
      (match old with
       | some (n, _) => (s.setWindow n none).finish q d stOK
       | none => s)

/-- The image of a window: the words of table 0x70 (R414, log entry 40). -/
def windowImage (w : Option Window) : List Nat :=
  match w with
  | none => List.replicate 24 0
  | some w => leBytes 4 (w.attr + w.log * 2 ^ 16 + 2 ^ 31) ++ leBytes 4 (w.hd + w.slot * 2 ^ 16) ++ leBytes 8 w.base ++ leBytes 8 w.fab

/-- WINDOW_READ. -/
def State.windowRead (s : State) (q idx : Nat) : State :=
  s.withDesc q idx fun d =>
    s.guardDesc q d (d.windowOk && d.zero 8 23 && d.zero 44 47)
      (s.finishData q d (windowImage ((s.windowAt d.window.hd d.window.slot).map (·.2))))

/-! ## Cue pins (R401, R402) -/

/-- The level at a cue pin's ball at a tick sample: `ball` for a pin that does not drive (R60, R401, R402). -/
def State.cueLevel (s : State) (n : Nat) (ball : Bool) : Bool :=
  let p := s.pin n
  if p.mode = 1 then (if p.edgeAt = s.ns then p.before else p.level)
  else if p.mode = 2 then p.level
  else if p.mode = 3 ∧ s.rd CUE_PIN_CFG_REST n = 2 then false
  else if p.mode = 3 ∧ s.rd CUE_PIN_CFG_REST n = 3 then true
  else ball

/-- The pins sampled at a tick edge; `cues` gives the levels that the board drives (R60, R402). -/
def State.cueSample (s : State) (cues : Nat) : State :=
  let v := sum ((List.range 48).map (fun n => b2n (s.cueLevel n (bit cues n)) * 2 ^ n))
  (s.wr CUE_IN_LO_VALUE v).wr CUE_IN_HI_VALUE (v / 2 ^ 32)

/-- A pin's mode change taken at a tick edge (R401). -/
def State.cueMode (s : State) (n : Nat) : State :=
  let p := s.pin n
  let m := s.rd CUE_PIN_CFG_MODE n
  if p.mode = m then s
  else
    let s1 := if p.mode = 1 then s.clearPin n else s
    let p1 := s1.pin n
    let lvl := if m = 1 then s1.on CUE_PIN_CFG_OUT_INIT n else p1.level
    let s2 := s1.setPin n { p1 with mode := m, level := lvl, before := lvl, next := bit (s1.rd MW_VALUE_VALUE (s1.rd CUE_PIN_CFG_MW n)) (s1.rd CUE_PIN_CFG_BIT n) }
    if m = 1 then s2.emit (.pin 9 n (b2n lvl)) else if m = 3 then s2.emit (.pin 9 n (s2.rd CUE_PIN_CFG_REST n)) else s2

/-- A follow output at a tick edge: it drives the bit as it stood after the previous tick sample (R402). -/
def State.cueFollow (s : State) (n : Nat) : State :=
  let p := s.pin n
  if p.mode = 2 then
    let s1 := s.setPin n { p with level := p.next, before := p.level, edgeAt := s.ns,
                                  next := bit (s.rd MW_VALUE_VALUE (s.rd CUE_PIN_CFG_MW n)) (s.rd CUE_PIN_CFG_BIT n) }
    if p.next = p.level then s1 else s1.emit (.pin 9 n (b2n p.next))
  else s

/-- The cue pins at a tick edge: the modes, the follow outputs. -/
def State.cueTick (s : State) : State :=
  (List.range 48).foldl (fun (t : State) n => t.cueFollow n) ((List.range 48).foldl (fun (t : State) n => t.cueMode n) s)

/-! ## Mirror words (R404 to R408) -/

/-- A mirror word. -/
def State.mirror (s : State) (w : Nat) : Mirror := SMap.get s.cue.mirrors w {}

/-- A mirror word replaced. -/
def State.setMirror (s : State) (w : Nat) (m : Mirror) : State :=
  { s with cue := { s.cue with mirrors := SMap.set s.cue.mirrors w m {} } }

/-- The effective period: the larger of a producer's and its consumer's; a consumer knows its own (R406, log entry 42). -/
def Mirror.effP (m : Mirror) : Nat := max m.period m.peerP

/-- A write of MW_VALUE: only a producer with SOURCE register takes it (R405). -/
def State.mwWrite (s : State) (w v : Nat) : State :=
  let m := s.mirror w
  if m.role = 1 ∧ m.source = 0 then s.wr MW_VALUE_VALUE v w else s

/-- Producers whose source is cue pins take the levels of the tick sample (R405). -/
def State.mirrorSample (s : State) : State :=
  s.cue.mirrors.foldl (fun (t : State) e =>
    if e.2.role = 1 ∧ e.2.source = 1 then t.wr MW_VALUE_VALUE (t.rd CUE_IN_LO_VALUE) e.1
    else if e.2.role = 1 ∧ e.2.source = 2 then t.wr MW_VALUE_VALUE (t.rd CUE_IN_HI_VALUE) e.1
    else t) s

/-- A consumer is offered an entry of a producer (R407). -/
def State.mirrorTake (s : State) (did producer tick w v : Nat) : State :=
  let m := s.mirror w
  if m.role = 2 ∧ m.bound ∧ m.peerDid = did ∧ m.peerWord = producer ∧ m.lastTick < tick then
    (s.setMirror w { m with lastTick := tick, since := s.time.tick, stale := false }).wr MW_VALUE_VALUE v w
  else s

/-- The entries of a MIRROR payload after its tick number. -/
def mirrorEntries : Nat → List Nat → List (Nat × Nat × Nat)
  | 0, _ => []
  | n + 1, b => if b.length < 8 then [] else
      (bytesAt b 0 1 % 4096, bytesAt b 2 3 % 4096, bytesAt b 4 7) :: mirrorEntries n (b.drop 8)

/-- MIRROR_PACKET (R406, R407). -/
def State.mirrorIn (s : State) (did : Nat) (data : List Nat) : State :=
  (mirrorEntries 511 (data.drop 8)).foldl (fun (t : State) e => t.mirrorTake did e.2.1 (bytesAt data 0 7) e.1 e.2.2) s

/-- MIRROR packets of at most 511 entries to one device (R406); the TC stands in the stream ID (log entry 43). -/
def State.mirrorPackets (s : State) (did : Nat) : Nat → List (List Nat) → State
  | 0, _ => s
  | n + 1, es =>
    if es.isEmpty then s
    else
      let st := 0xFFF00000 + s.rd MW_CTRL_TC * 8
      let k := fabPkt { type := tMIRROR, dst := did, src := s.did, stream := st } (leBytes 8 s.time.tick ++ (es.take 511).flatten)
      ((s.sendOwn k).2).mirrorPackets did n (es.drop 511)

/-- MIRROR_SEND: the producers whose period is due at the latest tick edge send their values (R406, R66). -/
def State.mirrorSend (s : State) : State :=
  let due := s.cue.mirrors.filter (fun e => e.2.role == 1 && e.2.bound && (s.time.tick % max 1 e.2.effP == 0 || e.2.due))
  let s0 := due.foldl (fun (t : State) e => t.setMirror e.1 { e.2 with due := false }) s
  let s1 := (due.filter (fun e => e.2.peerDid == s.did)).foldl (fun (t : State) e =>
    t.mirrorTake s.did e.1 s.time.tick e.2.peerWord (t.rd MW_VALUE_VALUE e.1)) s0
  let far := due.filter (fun e => e.2.peerDid != s.did)
  let dids := (far.map (fun e => e.2.peerDid)).eraseDups
  dids.foldl (fun (t : State) d =>
    let es := (far.filter (fun e => e.2.peerDid == d)).map (fun e =>
      leBytes 2 e.2.peerWord ++ leBytes 2 e.1 ++ leBytes 4 (t.rd MW_VALUE_VALUE e.1))
    t.mirrorPackets d 9 es) s1

/-- The mirror job of a tick is abandoned: its words are sent on the next tick (R66). -/
def State.mirrorSkip (s : State) : State :=
  s.cue.mirrors.foldl (fun (t : State) e =>
    if e.2.role = 1 ∧ e.2.bound ∧ s.time.tick % max 1 e.2.effP = 0 then t.setMirror e.1 { e.2 with due := true } else t) s

/-- MIRROR_STALE: no accepted entry for 4 × P ticks (R407). -/
def State.mirrorStale (s : State) (w : Nat) : State :=
  let m := s.mirror w
  if m.role = 2 ∧ m.bound ∧ !m.stale ∧ m.since + 4 * m.effP ≤ s.time.tick then
    (s.setMirror w { m with stale := true }).raise 108 { arg := w }
  else s

/-- A consumer is asked to bind to a producer: its period, or none where it refuses (R408). -/
def State.consumerBind (s : State) (did producer w : Nat) : Option State :=
  let m := s.mirror w
  if m.role = 2 ∧ (!m.bound ∨ (m.peerDid = did ∧ m.peerWord = producer)) then
    some (s.setMirror w { m with bound := true, peerDid := did, peerWord := producer, since := s.time.tick })
  else none

/-- A consumer's binding removed. -/
def State.consumerUnbind (s : State) (did producer w : Nat) : State :=
  let m := s.mirror w
  if m.role = 2 ∧ m.bound ∧ m.peerDid = did ∧ m.peerWord = producer then
    s.setMirror w { m with bound := false, peerDid := 0, peerWord := 0, stale := false }
  else s

/-- MW_BIND from a device (R380, R408). -/
def State.mwBind (s : State) (h : FabHdr) (p : Nat) (data : List Nat) : State :=
  let w := bits (bytesAt data 0 3) 27 16
  match s.consumerBind h.src (bytesAt data 4 7 % 4096) w with
  | some t => t.answerFab p h stOK (leBytes 4 (t.mirror w).period)
  | none => s.answerFab p h stNOT_PERMITTED

/-- MW_UNBIND from a device. -/
def State.mwUnbind (s : State) (h : FabHdr) (p : Nat) (data : List Nat) : State :=
  (s.consumerUnbind h.src (bytesAt data 4 7 % 4096) (bits (bytesAt data 0 3) 27 16)).answerFab p h stOK

/-- MW_PERIOD from a consumer's device: the producer's effective period follows (R408). -/
def State.mwPeriod (s : State) (did : Nat) (data : List Nat) : State :=
  let w := bits (bytesAt data 0 3) 27 16
  let m := s.mirror w
  if m.role = 1 ∧ m.bound ∧ m.peerDid = did then s.setMirror w { m with peerP := bytesAt data 4 7 % 65536 } else s

/-- The producer word of a MIRROR_BIND. -/
def Desc.mirWord (d : Desc) : Nat := bytesAt d.img 42 43

/-- The layout of MIRROR_BIND (R410). -/
def Desc.mirOk (d : Desc) : Bool :=
  d.flagsOk && d.zero 8 15 && bits d.dest 51 12 == 0 && d.zero 24 39 && d.zero 41 41 && decide (d.mirWord < 4096) && d.zero 44 63

/-- A ring's request to the consumer's device: MW_BIND or MW_UNBIND, under a non-posted entry. -/
def State.mirrorAsk (s : State) (q : Nat) (d : Desc) (did consumer code : Nat) : State :=
  match s.npFree with
  | none => s
  | some tag =>
    let h : FabHdr := { type := tMESSAGE, dst := did, src := s.did, stream := s.ringStream q d, tag := tag }
    let k := fabPkt h (leBytes 4 (code + consumer * 2 ^ 16) ++ leBytes 4 d.mirWord)
    match s.ringSend ((s.qp q).fn.getD 0) { k with owner := .mirror q d.idx d.mirWord } with
    | .ok t => t.setDesc q { d with outstanding := 1 }
    | .failed t st => t.finish q d (if st = stREMOTE_UNREACHABLE then st else stREMOTE_UNREACHABLE)
    | .wait => s

/-- MIRROR_BIND (R408, R410). -/
def State.mirrorBind (s : State) (q idx : Nat) : State :=
  s.withDesc q idx fun d =>
    let m := s.mirror d.mirWord
    let did := d.dest / 2 ^ 52 % 4096
    let w := d.dest % 4096
    if d.outstanding ≠ 0 then s
    else
      s.guardDesc q d d.mirOk
        (if m.role ≠ 1 ∨ m.bound ∨ (s.qp q).fn ≠ some (ownerFn m.owner) then s.finish q d stNOT_PERMITTED
         else if did = s.did then
           match s.consumerBind did d.mirWord w with
           | none => s.finish q d stNOT_PERMITTED
           | some t =>
             let m' := { m with bound := true, peerDid := did, peerWord := w, peerP := (t.mirror w).period }
             (t.setMirror d.mirWord m').finish q d stOK
         else s.mirrorAsk q d did w 0x20)

/-- MIRROR_UNBIND (R410): of the binding that bytes 16 to 23 name (log entry 41). -/
def State.mirrorUnbind (s : State) (q idx : Nat) : State :=
  s.withDesc q idx fun d =>
    let m := s.mirror d.mirWord
    let did := d.dest / 2 ^ 52 % 4096
    let w := d.dest % 4096
    if d.outstanding ≠ 0 then s
    else
      s.guardDesc q d d.mirOk
        (if m.role ≠ 1 ∨ !m.bound ∨ m.peerDid ≠ did ∨ m.peerWord ≠ w ∨ (s.qp q).fn ≠ some (ownerFn m.owner) then
           s.finish q d stNOT_PERMITTED
         else
           let s1 := s.setMirror d.mirWord { m with bound := false, peerDid := 0, peerWord := 0, peerP := 0, due := false }
           if did = s.did then (s1.consumerUnbind did d.mirWord w).finish q d stOK else s1.mirrorAsk q d did w 0x21)

/-- The consumer's answer to a MIRROR_BIND or MIRROR_UNBIND (R410). -/
def State.mirrorAnswer (s : State) (q idx w : Nat) (e : NpEnt) (status : Nat) (data : List Nat) : State :=
  s.withDesc q idx fun d =>
    if d.op40 = 1 ∧ status = stOK then
      (s.setMirror w { s.mirror w with bound := true, peerDid := e.dst, peerWord := d.dest % 4096, peerP := bytesAt data 0 3 }).finish
        q d stOK
    else s.finish q d status

/-- MIRROR_SAMPLE_SET (R411). -/
def State.mirrorSampleSet (s : State) (q idx : Nat) : State :=
  s.withDesc q idx fun d =>
    let role := d.op40
    let src := byteAt d.img 41
    let first := bytesAt d.img 42 43
    let n := bytesAt d.img 44 45
    let period := bytesAt d.img 46 47
    let owner := bytesAt d.img 48 49
    let ownOk := if bit owner 15 then bits owner 14 5 == 0 else decide (owner < 2048)
    let ok := d.flagsOk && d.zero 8 39 && d.zero 50 63 && decide (role ≤ 2) && decide (src ≤ 2) && (role == 1 || src == 0)
      && decide (1 ≤ n) && decide (first + n ≤ 4096) && decide (1 ≤ period) && ownOk
    let ws := (List.range n).map (first + ·)
    s.guardDesc q d ok
      (if ws.any (fun w => (s.mirror w).bound && (s.mirror w).role != role) then s.finish q d stNOT_PERMITTED
       else
         (ws.foldl (fun (t : State) w =>
           let m := t.mirror w
           let t1 := t.setMirror w { m with role := role, source := src, period := period, owner := owner }
           if m.bound ∧ role = 2 ∧ m.period ≠ period then
             if m.peerDid = t1.did then t1.setMirror m.peerWord { t1.mirror m.peerWord with peerP := period }
             else t1.sendMsg m.peerDid 0 (leBytes 4 (0x22 + m.peerWord * 2 ^ 16) ++ leBytes 4 period)
           else t1) s).finish q d stOK)

/-- A write of the domain table's MSI range (R414): the base is aligned to the range. -/
def State.domainWrite (s : State) (hd base log : Nat) : State :=
  if 12 ≤ log ∧ log ≤ 32 ∧ base % 2 ^ log = 0 then
    s.setHerd (fun h => { h with doms := SMap.set h.doms hd { (SMap.get h.doms hd {}) with msiBase := base, msiLog := log } {} })
  else s

end Sys2Proof.Machine
end

