-- ==== Sys2Proof/Machine/Adapt.lean ====
section
/-! DEFINITION. The adaptation engine (R492 to R496). -/

namespace Sys2Proof.Machine

/-- What the engine counts of every queue with bounds at a tick edge: edges with nothing queued, one after another. -/
def Queue.countEmpty (q : Queue) : Queue := { q with decay := if q.depth = 0 then q.decay + 1 else 0 }

/-- A PBS scaled by the ratio of two PIRs; where it is no whole number of bytes the spec does not say which neighbour
is taken, so `up` is free (R493; log entry 50). -/
def scalePbs (pbs new old up : Nat) : Nat :=
  let x := pbs * new
  x / max 1 old + (if x % max 1 old = 0 then 0 else up)

/-- The decision for a queue at a tick edge with sojourn `now` in ns (R493, R494); `back` tells that its count of empty
edges restarts. -/
def Queue.decide_ (q : Queue) (decay now up : Nat) : Option AdaptChange × Bool :=
  match q.bounds with
  | none => (none, false)
  | some b =>
    if b.target = 1 then
      let p := q.sh.actPir
      let host := max b.pirFloor (min b.pirCeil q.sh.hostPir)
      let pbs (new : Nat) : Nat := max b.pbsFloor (min b.pbsCeil (scalePbs q.sh.actPbs new p up))
      if 100 * b.sojourn < now ∧ q.lastSojourn < now ∧ p < b.pirCeil then
        let new := min b.pirCeil (p + ceilDiv p 4)
        (some (.pair new (pbs new)), false)
      else if decay ≤ q.decay ∧ host < p then
        let new := max host (p - ceilDiv p 8)
        (some (.pair new (pbs new)), true)
      else (none, false)
    else if !b.ovfAllowed then (none, false)
    else if 100 * b.sojourn < now then (some (.ovf true), false)
    else if !q.spill ∧ decay ≤ q.decay then (some (.ovf q.hostOvf), true)
    else (none, false)

/-- The queues with bounds, in ascending number from `a` on and then from the lowest. -/
def State.boundQueues (s : State) (a : Nat) : List Nat :=
  let l := (s.sch.queues.filter (fun e => e.2.bounds.isSome)).map (·.1)
  l.filter (a ≤ ·) ++ l.filter (· < a)

/-- One queue evaluated (R493, R494). -/
def State.adaptQueue (s : State) (n : Nat) : State :=
  let q := s.queue n
  let x := q.decide_ (s.rd ADAPT_CFG_DECAY_TICKS) (s.sojourn q) (s.freeVal 2)
  match x.1 with
  | none => s
  | some c => s.useFree.setQueue n { q with adaptNext := some c, decay := if x.2 then 0 else q.decay }

/-! ## Re-routing (R495) -/

/-- BACK_STARVED slots and SLOTS of a port in the latest shadow. -/
def State.starved (s : State) (p : Nat) : Nat × Nat :=
  (SMap.get s.obs.backShadow p 0 % 2 ^ 48, SMap.get s.obs.shd (obsKey p 0) 0 % 2 ^ 48)

/-- Whether a port's rating exceeds `pct` percent. -/
def ratedOver (r : Nat × Nat) (pct : Nat) : Bool := decide (pct * r.2 < 100 * r.1)

/-- Whether a port's rating is below half of `pct` percent. -/
def ratedLow (r : Nat × Nat) (pct : Nat) : Bool := r.1 == 0 || decide (200 * r.1 < pct * r.2)

/-- Whether the first rating is below the second. -/
def ratedLess (a b : Nat × Nat) : Bool := decide (a.1 * max 1 b.2 < b.1 * max 1 a.2)

/-- The hop to which the engine moves a flow entry: the lowest-rated one, when its current hop is hot (R495). -/
def State.rerouteTo (s : State) (i : Nat) (e : FlowEnt) : Option Nat :=
  match s.flowRec i with
  | none => none
  | some r =>
    let rt := s.route r.dst
    let pct := s.rd ADAPT_CFG_REROUTE_PCT
    if !e.reroutable || s.moving e.src e.stream then none
    else
      match s.hopPos r.dst e.src e.stream (if e.hopEn then some e.hop else none) with
      | none => none
      | some h =>
        let others := rt.positions.filter (· != h)
        let rate (k : Nat) : Nat × Nat := s.starved (rt.hop k)
        if ratedOver (rate h) pct && others.any (fun k => ratedLow (rate k) pct) then
          others.foldl (fun (a : Option Nat) k => match a with
            | none => some k
            | some b => if ratedLess (rate k) (rate b) then some k else a) none
        else none

/-- The moves the engine stages: it looks at 8,192 flow entries in round-robin order. -/
def State.scanFlows (s : State) : State :=
  let a := s.chm.scanAt
  let seen := s.fwd.flows.filter (fun e => decide ((e.1 + 2097152 - a) % 2097152 < 8192))
  let picks := seen.filterMap (fun e => e.2.bind (fun f => (s.rerouteTo e.1 f).map (fun h => (e.1, h))))
  let order := (sortBy (picks.map (fun x => ((x.1 + 2097152 - a) % 2097152, x)))).map (·.2)
  { s with chm := { s.chm with scanAt := (a + 8192) % 2097152, stagedMoves := order.take (s.rd ADAPT_CFG_MOVES_PER_TICK) } }

/-! ## The tick -/

/-- The staged decisions and moves of the past interval take effect at a tick edge, or are abandoned (R66, R492). -/
def State.adaptApply (s : State) (missed : Bool) : State :=
  let on := s.on SCHED_CTRL_ADAPT_EN && !missed
  let qs := (s.sch.queues.filter (fun e => e.2.adaptNext.isSome)).map (·.1)
  let s1 := qs.foldl (fun (t : State) n => if on then t.applyAdapt n else t.setQueue n { t.queue n with adaptNext := none }) s
  let mv := s1.chm.stagedMoves
  let s2 : State := { s1 with chm := { s1.chm with stagedMoves := [] } }
  let go (x : State × Nat) (m : Nat × Nat) : State × Nat :=
    match x.1.flowAt m.1, x.1.flowRec m.1 with
    | some e, some r =>
      if x.1.moving e.src e.stream then x
      else
        match x.1.startMove e.src e.stream r (some m.2) (.engine m.2) with
        | some t => (t, x.2 + 1)
        | none => x
    | _, _ => x
  let z := if on then mv.foldl go (s2, 0) else (s2, 0)
  z.1.wr ADAPT_STATUS_MOVES z.2

/-- The engine reads the shadows and the samples of a tick edge and stages its decisions. How many queues it evaluates
before 75 % of the tick has elapsed is free; it resumes there in the following tick (R492; log entry 50). -/
def State.adaptStage (s : State) : State :=
  let qs := s.boundQueues s.chm.adaptAt
  let s0 := qs.foldl (fun (t : State) n => t.setQueue n (t.queue n).countEmpty) s
  let s1 :=
    if s0.on SCHED_CTRL_ADAPT_EN then
      let k := s0.freeVal (qs.length + 1)
      let t := (qs.take k).foldl (fun (t : State) n => t.adaptQueue n) s0.useFree
      let t1 : State := { t with chm := { t.chm with adaptAt := qs.getD k 0 } }
      (t1.wr ADAPT_STATUS_EVALUATED k).scanFlows
    else s0.wr ADAPT_STATUS_EVALUATED 0
  qs.foldl (fun (t : State) n => t.setQueue n { t.queue n with lastSojourn := t.sojourn (t.queue n) }) s1

end Sys2Proof.Machine
end

