-- ==== Sys2Proof/Machine/CoreOps.lean ====
section
/-! DEFINITION. The Chamois cores: their address map and protection units, memory and fabric accesses, fences,
freezes, watchdogs and counters (R480 to R491, R497 to R513, R515 to R517). -/

namespace Sys2Proof.Machine

/-- A core. -/
def State.core (s : State) (c : Nat) : Core := SMap.get s.chm.cores c {}

/-- A core replaced. -/
def State.setCore (s : State) (c : Nat) (x : Core) : State :=
  { s with chm := { s.chm with cores := SMap.set s.chm.cores c x {} } }

/-- CH_STATUS.STATE of a core: 0 in reset, 1 running, 2 frozen, 3 halted. -/
def State.coreState (s : State) (c : Nat) : Nat := s.rd CH_STATUS_STATE / 4 ^ c % 4

/-- CH_STATUS.STATE of a core set. -/
def State.setCoreState (s : State) (c v : Nat) : State :=
  s.wr CH_STATUS_STATE (setBits (s.rd CH_STATUS_STATE) (2 * c + 1) (2 * c) v)

/-- Whether a core executes: it runs and waits for no fabric load and no FENCE.SYS (R485, R501). -/
def State.coreFree (s : State) (c : Nat) : Bool :=
  decide (c < 8) && s.coreState c == 1 && (s.core c).load.isNone && (s.core c).fence.isNone

/-- A core takes an exception or interrupt: mcause and mtval are set (R485). -/
def State.coreTrap (s : State) (c cause val : Nat) : State :=
  (s.setCore c { s.core c with mcause := cause, mtval := val }).emit (.trap c cause val)

/-! ## Performance counters (R515 to R517) -/

/-- Whether a counter's MINH, SINH or UINH stops it in a mode. -/
def hpmInhibited (ev mode : Nat) : Bool :=
  if mode = 3 then bit ev 62 else if mode = 1 then bit ev 61 else bit ev 60

/-- Counter `i` (3 to 8) of a core overflows: OF is set and the counter-overflow interrupt raised (R515). -/
def State.counterOverflow (s : State) (c i : Nat) : State :=
  let x := s.core c
  let ev := SMap.get x.hpmEvent i 0
  if 8 ≤ c ∨ i < 3 ∨ 8 < i ∨ s.coreState c ≠ 1 ∨ bit ev 63 then s
  else s.setCore c { x with hpm := SMap.set x.hpm i 0 0, hpmEvent := SMap.set x.hpmEvent i (ev + 2 ^ 63) 0, ofPending := true }

/-- Event `e` counted once by the counters of a core that select it. -/
def State.coreCount (s : State) (c e mode : Nat) : State :=
  [3, 4, 5, 6, 7, 8].foldl (fun (t : State) i =>
    let x := t.core c
    let ev := SMap.get x.hpmEvent i 0
    if ev % 256 = e ∧ e ≠ 0 ∧ !hpmInhibited ev mode then
      let v := SMap.get x.hpm i 0
      if v + 1 = 2 ^ 64 then (t.setCore c { x with hpm := SMap.set x.hpm i 0 0 }).counterOverflow c i
      else t.setCore c { x with hpm := SMap.set x.hpm i (v + 1) 0 }
    else t) s

/-! ## The address map (R483) -/

/-- Where a core's address leads. -/
inductive CoreTgt where
  /-- a byte memory, at the address at which every core reaches it -/
  | mem (a : Nat)
  /-- the setup space -/
  | setup (off : Nat)
  /-- the fabric window: DID slot and ADDRESS -/
  | fabric (slot a : Nat)
  | none
deriving DecidableEq, Repr

/-- The target of an address for core `c`. -/
def coreTgt (c a : Nat) : CoreTgt :=
  if a < 0x20000 then .mem (0x10000000 + 0x20000 * c + a)
  else if 0x10000000 ≤ a ∧ a < 0x10100000 then .mem a
  else if 0x40000000 ≤ a ∧ a < 0x40800000 then .mem a
  else if 0x100000000 ≤ a ∧ a < 0x101000000 then .setup (a - 0x100000000)
  else if 0x80000000000000 ≤ a ∧ a < 0x100000000000000 then .fabric (bits a 54 52) (a % 2 ^ 52)
  else .none

/-- The permissions of the default map: bit 0 read, 1 write, 2 execute (R483). -/
def coreDefault (c a : Nat) : Nat :=
  if a < 0x10000 then 7
  else if a < 0x20000 then 3
  else
    match coreTgt c a with
    | .mem _ => if a < 0x40000000 then 3 else if (a < 0x40400000) = (c < 4) then 7 else 3
    | .setup _ => 3
    | .fabric _ _ => 3
    | .none => 0

/-! ## The protection unit (R503 to R507) -/

/-- The image of region `r` of a core's MPU. -/
def State.coreRegion (s : State) (c r : Nat) : Nat :=
  sum ([0, 1, 2, 3].map (fun w => s.rd CORE_MPU_REGION_VALUE c (4 * r + w) * 2 ^ (32 * w)))

/-- The regions of a core's MPU that apply to a mode. -/
def State.coreRegions (s : State) (c mode : Nat) : List (Nat × Nat) :=
  ((List.range 16).map (fun r => (r, s.coreRegion c r))).filter (fun e => imgValid e.2 && (mode == 0 || !bit (imgPerm e.2) 3))

/-- The permissions that an access needs: bit 0 read, 1 write, 2 execute. LR reads and SC writes (log entry 46). -/
def CoreAcc.needs (x : CoreAcc) : Nat :=
  match x.kind with
  | 0 => 1
  | 1 => 2
  | 2 => 4
  | _ => if x.op = 2 then 1 else if x.op = 3 then 2 else 3

/-- Whether one byte of an access is allowed, and the region that decided (31: none). The address of a core's access is
a core address, so regions of that space decide it (R505, R506). -/
def State.coreByte (s : State) (c : Nat) (x : CoreAcc) (a : Nat) : Bool × Nat :=
  let ok (p : Nat) : Bool := Nat.land p x.needs == x.needs
  match decider (s.coreRegions c x.mode) 0 a with
  | some (r, i) => (ok (imgPerm i), r)
  | none => (x.mode != 0 && ok (coreDefault c a), 31)

/-- The first forbidden byte of an access with its region. -/
def State.coreBad (s : State) (c : Nat) (x : CoreAcc) : Option (Nat × Nat) :=
  (List.range x.n).findSome? (fun k =>
    let y := s.coreByte c x (x.addr + k)
    if y.1 then none else some (x.addr + k, y.2))

/-- Whether an access uses the exempt path to the core's own MPU and freeze registers (R509). -/
def coreExempt (c : Nat) (x : CoreAcc) : Bool :=
  match coreTgt c x.addr with
  | .setup o =>
    let b := 0x600000 + 0x1000 + 0x400 * c
    decide (x.kind < 2) && (o == b || (decide (b + 0x10 ≤ o) && decide (o < b + 0x1C)) || (decide (b + 0x100 ≤ o) && decide (o < b + 0x200)))
  | _ => false

/-! ## Freezes (R489, R510) -/

/-- The applets that run on a core. -/
def State.appletsOn (s : State) (c : Nat) : List Nat :=
  (List.range 6).filter (fun k => s.rd APPLET_STATUS_STATE k == 2 && s.rd APPLET_STATUS_CORE k + 4 == c)

/-- The applets of a core become FAULTED; what their hooks wrote is discarded. -/
def State.faultApplets (s : State) (c : Nat) : State :=
  let l := s.appletsOn c
  let s1 := l.foldl (fun (t : State) k => t.wr APPLET_STATUS_STATE 3 k) s
  if l.isEmpty then s1
  else
    let s2 := s1.setCore c { s1.core c with hook := [] }
    { s2 with time := { s2.time with hookOpen := l.foldl (fun m k => setBit m k false) s2.time.hookOpen } }

/-- A protection violation of a core: it freezes with a record of the first forbidden byte (R510). -/
def State.coreViolation (s : State) (c : Nat) (x : CoreAcc) (a region : Nat) : State :=
  let kind := if x.kind = 0 then 0 else if x.kind = 1 then 1 else if x.kind = 2 then 2 else 3
  let s1 := ((((s.setCoreState c 2).wr CORE_FREEZE_INFO_VALID 1 c).wr CORE_FREEZE_INFO_KIND kind c).wr CORE_FREEZE_INFO_MODE
    x.mode c).wr CORE_FREEZE_INFO_REGION region c
  let s2 := (s1.wr64 CORE_FREEZE_ADDR_LO_VALUE CORE_FREEZE_ADDR_HI_VALUE a c)
  let s3 := (s2.setCore c { s2.core c with frozenAcc := some x, frozenAt := s.ns }).raise 64 { core := some c }
  let l := s3.appletsOn c
  if 4 ≤ c ∧ x.mode = 0 ∧ !l.isEmpty then (s3.faultApplets c).raise 178 { core := some c, arg := l.headD 0 } else s3

/-! ## Accesses to the memories -/

/-- Bytes written to the core memories by core `c`, or by another agent when it is 8; reservations of the others that
they touch are lost. -/
def State.memWrite (s : State) (c a : Nat) (bytes : List Nat) : State :=
  let n := bytes.length
  let hit (r : Nat × Nat) : Bool := decide (r.1 < a + n) && decide (a < r.1 + r.2)
  let cores := s.chm.cores.map (fun e =>
    if e.1 ≠ c ∧ e.2.resv.any hit then (e.1, { e.2 with resv := none }) else e)
  let clean := cores.filter (fun e => e.2 != {})
  { s with chm := { s.chm with cores := clean } }.memPut a bytes

/-- The result that an AMO stores, for `n` bytes, old value and operand; numbered as RISC-V numbers them (log
entry 46). -/
def amoResult (op n old x : Nat) : Nat :=
  let w := 8 * n
  let lt (a b : Nat) : Bool := decide (toSigned w a < toSigned w b)
  let v := match op with
    | 0 => old + x
    | 1 => x
    | 4 => Nat.xor old x
    | 8 => Nat.lor old x
    | 12 => Nat.land old x
    | 16 => if lt old x then old else x
    | 20 => if lt old x then x else old
    | 24 => min old x
    | 28 => max old x
    | _ => old
  v % 2 ^ w

/-- An AMO, LR or SC on a memory address. -/
def State.coreAmo (s : State) (c : Nat) (x : CoreAcc) (a : Nat) : State :=
  let old := leNat (s.mem.reads a x.n)
  let k := s.core c
  if x.op = 2 then (s.setCore c { k with resv := some (a, x.n) }).emit (.core c old)
  else if x.op = 3 then
    let s1 := s.setCore c { k with resv := none }
    if k.resv = some (a, x.n) then (s1.memWrite c a (x.data.take x.n)).emit (.core c 0) else s1.emit (.core c 1)
  else (s.memWrite c a (leBytes x.n (amoResult x.op x.n old (leNat (x.data.take x.n))))).emit (.core c old)

/-- The exception of an access that no target takes: instruction, load, or store and AMO access fault (R485; log
entry 45). -/
def CoreAcc.cause (x : CoreAcc) : Nat := if x.kind = 2 then 1 else if x.kind = 0 then 5 else 7

/-! ## Fabric accesses (R484, R485, R501) -/

/-- The stream ID of a core's fabric accesses. -/
def State.coreStream (s : State) (c : Nat) : Nat := 0xFFE00000 + c * 0x10000 + s.rd CH_CFG_CORE_TC * 8

/-- A fabric load ends with an exception. -/
def State.loadFault (s : State) (c : Nat) (x : CoreAcc) : State :=
  (s.setCore c { s.core c with load := none }).coreTrap c x.cause x.addr

/-- A core load in the fabric window (R484, R485). -/
def State.coreFabLoad (s : State) (c : Nat) (x : CoreAcc) (slot a : Nat) : State :=
  match s.npFree with
  | none => s
  | some tag =>
    let h : FabHdr := { dst := s.rd CORE_FAB_DID_DID c slot, src := s.did, stream := s.coreStream c }
    let k := { readPkt h tag (spanReq a x.n false) with owner := .coreLoad c 0 }
    let s1 := (s.coreCount c 6 x.mode).takeNp 255 k
    let (r, t) := s1.sendOwn k
    if r = 0 then t.setCore c { t.core c with load := some (tag, x) }
    else (t.setNp tag none).loadFault c x

/-- A fabric store is declared lost (R501). -/
def State.storeLost (s : State) (c tag : Nat) : State :=
  let x := s.core c
  if !x.stores.any (fun e => e.tag == tag) then s
  else
    let mine := match x.fence with
      | some l => l.contains tag
      | none => false
    ((s.setNp tag none).setCore c { x with
      stores := x.stores.filter (fun e => e.tag != tag), lost := min (x.lost + 1) 0xFFFF, fenceLost := x.fenceLost || mine,
      fence := x.fence.map (fun l => l.filter (· != tag)) }).coreCount c 0xC x.mode

/-- A fabric store is acknowledged. -/
def State.storeAcked (s : State) (c tag : Nat) : State :=
  let x := s.core c
  (s.setNp tag none).setCore c { x with
    stores := x.stores.filter (fun e => e.tag != tag), fence := x.fence.map (fun l => l.filter (· != tag)) }

/-- FENCE.SYS completes when every earlier store is acknowledged or lost (R501). -/
def State.fenceEnd (s : State) (c : Nat) : State :=
  let x := s.core c
  if x.fence = some [] then
    if x.fenceLost then
      (s.setCore c { x with fence := none, fenceLost := false, barrierLoss := true }).raise 176 { core := some c }
    else s.setCore c { x with fence := none }
  else s

/-- The packets of a core store under their TAGs; one that finds no route is lost at once (R100, R501). A store that is
discarded for another reason is not answered, and its timer runs. -/
def State.storeSend (s : State) (c mode : Nat) : List QPkt → State
  | [] => s
  | k :: r =>
    match s.ackFree with
    | none => s
    | some tag =>
      let k' : QPkt := { k with hdr := { k.hdr with ackReq := true, tag := tag }, owner := .coreStore c 0 }
      let s1 := ((s.coreCount c 0xB mode).takeNp 255 k')
      let x := s1.core c
      let s2 := s1.setCore c { x with stores := x.stores ++ [{ tag := tag }] }
      let (z, t) := s2.sendOwn k'
      (if z = rNO_ROUTE then t.storeLost c tag else t).storeSend c mode r

/-- Allowed bytes of a core store in the fabric window (R379, R484). -/
def State.coreFabStore (s : State) (c mode slot a : Nat) (bytes : List Nat) : State :=
  let h : FabHdr := { src := s.did, stream := s.coreStream c }
  let did := s.rd CORE_FAB_DID_DID c slot
  s.storeSend c mode (fabWrites h (did * 2 ^ 52 + a % 2 ^ 52) bytes)

/-- A fabric load is answered (R485). -/
def State.coreLoadDone (s : State) (c : Nat) (e : NpEnt) (status : Nat) (data : List Nat) : State :=
  let x := s.core c
  match x.load with
  | none => s
  | some (tag, y) =>
    if tag ≠ e.tag then s
    else if status ≠ stOK then s.loadFault c y
    else
      let a := y.addr % 2 ^ 52
      let bytes := readBack (spanReq a y.n false) (a / 4 * 4) data
      (s.setCore c { x with load := none }).emit (.core c (leNat ((bytes.drop (a % 4)).take y.n)))

/-- An acknowledgement of a core's store, or its LOSS_NOTICE (R239, R263, R501). A COMPLETION with another error status
acknowledges it (log entry 47). -/
def State.coreStoreDone (s : State) (c tag status : Nat) : State :=
  (if status = stREMOTE_UNREACHABLE then s.storeLost c tag else s.storeAcked c tag).fenceEnd c

/-- CORE_LOAD_TIMEOUT (R485). -/
def State.coreLoadTimeout (s : State) (c : Nat) : State :=
  match (s.core c).load with
  | none => s
  | some (tag, x) =>
    match s.np tag with
    | some e => if e.issued + s.npTimeout ≤ s.ns then (s.setNp tag none).loadFault c x else s
    | none => s

/-- STORE_ACK_TIMEOUT (R501). -/
def State.storeAckTimeout (s : State) (c tag : Nat) : State :=
  match (s.core c).stores.find? (fun e => e.tag == tag) with
  | none => s
  | some e => if s.rd CH_CFG_STORE_ACK_TICKS ≤ e.ticks then (s.storeLost c tag).fenceEnd c else s

/-- The store-ack timers at a tick edge. -/
def State.storeTick (s : State) : State :=
  (s.chm.cores.map (·.1)).foldl (fun (t : State) c =>
    let x := t.core c
    let t1 := t.setCore c { x with stores := x.stores.map (fun e => { e with ticks := e.ticks + 1 }) }
    x.stores.foldl (fun (u : State) e => u.storeAckTimeout c e.tag) t1) s

/-! ## Core accesses -/

/-- The effect that reads, or with a value writes, a setup register: path, offset. -/
abbrev SetupFn := State → Nat → Nat → Option Nat → State

/-- The setup registers whose writes by an applet wait for its tick hook to return: MW_VALUE and CUE_SCHED (R489). -/
def hookReg (o : Nat) : Bool :=
  (decide (MW_VALUE_VALUE.off ≤ o) && decide (o < MW_VALUE_VALUE.off + 4 * 4096)) ||
    o == CUE_SCHED_LO_VALUE.off || o == CUE_SCHED_HI_VALUE.off || o == CUE_SCHED_CMD_GO.off

/-- The part of an access that its MPU allows, performed at its target. `runs` are the allowed bytes by offset and
length. -/
def State.corePerform (su : SetupFn) (s : State) (c : Nat) (x : CoreAcc) (runs : List (Nat × Nat)) : State :=
  match coreTgt c x.addr with
  | .mem a =>
    let y := if x.kind = 1 then (true, s) else s.eccMem a x.n
    if (List.range x.n).any (fun k => (coreTgt c (x.addr + k)) != .mem (a + k)) then s.coreTrap c x.cause x.addr
    else if !y.1 then y.2.coreTrap c x.cause x.addr
    else
      let s1 := if 0x40000000 ≤ a then
          let t := y.2.coreCount c 8 x.mode
          if (a < 0x40400000) = (c < 4) then t else t.coreCount c 9 x.mode
        else y.2
      if x.kind = 3 then s1.coreAmo c x a
      else if x.kind = 1 then
        runs.foldl (fun (t : State) r => t.memWrite c (a + r.1) ((x.data.drop r.1).take r.2)) s1
      else s1.emit (.core c (leNat (s1.mem.reads a x.n)))
  | .setup o =>
    if x.n ≠ 4 ∨ o % 4 ≠ 0 ∨ 2 ≤ x.kind ∨ runs ≠ [(0, 4)] then s.coreTrap c x.cause x.addr
    else if x.kind = 1 then
      let v := leNat (x.data.take 4)
      if x.mode = 0 ∧ 4 ≤ c ∧ hookReg o then s.setCore c { s.core c with hook := (s.core c).hook ++ [(o, v)] }
      else if o = FREEZE_RELEASE.off ∧ x.mode ≠ 3 then s
      else su s (4 + c) o (some v)
    else su s (4 + c) o none
  | .fabric slot a =>
    if x.kind = 3 then s.coreTrap c x.cause x.addr
    else if x.kind = 1 then
      runs.foldl (fun (t : State) r => t.coreFabStore c x.mode slot (a + r.1) ((x.data.drop r.1).take r.2)) s
    else s.coreFabLoad c x slot a
  | .none => s.coreTrap c x.cause x.addr

/-- A checked access: every allowed part is performed and every forbidden part faults; a load or AMO that faults writes
no register (R507). -/
def State.coreChecked (su : SetupFn) (s : State) (c : Nat) (x : CoreAcc) : State :=
  match s.coreBad c x with
  | none => s.corePerform su c x [(0, x.n)]
  | some (a, r) =>
    let runs := allowedRuns (fun k => (s.coreByte c x (x.addr + k)).1) x.n 0
    let s1 := if x.kind = 1 ∧ runs ≠ [] then s.corePerform su c x runs else s
    s1.coreViolation c x a r

/-- Whether a store would be a core's 65th fabric store outstanding, which stalls (R502). -/
def State.coreStalled (s : State) (c : Nat) (x : CoreAcc) : Bool :=
  match coreTgt c x.addr with
  | .fabric _ _ => x.kind == 1 && decide (64 ≤ (s.core c).stores.length)
  | _ => false

/-- CORE_MEMORY_ACCESS: an access of a core, checked by its MPU, held while the MPU is in update hold, and performed
(R505 to R509). -/
def State.coreAccess (su : SetupFn) (s : State) (c : Nat) (x : CoreAcc) : State :=
  if !s.coreFree c || x.n = 0 || decide (8 < x.n) || s.coreStalled c x then s
  else if coreExempt c x then s.corePerform su c x [(0, x.n)]
  else if !s.on CORE_MPU_CTRL_ENABLE c || !(s.core c).held.isEmpty then
    s.setCore c { s.core c with held := (s.core c).held ++ [x] }
  else s.coreChecked su c x

/-- The first access that an ended update hold kept back is checked against the new rules (R508). -/
def State.coreHeldNext (su : SetupFn) (s : State) (c : Nat) : State :=
  match (s.core c).held with
  | [] => s
  | x :: r =>
    if !s.on CORE_MPU_CTRL_ENABLE c || !s.coreFree c || s.coreStalled c x then s
    else (s.setCore c { s.core c with held := r }).coreChecked su c x

/-- CORE_FABRIC_LOAD and CORE_FABRIC_STORE: an access in the fabric window. -/
def State.coreFabAccess (su : SetupFn) (s : State) (c : Nat) (x : CoreAcc) : State :=
  match coreTgt c x.addr with
  | .fabric _ _ => s.coreAccess su c x
  | _ => s

/-! ## Fences (R498 to R501) -/

/-- FENCE.CORE and FENCE.CLUSTER: a core's memory accesses take effect one after another in this model, so they are
already ordered (R497, R498; log entry 48). -/
def State.fenceLocal (s : State) (_c : Nat) : State := s

/-- FENCE.SYS (R501). -/
def State.fenceSys (s : State) (c : Nat) : State :=
  if !s.coreFree c then s
  else
    let x := s.core c
    (s.setCore c { x with fence := some (x.stores.map (·.tag)), fenceLost := false }).fenceEnd c

/-! ## Reset, run and watchdog (R491, R591) -/

/-- A core in its reset state; its loads and stores are forgotten, so late answers find no entry. -/
def State.coreClear (s : State) (c : Nat) : State :=
  (s.freeNpOf (fun o => match o with
    | .coreLoad k _ => k == c
    | .coreStore k _ => k == c
    | _ => false)).setCore c {}

/-- CORE_RUN: a write of CH_CTRL.RUN. One that changes the bit of a frozen core is discarded (R591); a core's domain
stays on from its first release (R592). -/
def State.coreRun (s : State) (v : Nat) : State :=
  let old := s.rd CH_CTRL_RUN
  if (List.range 8).any (fun c => bit old c != bit v c && s.on CORE_FREEZE_INFO_VALID c) then s.setOn CH_STATUS_CFG_REJECTED
  else
    let s1 := { s with rst := { s.rst with cores := Nat.lor s.rst.cores (v % 256) } }
    (List.range 8).foldl (fun (t : State) c =>
      if bit old c = bit v c then t
      else (t.coreClear c).setCoreState c (b2n (bit v c))) (s1.wr CH_CTRL_RUN v)

/-- A write of CORE_WDT; setting EN, or KICK, starts the count afresh. -/
def State.coreWdtWrite (s : State) (c v : Nat) : State :=
  let s1 := (s.wr CORE_WDT_EN (bits v 31 31) c).wr CORE_WDT_TICKS (bits v 15 0) c
  if bit v 30 ∨ (bit v 31 ∧ !s.on CORE_WDT_EN c) then s1.setCore c { s1.core c with wdt := 0 } else s1

/-- Whether a watchdog has run out. -/
def State.wdtDue (s : State) (c : Nat) : Bool :=
  decide (c < 8) && s.on CORE_WDT_EN c && decide (s.rd CORE_WDT_TICKS c ≤ (s.core c).wdt)

/-- The watchdogs count at a tick edge; that of a frozen core does not (R591). -/
def State.wdtTick (s : State) : State :=
  (List.range 8).foldl (fun (t : State) c =>
    if t.on CORE_WDT_EN c && !t.on CORE_FREEZE_INFO_VALID c then t.setCore c { t.core c with wdt := (t.core c).wdt + 1 } else t) s

/-- A watchdog trip of a CL1 core resets that core alone, and its applets become FAULTED (R491). -/
def State.wdtReset (s : State) (c : Nat) : State :=
  ((s.faultApplets c).coreClear c).raise 177 { core := some c }

/-- The tick edge in every running core: bit 16 of mip, and the interrupt that mie enables (R482). -/
def State.coreTicks (s : State) : State :=
  (List.range 8).foldl (fun (t : State) c =>
    if t.coreState c = 1 then
      let x := t.core c
      let t1 := t.setCore c { x with tickPending := true }
      if x.tickEnable then t1.coreTrap c (2 ^ 63 + 16) 0 else t1
    else t) s

/-! ## Update hold (R508) -/

/-- A write of CORE_MPU_CTRL. -/
def State.coreMpuWrite (s : State) (c v : Nat) : State := s.wr CORE_MPU_CTRL_ENABLE (bits v 0 0) c

/-- A write of one word of a core's region: accepted only in update hold, and when the image it gives is one the unit
takes (R504, R508). -/
def State.coreRegionWrite (s : State) (c w v : Nat) : State :=
  if s.on CORE_MPU_CTRL_ENABLE c then s.setOn CH_STATUS_CFG_REJECTED
  else
    let s1 := s.wr CORE_MPU_REGION_VALUE v c w
    if imageOk true (s1.coreRegion c (w / 4)) then s1 else s.setOn CH_STATUS_CFG_REJECTED

/-- A held step of a mover goes on: the next accesses of its descriptor, or the release of its launch-table entry. -/
def State.resumeHeld (s : State) (h : MoverHeld) : State :=
  match h with
  | .release n => s.timedRelease n
  | .start q idx =>
    match (s.qp q).desc idx with
    | some d =>
      if d.opcode = 0x14 then (if bit (byteAt d.img 41) 0 then s.gateListRead q idx else s.gateListLoad q idx)
      else if d.opcode < 0x10 then s.resumeStart q idx
      else if d.outcome.isSome then s
      else s.nextHostRead q d
    | none => s

/-- The held steps whose PD is no longer held go on in order, checked against the new rules (R508). -/
def State.resumeMovers (s : State) : State :=
  let go := s.chm.held.filter (fun h => match s.heldQp h with
    | some q => !s.qpHeld q
    | none => true)
  let s1 := ({ s with chm := { s.chm with held := s.chm.held.filter (fun h => !go.contains h) } }).syncHeld
  go.foldl (fun (t : State) h => t.resumeHeld h) s1

/-- A write of MOVER_MPU_HOLD. -/
def State.moverHoldWrite (s : State) (v : Nat) : State :=
  (((s.wr MOVER_MPU_HOLD_ENABLE (bits v 31 31)).wr MOVER_MPU_HOLD_ALL (bits v 15 15)).wr MOVER_MPU_HOLD_PD (bits v 11 0)).resumeMovers

/-- A mover region written; none when the pool has no entry for it (R503). -/
def State.setRegion (s : State) (k img : Nat) : Option State :=
  let old := SMap.get s.chm.regions k 0
  let free := s.rd REGION_POOL_FREE + b2n (imgValid old)
  if imgValid img && free == 0 then none
  else
    some (({ s with chm := { s.chm with regions := SMap.set s.chm.regions k img 0 } }).wr REGION_POOL_FREE
      (free - b2n (imgValid img)))

/-- A write of table 0x90: accepted only while that PD is held (R508, R520). -/
def State.regionTableWrite (s : State) (k img : Nat) : State :=
  if s.pdHeld (k / 16) && imageOk false img then (s.setRegion k img).getD (s.setOn CH_STATUS_CFG_REJECTED)
  else s.setOn CH_STATUS_CFG_REJECTED

/-! ## Release (R512, R513) -/

/-- What came of a release: released, not frozen, or refused. -/
inductive Freed where
  | yes (s : State)
  | not
  | refused

/-- A core released: it takes the access-fault exception, or is reset. -/
def State.releaseCore (s : State) (c action : Nat) : Freed :=
  let x := s.core c
  if 8 ≤ c ∨ !s.on CORE_FREEZE_INFO_VALID c then .not
  else if x.frozenAt = s.ns then .refused
  else
    let a := s.rd64 CORE_FREEZE_ADDR_LO_VALUE CORE_FREEZE_ADDR_HI_VALUE c
    let s1 := (((s.wr CORE_FREEZE_INFO_VALID 0 c).wr CORE_FREEZE_INFO_KIND 0 c).wr CORE_FREEZE_INFO_MODE 0 c).wr
      CORE_FREEZE_INFO_REGION 0x1F c
    let s2 := s1.wr64 CORE_FREEZE_ADDR_LO_VALUE CORE_FREEZE_ADDR_HI_VALUE 0 c
    let run := bit (s.rd CH_CTRL_RUN) c
    if action = 0 ∧ run then
      let s3 := (s2.setCoreState c 1).setCore c { x with frozenAcc := none, frozenAt := 0 }
      .yes (s3.coreTrap c ((x.frozenAcc.map CoreAcc.cause).getD 5) a)
    else .yes ((s2.coreClear c).setCoreState c (b2n run))

/-- A QP released: it fetches again, or stays DISABLED. -/
def State.releaseQp (s : State) (qn : Nat) : Freed :=
  let q := s.qp qn
  match q.freeze with
  | none => .not
  | some r =>
    if r.at_ = s.ns then .refused
    else if q.state = .frozen then .yes ((s.setQp qn { q with freeze := none, state := .active }).pumpQp qn)
    else .yes (s.setQp qn { q with freeze := none })

/-- A stream released: its packets pass test 4 again. -/
def State.releaseStream (s : State) (i : Nat) : Freed :=
  match SMap.get s.streams i none with
  | none => .not
  | some e => if e.at_ = s.ns then .refused else .yes { s with streams := SMap.set s.streams i none none }

/-- A release by kind: 1 core, 2 QP, 3 stream. -/
def State.releaseKind (s : State) (kind i action : Nat) : Freed :=
  match kind with
  | 1 => s.releaseCore i action
  | 2 => s.releaseQp i
  | _ => s.releaseStream i

/-- FREEZE_RELEASE descriptor (R512, R513). -/
def State.freezeRelease (s : State) (q idx : Nat) : State :=
  s.withDesc q idx fun d =>
    let kind := d.op40
    let i := bytesAt d.img 42 45
    let act := byteAt d.img 41
    let most := if kind = 1 then 8 else if kind = 2 then 16384 else 256
    s.guardDesc q d (d.flagsOk && d.zero 8 39 && d.zero 46 63 && decide (act < (if kind = 1 then 2 else 1)) && decide (i < most))
      (match s.releaseKind kind i act with
       | .yes t => t.finish q d stOK 1
       | .not => s.finish q d stOK 0
       | .refused => s.finish q d stNOT_PERMITTED)

/-- A write of FREEZE_RELEASE (R512): through the anchor PF's BAR0, SMBus, or a core. -/
def State.freezeReleaseWrite (s : State) (v : Nat) : State :=
  let kind := bits v 25 24
  if !bit v 31 then s
  else
    match s.releaseKind kind (bits v 13 0) (bits v 16 16) with
    | .yes t => t.wr FREEZE_RELEASE_STATUS_RESULT 1
    | .not => s.wr FREEZE_RELEASE_STATUS_RESULT 2
    | .refused => s.wr FREEZE_RELEASE_STATUS_RESULT 3

/-! ## Applets (R487 to R489) -/

/-- Where an applet slot lies. -/
def appletBase (k : Nat) : Nat := 0x40400000 + 0x1C0000 + 0x60000 * k

/-- The layout of APPLET_LOAD: `load` and `start` use their own bytes. -/
def Desc.appletOk (d : Desc) (load start : Bool) : Bool :=
  d.flagsOk && d.zero 16 23 && d.zero 28 39 && decide (byteAt d.img 41 < 6) && d.zero 46 47 && d.zero 52 63
    && (load || (d.zero 8 15 && d.zero 24 27 && d.zero 48 51))
    && (if start then decide (4 ≤ byteAt d.img 42) && decide (byteAt d.img 42 < 8) && decide (byteAt d.img 43 < 16)
          && decide (bytesAt d.img 44 45 < 32) else d.zero 42 45)

/-- The slot an APPLET_LOAD names. -/
def Desc.applet (d : Desc) : Nat := byteAt d.img 41

/-- APPLET_LOAD: the image is read from host memory (R488). -/
def State.appletLoad (s : State) (q idx : Nat) : State :=
  s.withDesc q idx fun d =>
    if d.asked ≠ 0 then s
    else
      s.guardDesc q d (d.appletOk true false)
        (if s.rd APPLET_STATUS_STATE d.applet ≠ 0 then s.finish q d stNOT_PERMITTED
         else if d.length < 64 ∨ 393216 < d.length ∨ d.length % 64 ≠ 0 then s.finish q d stBAD_DESCRIPTOR
         else s.nextHostRead q d)

/-- Data of an applet image; the whole image is checked and stored in its slot (R487, R488). -/
def State.appletData (s : State) (q : Nat) (d : Desc) (status : Nat) (poison : Bool) (data : List Nat) : State :=
  if d.hostReads = 0 then s
  else if status ≠ 0 then s.hostReadFailed q d status
  else if data.length ≠ d.awaited then s
  else
    let d' : Desc := { d with buf := d.buf ++ data, hostReads := 0, poisoned := d.poisoned || poison }
    if d'.buf.length < d.length then (s.setDesc q d').nextHostRead q d'
    else if d'.poisoned then s.finish q d' stPOISONED
    else
      let b := d'.buf
      if bytesAt b 0 3 ≠ 0x50414C55 ∨ bytesAt b 4 7 ≠ d.length ∨ crc32c 0xFFFFFFFF b ≠ bytesAt d.img 48 51 then
        s.finish q d' stBAD_DESCRIPTOR
      else ((s.memWrite 8 (appletBase d.applet) b).wr APPLET_STATUS_STATE 1 d.applet).finish q d' stOK

/-- APPLET_START. -/
def State.appletStart (s : State) (q idx : Nat) : State :=
  s.withDesc q idx fun d =>
    s.guardDesc q d (d.appletOk false true)
      (if s.rd APPLET_STATUS_STATE d.applet ≠ 1 then s.finish q d stNOT_PERMITTED
       else
         let a : Applet := { grant := byteAt d.img 43, owner := bytesAt d.img 44 45 }
         let s1 : State := { s with chm := { s.chm with applets := SMap.set s.chm.applets d.applet a {} } }
         ((s1.wr APPLET_STATUS_STATE 2 d.applet).wr APPLET_STATUS_CORE (byteAt d.img 42 - 4) d.applet).finish q d stOK)

/-- The tick hook of a slot is no longer open. -/
def State.closeHook (s : State) (k : Nat) : State := { s with time := { s.time with hookOpen := setBit s.time.hookOpen k false } }

/-- APPLET_STOP. -/
def State.appletStop (s : State) (q idx : Nat) : State :=
  s.withDesc q idx fun d =>
    s.guardDesc q d (d.appletOk false false)
      (if s.rd APPLET_STATUS_STATE d.applet < 2 then s.finish q d stNOT_PERMITTED
       else ((s.wr APPLET_STATUS_STATE 1 d.applet).closeHook d.applet).finish q d stOK)

/-- APPLET_UNLOAD. -/
def State.appletUnload (s : State) (q idx : Nat) : State :=
  s.withDesc q idx fun d =>
    s.guardDesc q d (d.appletOk false false)
      (if s.rd APPLET_STATUS_STATE d.applet ≠ 1 then s.finish q d stNOT_PERMITTED
       else
         let s1 : State := { s with chm := { s.chm with applets := SMap.set s.chm.applets d.applet {} {} } }
         (s1.wr APPLET_STATUS_STATE 0 d.applet).finish q d stOK)

/-- APPLET_STATUS of a slot as a word. -/
def State.appletWord (s : State) (k : Nat) : Nat :=
  s.rd APPLET_STATUS_OVERRUNS k + s.rd APPLET_STATUS_CORE k * 2 ^ 24 + s.rd APPLET_STATUS_STATE k * 2 ^ 30

/-- APPLET_READ: APPLET_STATUS and the header (R488). -/
def State.appletRead (s : State) (q idx : Nat) : State :=
  s.withDesc q idx fun d =>
    s.guardDesc q d (d.appletOk false false)
      (s.finishData q d (leBytes 4 (s.appletWord d.applet) ++ s.mem.reads (appletBase d.applet) 64))

/-- The tick hooks that start at a tick edge, and those of the past tick that had not returned: their writes are
discarded (R66, R489). Answers whether any was abandoned. -/
def State.hookTick (s : State) : Bool × State :=
  let late := (List.range 6).filter (fun k => bit s.time.hookOpen k)
  let s1 := late.foldl (fun (t : State) k =>
    let c := t.rd APPLET_STATUS_CORE k + 4
    (t.setCore c { t.core c with hook := [] }).incSat APPLET_STATUS_OVERRUNS k) s
  let open_ := (List.range 6).filter (fun k => s.rd APPLET_STATUS_STATE k == 2 && leNat (s.mem.reads (appletBase k + 12) 4) != 0)
  (!late.isEmpty, { s1 with time := { s1.time with hookOpen := sum (open_.map (2 ^ ·)) } })

/-- APPLET_HOOK_RETURN: the writes that the hook made are applied (R489). -/
def State.appletHookReturn (su : SetupFn) (s : State) (k : Nat) : State :=
  if !bit s.time.hookOpen k then s
  else
    let c := s.rd APPLET_STATUS_CORE k + 4
    let ws := (s.core c).hook
    ws.foldl (fun (t : State) w => su t (4 + c) w.1 (some w.2)) ((s.setCore c { s.core c with hook := [] }).closeHook k)

/-! ## REGIONS (R461) -/

/-- FIRST and COUNT of a REGIONS operation. -/
def Desc.regFirst (d : Desc) : Nat := bits d.vfValue 3 0
def Desc.regCount (d : Desc) : Nat := bits d.vfValue 8 4

/-- VF_REGIONS: the images are read from host memory, and the VF's PD is held meanwhile. -/
def State.vfRegions (s : State) (q idx : Nat) : State :=
  s.vfOp q idx (fun d => d.vfValue / 512 == 0 && decide (1 ≤ d.regCount) && decide (d.regFirst + d.regCount ≤ 16)) fun d _ =>
    if d.asked ≠ 0 then s
    else if s.qpHeld q then s.holdStep (.start q idx)
    else
      let n := 16 * d.regCount
      match s.moverBad (s.qp q) spHost false d.source n with
      | some (b, r) => s.moverViolation q d false b r 0
      | none => (s.setDesc q { d with asked := n, hostReads := 1 }).hostReads q d.source n (.desc q d.idx)

/-- Region images written in order into a PD, up to one that the pool refuses (R503; log entry 49). -/
def State.putRegions (s : State) (k : Nat) : List Nat → Bool × State
  | [] => (true, s)
  | i :: r =>
    match s.setRegion k i with
    | some t => t.putRegions (k + 1) r
    | none => (false, s)

/-- The images of a REGIONS operation arrive. -/
def State.regionsData (s : State) (q : Nat) (d : Desc) (status : Nat) (poison : Bool) (data : List Nat) : State :=
  let v := bytesAt d.img 42 43
  if d.hostReads = 0 then s
  else if status ≠ 0 then s.hostReadFailed q d status
  else if data.length ≠ d.asked then s
  else if poison then s.finish q d stPOISONED
  else
    let imgs := (List.range d.regCount).map (fun k => leNat ((data.drop (16 * k)).take 16))
    if imgs.any (fun i => !imageOk false i) then s.finish q d stBAD_DESCRIPTOR
    else
      let (ok, t) := s.putRegions (v * 16 + d.regFirst) imgs
      t.finish q d (if ok then stOK else stRESOURCE_LIMIT)

/-- HOST_READ_COMPLETION: host data of a WRITE, SEND, REGIONS or APPLET_LOAD descriptor. -/
def State.hostReadDone (s : State) (q idx status : Nat) (poison : Bool) (data : List Nat) : State :=
  s.withDesc q idx fun d =>
    if d.opcode = 1 ∨ d.opcode = 3 then s.hostData q idx status poison data
    else if d.isOp 0x18 3 then s.regionsData q d status poison data
    else if d.isOp 0x1C 1 then s.appletData q d status poison data
    else s

end Sys2Proof.Machine
end

