-- ==== Sys2Proof/Machine/EccOps.lean ====
section
/-! DEFINITION. What an uncorrectable word does to its owner (R526), the ECC_TEST commands (R534), and the remap table
(R537). Which word of a group holds what is inferred from the group's size (log entry 51). -/

namespace Sys2Proof.Machine

/-- A non-posted entry answered as if its timer had expired. -/
def State.npExpire (s : State) (tag : Nat) : State :=
  match s.np tag with
  | none => s
  | some e =>
    match e.owner with
    | .desc q i =>
      let s1 := s.freeNpOf (· == .desc q i)
      s1.withDesc q i (fun d => s1.finish q d stTIMEOUT d.done)
    | .coreLoad c _ =>
      match (s.core c).load with
      | some (t, x) => if t = tag then (s.setNp tag none).loadFault c x else s.setNp tag none
      | none => s.setNp tag none
    | _ => if e.port.isSome then s.issuedTimeout tag else s.bridgeExpire tag e

/-- A QP frozen for an error in its context (R450, R526). -/
def State.qpEccFreeze (s : State) (qn : Nat) : State :=
  let q := s.qp qn
  match q.fn with
  | none => s
  | some f =>
    let s1 := s.setQp qn { q with freeze := some { q.freeze.getD {} with at_ := s.ns } }
    (s1.aerLog f aerInternal).freezeQp qn

/-- The gate list that holds a word is illegal: an operational one closes the port, an admin one drops its swap. -/
def State.gateEcc (s : State) (w : Nat) : State :=
  let p := w / 1024
  let list := w / 512 % 2 == 1
  let g := s.gatePort p
  if list = g.which then (if g.state = 1 then s.holdClosed p else s)
  else
    let s1 := match g.swap with
      | some x => if x.toOpen then s else s.dropSwap p stBAD_DESCRIPTOR
      | none => s
    s1.setGate p { s1.gatePort p with adminLen := 0 }

/-- The consequence of an uncorrectable functional read (R526). -/
def State.eccEffect (s : State) (g w : Nat) : State :=
  match g with
  | 1 => if (s.flowAt (w / 2)).isSome then ((s.setFlow (w / 2) none).setRec (w / 2) none).syncFlows else s
  | 2 =>
    let m := s.meter (w / 2)
    s.setMeter (w / 2) (m.full (s.profile m.profile) s.ns)
  | 3 => s.flushQueue (w / 4)
  | 4 =>
    let n := s.freeVal 768
    (s.mapped.filter (fun e => e.2.port * 8 + e.2.sl == n)).foldl (fun (t : State) e => t.flushQueue e.1) s.useFree
  | 5 => s.gateEcc w
  | 6 => s.setWindow (w / 4) none
  | 7 =>
    let i := s.freeVal (s.herd.db.length + 1)
    match s.herd.db[i]? with
    | some e => { s.useFree with herd := { s.herd with db := SMap.set s.herd.db e.1 none none } }
    | none => s.useFree
  | 8 =>
    let k := w / 32768
    let x := s.lnk k
    s.setLnk k { x with replay := x.replay.map (fun e => if e.seq % 1024 = w % 32768 / 32 then { e with bad := true } else e) }
  | 11 =>
    let i := s.freeVal (s.chm.regions.length + 1)
    match s.chm.regions[i]? with
    | some e => { s.useFree with chm := { s.chm with regions := SMap.set s.chm.regions e.1 (setBits e.2 103 96 0) 0 } }
    | none => s.useFree
  | 9 =>
    let k := w / 32768
    let x := s.lnk k
    match x.held.find? (fun e => e.seq % 1024 == w % 32768 / 32) with
    | some e =>
      let m : Missing := { seq := e.seq, attempt := 1, at_ := s.ns }
      (s.setLnk k { x with held := x.held.filter (· != e), missing := x.missing ++ [m] }).sendNak k e.seq 1
    | none => s
  | 10 => s.npExpire (w / 4)
  | 13 =>
    let n := w / 4
    let m := s.mirror n
    let s1 := s.wr MW_VALUE_VALUE 0 n
    if m.role = 2 then s1.setMirror n { m with stale := true } else s1
  | 14 => s.qpEccFreeze (w / 16)
  | 15 => if (SMap.get s.brg.lines (w / 512) none).isSome then s.discardLine (w / 512) else s
  | _ => s

/-- A functional read of one word (R525, R526). -/
def State.eccFunc (s : State) (g w : Nat) : State :=
  let (ok, t) := s.eccRead g w
  if ok then t else t.eccEffect g w

/-- The functional reads that an owner makes before it acts: the raw words of a group that `use` picks. -/
def State.eccTouch (s : State) (g : Nat) (use : Nat → Bool) : State :=
  let ws := (s.ecc.words.filter (fun e => e.1 / 2 ^ 22 == g && use (e.1 % 2 ^ 22))).map (·.1 % 2 ^ 22)
  ws.foldl (fun (t : State) w => t.eccFunc g w) s

/-- A lookup reads the two flow buckets of its key (R84, R526). -/
def State.eccLookup (s : State) (id : Nat) : State :=
  match s.pkt id with
  | none => s
  | some k =>
    let a := s.bucketA k.keyDid k.keyStream
    let b := s.bucketB k.keyDid k.keyStream
    s.eccTouch 1 (fun w => w / 8 == a || w / 8 == b)

/-- A port's egress reads the state of the queues that wait there. -/
def State.eccEgress (s : State) (p : Nat) : State :=
  s.eccTouch 3 (fun w => (s.queue (w / 4)).valid && (s.queue (w / 4)).port == p)

/-- A gate step reads the port's operational list. -/
def State.eccGate (s : State) (p : Nat) : State :=
  s.eccTouch 5 (fun w => w / 1024 == p && (w / 512 % 2 == 1) == (s.gatePort p).which)

/-- A ring command reads its QP's context. -/
def State.eccQp (s : State) (qn : Nat) : State := s.eccTouch 14 (fun w => w / 16 == qn)

/-! ## ECC_TEST (R534) -/

/-- A word as a raw read finds it. The spec does not lay out the words of groups other than the core memories, so the
data of one that nothing wrote raw is free. -/
def State.eccRaw (s : State) (g w : Nat) : (Nat × Nat) × State :=
  match SMap.get s.ecc.words (eccKey g w) none with
  | some x => (x, s)
  | none =>
    if g = gMEM then
      let d := leNat (s.mem.reads (wordAddr w) 8)
      ((d, checkByte d), s)
    else
      let d := s.freeVal (2 ^ 64)
      ((d, checkByte d), s.useFree)

/-- The test registers show what a command returned. -/
def State.eccShow (s : State) (data check syn : Nat) : State :=
  ((s.wr64 ECC_TEST_DATA_LO_VALUE ECC_TEST_DATA_HI_VALUE data).wr ECC_TEST_CHECK_CHECK check).wr ECC_TEST_CHECK_SYNDROME syn

/-- The command of ECC_TEST_CTRL on word `w` of group `g`. -/
def State.eccCommand (s : State) (g w cmd : Nat) : State :=
  if eccSize g ≤ w then s
  else if cmd = 1 then
    let d := s.rd64 ECC_TEST_DATA_LO_VALUE ECC_TEST_DATA_HI_VALUE
    s.setEcc (eccKey g w) (some (d, s.rd ECC_TEST_CHECK_CHECK))
  else if cmd = 2 then
    let ((d, c), t) := s.eccRaw g w
    t.eccShow d c (eccSyndrome d c)
  else if cmd = 3 then
    let ((d, c), t) := s.eccRaw g w
    let x := match eccDecode d c with
      | .fixed y => y
      | _ => d
    (t.eccFunc g w).eccShow x c (eccSyndrome d c)
  else s

/-- A write of ECC_TEST_CTRL: EN only through the anchor PF's BAR0, an ADMIN packet that stands for it, or SMBus. -/
def State.eccTestWrite (s : State) (path v : Nat) : State :=
  let en := if path < 3 then bit v 31 else s.on ECC_TEST_CTRL_EN
  let s1 := ((s.wr ECC_TEST_CTRL_EN (b2n en)).wr ECC_TEST_CTRL_GROUP (bits v 19 16)).wr ECC_STATUS_TEST_ACTIVE (b2n en)
  let s2 := if en && !s.on ECC_TEST_CTRL_EN then s1.raise 37 else s1
  if en then s2.eccCommand (bits v 19 16) (s.rd ECC_TEST_INDEX_INDEX) (bits v 1 0) else s2

/-- The rows that name one command: the write of ECC_TEST_CTRL whose CMD is `cmd`. -/
def State.eccTest (s : State) (v cmd : Nat) : State := if bits v 1 0 = cmd then s.eccTestWrite 0 v else s

/-- A write of table 0xA0 (R537). -/
def State.remapWrite (s : State) (i v : Nat) : State :=
  let g := i / 16
  let e := i % 16
  let w := v % 2 ^ 22
  if e < 8 ∨ !bit v 31 ∨ s.mapped_ g w ∨ eccSize g ≤ w then s else s.addRemap g e w

end Sys2Proof.Machine
end

