-- ==== Sys2Proof/Machine/FaultOps.lean ====
section
/-! DEFINITION. The fault collector (R538 to R568): severities, windows and escalation, containment, the log, notices
and FAULT_N. -/

namespace Sys2Proof.Machine

/-! ## Sources and severities (R538, R542) -/

def sevNOTE : Nat := 0
def sevCORRECTED : Nat := 1
def sevDEGRADED : Nat := 2
def sevCONTAINED : Nat := 3
def sevFATAL : Nat := 4

/-- Whether the device has this source (R538). -/
def sourceUsed (n : Nat) : Bool := sourceAssigned n

/-- The base severity of an event: source 177 has one per cluster until software sets it (R542). -/
def State.baseSev (s : State) (r : Raise) : Nat :=
  if r.src = 177 ∧ s.flt.perCluster then
    match r.subj.core with
    | some c => if c < 4 then sevFATAL else sevDEGRADED
    | none => sevFATAL
  else s.rd FAULT_SRC_CFG_SEVERITY r.src

/-- A severity raised by one, never above RAISE_CAP (R545). -/
def State.raiseSev (s : State) (v : Nat) : Nat := if v < s.rd FAULT_CTRL_RAISE_CAP then v + 1 else v

/-- The FSW bit of a source. -/
def State.fsw (s : State) (n : Nat) : Bool := bit (s.rd FAULT_FSW_VALUE (n / 32)) (n % 32)

/-- The class of a source holds a source set with MAX_SEV at DEGRADED or higher, and may escalate (R544). -/
def State.armed (s : State) (n : Nat) : Bool :=
  bit (s.rd FAULT_ESC_EN_EN) (n / 16) &&
    (List.range 16).any (fun i =>
      let y := n / 16 * 16 + i
      s.fsw y && decide (sevDEGRADED ≤ s.rd FAULT_SRC_STATUS_MAX_SEV y))

/-- The count-in-window classifier takes an event (R543). -/
def State.windowCount (s : State) (n : Nat) : State :=
  if s.rd FAULT_SRC_CFG_COUNT_N n = 0 then s
  else
    let s1 := if s.on FAULT_SRC_STATUS_WINDOW_OPEN n then s
      else
        ({ s with flt := { s.flt with close := SMap.set s.flt.close n (s.time.tick + s.rd FAULT_SRC_CFG_WINDOW n) 0 } }).setOn
          FAULT_SRC_STATUS_WINDOW_OPEN n
    let s2 := s1.incSat FAULT_SRC_STATUS_WIN_COUNT n
    if s2.rd FAULT_SRC_CFG_COUNT_N n ≤ s2.rd FAULT_SRC_STATUS_WIN_COUNT n then s2.setOn FAULT_SRC_STATUS_SEVERE n else s2

/-- Whether the event just counted is severe (R543). -/
def State.isSevere (s : State) (n : Nat) : Bool :=
  s.rd FAULT_SRC_CFG_COUNT_N n != 0 && decide (s.rd FAULT_SRC_CFG_COUNT_N n ≤ s.rd FAULT_SRC_STATUS_WIN_COUNT n)

/-- A window closes. -/
def State.windowShut (s : State) (n : Nat) : State :=
  (((({ s with flt := { s.flt with close := SMap.set s.flt.close n 0 0 } }).wr FAULT_SRC_STATUS_WINDOW_OPEN 0 n).wr
    FAULT_SRC_STATUS_WIN_COUNT 0 n).wr FAULT_SRC_STATUS_SEVERE 0 n)

/-- CLASSIFIER_WINDOW_CLOSE: the edge of t0 + WINDOW has come (R543). -/
def State.windowClose (s : State) (n : Nat) : State :=
  if s.on FAULT_SRC_STATUS_WINDOW_OPEN n && decide (SMap.get s.flt.close n 0 ≤ s.time.tick) then s.windowShut n else s

/-! ## Containment (R548 to R551, R559) -/

/-- A host domain is contained (R550). -/
def State.containHd (s : State) (d : Nat) : State :=
  let s1 := s.wr FAULT_HD_CONTAINED_VALUE (setBit (s.rd FAULT_HD_CONTAINED_VALUE (d / 32)) (d % 32) true) (d / 32)
  let qps := (s1.ring.qps.filter (fun e => (match e.2.fn with
    | some f => s1.fnHd f == some d
    | none => false) && e.2.state != .disabled && e.2.state != .draining)).map (·.1)
  qps.foldl (fun (t : State) qn => t.drainQp qn) s1

/-- The bit of FAULT_PORT_CONTAINED of a port. -/
def State.setPortContained (s : State) (p : Nat) (b : Bool) : State :=
  s.wr FAULT_PORT_CONTAINED_VALUE (setBit (s.rd FAULT_PORT_CONTAINED_VALUE (p / 32)) (p % 32) b) (p / 32)

/-- A port is contained (R549): what was done, as the log names it, and the state. -/
def State.containPort (s : State) (src p : Nat) : Nat × State :=
  if s.isUp p then (3, s.containHd (s.rd PORT_CFG_HD p))
  else if s.isFab p then
    (2, if bit (s.rd FAULT_PORT_CONTAINED_VALUE (p / 32)) (p % 32) then s
        else (s.setPortContained p true).fabStop (p / 4) trOFF ldSOFTWARE)
  else if s.isDown p then
    let s1 := (s.setPortContained p true).dpcSoftware p
    (2, if s1.on FAULT_SRC_CFG_SLOT_OFF src && (s1.slotChan p).isSome then s1.setPower p true else s1)
  else (6, s)

/-- A requester stream is frozen (R511, R559). A stream that is frozen keeps its first record. -/
def State.freezeStream (s : State) (src p req : Nat) (hd : Option Nat) : Nat × State :=
  let same (e : Nat × Option StreamEnt) : Bool := match e.2 with
    | some x => x.port == p && x.req == req
    | none => false
  match s.streams.find? same with
  | some (i, some x) => (1, { s with streams := SMap.set s.streams i (some { x with at_ := s.ns }) none })
  | _ =>
    match (List.range 256).find? (fun i => (SMap.get s.streams i none).isNone) with
    | some i =>
      (1, ({ s with streams := SMap.set s.streams i (some { port := p, req := req, hd := hd, src := src, at_ := s.ns }) none }).raise
        66 { port := some p, stream := some req, hd := hd })
    | none => s.containPort src p

/-- The host domain of an event (R548). -/
def State.subjHd (s : State) (x : Subj) : Option Nat :=
  match x.hd with
  | some d => some d
  | none => x.port.bind s.portHd

/-- CONTAIN_ACTION of an event (R548): what the log names it, and the state. -/
def State.containAction (s : State) (src : Nat) (x : Subj) : Nat × State :=
  match s.rd FAULT_SRC_CFG_CONTAIN_ACTION src with
  | 0 => (0, s)
  | 1 =>
    match x.port, x.stream with
    | some p, some req => s.freezeStream src p req (s.subjHd x)
    | _, _ => (6, s)
  | 2 =>
    match x.port with
    | some p => s.containPort src p
    | none => (6, s)
  | _ =>
    match s.subjHd x with
    | some d => (3, s.containHd d)
    | none => (6, s)

/-- A write of FAULT_CONTAIN_RELEASE (R551). -/
def State.containReleasePort (s : State) (p : Nat) : State :=
  if bit (s.rd FAULT_PORT_CONTAINED_VALUE (p / 32)) (p % 32) then
    let s1 := s.setPortContained p false
    if s1.isFab p then (if s1.portEn p then s1.portOn p else s1) else s1.dpcRelease p
  else s

/-- CONTAIN_RELEASE_DOMAIN. -/
def State.containReleaseHd (s : State) (d : Nat) : State :=
  s.wr FAULT_HD_CONTAINED_VALUE (setBit (s.rd FAULT_HD_CONTAINED_VALUE (d / 32)) (d % 32) false) (d / 32)

/-- A write of FAULT_CONTAIN_RELEASE. -/
def State.containReleaseWrite (s : State) (v : Nat) : State :=
  if !bit v 31 then s
  else if bit v 24 then s.containReleaseHd (v % 1024)
  else if v % 1024 < 96 then s.containReleasePort (v % 1024)
  else s

/-! ## The log (R558) -/

/-- An entry of the fault log, unless it is full. -/
def State.faultLog (s : State) (r : Raise) (sev : Nat) (severe esc : Bool) (action : Nat) : State :=
  let tail := s.rd FAULT_LOG_TAIL_INDEX
  if (tail + 128 - s.rd FAULT_LOG_HEAD_INDEX) % 128 = 64 then s.inc FAULT_LOG_LOST_VALUE
  else
    let x := r.subj
    let hd := s.subjHd x
    let words :=
      [r.src + sev * 2 ^ 8 + b2n r.forced * 2 ^ 11 + b2n severe * 2 ^ 12 + b2n esc * 2 ^ 13 + action * 2 ^ 16,
       x.stream.getD 0 % 2 ^ 16 + (x.port.getD 0x7F) * 2 ^ 16, hd.getD 0 + b2n hd.isSome * 2 ^ 31,
       s.ns % 2 ^ 32, s.ns / 2 ^ 32 % 2 ^ 32]
    ({ s with flt := { s.flt with log := SMap.set s.flt.log (tail % 64) words [] } }).wr FAULT_LOG_TAIL_INDEX (tail + 1)

/-! ## Notices (R560 to R565) -/

/-- Two records of one subject merged (R562). -/
def NoticeRec.merge (a b : NoticeRec) : NoticeRec :=
  { sev := max a.sev b.sev,
    src := if a.sev < b.sev then b.src else if b.sev < a.sev then a.src else min a.src b.src,
    remote := a.remote && b.remote, reporters := min (a.reporters + b.reporters) 65535,
    tick := min a.tick b.tick, first := min a.first b.first }

/-- The body of a FAULT_NOTICE (R561). -/
def noticeBody (subject : Nat) (n : NoticeRec) (now : Bool) : List Nat :=
  leBytes 2 subject ++ [n.src, n.sev + b2n n.remote * 8 + b2n now * 16] ++ leBytes 2 n.reporters ++ leBytes 4 n.tick
    ++ leBytes 2 n.first ++ [0]

/-- A record joins the merge table, or overflows it (R562). -/
def State.noticeMerge (s : State) (subject : Nat) (n : NoticeRec) : State :=
  let put (x : NoticeRec) : State := { s with flt := { s.flt with merge := SMap.set s.flt.merge subject (some x) none } }
  match SMap.get s.flt.merge subject none with
  | some x => put (x.merge n)
  | none => if s.flt.merge.length < 64 then put n else s.raise 157

/-- A record written to the notice log of the root (R565). -/
def State.noticeLog (s : State) (subject : Nat) (n : NoticeRec) (now : Bool) : State :=
  let tail := s.rd FAULT_NOTICE_TAIL_INDEX
  if (tail + 512 - s.rd FAULT_NOTICE_HEAD_INDEX) % 512 = 256 then (s.inc FAULT_NOTICE_DROPS_VALUE).raise 159
  else
    let words :=
      [subject + n.src * 2 ^ 16 + n.sev * 2 ^ 24 + b2n n.remote * 2 ^ 27 + b2n now * 2 ^ 28,
       n.reporters + n.first * 2 ^ 16, n.tick, s.time.tick % 2 ^ 32]
    let s1 := ({ s with flt := { s.flt with nlog := SMap.set s.flt.nlog (tail % 256) words [] } }).wr
      FAULT_NOTICE_TAIL_INDEX (tail + 1)
    s1.raise (if n.sev ≤ 1 then 147 else if n.sev = 2 then 154 else if n.sev = 3 then 155 else 156)

/-- An IMMEDIATE notice: logged at the root, passed on elsewhere (R564). -/
def State.noticeNow (s : State) (subject : Nat) (n : NoticeRec) : State :=
  if s.isRoot then s.noticeLog subject n true
  else if s.joined then s.toParent hmFAULT_NOTICE (noticeBody subject n true)
  else s.raise 158

/-- The subject of the notice of an event (R560). -/
def State.noticeSubject (s : State) (r : Raise) : Nat :=
  if 144 ≤ r.src ∧ r.src ≤ 146 ∧ !r.forced then r.subj.arg else s.did

/-- An event originates its notice (R560, R563, R564). -/
def State.notice (s : State) (r : Raise) (sev : Nat) (now : Bool) : State :=
  let own := 147 ≤ r.src ∧ (r.src = 147 ∨ 154 ≤ r.src ∧ r.src ≤ 159)
  let adj := r.src = 144 ∧ !now
  if own ∨ ¬ (adj ∨ s.rd FAULT_CTRL_NOTICE_LEVEL ≤ sev ∨ now) then s
  else
    let subject := s.noticeSubject r
    let n : NoticeRec :=
      { sev := if adj then sevDEGRADED else sev, src := r.src, remote := subject != s.did, reporters := 1,
        tick := s.time.tick % 2 ^ 32, first := s.did }
    if now then s.noticeNow subject n
    else if s.isRoot || s.joined then s.noticeMerge subject n
    else s.raise 158

/-- FAULT_NOTICE (R561, R562, R564): it counts only from a child. -/
def State.faultNotice (s : State) (k subject src flags reporters tick first : Nat) : State :=
  if 4 < flags % 8 ∨ 32 ≤ flags then s.raise 80 { port := some (4 * k) }
  else if !s.children.contains k then s
  else
    let n : NoticeRec := { sev := flags % 8, src := src, remote := bit flags 3, reporters := reporters, tick := tick, first := first }
    if bit flags 4 then s.noticeNow subject n
    else if s.isRoot || s.joined then s.noticeMerge subject n
    else s.raise 158

/-- The records of the past interval leave at the edge, and the table is empty (R562, R563, R565). -/
def State.noticeTick (s : State) : State :=
  let l := s.flt.merge
  let s1 := { s with flt := { s.flt with merge := [] } }
  l.foldl (fun (t : State) e =>
    match e.2 with
    | none => t
    | some n =>
      if t.isRoot then t.noticeLog e.1 n false
      else if t.joined then t.toParent hmFAULT_NOTICE (noticeBody e.1 n false)
      else t.raise 158) s1

/-! ## An event (R539 to R547, R552 to R555) -/

/-- The collector's own record of an unmasked event: LAST_SEV, MAX_SEV and the FSW bit (R540, R546). -/
def State.markFsw (s : State) (n sev : Nat) : State :=
  let top := if s.fsw n then max (s.rd FAULT_SRC_STATUS_MAX_SEV n) sev else sev
  ((s.wr FAULT_SRC_STATUS_LAST_SEV sev n).wr FAULT_SRC_STATUS_MAX_SEV top n).wr FAULT_FSW_VALUE
    (setBit (s.rd FAULT_FSW_VALUE (n / 32)) (n % 32) true) (n / 32)

/-- The severity of an event in the state it finds, its window counted: severity, whether it escalated (R543 to R545). -/
def State.effective (s : State) (r : Raise) : Nat × Bool :=
  let base := s.baseSev r
  if base = sevFATAL then (base, false)
  else
    let v1 := if s.isSevere r.src then s.raiseSev base else base
    let esc := decide (sevDEGRADED ≤ v1) && s.armed r.src
    (if esc then s.raiseSev v1 else v1, esc)

/-- The collector takes one event. -/
def State.takeEvent (s0 : State) (r : Raise) : State :=
  if !sourceUsed r.src then s0
  else
    let n := r.src
    let s := s0.incSat FAULT_SRC_STATUS_EVENTS n
    if s.on FAULT_SRC_CFG_MASK n then s
    else
      let s1 := s.windowCount n
      let (sev, esc) := s1.effective r
      let severe := s1.isSevere n
      let s2 := s1.markFsw n sev
      let acts := !r.forced || s2.on FAULT_CTRL_FORCE_ACTIONS
      let (a1, s3) := if sevCONTAINED ≤ sev ∧ acts then s2.containAction n r.subj else (0, s2)
      let fatal := decide (sev = sevFATAL) && acts
      let action := if fatal then (if s3.on FAULT_CTRL_FATAL_ACTION then 5 else 4) else a1
      let s4 := if fatal then
          let t := s3.wr FAULT_STATUS_FATAL_SOURCE n
          { t with flt := { t.flt with fatalDue := true } }
        else s3
      let s5 := if s4.rd FAULT_CTRL_LOG_LEVEL ≤ sev then s4.faultLog r sev severe esc action else s4
      let s6 := if s5.rd FAULT_CTRL_IRQ_LEVEL ≤ sev then { s5 with flt := { s5.flt with irq := true } } else s5
      s6.notice r sev fatal

/-- FAULT_EVENT: a block raises a source (R539). -/
def State.faultEvent (s : State) (src : Nat) (subj : Subj) : State := s.raise src subj

/-- One forced event (R539): a software write, taken after the events of blocks. -/
def State.force (s : State) (n : Nat) : State :=
  { s with raised := s.raised ++ [{ src := n, forced := true }] }

/-- A write of FAULT_SRC_CFG (R542, R567). -/
def State.srcCfgWrite (s : State) (n v : Nat) : State :=
  if !sourceUsed n then s
  else
    let sev := bits v 29 27
    let s1 := if n = 177 ∧ s.flt.perCluster ∧ sev ≠ sevFATAL then { s with flt := { s.flt with perCluster := false } } else s
    let s2 := (((((s1.wr FAULT_SRC_CFG_MASK (bits v 30 30) n).wr FAULT_SRC_CFG_SEVERITY sev n).wr
      FAULT_SRC_CFG_CONTAIN_ACTION (bits v 26 25) n).wr FAULT_SRC_CFG_SLOT_OFF (bits v 24 24) n).wr
      FAULT_SRC_CFG_COUNT_N (bits v 23 16) n).wr FAULT_SRC_CFG_WINDOW (bits v 15 0) n
    if bit v 31 then s2.force n else s2

/-- A write of FAULT_FSW word `i`: each bit written 1 acknowledges its source (R540, R546). -/
def State.fswWrite (s : State) (i v : Nat) : State :=
  (bitsSet v 32).foldl (fun (t : State) b =>
    if t.fsw (32 * i + b) then
      (t.wr FAULT_FSW_VALUE (setBit (t.rd FAULT_FSW_VALUE i) b false) i).wr FAULT_SRC_STATUS_MAX_SEV sevNOTE (32 * i + b)
    else t) s

/-! ## Halt, FAULT_N and the tick (R541, R553, R556, R557) -/

/-- The device halts. -/
def State.halt (s : State) : State :=
  let s1 := s.setOn FAULT_STATUS_HALTED
  let s2 := s1.fabOcts.foldl (fun (t : State) k => t.lanesIdle k) s1
  let s3 := (List.range 96).foldl (fun (t : State) p => t.assertPerst p) s2
  if s3.on FAULT_CTRL_HALT_SLOTS_OFF then
    (List.range 24).foldl (fun (t : State) n => if (t.chan n).st = cOFF ∨ (t.chan n).st = cLOCKED then t else t.chanTo n cOFF) s3
  else s3

/-- The lowest source that holds FAULT_N low. -/
def State.pinSource (s : State) : Option Nat :=
  (sourceDefaults.map (·.1)).find? (fun n =>
    s.fsw n && decide (s.rd FAULT_CTRL_FAULT_PIN_LEVEL ≤ s.rd FAULT_SRC_STATUS_MAX_SEV n))

/-- Whether the collector drives FAULT_N at all: after a completed load (R581); safe hold drives it low (R577). -/
def State.faultPinLow (s : State) : Bool :=
  match s.rst.phase with
  | .held | .released | .loading => false
  | .safeHold => true
  | _ => s.on FAULT_STATUS_HALTED || s.pinSource.isSome

/-- FAULT_N and FAULT_PIN_STATUS follow (R556). -/
def State.syncFaultPin (s : State) : State :=
  let low := s.faultPinLow
  let src := s.pinSource
  let s1 := if s.on FAULT_PIN_STATUS_ASSERTED == low then s else s.emit (.pin 0 0 (b2n (!low)))
  ((s1.wr FAULT_PIN_STATUS_ASSERTED (b2n low)).wr FAULT_PIN_STATUS_SOURCE_VALID (b2n (low && src.isSome))).wr
    FAULT_PIN_STATUS_SOURCE (if low then src.getD 0 else 0)

/-- Whether the collector takes events: not before the fuse map is loaded (log entry 55). -/
def State.collecting (s : State) : Bool :=
  match s.rst.phase with
  | .held | .released | .loading | .safeHold => false
  | _ => true

/-- The event that is taken first of those of one sample: that of the lowest source, a forced one last (R61, R539). -/
def firstRaise : List Raise → Option Raise
  | [] => none
  | x :: r =>
    match firstRaise r with
    | none => some x
    | some y => if y.src < x.src ∨ (y.src = x.src ∧ x.forced ∧ !y.forced) then some y else some x

/-- Events taken one after another, at most `fuel`. -/
def State.takeRaises (s : State) : Nat → State
  | 0 => s
  | n + 1 =>
    match firstRaise s.raised with
    | none => s
    | some r => ({ s with raised := dropFirst r s.raised }.takeEvent r).takeRaises n

/-- The events raised so far: taken, or dropped while the collector does not run. -/
def State.collect (s : State) : State :=
  if s.collecting then s.takeRaises s.raised.length else { s with raised := [] }

/-- The collector's work at a tick edge: the notices and the interrupt of the past interval, then the events of the edge's
own sample (R64), the windows that close, and the snapshot unless it was abandoned. -/
def State.faultTick (s : State) (missed : Bool) : State :=
  let s1 := s.noticeTick
  let s2 := if s1.flt.irq then
      ({ s1 with flt := { s1.flt with irq := false } }).regIrq FAULT_IRQ_EN FAULT_IRQ_PF FAULT_IRQ_VECTOR
    else s1
  let s3 := if s2.collecting then s2.takeRaises 65536 else { s2 with raised := [] }
  let s4 := (s3.flt.close.map (·.1)).foldl (fun (t : State) n => t.windowClose n) s3
  if missed then s4
  else
    (List.range 8).foldl (fun (t : State) i => t.wr FAULT_FSW_SNAP_VALUE (t.rd FAULT_FSW_VALUE i) i)
      (s4.wr64 FAULT_SNAP_TICK_LO_VALUE FAULT_SNAP_TICK_HI_VALUE s4.time.tick)

end Sys2Proof.Machine
end

