-- ==== Sys2Proof/Machine/ResetOps.lean ====
section
/-! DEFINITION. Device resets, the fuse map, start-up, firmware load, block resets and the power states (R569 to R601,
R641, R646). -/

namespace Sys2Proof.Machine

/-- Every setup register, by block. -/
def allRegs : List RegDesc :=
  regsIDENT ++ regsTIME ++ regsRESET ++ regsFAULT ++ regsIBEX ++ regsFUSE ++ regsCUE ++ regsOBS ++ regsOCT ++ regsPORT
  ++ regsFWD ++ regsBUF ++ regsSCHED ++ regsGATE ++ regsHERD ++ regsBRG ++ regsRING ++ regsCH ++ regsECC

/-- Whether the stored field of key `k` survives a warm reset: a sticky one, the TIME block, the Ibex block (R7, R583). -/
def keyKept (k : Nat) : Bool :=
  let o := k / 32
  (decide (0x10000 ≤ o) && decide (o < 0x20000)) || (decide (0x40000 ≤ o) && decide (o < 0x50000))
    || (match findReg allRegs o with
        | some (r, _, _) => r.flds.any (fun f => f.lo == k % 32 && f.sticky)
        | none => false)

/-! ## Triggers (R569 to R574) -/

def rsPOR : Nat := 0
def rsRESET_N : Nat := 1
def rsSMBUS : Nat := 2
def rsHERD : Nat := 3
def rsDEVICE : Nat := 4
def rsFATAL : Nat := 5
def rsWATCHDOG : Nat := 6
def rsTHERMAL : Nat := 7

/-- RST fields changed. -/
def State.setRst (s : State) (f : RstSt → RstSt) : State := { s with rst := f s.rst }

/-- A device-reset trigger: the reset takes effect at the end of the sample (R570). In safe hold only POR and RESET_N
count (R578). -/
def State.trigger (s : State) (src : Nat) (cold : Bool) : State :=
  if s.rst.phase = .safeHold ∧ src ≠ rsPOR ∧ src ≠ rsRESET_N then s
  else s.setRst (fun r => { r with due := some (cold || r.due.getD false), sources := setBit r.sources src true, cold := r.cold || cold })

/-- What a device reset keeps of the registers: nothing but the record of causes, or the sticky fields, TIME and IBEX
(R571, R583). -/
def State.resetRegs (s : State) (cold : Bool) : Regs :=
  let keep := s.reg.filter (fun e => if cold then e.1 / 32 == 0x20000 else keyKept e.1)
  keep.foldl (fun m e => SMap.insert (SMap.erase m e.1) e.1 e.2) regsReset

/-- TIME through a warm reset: its links are down, so it knows no partner and no claim (R583). -/
def TimeSt.warm (t : TimeSt) : TimeSt :=
  { t with ports := [], claims := [], claimSeen := false, pend := none, cand := none, stepReq := false,
           overruns := 0, hookOpen := 0 }

/-- The state that a device reset leaves (R570, R577, R583): only what the rules keep. -/
def State.resetState (s : State) (cold : Bool) : State :=
  let r := s.rst
  let rst : RstSt :=
    { phase := .held, por := r.por, thermal := r.thermal, sources := r.sources, cold := r.cold, thisCold := cold,
      loaded := r.loaded && !cold, fuses := r.fuses, shadow := if r.loaded && !cold then r.shadow else [],
      supply := r.supply, hot := r.hot }
  if cold then
    { reg := s.resetRegs true, ring := ringReset, rst := rst, out := s.out, free := s.free, pending := s.pending }
  else
    { reg := s.resetRegs false, ring := ringReset, rst := rst, out := s.out, free := s.free, pending := s.pending,
      time := s.time.warm, ibx := s.ibx, flt := { close := s.flt.close },
      ecc := { remap := s.ecc.remap } }

/-- The fields of the fuse map. Rows are read through their defaults (R575). -/
def rowDefault (n : Nat) : Nat :=
  if n = 128 then 0x5E
  else if 129 ≤ n ∧ n ≤ 152 then 6 * 2 ^ 16
  else if 153 ≤ n ∧ n ≤ 248 then 6 * 2 ^ PORT_CFG_MAX_RATE.lo
  else if n = 249 then 1 + 0x80 * 2 ^ 8 + 2 ^ 16 + 0x80 * 2 ^ 24
  else if n = 251 then 0x5555555555555555
  else if n = 252 then 0x55555555
  else if n = 253 then 0x1111111111111111
  else if n = 255 then 1 + 2 * 2 ^ 32
  else if n = 256 then 3
  else if 257 ≤ n ∧ n ≤ 288 then 64 * (n - 257) * 2 ^ RING_PF_VF_VF_BASE.lo + 64 * 2 ^ RING_PF_VF_VF_LIMIT.lo
  else 0

/-- The data of a row in the shadow: an unprogrammed one is kept with its default (R575, R576). -/
def State.rowData (s : State) (n : Nat) : Nat := SMap.get s.rst.shadow n 0

/-- A field takes its bits from a fuse row that holds it as the register does. -/
def State.fromRow (s : State) (f : Fld) (d : Nat) (i : Nat := 0) : State := s.wr f (bits d f.hi f.lo) i

/-- TIME_CTRL.ENABLE and what goes with it take their fused values (R583). -/
def State.fuseTime (s : State) : State :=
  let d := s.rowData 249
  let s1 := (s.wr TIME_CTRL_SOURCE (bits d 3 3)).wr TIME_PRIORITY_PRIORITY (bits d 15 8)
  let s2 := (s1.wr REFOUT_EN_LO_VALUE (bits (s.rowData 250) 31 0)).wr REFOUT_EN_HI_VALUE (bits (s.rowData 250) 47 32)
  s2.timeEnable (bit d 0)

/-- Octet `k` takes its fused mode. -/
def State.fuseOct (s : State) (k : Nat) : State :=
  let d := s.rowData (129 + k)
  let s1 := (((s.fromRow OCT_MODE_MODE d k).fromRow OCT_MODE_FABRIC d k).fromRow OCT_MODE_PORT_EN d k).wr OCT_FAB_CFG_MAX_RATE
    (bits d 19 16) k
  if k % 2 = 0 then s1.wr OCT_STATUS_PAIRED (b2n (s1.octMode k == 4)) (k + 1) else s1

/-- Port `p` takes its fused role, rate, clocking and domain; the roles 0b10 and 0b11 load as 0b00, and so does a 33rd
upstream port (R26; log entry 70). -/
def State.fusePort (s : State) (p : Nat) : State :=
  let d := s.rowData (153 + p)
  let role := bits d PORT_CFG_ROLE.hi PORT_CFG_ROLE.lo
  let full := role == 1 && s.portExists p && !s.isFab p && decide (32 ≤ (s.upPorts.filter (· < p)).length)
  (((s.fromRow PORT_CFG_MAX_RATE d p).fromRow PORT_CFG_CLK_MODE d p).wr PORT_CFG_ROLE (if 2 ≤ role ∨ full then 0 else role) p).wr
    PORT_CFG_HD (bits d 25 16) p

/-- The fused remap entries of group `g` (R531, R575). -/
def State.fuseCam (s : State) (g : Nat) : State :=
  let half (e : Nat) : Nat := bits (s.rowData (8 + 4 * g + e / 2)) (if e % 2 = 0 then 31 else 63) (if e % 2 = 0 then 0 else 32)
  let m := (List.range 8).foldl (fun m e =>
    SMap.set m (g * 16 + e) (if bit (half e) 31 then 2 ^ 31 + half e % 2 ^ 22 else 0) 0) s.ecc.remap
  ({ s with ecc := { s.ecc with remap := m } }).wr ECC_GROUP_REMAP_FUSE_USED
    ((List.range 8).filter (fun e => bit (half e) 31)).length g

/-- Every field marked "fuse", TIME apart, takes its value from the shadow (R576). -/
def State.loadFuses (s : State) : State :=
  let s1 := s.wr IDENT_PART_GRADE (bits (s.rowData 1) 1 0)
  let s2 := (List.range 24).foldl State.fuseOct s1
  let s3 := (List.range 96).foldl State.fusePort s2
  let d := s.rowData 249
  let s4 := (((s3.wr HERD_CTRL_ENABLE (bits d 16 16)).wr HERD_PRIORITY_PRIORITY (bits d 31 24)).wr HERD_DID_REQ_DID (bits d 43 32)).wr
    HERD_DID_REQ_VALID (bits d 47 47)
  let s5 := (List.range 48).foldl (fun (t : State) n =>
    t.wr CUE_PIN_CFG_REST (bits (s.rowData (251 + n / 32)) (2 * (n % 32) + 1) (2 * (n % 32))) n) s4
  let c := s.rowData 254
  let s6 := ((((s5.fromRow DRAM_CFG_CH_EN c).fromRow DRAM_CFG_RATE c).fromRow DRAM_CFG_RANKS c).fromRow DRAM_CFG_CH_SIZE c).fromRow
    DRAM_CFG_DENSITY c
  let s7 := ((s6.wr FWD_HASH_SEED_A_VALUE (bits (s.rowData 255) 31 0)).wr FWD_HASH_SEED_B_VALUE (bits (s.rowData 255) 63 32)).wr
    FWD_MP_SEED_VALUE (bits (s.rowData 256) 31 0)
  let s8 := (List.range 32).foldl (fun (t : State) n =>
    (t.fromRow RING_PF_VF_VF_BASE (s.rowData (257 + n)) n).fromRow RING_PF_VF_VF_LIMIT (s.rowData (257 + n)) n) s7
  (List.range 16).foldl State.fuseCam s8

/-- A device reset (R570, R571, R573, R577). -/
def State.deviceReset (s : State) (cold : Bool) : State :=
  let joined := s.rst.phase = .held ∨ s.rst.phase = .released
  let kind := cold || (decide joined && s.rst.thisCold)
  let count := if kind then 0 else if joined then s.rd RST_WARM_COUNT_COUNT else min (s.rd RST_WARM_COUNT_COUNT + 1) 0xFFFF
  let slots := (List.range 96).filter (fun p => (s.slotChan p).isSome && !s.on PORT_SLOT_STATUS_PERST p)
  let pins := slots.filterMap (fun p => (s.slotChan p).map (fun n => Emit.pin 3 n 0))
  let fault := if s.on FAULT_PIN_STATUS_ASSERTED then [Emit.pin 0 0 1] else []
  let s1 := (s.emits ([Emit.pin 10 0 0] ++ fault ++ pins)).resetState kind
  let s2 := (s1.wr RST_WARM_COUNT_COUNT count).wr FAULT_STATUS_HALTED 0
  if kind then s2
  else
    let s3 := if s2.timeState = tsLOCKED then s2.enterHoldover else s2
    if s3.rst.loaded then
      (s3.loadFuses.wr FUSE_STATUS_STATE 1)
    else s3

/-- The reset triggered in this sample takes place (R570). A FATAL action that is pending is a warm trigger or a halt
(R552). -/
def State.resetDue (s : State) : State :=
  let s1 := if s.flt.fatalDue then
      let t := { s with flt := { s.flt with fatalDue := false } }
      if t.on FAULT_CTRL_FATAL_ACTION then (if t.rst.due.isSome then t else t.halt)
      else
        let u := t.trigger rsFATAL false
        if u.rst.due.isSome then u.setOn FAULT_STATUS_FATAL_RESET else u
    else s
  match s1.rst.due with
  | some cold => s1.deviceReset cold
  | none => s1

/-- POWER_ON_RESET: a rail below its POR-assert level (R641). -/
def State.powerOnReset (s : State) : State := (s.setRst (fun r => { r with por := true })).trigger rsPOR true

/-- POR_RELEASE: every monitored rail is above its POR-release level. -/
def State.porRelease (s : State) : State := s.setRst (fun r => { r with por := false })

/-- RESET_N_ASSERT: a trigger only while the device is out of reset (R572); safe hold ends by it (R578). -/
def State.resetN (s : State) : State :=
  if s.rst.phase = .held ∨ s.rst.phase = .released then s else s.trigger rsRESET_N true

/-- A write of RST_DEVICE (R569, R599). -/
def State.rstDeviceWrite (s : State) (v : Nat) : State :=
  if bits v 31 16 = 0x9192 then s.trigger rsDEVICE (bit v 0) else s

/-- The SMBus RESET command: 0 warm, 1 cold, other arguments refused (R569). -/
def State.smbusReset (s : State) (arg : Nat) : State :=
  if arg = 0 then s.trigger rsSMBUS false else if arg = 1 then s.trigger rsSMBUS true else s

/-- THERMAL_TRIP (R646). -/
def State.thermalTrip (s : State) : State :=
  let s1 := (s.raise 129).emit (.pin 11 0 0)
  (s1.setRst (fun r => { r with thermal := true })).trigger rsTHERMAL true

/-- THERMAL_TRIP_END: Tj is below 110 °C (R573). -/
def State.thermalEnd (s : State) : State := s.setRst (fun r => { r with thermal := false })

/-- THERMAL_WARN: once until re-armed (R646). -/
def State.thermalWarn (s : State) : State :=
  if s.rst.hot then s else (s.setRst (fun r => { r with hot := true })).raise 128

/-- THERMAL_WARN_REARM. -/
def State.thermalRearm (s : State) : State := s.setRst (fun r => { r with hot := false })

/-- SUPPLY_FAULT of rail `n` in the order of R641's table: once for each excursion; VDD2H and VDDQ count only while a
channel is enabled. -/
def State.supplyFault (s : State) (n : Nat) : State :=
  if 8 ≤ n ∨ bit s.rst.supply n ∨ (6 ≤ n ∧ s.rd DRAM_CFG_CH_EN = 0) then s
  else (s.setRst (fun r => { r with supply := setBit r.supply n true })).raise 130

/-- SUPPLY_WINDOW_RETURN. -/
def State.supplyReturn (s : State) (n : Nat) : State :=
  if n < 8 then s.setRst (fun r => { r with supply := setBit r.supply n false }) else s

/-- RESET_STRETCH_END: RESET_N is released, unless POR or a thermal trip still holds it (R573). THERMTRIP_N follows. -/
def State.stretchEnd (s : State) : State :=
  if s.rst.phase = .held ∧ !s.rst.por ∧ !s.rst.thermal then
    ((s.setRst (fun r => { r with phase := .released })).emit (.pin 10 0 1)).emit (.pin 11 0 1)
  else s

/-- RESET_RELEASE: RST_CAUSE is taken, and the fuse load or the SRAM initialisation starts (R571, R574, R576, R583). -/
def State.resetRelease (s : State) : State :=
  if s.rst.phase = .released then
    let s1 := (s.wr RST_CAUSE_SOURCES s.rst.sources).wr RST_CAUSE_COLD (b2n s.rst.cold)
    if s1.rst.loaded then (s1.setRst (fun r => { r with phase := .sram })).wr RST_STATUS_STAGE 1
    else (s1.setRst (fun r => { r with phase := .loading })).wr RST_STATUS_STAGE 0
  else s

/-! ## The fuse load (R575 to R581) -/

/-- Whether a row read from the array passes its check (R575). -/
def State.rowOk (s : State) (n : Nat) : Bool :=
  let v := SMap.get s.rst.fuses n 0
  if v = 0 then decide (8 ≤ n)
  else v == fuseRow (v % 2 ^ 64) && !(n == 1 && decide (2 ≤ v % 4))

/-- The first row that fails its third read: one whose stored bits do not pass, or one that the array did not read well. -/
def State.failRow (s : State) (bad : List Nat) : Option Nat :=
  (List.range 512).find? (fun n => !s.rowOk n || bad.contains n)

/-- Safe hold (R578). -/
def State.safeHold (s : State) (row : Nat) (retried : List Nat) : State :=
  let s1 := ((s.setRst (fun r => { r with phase := .safeHold, shadow := [] })).wr FUSE_STATUS_STATE 2).wr FUSE_STATUS_FAIL_ROW row
  (s1.wr FUSE_STATUS_RETRIED ((retried.filter (· < row)).length + 1)).markFsw 192 (s.rd FAULT_SRC_CFG_SEVERITY 192)

/-- FUSE_LOAD_DONE: `retried` lists the rows that needed more than one read and passed, `bad` those that failed three
reads. -/
def State.fuseLoadDone (s : State) (retried bad : List Nat) : State :=
  if s.rst.phase ≠ .loading then s
  else
    let rows := retried.eraseDups.filter (· < 512)
    match s.failRow bad with
    | some row => s.safeHold row rows
    | none =>
      let shadow := (List.range 512).filterMap (fun n =>
        let v := SMap.get s.rst.fuses n 0
        let d := if v = 0 then rowDefault n else v % 2 ^ 64
        if d = 0 then none else some (n, d))
      let s1 := s.setRst (fun r =>
        { r with phase := .sram, shadow := shadow, loaded := true, retried := rows, sources := 0, cold := false })
      let s2 := ((s1.wr FUSE_STATUS_STATE 1).wr FUSE_STATUS_RETRIED rows.length).wr RST_STATUS_STAGE 1
      s2.loadFuses.fuseTime

/-- SRAM_INIT_DONE: `bad` lists failing words by group and index; only a cold reset tests (R582, R583). Ports enabled
by the fuse map start. -/
def State.sramInitDone (s : State) (bad : List (Nat × Nat)) : State :=
  if s.rst.phase ≠ .sram then s
  else
    let words := if s.rst.thisCold then bad.filter (fun e => decide (e.1 < 16) && decide (e.2 < eccSize e.1)) else []
    let s1 := words.foldl (fun (t : State) e =>
      if t.mapped_ e.1 e.2 then t
      else
        match t.freeRemap e.1 with
        | some i => t.addRemap e.1 i e.2
        | none => t.raise 36 { arg := e.1 }) s
    let s2 := (s1.setRst (fun r => { r with phase := .firmware })).wr RST_STATUS_STAGE 3
    ((List.range 96).foldl (fun (t : State) p => if t.portExists p && t.portEn p then t.portOn p else t) s2).dramStart

/-! ## Firmware (R584 to R586) -/

/-- The first stage of an image, when its header is right (R584). -/
def stageOf (img : List Nat) : Option (List Nat) :=
  let n := bytesAt img 4 7
  let stage := (img.drop 16).take n
  if bytesAt img 0 3 = 0x57464C55 ∧ 64 ≤ n ∧ n ≤ 65536 ∧ stage.length = n ∧ crc32c 0xFFFFFFFF stage = bytesAt img 8 11 then some stage
  else none

/-- The collector starts: the reset is recorded, and each row of the load that was read again (R571, R581). -/
def State.collectorStart (s : State) : State :=
  let s1 := s.rst.retried.foldl (fun (t : State) _ => t.raise 193) (s.raise 195)
  s1.setRst (fun r => { r with retried := [] })

/-- Herd starts with the firmware when it is enabled (R582 step 5). -/
def State.herdStart (s : State) : State :=
  if s.herdOn then (s.wr HERD_STATUS_STATE hsDISCOVERING).elect none else s

/-- FIRMWARE_LOAD: the images A and B as the flash holds them. -/
def State.firmwareLoad (s : State) (a b : List Nat) : State :=
  if s.rst.phase ≠ .firmware then s
  else
    let sel := bit (s.rowData 128) 16
    let first := stageOf (if sel then b else a)
    let other := stageOf (if sel then a else b)
    let s1 := if first.isSome then s else s.raise 179
    match (match first with
      | some x => some (x, sel)
      | none => other.map (fun x => (x, !sel))) with
    | some (x, isB) =>
      let s2 := ((s1.memPut 0x10000000 x).wr RST_STATUS_FW_IMAGE (if isB then 2 else 1)).wr RST_STATUS_STAGE 4
      (((s2.setRst (fun r => { r with phase := .running })).coreRun (Nat.lor (s2.rd CH_CTRL_RUN) 1)).herdStart).collectorStart
    | none => ((s1.setRst (fun r => { r with phase := .noFirmware })).wr RST_STATUS_STAGE 5).collectorStart

/-- NO_FIRMWARE_TIMEOUT: 1 s after reset release without an image, the EARLY ports answer (R585). -/
def State.noFirmware (s : State) : State :=
  if s.rst.phase = .noFirmware ∧ !s.rst.early then
    let s1 := s.setRst (fun r => { r with early := true })
    ((s1.upPorts.filter (fun p => bit (s1.rowData (153 + p)) 32)).foldl (fun (t : State) p => t.hierReady p) s1).raise 180
  else s

/-! ## Block resets (R590) -/

/-- Whether BLOCK names a block. -/
def blockNamed (b : Nat) : Bool := b < 24 || (0x20 ≤ b && b < 0x28) || (0x30 ≤ b && b < 0x40) || (0x40 ≤ b && b < 0x43)

/-- A write of RST_BLOCK_CMD. -/
def State.rstBlockWrite (s : State) (v : Nat) : State :=
  if bit v 31 && blockNamed (v % 256) && s.rst.block.isNone then
    ((((s.setRst (fun r => { r with block := some (v % 256, s.ns) })).setOn RST_BLOCK_STATUS_BUSY).wr RST_BLOCK_STATUS_DONE 0).wr
      RST_BLOCK_STATUS_FORCED 0).wr RST_BLOCK_STATUS_BLOCK (v % 256)
  else s

/-- Whether a block is idle. -/
def State.blockIdle (s : State) (b : Nat) : Bool :=
  if b < 24 then
    (List.range 4).all (fun j => (s.txOf (4 * b + j)).left == 0) && s.fwd.pkts.all (fun k => k.ing / 4 != b)
  else if b < 0x28 then s.sch.queues.all (fun e => e.2.refill.isEmpty && e.2.staged.isEmpty)
  else if b < 0x40 then
    s.ring.qps.all (fun e => e.1 % 16 != b - 0x30 || e.2.inProg.all (fun d => !d.started || d.timed))
  else if b = 0x40 then s.lineList.all (fun e => e.2.filled)
  else true

/-- The part of a queue's tail from block `first` of its chain on is lost (R590). -/
def State.loseFrom (s : State) (qn first : Nat) : State :=
  let q := s.queue qn
  let start := q.lead + sum (q.refill.map (fun p => storedBytes p.le))
  let keep := (q.tail.foldl (fun (a : Nat × List QPkt × Bool) p =>
    let e := a.1 + storedBytes p.le
    if a.2.2 ∨ first * 2048 < e then (e, a.2.1, true) else (e, a.2.1 ++ [p], false)) (start, [], false)).2.1
  let lost := q.tail.drop keep.length
  if lost.isEmpty then s
  else
    let left := q.stored - sum (lost.map (fun p => storedBytes p.le))
    let blocks := if left = 0 then 0 else ceilDiv (q.lead + left) 2048
    let s1 := ({ s with buf := { s.buf with freeBlocks := s.buf.freeBlocks + (q.tailBlocks - blocks) } }.setQueue qn
      { q with tail := keep, stored := left, lead := if left = 0 then 0 else q.lead, tailBlocks := blocks }).syncBlocks
    (((s1.wr OVF_LOST_VALUE (s1.rd OVF_LOST_VALUE + lost.length)).raise 50 { arg := qn }).spillExit qn).syncDeficit qn

/-- The effect of a block's reset; `forced` ends a mover's descriptors. Which block of a chain is the first on a DRAM
channel is a free value (log entry 61). -/
def State.blockReset (s : State) (b : Nat) (forced : Bool) : State :=
  if b < 24 then (List.range 4).foldl (fun (t : State) j => t.portReset (4 * b + j)) s
  else if b < 0x28 then
    ((s.sch.queues.filter (fun e => !e.2.tail.isEmpty)).map (·.1)).foldl (fun (t : State) qn =>
      let n := (t.queue qn).tailBlocks
      (t.loseFrom qn (t.freeVal (n + 1))).useFree) s
  else if b < 0x40 then
    let qps := (s.ring.qps.filter (fun e => e.1 % 16 == b - 0x30)).map (·.1)
    let s1 := if forced then
        qps.foldl (fun (t : State) qn =>
          (((t.qp qn).inProg.filter (fun d => d.started && d.outcome.isNone && !d.timed)).foldl (fun (u : State) d =>
            u.setOutcome qn d { cookie := d.cookie, status := stABORTED_RESET, time := u.ns % 2 ^ 32, irq := d.irq })
            (t.freeNpOf (ownedBy qn)))) s
      else s
    qps.foldl (fun (t : State) qn => t.pumpQp qn) s1
  else if b = 0x40 then s.discardLines (fun _ => true)
  else if b = 0x41 then s.ibexRestore
  else { s with ecc := { s.ecc with scrub := 0 } }

/-- A block's reset ends. -/
def State.blockDone (s : State) (b : Nat) (forced : Bool) : State :=
  let s1 := s.setRst (fun r => { r with block := none })
  let s2 := (s1.wr RST_BLOCK_STATUS_BUSY 0).setOn RST_BLOCK_STATUS_DONE
  (if forced then (s2.setOn RST_BLOCK_STATUS_FORCED).raise 194 else s2).blockReset b forced

/-- BLOCK_IDLE_ACK. -/
def State.blockIdleAck (s : State) : State :=
  match s.rst.block with
  | some (b, _) => if s.blockIdle b then s.blockDone b false else s
  | none => s

/-- BLOCK_RESET_TIMEOUT. -/
def State.blockTimeout (s : State) : State :=
  match s.rst.block with
  | some (b, at_) =>
    if at_ + s.rd RST_BLOCK_TIMEOUT_TIMEOUT * 10000 ≤ s.ns then s.blockDone b (!s.blockIdle b) else s
  | none => s

/-! ## Quiet and Rest (R593 to R598) -/

def pwACTIVE : Nat := 0
def pwQUIET : Nat := 1
def pwREST : Nat := 2

/-- Whether the device is in Rest. -/
def State.resting (s : State) : Bool := s.rd PWR_STATUS_STATE == pwREST

/-- No queue, staging pool or launch table holds an entry. -/
def State.storesEmpty (s : State) : Bool :=
  s.sch.queues.all (fun e => e.2.packets.isEmpty) && s.gate.launch.all (fun e => e.2.isNone)

/-- The conditions of Quiet (R593). -/
def State.quietOk (s : State) : Bool :=
  s.fabOcts.all (fun k => !s.portEn (4 * k) || s.trState k == trDOZE || !s.fabUp k)
    && (List.range 96).all (fun p => !s.isPcie p || !s.portEn p || !s.on PORT_STATUS_LINK_UP p || s.rd PORT_STATUS_LTSSM p == lsL1)
    && s.storesEmpty && s.ring.qps.all (fun e => e.2.inProg.isEmpty)

/-- The device leaves Quiet. -/
def State.quietExit (s : State) : State :=
  if s.rd PWR_STATUS_STATE = pwQUIET then (s.wr PWR_STATUS_STATE pwACTIVE).setRst (fun r => { r with idleEdges := 0 }) else s

/-- QUIET_EXIT, when a port, a doorbell or a job needs a gated block (R594). -/
def State.quietCheck (s : State) : State := if s.quietOk then s else s.quietExit

/-- The count of R593 at a tick edge. -/
def State.quietTick (s : State) : State :=
  let n := if s.quietOk then s.rst.idleEdges + 1 else 0
  let s1 := s.setRst (fun r => { r with idleEdges := n })
  if s1.on PWR_CTRL_QUIET_EN && s1.rd PWR_STATUS_STATE == pwACTIVE && decide (s1.rd PWR_CTRL_QUIET_IDLE ≤ n) then
    s1.wr PWR_STATUS_STATE pwQUIET
  else s1

/-- QUIET_ENTRY: the conditions have held at QUIET_IDLE consecutive edges. -/
def State.quietEntry (s : State) : State :=
  if s.on PWR_CTRL_QUIET_EN && s.rd PWR_STATUS_STATE == pwACTIVE && s.quietOk
      && decide (s.rd PWR_CTRL_QUIET_IDLE ≤ s.rst.idleEdges) then
    s.wr PWR_STATUS_STATE pwQUIET
  else s

/-- The conditions of Rest (R595). -/
def State.restOk (s : State) : Bool :=
  s.fabOcts.all (fun k => !s.portEn (4 * k) || s.trState k == trHIBERNATE || !s.fabUp k)
    && (List.range 96).all (fun p => !s.isPcie p || !s.portEn p || !s.on PORT_STATUS_LINK_UP p)
    && s.ring.qps.all (fun e => e.2.state == .disabled) && s.storesEmpty
    && s.rd TRAP_TAIL_INDEX == s.rd TRAP_HEAD_INDEX

/-- REST_ARM: a write of PWR_CTRL (R595). -/
def State.pwrCtrlWrite (s : State) (v : Nat) : State :=
  let s1 := ((s.wr PWR_CTRL_REST_ARM (bits v 31 31)).wr PWR_CTRL_QUIET_EN (bits v 30 30)).wr PWR_CTRL_QUIET_IDLE (bits v 15 0)
  let s2 := s1.wr PWR_STATUS_REST_WAIT (bits v 31 31)
  if bit v 30 then s2 else s2.quietExit

/-- REST_ENTRY: armed, and the conditions hold (R595, R596). -/
def State.restEntry (s : State) : State :=
  if s.on PWR_CTRL_REST_ARM && !s.resting && s.restOk then
    let s1 := (((s.wr PWR_STATUS_STATE pwREST).wr PWR_CTRL_REST_ARM 0).wr PWR_STATUS_REST_WAIT 0).enterSelfRefresh
    if s1.timeState = tsLOCKED then s1.enterHoldover.raise 97 else s1
  else s

/-- REST_WAKE by source `n` (R597): an enabled source ends Rest. -/
def State.restWake (s : State) (n : Nat) : State :=
  if s.resting && decide (n < 5) && bit (s.rd PWR_WAKE_EN_EN) n then
    let s1 := ((s.wr PWR_STATUS_STATE pwACTIVE).wr PWR_STATUS_WAKE_SRC (2 ^ n)).setRst (fun r => { r with idleEdges := 0 })
    let s2 := (s1.wr DRAM_STATUS_SELF_REFRESH 0)
    let s3 := { s2 with buf := { s2.buf with idleTicks := 0 } }
    s3.fabOcts.foldl (fun (t : State) k => if t.trState k = trHIBERNATE then t.hibernateExit k else t) s3
  else s

/-! ## Programming fuses (R600, R601) -/

/-- A write of FUSE_PROG_CMD on path `path` (0 the anchor PF's BAR0, 2 SMBus). -/
def State.fuseProgram (s : State) (path v : Nat) : State :=
  let row := v % 512
  let data := s.rd64 FUSE_PROG_DATA_LO_VALUE FUSE_PROG_DATA_HI_VALUE
  if bits v 31 16 ≠ 0x9192 ∨ s.rst.progBusy.isSome then s
  else if (path = 0 ∨ path = 2) ∧ 128 ≤ row ∧ row ≤ 288 ∧ SMap.get s.rst.fuses row 0 = 0 ∧ data ≠ 0 then
    (s.setRst (fun r => { r with progBusy := some (row, data) })).wr FUSE_PROG_STATUS_RESULT 1
  else s.wr FUSE_PROG_STATUS_RESULT 3

/-- FUSE_PROGRAM_DONE. -/
def State.fuseProgramDone (s : State) : State :=
  match s.rst.progBusy with
  | some (row, data) =>
    (s.setRst (fun r => { r with progBusy := none, fuses := SMap.set r.fuses row (fuseRow data) 0 })).wr FUSE_PROG_STATUS_RESULT 2
  | none => s

/-- The stored check of a row and whether it is programmed, as FUSE_ROW_CRC shows them. -/
def State.fuseRowCrc (s : State) (n : Nat) : Nat :=
  let v := SMap.get s.rst.fuses n 0
  if s.rst.loaded ∧ v ≠ 0 then v / 2 ^ 64 % 2 ^ 16 + 2 ^ 31 else 0

/-! ## Power domains (R592) -/

/-- Whether domain `n` is on. -/
def State.domainOn (s : State) (n : Nat) : Bool :=
  if n < 48 then s.octMode (n % 24) != 0 || s.octPaired (n % 24)
  else if n < 72 then s.fabOct (n - 48) && s.portEn (4 * (n - 48))
  else if n < 80 then bit (s.rd DRAM_CFG_CH_EN) (n - 72)
  else if n < 96 then !s.resting
  else if n < 98 then (List.range 4).any (fun c => bit s.rst.cores (4 * (n - 96) + c))
  else if n < 106 then bit s.rst.cores (n - 98)
  else if n < 110 then bit (s.rd FLOW_GROUP_EN_GROUP_EN) (n - 106)
  else if n = 110 then true
  else s.rst.phase == .loading || s.rst.progBusy.isSome

/-- Word `i` of PD_STATUS. -/
def State.pdStatus (s : State) (i : Nat) : Nat :=
  sum ((List.range 32).map (fun b => b2n (decide (32 * i + b < 112) && s.domainOn (32 * i + b)) * 2 ^ b))

end Sys2Proof.Machine
end

