-- ==== Sys2Proof/Machine/Tables.lean ====
section
/-! DEFINITION. The tables behind the indirect table window: what a READ copies and what a WRITE does
(R631, R632, with R108, R139, R140, R171, R210, R232, R277, R373, R414, R478, R479, R520, R537 and R568). -/

namespace Sys2Proof.Machine

/-- The low `n` words of 32 bits of a number, lowest first. -/
def words32 (n v : Nat) : List Nat := (List.range n).map (fun i => v / 2 ^ (32 * i) % 2 ^ 32)

/-- The number that words of 32 bits spell, lowest first. -/
def ofWords : List Nat → Nat
  | [] => 0
  | w :: ws => w % 2 ^ 32 + 2 ^ 32 * ofWords ws

/-- The key of a colour counter: set × 8 + c as tables 0x22, 0x23 and 0x46 index it. -/
def colourKey (i : Nat) : Nat := i / 8 * 6 + i % 4 * 2 + i % 8 / 4

/-- Whether an index names a colour counter. -/
def colourIdx (i : Nat) : Bool := decide (i < 8 * 4096) && i % 4 != 3

/-- Whether an index names a drop counter (R108). -/
def dropIdx (i : Nat) : Bool := decide (i < 96 * 16) && decide (1 ≤ i % 16) && decide (i % 16 ≤ 14)

/-- The image of a move-table entry (R277). -/
def moveWords (m : Option Move) : List Nat :=
  match m with
  | none => [0, 0, 0, 0]
  | some m => [m.src + 2 ^ 31, m.stream, m.oldPort + m.newPort * 2 ^ 8, m.ticks % 2 ^ 16]

/-- The image of a link-state entry (R277). -/
def lsuWords (l : Option Lsu) : List Nat :=
  match l with
  | none => [0, 0, 0]
  | some l => [l.nbr + b2n l.up * 2 ^ 15 + l.oport * 2 ^ 16 + l.nport * 2 ^ 24, l.cost % 16 + l.delay % 2 ^ 16 * 2 ^ 16,
      l.seq % 2 ^ 16 + 2 ^ 31]

/-- The image of a mirror word (R414). -/
def Mirror.words (m : Mirror) : List Nat :=
  [m.role + m.source * 4 + b2n m.bound * 16 + b2n m.stale * 32 + m.period * 2 ^ 16, m.peerDid + m.peerWord * 2 ^ 16]
    ++ words32 2 m.lastTick ++ [m.effP % 2 ^ 16 + m.owner * 2 ^ 16]

/-- The image of a launch-table entry (R210). -/
def State.launchWords (s : State) (n : Nat) : List Nat :=
  match SMap.get s.gate.launch n none with
  | none => [0, 0, 0, 0]
  | some l =>
    let (q, op) := match s.launchDesc l with
      | some (q, d) => (q, d.opcode)
      | none => (0, 0)
    [op + b2n l.released * 2 ^ 16 + b2n l.arrived * 2 ^ 17 + 2 ^ 31, q] ++ words32 2 l.lt

/-- A word of a gate list (R172, R210). -/
def State.gateWord (s : State) (i : Nat) : Nat :=
  let g := s.gatePort (i / 2048)
  SMap.get (if i / 1024 % 2 = 0 then g.oper else g.admin) (i % 1024) 0

/-- The freeze record of a QP (R520). -/
def State.freezeWords (s : State) (qn : Nat) : List Nat :=
  let q := s.qp qn
  match q.freeze with
  | none => [0, 0, 0]
  | some r => [r.region + q.fn.getD 0 * 2 ^ 16 + r.kind * 2 ^ 28 + 2 ^ 31] ++ words32 2 r.addr

/-- An entry of the stream freeze table (R520). -/
def State.streamWords (s : State) (i : Nat) : List Nat :=
  match SMap.get s.streams i none with
  | none => [0, 0, 0]
  | some e => [e.req + e.port * 2 ^ 16 + 2 ^ 31, e.hd.getD 0, e.src]

/-- An entry of the domain table (R414). -/
def State.domWords (s : State) (hd : Nat) : List Nat :=
  let d := SMap.get s.herd.doms hd {}
  [d.home + b2n d.valid * 2 ^ 31] ++ words32 2 d.msiBase ++ [d.msiLog]

/-- An entry of the virtual hierarchy table (R373); device 0 shows bits 30 and 31 only here. -/
def State.vhierWord (s : State) (i : Nat) : Nat :=
  if i % 32 = 0 then 2 ^ 30 + 2 ^ 31
  else
    match SMap.get s.port.vhier i none with
    | some e => e.did + e.port * 2 ^ 12 + 2 ^ 31
    | none => 0

/-- A count of 48 bits with its overflow in bit 63, as two words. -/
def cntWords (v : Nat) : List Nat := words32 2 v

/-- What a READ of a table copies: none for an unassigned selector, `some none` for an index outside the table. -/
def State.tblImage (s : State) (sel i : Nat) : Option (Option (List Nat)) :=
  let at_ (ok : Bool) (ws : List Nat) : Option (Option (List Nat)) := some (if ok then some ws else none)
  let below (n : Nat) (ws : List Nat) : Option (Option (List Nat)) := at_ (decide (i < n)) ws
  match sel with
  | 0x01 => below 2097152 (words32 4 (s.flowImage i))
  | 0x02 => at_ (dropIdx i) (cntWords (SMap.get s.fwd.drops i 0))
  | 0x03 => at_ (dropIdx i) (cntWords (SMap.get s.fwd.dropShadow i 0))
  | 0x10 => below 65536 (s.queue i).bufWords
  | 0x11 => below 65536 (s.queue i).bufStatus
  | 0x20 => below 262144 (s.meterWords i)
  | 0x21 => below 4096 (s.profileWords i)
  | 0x22 => at_ (colourIdx i) (cntWords (SMap.get s.sch.colour (colourKey i) 0))
  | 0x23 => at_ (colourIdx i) (cntWords (SMap.get s.sch.colourShadow (colourKey i) 0))
  | 0x24 => below 65536 [s.queueMapWord i]
  | 0x25 => below 65536 (shaperWords ((s.queue i).sh.upTo s.ns))
  | 0x26 => below 768 (shaperWords ((s.node i).sh.upTo s.ns))
  | 0x27 => below 96 (portShaperWords ((s.portSh i).upTo s.ns))
  | 0x28 => below 65536 (boundsWords (s.queue i).bounds)
  | 0x30 => below (96 * 2048) [s.gateWord i]
  | 0x31 => below 4096 (s.launchWords i)
  | 0x40 => below 4096 [SMap.get s.obs.sample i 0]
  | 0x41 => below 65536 (words32 2 (s.queue i).maxDepth ++ [min (s.queue i).maxSojourn (2 ^ 32 - 1)])
  | 0x42 => below (8192 * 4) (cntWords (SMap.get s.obs.subs i 0))
  | 0x43 => below (8192 * 4) (cntWords (SMap.get s.obs.subsShadow i 0))
  | 0x44 => below (96 * 9) (cntWords (SMap.get s.obs.snapObs i 0))
  | 0x45 => at_ (dropIdx i) (cntWords (SMap.get s.obs.snapDrops i 0))
  | 0x46 => at_ (colourIdx i) (cntWords (SMap.get s.obs.snapColour (colourKey i) 0))
  | 0x47 => below (8192 * 4) (cntWords (SMap.get s.obs.snapSubs i 0))
  | 0x48 =>
    let x := SMap.get s.obs.snapQueues i (0, 0)
    below 65536 (words32 2 x.1 ++ [x.2])
  | 0x49 =>
    let x := SMap.get s.obs.snapMeters i (0, 0)
    below 262144 [0, x.1 / 1000000, x.2 / 1000000]
  | 0x50 => below 4096 (words32 8 (s.route i).image)
  | 0x51 => at_ (decide (i < 4096 * 32) && decide (i % 32 < 24)) (lsuWords (s.lsuAt (i / 32) (i % 32)))
  | 0x52 =>
    let e := SMap.get s.herd.dids i {}
    below 4096 (words32 2 e.uid ++ [b2n e.assigned + 2 * b2n e.pinned + 4 * b2n e.live])
  | 0x53 => below 64 (moveWords (s.move i))
  | 0x60 => below 32768 [s.vhierWord i]
  | 0x70 => below 65536 (words32 6 (leNat (windowImage (SMap.get s.brg.windows i none))))
  | 0x71 => below 1024 (s.domWords i)
  | 0x72 => below 4096 (s.mirror i).words
  | 0x80 => below (2080 * 512) [match (s.fn (i / 512)).qps[i % 512]? with
      | some g => g + 2 ^ 31
      | none => 0]
  | 0x81 => below 2080 [(s.fn i).meter + b2n (s.fn i).meterEn * 2 ^ 31, (s.fn i).coalesce]
  | 0x82 =>
    let l := (s.fn i).log
    below 2048 (words32 2 l.mapA ++ words32 2 l.mapB ++ words32 2 l.base ++ [l.span])
  | 0x90 => below 33280 (words32 4 (SMap.get s.chm.regions i 0))
  | 0x91 => below 16384 (s.freezeWords i)
  | 0x92 => below 256 (s.streamWords i)
  | 0xA0 => below 256 [SMap.get s.ecc.remap i 0]
  | 0xB0 => below 64 (SMap.get s.flt.log i [])
  | 0xB1 => below 256 (SMap.get s.flt.nlog i [])
  | _ => none

/-- Results of a table command (R630). -/
def trOK : Nat := 1
def trBAD_SEL : Nat := 2
def trBAD_INDEX : Nat := 3
def trREAD_ONLY : Nat := 4
def trREJECTED : Nat := 5

/-- A counter after a write of its image: only the sticky overflow clears (R5, R108). -/
def clearOvf (v : Nat) (ws : List Nat) : Nat := if bit (ws.getD 1 0) 31 then v % 2 ^ 63 else v

/-- A write that its owner refuses by setting a flag of its block. -/
def State.tryWrite (s : State) (flag : Fld) (f : State → State) : Nat × State :=
  let t := f (s.wr flag 0)
  if t.on flag then (trREJECTED, s.setOn flag) else (trOK, t.wr flag (s.rd flag))

/-- Whether the function's global QP may leave the row it stands in (R479). -/
def State.rowFree (s : State) (g : Nat) : Bool := (s.qp g).state == .disabled && (s.qp g).freeze.isNone

/-- A write to a PF row of table 0x80 (R478, R479). -/
def State.qpMapWrite (s : State) (f l w : Nat) : Nat × State :=
  let x := s.fn f
  let g := w % 2 ^ 14
  let rej : Nat × State := (trREJECTED, s.setOn RING_STATUS_CFG_REJECTED)
  let put (qs : List Nat) (old new : Option Nat) : Nat × State :=
    let s1 := s.setFn f { x with qps := qs }
    let s2 := match old with
      | some o => s1.setQp o {}
      | none => s1
    let s3 := match new with
      | some n => s2.setQp n { fn := some f, loc := l }
      | none => s2
    (trOK, s3.syncQps f)
  match x.qps[l]? with
  | some o =>
    if !s.rowFree o then rej
    else if bit w 31 then
      if g = o then (trOK, s)
      else if (s.qp g).fn.isSome then rej
      else put (x.qps.set l g) (some o) (some g)
    else if l + 1 = x.qps.length then put (x.qps.take l) (some o) none
    else rej
  | none =>
    if !bit w 31 then (trOK, s)
    else if (s.qp g).fn.isSome ∨ l ≠ x.qps.length then rej
    else put (x.qps ++ [g]) none (some g)

/-- What a WRITE to a table that has RW or RW1C fields does; none: the table, or the entry, is read only. -/
def State.tblPut (s : State) (sel i : Nat) (ws : List Nat) : Option (Nat × State) :=
  let w0 := ws.getD 0 0
  match sel with
  | 0x02 =>
    some (trOK, { s with fwd := { s.fwd with drops := SMap.set s.fwd.drops i (clearOvf (SMap.get s.fwd.drops i 0) ws) 0 } })
  | 0x10 =>
    let thr := ws.getD 1 0 % 2 ^ 16
    if thr ≤ bits (ws.getD 1 0) 31 16 ∨ thr < 33 then some (trREJECTED, s)
    else some (s.tryWrite BUF_STATUS_CFG_REJECTED (fun t => t.bufTableWrite i ws))
  | 0x22 =>
    let k := colourKey i
    some (trOK, { s with sch := { s.sch with colour := SMap.set s.sch.colour k (clearOvf (SMap.get s.sch.colour k 0) ws) 0 } })
  | 0x40 =>
    let v := w0 % 2 ^ 16 + b2n (bit w0 31) * 2 ^ 31
    some (trOK, { s with obs := { s.obs with sample := SMap.set s.obs.sample i v 0 } })
  | 0x41 => some (trOK, s.maximaWrite i)
  | 0x42 =>
    some (trOK, { s with obs := { s.obs with subs := SMap.set s.obs.subs i (clearOvf (SMap.get s.obs.subs i 0) ws) 0 } })
  | 0x60 =>
    if i % 32 = 0 then none
    else if bit w0 31 ∧ s.port.vhier.any (fun e => e.1 != i && e.2 == some { did := bits w0 11 0, port := bits w0 18 12 }) then
      some (trREJECTED, s)
    else some (trOK, s.vhierWrite i w0)
  | 0x71 =>
    let base := ofWords [ws.getD 1 0, ws.getD 2 0]
    let log := ws.getD 3 0 % 64
    if 12 ≤ log ∧ log ≤ 32 ∧ base % 2 ^ log = 0 then some (trOK, s.domainWrite i base log) else some (trREJECTED, s)
  | 0x80 => if i / 512 < 2048 then none else some (s.qpMapWrite (i / 512) (i % 512) w0)
  | 0x81 =>
    if i < 2048 then none
    else
      let c := ws.getD 1 0 % 256
      if c = 0 then some (trREJECTED, s)
      else some (trOK, s.setFn i { s.fn i with meter := w0 % 2 ^ 18, meterEn := bit w0 31, coalesce := c })
  | 0x90 => some (s.tryWrite CH_STATUS_CFG_REJECTED (fun t => t.regionTableWrite i (ofWords (ws.take 4))))
  | 0xA0 =>
    if i % 16 < 8 then none
    else if !bit w0 31 ∨ s.mapped_ (i / 16) (w0 % 2 ^ 22) ∨ eccSize (i / 16) ≤ w0 % 2 ^ 22 then some (trREJECTED, s)
    else some (trOK, s.remapWrite i w0)
  | _ => none

/-- A bank of the table window. -/
def State.bank_ (s : State) (b : Nat) : TblBank := SMap.get s.bus.banks b {}

/-- A bank replaced. -/
def State.setBank_ (s : State) (b : Nat) (x : TblBank) : State :=
  { s with bus := { s.bus with banks := SMap.set s.bus.banks b x {} } }

/-- A command's result in its bank. -/
def State.tblResult (s : State) (b r : Nat) : State := s.setBank_ b { s.bank_ b with result := r }

/-- TBL_READ: the entry is copied into the data words; words it does not use read 0 (R631). The spec gives the DID and
port that a device-0 entry of table 0x60 shows no value: they are a free value (log entry 54). -/
def State.tblRead (s : State) (b : Nat) : State :=
  let x := s.bank_ b
  match s.tblImage x.sel x.index with
  | none => s.tblResult b trBAD_SEL
  | some none => s.tblResult b trBAD_INDEX
  | some (some ws) =>
    let z := x.sel == 0x60 && x.index % 32 == 0
    let ws' := if z then ws.map (· + s.freeVal (2 ^ 19)) else ws
    let s1 := if z then s.useFree else s
    s1.setBank_ b { x with data := (ws' ++ List.replicate 8 0).take 8, result := trOK }

/-- TBL_WRITE: the RW fields of the entry take the image, or the write is refused (R631). -/
def State.tblWrite (s : State) (b : Nat) : State :=
  let x := s.bank_ b
  match s.tblImage x.sel x.index with
  | none => s.tblResult b trBAD_SEL
  | some none => s.tblResult b trBAD_INDEX
  | some (some _) =>
    match s.tblPut x.sel x.index x.data with
    | none => s.tblResult b trREAD_ONLY
    | some (r, t) => t.tblResult b r

end Sys2Proof.Machine
end

