-- ==== Sys2Proof/Machine/Setup.lean ====
section
/-! DEFINITION. The setup space (R5 to R10, R625 to R634): what a read of a register returns, what a write of it does,
the table window, the Description ROM and the debug window. -/

namespace Sys2Proof.Machine

/-! ## Access paths (R626)

Path codes: 0 BAR0 of the anchor PF, 1 ADMIN packets, 2 SMBus, 3 JTAG, 4 + c core c, 16 + n BAR0 of PF n. -/

/-- The bank of the table window that a path uses (R630). -/
def busBank (path : Nat) : Nat := if path = 3 then 2 else path

/-- Whether a path is the BAR0 of another PF than the anchor. -/
def otherPf (path : Nat) : Bool := decide (16 ≤ path)

/-! ## The Description ROM (R421 to R425) -/

/-- The counts table (R424). -/
def romCounts : List Nat :=
  [192, 24, 96, 32, 24, 16384, 512, 32, 2048, 32768, 65536, 256, 1024, 2080, 32768, 16] ++
  [65536, 8192, 262144, 4096, 2097152, 32768, 4096, 1024, 4096, 48, 16, 8, 4096, 262144, 384, 8]

/-- The bases of the blocks of the setup space in ascending order, and its end (R625). -/
def blockBases : List Nat :=
  [0, 0x10000, 0x20000, 0x30000, 0x40000, 0x50000, 0x60000, 0x80000, 0x100000, 0x200000, 0x280000] ++
  [0x300000, 0x380000, 0x400000, 0x480000, 0x500000, 0x580000, 0x600000, 0x700000, 0x800000, 0x1000000]

/-- A word of the ROM directory: base, size, revision (R425). -/
def romDir (w : Nat) : Nat :=
  let b := blockBases.getD (w / 4) 0
  if 20 ≤ w / 4 then 0
  else if w % 4 = 0 then b
  else if w % 4 = 1 then blockBases.getD (w / 4 + 1) 0 - b
  else if w % 4 = 2 then 1
  else 0

/-- IDENT_PART with the fused grade (R1). -/
def State.identPart (s : State) : Nat :=
  0x9192 * 2 ^ 16 + 1 * 2 ^ 12 + 1 * 2 ^ 8 + s.rd IDENT_PART_GRADE * 4

/-- Word `w` of the ROM with CHECK as 0. -/
def State.romPlain (s : State) (w : Nat) : Nat :=
  if w < 16 then
    ([0x52444C55, 1, 0x800, 0, s.identPart, 0, s.uid % 2 ^ 32, s.uid / 2 ^ 32 % 2 ^ 32, 0x40, 0x100, 0x200, 0x400, 20]).getD w 0
  else if w < 64 then romCounts.getD (w - 16) 0
  else if w < 128 then
    ([24 + 17 * 2 ^ 8 + 16 * 2 ^ 16 + 17 * 2 ^ 24, 0, 0x1000, 0x2000, 0x10000, 0x18000, 64 + 16 * 2 ^ 16,
      4 + 12 * 2 ^ 8 + 4 * 2 ^ 16 + 14 * 2 ^ 24, 8 + 12 * 2 ^ 8 + 0xB * 2 ^ 16, 16777216]).getD (w - 64) 0
  else if w = 128 then 0xFFFF007E
  else if 256 ≤ w then romDir (w - 256)
  else 0

/-- CHECK: the CRC-32C over the bytes that ROM_LENGTH covers (R422). -/
def State.romCheck (s : State) : Nat := crc32c 0xFFFFFFFF ((List.range 512).flatMap (fun w => leBytes 4 (s.romPlain w)))

/-- Word `w` of the ROM. -/
def State.romWord (s : State) (w : Nat) : Nat := if w = 3 then s.romCheck else s.romPlain w

/-! ## Registers -/

/-- The registers of the block that holds an offset (R625). -/
def blockAt (off : Nat) : List RegDesc :=
  if off < 0x10000 then regsIDENT
  else if off < 0x20000 then regsTIME
  else if off < 0x30000 then regsRESET
  else if off < 0x40000 then regsFAULT
  else if off < 0x50000 then regsIBEX
  else if off < 0x60000 then regsFUSE
  else if off < 0x80000 then regsCUE
  else if off < 0x100000 then regsOBS
  else if off < 0x200000 then regsOCT
  else if off < 0x280000 then regsPORT
  else if off < 0x300000 then regsFWD
  else if off < 0x380000 then regsBUF
  else if off < 0x400000 then regsSCHED
  else if off < 0x480000 then regsGATE
  else if off < 0x500000 then regsHERD
  else if off < 0x580000 then regsBRG
  else if off < 0x600000 then regsRING
  else if off < 0x700000 then regsCH
  else if off < 0x800000 then regsECC
  else []

/-- The register that an offset names. -/
def regAt (off : Nat) : Option (RegDesc × Nat × Nat) := findReg (blockAt off) off

/-- The stored fields of a register as a word; WO fields read 0 (R5). -/
def State.plainWord (s : State) (d : RegDesc) (i j : Nat) : Nat :=
  sum (d.flds.map (fun f => if f.acc = .wo then 0 else s.rd f i j * 2 ^ f.lo))

/-- GATE_PORT_STATUS (R209). -/
def State.gateStatus (s : State) (p : Nat) : Nat :=
  let g := s.gatePort p
  let l := g.operList
  let cur := if g.state = 1 then Sys2Proof.Machine.entryAt l ((s.ns - g.base) % cycleOf l) else 0
  g.state + b2n g.swap.isSome * 4 + b2n ((g.swap.map (·.armed)).getD false) * 8 + b2n g.which * 16
    + s.openMask p s.ns % 256 * 2 ^ 8 + cur % 1024 * 2 ^ 16

/-- The value of a word whose register shows state held elsewhere; none: the stored fields are the value. -/
def State.viewWord (s : State) (o i j : Nat) : Option Nat :=
  let lo (v : Nat) : Option Nat := some (v % 2 ^ 32)
  let hi (v : Nat) : Option Nat := some (v / 2 ^ 32 % 2 ^ 32)
  if o < 0x20000 then
    let ch := match s.time.pend with
      | some (n, _) => n
      | none => 0
    if o = CELL_TIME_LO.off then lo s.ns
    else if o = CELL_TIME_HI.off then hi s.ns
    else if o = CELL_TIME_FRAC.off then some (s.time.ct % 2 ^ 16)
    else if o = TICK_NUM_LO.off then lo s.time.tick
    else if o = TICK_NUM_HI.off then hi s.time.tick
    else if o = TICK_CHANGE_AT_LO.off then lo ch
    else if o = TICK_CHANGE_AT_HI.off then hi ch
    else none
  else if o = PD_STATUS.off then some (s.pdStatus i)
  else if o = FUSE_ROW_DATA_LO.off then lo (s.rowData (s.rd FUSE_ROW_SEL_ROW))
  else if o = FUSE_ROW_DATA_HI.off then hi (s.rowData (s.rd FUSE_ROW_SEL_ROW))
  else if o = FUSE_ROW_CRC.off then some (s.fuseRowCrc (s.rd FUSE_ROW_SEL_ROW))
  else if o = OBS_CNT_LO.off then lo (SMap.get s.obs.cnt (obsKey i j) 0)
  else if o = OBS_CNT_HI.off then hi (SMap.get s.obs.cnt (obsKey i j) 0)
  else if o = OBS_SHD_LO.off then lo (SMap.get s.obs.shd (obsKey i j) 0)
  else if o = OBS_SHD_HI.off then hi (SMap.get s.obs.shd (obsKey i j) 0)
  else if o = LINK_CNT_LO.off then lo (SMap.get (s.lnk i).cnt j 0)
  else if o = LINK_CNT_HI.off then hi (SMap.get (s.lnk i).cnt j 0)
  else if o = GATE_PORT_STATUS.off then some (s.gateStatus i)
  else if o = GATE_PORT_LEN.off then some ((s.gatePort i).operLen + (s.gatePort i).adminLen * 2 ^ 16)
  else if o = GATE_OPER_CYCLE.off then some (cycleOf (s.gatePort i).operList)
  else if o = GATE_ADMIN_CYCLE.off then some (cycleOf (s.gatePort i).adminList)
  else if o = GATE_SWAP_TIME_LO.off then lo (s.gatePort i).swapTime
  else if o = GATE_SWAP_TIME_HI.off then hi (s.gatePort i).swapTime
  else if o = PORT_CFG.off ∧ s.isFab i then some (setBits (s.plainWord PORT_CFG i 0) 1 0 2)
  else none

/-- The part of a word that is a measurement to which the spec gives no value here (log entry 3): its bits. -/
def measured (o : Nat) : Option (Nat × Nat) :=
  if o = IBX_MEAS.off then some (31, 0)
  else if o = IBEX_BANK_STATUS.off then some (15, 0)
  else if o = LANE_STATUS.off then some (15, 8)
  else if o = CK_STATUS.off then some (7, 0)
  else none

/-- Whether a register belongs to a port that does not exist: it reads 0 and discards writes (R24, R231). -/
def State.absent (s : State) (o i : Nat) : Bool :=
  ((decide (0x200000 ≤ o) && decide (o < 0x280000)) || (decide (0x81000 ≤ o) && decide (o < 0x100000))) && !s.portExists i

/-- The word that a register shows. -/
def State.regWord (s : State) (d : RegDesc) (i j : Nat) : Nat × State :=
  if s.absent d.off i then (0, s)
  else
    let w := (s.viewWord d.off i j).getD (s.plainWord d i j)
    match measured d.off with
    | some (hi, lo) => (setBits w hi lo (s.freeVal (2 ^ 32)), s.useFree)
    | none => (w, s)

/-- A captured high word kept, or used up (R9). -/
def State.setHold (s : State) (o : Nat) (v : Option Nat) : State :=
  { s with bus := { s.bus with hold := SMap.set s.bus.hold o v none } }

/-- A low word that waits for its high word, or no longer (R9). -/
def State.setLow (s : State) (o : Nat) (v : Option Nat) : State :=
  { s with bus := { s.bus with low := SMap.set s.bus.low o v none } }

/-- A read of a defined register with the capture of R9. -/
def State.regRead (s : State) (off : Nat) (d : RegDesc) (i j : Nat) : Nat × State :=
  match d.pair with
  | .none => s.regWord d i j
  | .low =>
    let (v, t) := s.regWord d i j
    match regAt (off + 4) with
    | some (e, i', j') => (v, t.setHold (off + 4) (some (t.regWord e i' j').1))
    | none => (v, t)
  | .high =>
    match SMap.get s.bus.hold off none with
    | some v => (v, s.setHold off none)
    | none => s.regWord d i j

/-! ## Writes -/

/-- Whether a write places a reserved encoding in a field (R8). -/
def RegDesc.reserved (d : RegDesc) (v : Nat) : Bool :=
  d.flds.any (fun f => (f.acc == .rw || f.acc == .wo) && !f.allows (bits v f.hi f.lo))

/-- A field written by its access code (R5). -/
def State.fldWrite (s : State) (f : Fld) (i j v : Nat) : State :=
  let x := bits v f.hi f.lo
  match f.acc with
  | .rw => s.wr f x i j
  | .rw1c => s.wr f (s.rd f i j - Nat.land (s.rd f i j) x) i j
  | .rw1s => s.wr f (Nat.lor (s.rd f i j) x) i j
  | .ro => s
  | .wo => s

/-- A register written field by field. -/
def State.plainWrite (s : State) (d : RegDesc) (i j v : Nat) : State :=
  d.flds.foldl (fun (t : State) f => t.fldWrite f i j v) s

/-- RING_PF_VF (R477). -/
def State.pfVfWrite (s : State) (n v : Nat) : State :=
  let lim := bits v 27 16
  let base := bits v 10 0
  let hit : Bool := (List.range 32).any (fun m => m != n && decide (0 < lim) && decide (0 < s.rd RING_PF_VF_VF_LIMIT m)
    && decide (base < s.rd RING_PF_VF_VF_BASE m + s.rd RING_PF_VF_VF_LIMIT m) && decide (s.rd RING_PF_VF_VF_BASE m < base + lim))
  if (s.fn (pfIndex n)).vfEnable || hit || decide (2048 < base + lim) then s.setOn RING_STATUS_CFG_REJECTED
  else (s.wr RING_PF_VF_VF_LIMIT lim n).wr RING_PF_VF_VF_BASE base n

/-- RING_PF_VEC (R477). -/
def State.pfVecWrite (s : State) (n v : Nat) : State :=
  let x := s.setVectors (pfIndex n) (bits v 11 0)
  if x.1 = stOK then x.2.wr RING_PF_VEC_VECTORS (bits v 11 0) n else s.setOn RING_STATUS_CFG_REJECTED

/-- The effect of a write of a register of the system blocks that does more than store its fields; none: it stores them. -/
def State.hookSystem (s : State) (path o i v : Nat) : Option State :=
  if o = TIME_CTRL.off then some (s.timeCtrlWrite v)
  else if o = TICK_PERIOD_NEXT.off then some (s.periodNextWrite v)
  else if o = RST_DEVICE.off then some (s.rstDeviceWrite v)
  else if o = RST_HD.off then some (s.rstHdWrite v)
  else if o = RST_PORT.off then some (s.rstPortWrite v)
  else if o = RST_BLOCK_CMD.off then some (s.rstBlockWrite v)
  else if o = PWR_CTRL.off then some (s.pwrCtrlWrite v)
  else if o = FAULT_FSW.off then some (s.fswWrite i v)
  else if o = FAULT_CONTAIN_RELEASE.off then some (s.containReleaseWrite v)
  else if o = FAULT_SRC_CFG.off then some (s.srcCfgWrite i v)
  else if o = FUSE_PROG_CMD.off then some (s.fuseProgram path v)
  else if o = IBEX_BANK_CFG0.off then some (s.bankCfgWrite i v true)
  else if o = IBEX_BANK_CFG1.off then some (s.bankCfgWrite i v false)
  else if o = IBX_CFG0.off then some (s.ibxCfgWrite i (fun t => t.plainWrite IBX_CFG0 i 0 v))
  else if o = IBX_CFG1.off then some (s.ibxCfgWrite i (fun t => t.plainWrite IBX_CFG1 i 0 v))
  else if o = IBX_CFG2.off then some (s.ibxCfgWrite i (fun t => t.plainWrite IBX_CFG2 i 0 v))
  else if o = IBX_CFG3.off then some (s.ibxCfgWrite i (fun t => t.plainWrite IBX_CFG3 i 0 v))
  else if o = IBX_CTRL.off then some (if bit v 31 then s.clearLock i else s)
  else if o = CUE_SCHED_CMD.off then some (s.cueSched v)
  else if o = MW_VALUE.off then some (s.mwWrite i v)
  else none

/-- The same for the registers of OBSERVE, OCTET and PORT. -/
def State.hookPorts (s : State) (o i j v : Nat) : Option State :=
  if o = OBS_RING_CFG.off then some (s.ringCfgWrite v)
  else if o = OBS_SAMPLE_COUNT.off then some (s.sampleCountWrite v)
  else if o = OBS_PORT_CTRL.off then
    let t := s.wr OBS_PORT_CTRL_IRQ_ON_WRAP (bits v 0 0) i
    some (if bit v 1 then t.obsClear i else t)
  else if o = OBS_EVT_SEL.off then some (if 11 < bits v 7 0 then s else s.evtSelWrite i j v)
  else if o = OCT_MODE.off then some (s.octModeWrite i v)
  else if o = OCT_POWER.off then some (s.octPowerWrite i v)
  else if o = OCT_TEST.off then some (if 6 < bits v 3 0 then s else s.octTestWrite i v)
  else if o = LANE_PRBS_CTRL.off then some (s.prbsCtrlWrite i j v)
  else if o = LINK_CTRL.off then some (s.linkCtrlWrite i v)
  else if o = LINK_ERR_CFG.off then some (s.linkErrCfgWrite i v)
  else if o = LINK_RX_ALLOC.off then some (s.rxAllocWrite i j v)
  else if o = PORT_CFG.off then some (s.portCfgWrite i v)
  else if s.isFab i ∧ (o = PORT_SLOT_CTRL.off ∨ o = PORT_DPC.off ∨ o = PORT_ACS_CAP.off ∨ (o = PORT_SLOT_CFG.off ∧ !bit v 31)) then some s
  else if o = PORT_HIER_CTRL.off then some (if bit v 0 then s.hierReady i else s)
  else if o = PORT_SLOT_CFG.off then some (s.slotCfgWrite i v)
  else if o = PORT_SLOT_CTRL.off then some (s.slotCtrlWrite i v)
  else if o = PORT_DPC.off then some (s.portDpcWrite i v)
  else if o = PORT_ACS_CAP.off then some (if bit v 5 then s else s.plainWrite PORT_ACS_CAP i 0 v)
  else none

/-- The same for the registers of FORWARD, BUFFER, HERD, RING, CHAMOIS and ECC. -/
def State.hookFabric (s : State) (path o i j v : Nat) : Option State :=
  if o = FWD_CTRL.off then some (s.fwdCtrlWrite v)
  else if o = FWD_HASH_SEED_A.off then some (s.flowSeedWrite FWD_HASH_SEED_A_VALUE v)
  else if o = FWD_HASH_SEED_B.off then some (s.flowSeedWrite FWD_HASH_SEED_B_VALUE v)
  else if o = FWD_MP_SEED.off then some (s.mpSeedWrite v)
  else if o = FLOW_GROUP_EN.off then some (s.groupEnWrite v)
  else if o = SESS_CTRL.off then some (s.sessCtrlWrite i v)
  else if o = BUF_HEADROOM.off then some (s.headroomWrite v)
  else if o = OVF_CTRL.off then some (s.ovfCtrlWrite v)
  else if o = DRAM_CFG.off then some (s.dramCfgWrite v)
  else if o = DRAM_CTRL.off then some (s.dramCtrlWrite v)
  else if o = SCHED_PORT_CFG.off then some (s.schedPortWrite i v)
  else if o = HERD_CTRL.off then some (s.herdCtrlWrite v)
  else if o = HERD_PRIORITY.off then some (s.herdPriorityWrite v)
  else if o = HERD_GLOBAL_CMD.off then some (s.globalCmd (bits v 2 0) (bits v 31 16))
  else if o = HERD_PORT_CFG.off then some (s.herdPortCfgWrite i v)
  else if o = RING_PF_VF.off then some (s.pfVfWrite i v)
  else if o = RING_PF_VEC.off then some (s.pfVecWrite i v)
  else if o = CH_CTRL.off then some (s.coreRun v)
  else if o = FREEZE_RELEASE.off then some (s.freezeReleaseWrite v)
  else if o = MOVER_MPU_HOLD.off then some (s.moverHoldWrite v)
  else if o = CORE_MPU_CTRL.off then some (s.coreMpuWrite i v)
  else if o = CORE_WDT.off then some (s.coreWdtWrite i v)
  else if o = CORE_MPU_REGION.off then some (s.coreRegionWrite i j v)
  else if o = ECC_TEST_CTRL.off then some (s.eccTestWrite path v)
  else none

/-- A register outside 64-bit pairs written (R5, R8). -/
def State.regWrite (s : State) (path : Nat) (d : RegDesc) (i j v : Nat) : State :=
  if d.reserved v || s.absent d.off i then s
  else if d.off < 0x80000 then (s.hookSystem path d.off i v).getD (s.plainWrite d i j v)
  else if d.off < 0x280000 then (s.hookPorts d.off i j v).getD (s.plainWrite d i j v)
  else (s.hookFabric path d.off i j v).getD (s.plainWrite d i j v)

/-- Both words of a pair take effect in one sample (R9). `d` is the register of the low word, `e` that of the high word. -/
def State.pairWrite (s : State) (d e : RegDesc) (i j lo hi : Nat) : State :=
  let v := lo % 2 ^ 32 + hi % 2 ^ 32 * 2 ^ 32
  if s.absent d.off i then s
  else if d.off = TICK_CHANGE_AT_LO.off then s.tickChangeAt v
  else if d.off = CELL_TIME_LOAD_LO.off then s.cellTimeLoad false v
  else if d.off = TICK_NUM_LOAD_LO.off then s.cellTimeLoad true v
  else if d.off = OBS_CNT_LO.off then
    if bit hi 31 then
      let k := obsKey i j
      { s with obs := { s.obs with cnt := SMap.set s.obs.cnt k (SMap.get s.obs.cnt k 0 % 2 ^ 63) 0 } }
    else s
  else if d.off = LINK_CNT_LO.off then
    if bit hi 31 then
      let x := s.lnk i
      s.setLnk i { x with cnt := SMap.set x.cnt j (SMap.get x.cnt j 0 % 2 ^ 63) 0 }
    else s
  else (s.plainWrite d i j lo).plainWrite e i j hi

/-- A write of a defined register with the holding of R9. -/
def State.regStore (s : State) (path off : Nat) (d : RegDesc) (i j v : Nat) : State :=
  match d.pair with
  | .none => s.regWrite path d i j v
  | .low => s.setLow off (some v)
  | .high =>
    match regAt (off - 4) with
    | none => s
    | some (e, _, _) =>
      let lo := (SMap.get s.bus.low (off - 4) none).getD ((s.regWord e i j).1)
      (s.setLow (off - 4) none).pairWrite e d i j lo v

/-! ## The table window (R630, R631) -/

/-- A read of a register of the table window. -/
def State.windowRead_ (s : State) (path off : Nat) : Option Nat :=
  let x := s.bank_ (busBank path)
  if off = 0x400 then some x.sel
  else if off = 0x404 then some x.index
  else if off = 0x408 then some 0
  else if off = 0x40C then some x.result
  else if 0x420 ≤ off ∧ off < 0x440 then some (x.data.getD ((off - 0x420) / 4) 0)
  else if off = 0x440 then some x.dbg
  else none

/-- A write of a register of the table window. -/
def State.windowWrite (s : State) (path off v : Nat) : State :=
  let b := busBank path
  let x := s.bank_ b
  if off = 0x400 then s.setBank_ b { x with sel := v % 2 ^ 8 }
  else if off = 0x404 then s.setBank_ b { x with index := v % 2 ^ 32 }
  else if off = 0x408 then (if v % 4 = 1 then s.tblRead b else if v % 4 = 2 then s.tblWrite b else s)
  else if 0x420 ≤ off ∧ off < 0x440 then s.setBank_ b { x with data := x.data.set ((off - 0x420) / 4) (v % 2 ^ 32) }
  else if off = 0x440 then s.setBank_ b { x with dbg := v % 2 }
  else s

/-! ## The debug window (R633, R634) -/

/-- The core address of the byte that an offset of the debug window names, with the power domain of its memory. -/
def State.debugAt (s : State) (path off : Nat) : Option (Nat × Nat) :=
  if off < 0xC00000 then
    let cl := (s.bank_ (busBank path)).dbg
    some (0x40000000 + 0x400000 * cl + (off - 0x800000), 96 + cl)
  else if off < 0xD00000 then some (0x10000000 + (off - 0xC00000), 98 + (off - 0xC00000) / 0x20000)
  else none

/-- A read through the debug window; the memory of a domain that is off reads 0. -/
def State.debugRead (s : State) (path off : Nat) : Option Nat × State :=
  match s.debugAt path off with
  | none => (none, s)
  | some (a, d) =>
    if s.domainOn d then
      let t := (s.eccMem a 4).2
      (some (leNat (t.mem.reads a 4)), t)
    else (some 0, s)

/-- DEBUG_WINDOW_WRITE: a store from another agent in the device (R634). -/
def State.debugWrite (s : State) (path off v : Nat) : State :=
  match s.debugAt path off with
  | some (a, d) => if s.domainOn d then s.memWrite 8 a (leBytes 4 v) else s
  | none => s

/-! ## Accesses -/

/-- Whether a path reaches an offset at all: aligned, inside the setup space, and inside what its BAR decodes (R420,
R417, R626). -/
def reaches (path off : Nat) : Bool :=
  off % 4 == 0 && decide (off < 0x1000000) &&
    (!otherPf path || (decide (off < 0x10000) && !(decide (0x400 ≤ off) && decide (off < 0x444)))) &&
    !(decide (4 ≤ path) && decide (path < 12) && decide (0x800000 ≤ off))

/-- A read of the setup space: the word, or none where the manual defines no register (R10). -/
def State.setupRd (s : State) (path off : Nat) : Option Nat × State :=
  if !reaches path off then (none, s)
  else if 0x800000 ≤ off then s.debugRead path off
  else if 0x8000 ≤ off ∧ off < 0x10000 then (some (s.romWord ((off - 0x8000) / 4)), s)
  else if off < 0x8000 ∧ 0x400 ≤ off then (s.windowRead_ path off, s)
  else if off = 0 then (some s.identPart, s)
  else
    match regAt off with
    | none => (none, s)
    | some (d, i, j) =>
      let (v, t) := s.regRead off d i j
      (some v, t)

/-- A write of the setup space; one to an undefined offset is discarded (R10). -/
def State.setupWr (s : State) (path off v : Nat) : State :=
  if !reaches path off then s
  else if 0x800000 ≤ off then s.debugWrite path off v
  else if 0x8000 ≤ off ∧ off < 0x10000 then s
  else if off < 0x8000 ∧ 0x400 ≤ off then s.windowWrite path off v
  else
    match regAt off with
    | none => s
    | some (d, i, j) => s.regStore path off d i j v

/-- Whether the setup space defines an offset for a path (R10). -/
def State.defined (s : State) (path off : Nat) : Bool :=
  reaches path off &&
    (if 0x800000 ≤ off then (s.debugAt path off).isSome
     else if off < 0x10000 ∧ 0x8000 ≤ off then true
     else if off < 0x8000 ∧ 0x400 ≤ off then (s.windowRead_ path off).isSome
     else (regAt off).isSome)

/-- An access of a core to the setup space; a read of an offset that the manual does not define returns a free value
(log entry 48), and the debug window raises an access fault (R626). -/
def coreSetup : SetupFn := fun s path off v =>
  let c := path - 4
  if 0x800000 ≤ off then s.coreTrap c (if v.isSome then 7 else 5) (0x100000000 + off)
  else
    match v with
    | some x => s.setupWr path off x
    | none =>
      match s.setupRd path off with
      | (some x, t) => t.emit (.core c x)
      | (none, t) => t.useFree.emit (.core c (t.freeVal (2 ^ 32)))

/-- An access through a path that a host uses: a write, or a read whose value or failure is answered. -/
def State.setup (s : State) (path off : Nat) (v : Option Nat) : State :=
  match v with
  | some x => s.setupWr path off x
  | none =>
    match s.setupRd path off with
    | (some x, t) => t.emit (.read path x)
    | (none, t) => t.emit (.readBad path)

end Sys2Proof.Machine
end

