-- ==== Sys2Proof/Machine/Pages.lean ====
section
/-! DEFINITION. The function page set: doorbell page, ring setup page, counter page, MSI-X table and PBA (R222, R419,
R420, R427 to R431, R449, R467), and the BARs of the management function (R417, R418, R450). -/

namespace Sys2Proof.Machine

/-! ## The ring setup page (R427) -/

/-- QP_STATE's code. -/
def QpState.code : QpState → Nat
  | .disabled => 0
  | .active => 1
  | .frozen => 2
  | .draining => 3

/-- The selected QP of a function. -/
def State.selQp (s : State) (f : Nat) : Option Nat := s.localQp f (s.fn f).qpSel

/-- A word of the ring setup page; none where it defines none. -/
def State.ringWord (s : State) (f off : Nat) : Option Nat :=
  let x := s.fn f
  let q : Qp := match s.selQp f with
    | some g => s.qp g
    | none => { sqLog := 0, cqLog := 0, dataLog := 0 }
  match off with
  | 0x00 => some (x.qps.length + (if 2048 ≤ f then (f - 2048) * 2 ^ 20 + 2 ^ 31 else f * 2 ^ 20))
  | 0x04 => some (b2n x.doorbellErr * 2 ^ 30 + b2n x.cfgRejected * 2 ^ 31)
  | 0x08 => some x.vectors
  | 0x10 => some x.qpSel
  | 0x14 => some 0
  | 0x18 => some (match s.selQp f with
      | some g => g * 2 ^ 16 + q.state.code * 2 ^ 30
      | none => 0)
  | 0x1C => some (q.head % 2 ^ 16 + q.cqTail % 2 ^ 16 * 2 ^ 16)
  | 0x20 => some (q.sqBase % 2 ^ 32)
  | 0x24 => some (q.sqBase / 2 ^ 32)
  | 0x28 => some (q.cqBase % 2 ^ 32)
  | 0x2C => some (q.cqBase / 2 ^ 32)
  | 0x30 => some (q.dataBase % 2 ^ 32)
  | 0x34 => some (q.dataBase / 2 ^ 32)
  | 0x38 => some (q.sqLog * 2 ^ 8 + q.cqLog * 2 ^ 16 + q.dataLog * 2 ^ 24)
  | 0x3C => some (q.vector + b2n q.coalesce * 2 ^ 30 + b2n q.irqEn * 2 ^ 31)
  | _ => none

/-- A write of a set-up register of the selected QP: refused with CFG_REJECTED while the QP is not DISABLED (R427). -/
def State.qpSetup (s : State) (f : Nat) (g : Qp → Qp) : State :=
  match s.selQp f with
  | none => s
  | some qn =>
    if (s.qp qn).state = .disabled then s.setQp qn (g (s.qp qn)) else s.setFn f { s.fn f with cfgRejected := true }

/-- A base written: the low word waits in the QP for the high word (R9); its bits [11:0] are reserved. -/
def State.qpBase (s : State) (f off v : Nat) : State :=
  if off % 8 = 0 then s.qpSetup f (fun q => { q with lowHold := SMap.set q.lowHold off (v / 4096 * 4096 + 1) 0 })
  else
    s.qpSetup f (fun q =>
      let cur := if off = 0x24 then q.sqBase else if off = 0x2C then q.cqBase else q.dataBase
      let held := SMap.get q.lowHold (off - 4) 0
      let lo := if held = 0 then cur % 2 ^ 32 else held - 1
      let b := lo + v % 2 ^ 32 * 2 ^ 32
      let q1 := { q with lowHold := SMap.set q.lowHold (off - 4) 0 0 }
      if off = 0x24 then { q1 with sqBase := b } else if off = 0x2C then { q1 with cqBase := b } else { q1 with dataBase := b })

/-- A write of the ring setup page. -/
def State.ringPageWrite (s : State) (f off v : Nat) : State :=
  let x := s.fn f
  if off = 0x04 then
    s.setFn f { x with cfgRejected := x.cfgRejected && !bit v 31, doorbellErr := x.doorbellErr && !bit v 30 }
  else if off = 0x10 then s.setFn f { x with qpSel := v % 512 }
  else if off = 0x14 then (if v % 4 = 1 then s.qpEnable f else if v % 4 = 2 then s.qpDisable f else s)
  else if 0x20 ≤ off ∧ off < 0x38 then s.qpBase f off v
  else if off = 0x38 then
    let (d, c, q) := (bits v 27 24, bits v 19 16, bits v 11 8)
    if 8 ≤ d ∧ d ≤ 12 ∧ 4 ≤ c ∧ c ≤ 14 ∧ 4 ≤ q ∧ q ≤ 12 then
      s.qpSetup f (fun x => { x with dataLog := d, cqLog := c, sqLog := q })
    else s
  else if off = 0x3C then
    if x.vectors ≤ bits v 10 0 then s
    else s.qpSetup f (fun q => { q with irqEn := bit v 31, coalesce := bit v 30, vector := bits v 10 0 })
  else s

/-! ## The counter page (R222) -/

/-- Whether a function may see its counter page. -/
def State.pageVisible (s : State) (f : Nat) : Bool := decide (2048 ≤ f) || bit (s.rd OBS_VF_VIS_VALUE (f / 32)) (f % 32)

/-- A word of the counter page; none where it defines none. -/
def State.counterWord (s : State) (f off : Nat) : Option Nat :=
  let w : Option Nat :=
    if off = 0 then some (s.rd OBS_SHADOW_TICK_LO_VALUE)
    else if off = 4 then some (s.rd OBS_SHADOW_TICK_HI_VALUE)
    else if 0x10 ≤ off ∧ off < 0x30 then
      let v := SMap.get s.obs.subsShadow (f * 4 + (off - 0x10) / 8) 0
      some (if off % 8 = 0 then v % 2 ^ 32 else v / 2 ^ 32)
    else none
  w.map (fun v => if s.pageVisible f then v else 0)

/-! ## MSI-X (R419, R449) -/

/-- A word of the MSI-X table; entries that no vector backs read 0. -/
def State.msixWord (s : State) (f off : Nat) : Nat :=
  let x := s.fn f
  if x.vectors ≤ off / 16 then 0
  else
    let e := SMap.get x.msix (off / 16) {}
    match off % 16 / 4 with
    | 0 => e.addr % 2 ^ 32
    | 1 => e.addr / 2 ^ 32
    | 2 => e.data
    | _ => b2n e.masked

/-- A write of the MSI-X table; an unmasked entry with its pending bit set sends its message. -/
def State.msixWrite (s : State) (f off v : Nat) : State :=
  let x := s.fn f
  let n := off / 16
  if x.vectors ≤ n then s
  else
    let e := SMap.get x.msix n {}
    let e' : MsixEnt := match off % 16 / 4 with
      | 0 => { e with addr := e.addr / 2 ^ 32 * 2 ^ 32 + v % 2 ^ 32 }
      | 1 => { e with addr := e.addr % 2 ^ 32 + v % 2 ^ 32 * 2 ^ 32 }
      | 2 => { e with data := v % 2 ^ 32 }
      | _ => { e with masked := bit v 0 }
    let go := !e'.masked && e'.pending
    let s1 := s.setFn f { x with msix := SMap.set x.msix n { e' with pending := e'.pending && !go } {} }
    if go then s1.sendVector f n else s1

/-- A word of the PBA. -/
def State.pbaWord (s : State) (f off : Nat) : Nat :=
  sum ((List.range 32).map (fun b => b2n (SMap.get (s.fn f).msix (off * 8 + b) {}).pending * 2 ^ b))

/-! ## The page set -/

/-- A read of a function page set: the word, or none where it defines nothing (R419, R420). A page set of a resetting
function reads 0 (R467). -/
def State.pageRd (s : State) (f off : Nat) : Option Nat × State :=
  let key := 2 ^ 24 * (1 + f) + off
  let plain (o : Nat) : Option Nat :=
    if o < 0x1000 then some 0
    else if o < 0x2000 then s.ringWord f (o - 0x1000)
    else if o < 0x3000 then s.counterWord f (o - 0x2000)
    else if 0x10000 ≤ o ∧ o < 0x18000 then some (s.msixWord f (o - 0x10000))
    else if 0x18000 ≤ o ∧ o < 0x18100 then some (s.pbaWord f (o - 0x18000))
    else none
  let low : Bool := (decide (0x1020 ≤ off) && decide (off < 0x1038) && off % 8 == 0) || off == 0x2000
    || (decide (0x2010 ≤ off) && decide (off < 0x2030) && off % 8 == 0)
  if off % 4 ≠ 0 then (none, s)
  else
    match plain off with
    | none => (none, s)
    | some v =>
      if (s.fn f).reset.isSome then (some 0, s)
      else if low then (some v, s.setHold (key + 4) (plain (off + 4)))
      else
        match SMap.get s.bus.hold key none with
        | some h => (some h, s.setHold key none)
        | none => (some v, s)

/-- A write of a function page set. -/
def State.pageWr (s : State) (f off v : Nat) : State :=
  if off % 4 ≠ 0 ∨ (s.fn f).reset.isSome then s
  else if off < 0x1000 then
    (if off % 8 = 0 then s.sqDoorbell f (off / 8) (v % 2 ^ 16) else s.cqDoorbell f (off / 8) (v % 2 ^ 16)).quietExit
  else if off < 0x2000 then s.ringPageWrite f (off - 0x1000) v
  else if 0x10000 ≤ off ∧ off < 0x18000 then s.msixWrite f (off - 0x10000) v
  else s

/-- Whether a function page set defines an offset. -/
def pageDefined (off : Nat) : Bool :=
  off % 4 == 0 &&
    (decide (off < 0x1000) || (decide (0x1000 ≤ off) && decide (off < 0x1040) && off != 0x100C) || off == 0x2000 || off == 0x2004
      || (decide (0x2010 ≤ off) && decide (off < 0x2030)) || (decide (0x10000 ≤ off) && decide (off < 0x18100)))

/-! ## Requests at the BARs (R417 to R420, R450) -/

/-- What a BAR of a function holds. -/
inductive BarKind where
  | setup | page | rom
deriving DecidableEq, Repr

/-- The function and BAR of the management function of PF `n` that an address names, with the offset. -/
def State.barOf (s : State) (n a : Nat) : Option (Nat × BarKind × Nat) :=
  let f := pfIndex n
  let b0 := s.vc (fnKey f vfBar0)
  let b2 := s.vc (fnKey f vfBar2)
  let b4 := s.vc (fnKey f vfBar4)
  if b0 ≠ 0 ∧ b0 ≤ a ∧ a < b0 + 2 ^ 24 then some (f, .setup, a - b0)
  else if b2 ≠ 0 ∧ b2 ≤ a ∧ a < b2 + 2 ^ 17 then some (f, .page, a - b2)
  else if b4 ≠ 0 ∧ b4 ≤ a ∧ a < b4 + 2 ^ 16 then some (f, .rom, a - b4)
  else
    let v0 := s.vc (fnKey f vfVfBar)
    if v0 = 0 ∨ a < v0 then none
    else
      let v := s.rd RING_PF_VF_VF_BASE n + (a - v0) / 2 ^ 17
      if (s.enabledVfs n).contains v then some (v, .page, (a - v0) % 2 ^ 17) else none

/-- The path code of a PF's BAR0. -/
def State.barPath (s : State) (n : Nat) : Nat := if n = s.anchor then 0 else 16 + n

/-- A dword of a BAR read. -/
def State.barRd (s : State) (f : Nat) (k : BarKind) (off : Nat) : Option Nat × State :=
  match k with
  | .setup => s.setupRd (s.barPath (f - 2048)) off
  | .page => s.pageRd f off
  | .rom => (some (if off < 0x8000 then s.romWord (off / 4) else 0), s)

/-- A dword of a BAR written. -/
def State.barWr (s : State) (f : Nat) (k : BarKind) (off v : Nat) : State :=
  match k with
  | .setup => s.setupWr (s.barPath (f - 2048)) off v
  | .page => s.pageWr f off v
  | .rom => s

/-- Whether a BAR takes accesses of any size at an offset (R420): the ROM, the MSI-X table and the PBA. -/
def anySize (k : BarKind) (off : Nat) : Bool :=
  match k with
  | .rom => true
  | .page => decide (0x10000 ≤ off) && decide (off < 0x18100)
  | .setup => false

/-- Whether an offset of a BAR is defined. -/
def State.barDefined (s : State) (f : Nat) (k : BarKind) (off : Nat) : Bool :=
  match k with
  | .setup => s.defined (s.barPath (f - 2048)) off
  | .page => pageDefined off
  | .rom => true

/-- An error of the management function of PF `n`: logged with its header, and raised (R450, R566). -/
def State.fnError (s : State) (f bitNo : Nat) (t : Tlp) : State :=
  (s.aerLog f bitNo t.header).raise 89 { port := s.fnPort f, hd := s.fnHd f }

/-- Dwords `i` on written to a BAR with their byte enables: a dword written in part keeps its other bytes. -/
def State.barWrites (s : State) (f : Nat) (k : BarKind) (off : Nat) (t : Tlp) (data : List Nat) : State :=
  (List.range (data.length / 4)).foldl (fun (u : State) i =>
    let new := bytesAt data (4 * i) (4 * i + 3)
    let en (b : Nat) : Bool := byteEnabled (data.length / 4) t.fbe t.lbe (4 * i + b)
    let old := ((u.barRd f k (off + 4 * i)).1).getD 0
    let v := sum ((List.range 4).map (fun b => (if en b then new / 2 ^ (8 * b) % 256 else old / 2 ^ (8 * b) % 256) * 2 ^ (8 * b)))
    u.barWr f k (off + 4 * i) v) s

/-- Dwords read from a BAR. -/
def State.barReads (s : State) (f : Nat) (k : BarKind) (off n : Nat) : List Nat × State :=
  (List.range n).foldl (fun (x : List Nat × State) i =>
    let (v, u) := x.2.barRd f k (off + 4 * i)
    (x.1 ++ leBytes 4 (v.getD 0), u)) ([], s)

/-- What a memory request does at the BARs of PF `n`: the status (0 SC, 1 UR) and the data of a read (R10, R420, R450). -/
def State.barAccess (s : State) (n : Nat) (t : Tlp) (data : List Nat) : Nat × List Nat × State :=
  let rd := !t.kind.hasData
  match s.barOf n t.addr with
  | none => (cplUR, [], s.fnError (pfIndex n) aerUnsupported t)
  | some (f, k, off) =>
    let dws := t.dws
    if t.ep ∧ !rd then (cplUR, [], s.fnError f aerPoisoned t)
    else if t.kind ≠ .memRd ∧ t.kind ≠ .memWr then (cplUR, [], s.fnError f aerUnsupported t)
    else if anySize k off then
      if rd then
        let (d, u) := s.barReads f k off dws
        (cplSC, d, u)
      else (cplSC, [], s.barWrites f k off t data)
    else if dws ≠ 1 ∨ t.fbe ≠ 15 ∨ !s.barDefined f k off then (cplUR, [], s.fnError f aerUnsupported t)
    else if rd then
      match s.barRd f k off with
      | (some v, u) => (cplSC, leBytes 4 v, u)
      | (none, u) => (cplUR, [], u.fnError f aerUnsupported t)
    else (cplSC, [], s.barWr f k off (bytesAt data 0 3))

end Sys2Proof.Machine
end

