-- ==== Sys2Proof/Machine/Deliver.lean ====
section
/-! DEFINITION. Packets that reach this device itself: fabric packets to its own DID by type (R236 to R240, R259, R260,
R263, R374, R380, R381, R406 to R408), and requests to the management function (R417 to R420). They wait in `loop` until
the command that brought them ends. -/

namespace Sys2Proof.Machine

/-- A fabric packet that arrives at port `p`, as it stands once the pipeline has looked it up (R80, R83, R89); its tokens
and cells are those of its own pipeline steps. -/
def State.arrived (s : State) (p : Nat) (h : FabHdr) (data : List Nat) : Pkt :=
  let f := s.lookupFlow h.src h.stream
  { ing := p, fab := true, hdr := h, stage := .reserved, sl := s.slOf p (streamTc h.stream), tc := streamTc h.stream,
    keyDid := h.src, keyStream := h.stream, len := 32 + data.length, flow := f.map (·.2),
    flowIdx := (f.map (·.1)).getD 0, sub := s.rd PORT_FWD_CFG_DEF_SUBSCRIBER p }

/-- A fabric packet to this device's own DID that arrives at fabric port `p`: the decision order of R97, with delivery
within the device. -/
def State.arrivePkt (s : State) (p : Nat) (h : FabHdr) (data : List Nat) : State :=
  if s.isFab p && s.fabUp (p / 4) && h.dst == s.did then (s.decidePkt (s.arrived p h data) true data).getD s else s

/-! ## COMPLETION (R238) -/

/-- What a COMPLETION does for the owner of the entry that its TAG names. -/
def State.ownerDone (s : State) (p tag : Nat) (e : NpEnt) (st : Nat) (poison : Bool) (data : List Nat) : State :=
  let free := s.setNp tag none
  match e.owner with
  | .desc q i => free.ringCompletion q i e st poison data
  | .host r => free.endHost r st poison (e.addr / 4 * 4) data
  | .fabric did stream t a _ fbe lbe => free.ownerReply did stream t a fbe lbe p st poison data
  | .line _ => s.prefetchFill tag st poison data
  | .coreLoad c _ => free.coreLoadDone c e st data
  | .coreStore c _ => s.coreStoreDone c tag st
  | .mirror q i w => free.mirrorAnswer q i w e st data
  | .launch n => free.cueCompletion n st
  | .move n => free.endMove n
  | .none | .dirty _ _ | .session _ | .ack _ _ _ => free

/-- A COMPLETION for this device: it ends the request with its TAG, ends a move, or matches none (R238, R239, R259,
R263, R566). A COMPLETION with status REMOTE_UNREACHABLE for an acknowledged write is a LOSS_NOTICE. -/
def State.deliverCompletion (s : State) (o : QPkt) : State :=
  let st := bits o.hdr.ts 7 0
  let tag := o.hdr.tag
  if 0xFFC0 ≤ tag then
    if (s.move (tag - 0xFFC0)).isSome then s.endMove (tag - 0xFFC0) else s.raise 82 { port := some o.ing }
  else
    match s.np tag with
    | none => if o.own then s else s.raise 82 { port := some o.ing }
    | some e =>
      let s1 := if st = stREMOTE_UNREACHABLE ∧ npTotal ≤ tag then s.raise 146 { arg := o.hdr.src } else s
      s1.ownerDone o.ing tag e st o.hdr.poison o.data

/-! ## ADMIN (R240) -/

/-- An ADMIN packet performed as an access through the anchor PF's BAR0, with the ADMIN bank of the table window. -/
def State.deliverAdmin (s : State) (o : QPkt) : State :=
  let off := o.hdr.addr % 2 ^ 24
  if !s.on HERD_CTRL_REMOTE_ADMIN then s.answerFab o.ing o.hdr stNOT_PERMITTED
  else if o.data.isEmpty then
    if o.hdr.lenBytes ≠ 4 then s.answerFab o.ing o.hdr stREMOTE_ERROR
    else
      match s.setupRd 1 off with
      | (some v, t) => t.answerFab o.ing o.hdr stOK (leBytes 4 v)
      | (none, t) => t.answerFab o.ing o.hdr stREMOTE_ERROR
  else
    let t := if o.data.length = 4 then s.setupWr 1 off (bytesAt o.data 0 3) else s
    t.answerFab o.ing o.hdr stOK

/-! ## MESSAGE (R260, R380, R381) -/

/-- A MESSAGE for this device by its code. -/
def State.deliverMessage (s : State) (o : QPkt) : State :=
  let p := bits (bytesAt o.data 0 3) 22 16
  if o.hdr.drain then
    let h : FabHdr := { type := tCOMPLETION, dst := o.hdr.addr % 4096, src := s.did, stream := o.hdr.stream, tag := o.hdr.tag }
    (s.sendFab (s.marked { fab := true, hdr := h, le := 32, ingFab := false } o.ing)).2
  else
    match msgCodeOf o.data with
    | 0x10 => s.portWatch o.hdr.src p
    | 0x11 => s.portStateIn o.hdr.src o.data
    | 0x12 => s.dpcRelease p
    | 0x13 => s.pcieMsgIn o.hdr.src o.data
    | 0x20 => s.mwBind o.hdr o.ing o.data
    | 0x21 => s.mwUnbind o.hdr o.ing o.data
    | 0x22 => s.mwPeriod o.hdr.src o.data
    | _ => s

/-! ## Requests to the management function -/

/-- A TLP, or the TLP that a fabric request became, at the management function. -/
def State.deliverEndpoint (s : State) (o : QPkt) : State :=
  let n := o.id - 2048
  if o.tlp.kind.isCpl then (s.aerLog o.id aerUnexpected o.tlp.header).raise 82 { port := some o.ing }
  else if !o.tlp.kind.memory && !o.tlp.kind.nonPosted then s
  else
    let (st, d, t) := s.barAccess n o.tlp o.data
    match o.owner with
    | .fabric did stream tag addr _ fbe lbe =>
      if o.tlp.kind.hasData && !o.hdr.ackReq then t
      else t.ownerReply did stream tag addr fbe lbe o.ing (issueStatus st false) false d
    | _ => if o.tlp.kind.nonPosted then t.emit (.answer o.ing o.tlp.req o.tlp.tag st d) else t

/-! ## The queue of deliveries -/

/-- A request of this device to its own fabric space takes the decision order where it has a non-posted entry to wait
for; it is put back when it must wait. -/
def State.deliverRequest (s : State) (o : QPkt) : State :=
  let k : Pkt :=
    { ing := o.ing, fab := true, hdr := o.hdr, stage := .reserved, sl := o.sl, tc := streamTc o.hdr.stream, keyDid := o.hdr.src,
      keyStream := o.hdr.stream, len := o.le, sub := o.sub, flow := none }
  match s.decidePkt k true o.data with
  | some t => t
  | none => { s with loop := s.loop ++ [o] }

/-- One packet delivered. -/
def State.deliver (s : State) (o : QPkt) : State :=
  if !o.fab then s.deliverEndpoint o
  else if o.hdr.type = tCOMPLETION then s.deliverCompletion o
  else if o.hdr.type = tMIRROR then s.mirrorIn o.hdr.src o.data
  else if o.hdr.type = tCUE then s.cuePacket o.hdr o.data
  else if o.hdr.type = tADMIN then s.deliverAdmin o
  else if o.hdr.type = tMESSAGE ∧ (o.hdr.drain ∨ (msgCodeOf o.data ≠ 1 ∧ msgCodeOf o.data ≠ 2)) then s.deliverMessage o
  else s.deliverRequest o

/-- Deliveries in order, as many as `fuel` allows. -/
def State.drainLoop (s : State) : Nat → State
  | 0 => s
  | n + 1 =>
    match s.loop with
    | [] => s
    | o :: r => ({ s with loop := r }.deliver o).drainLoop n

end Sys2Proof.Machine
end

