-- ==== Sys2Proof/Machine/Collect.lean ====
section
/-! DEFINITION. What ends a command: packets for the device itself are delivered, the fault collector takes the events
that the command raised (R539 to R546), what a release, an update hold or a block's idleness makes possible comes about,
and a device reset that the command triggered takes place (R570). -/

namespace Sys2Proof.Machine

/-- Deliveries and events until none is left, at most `fuel` rounds (log entry 52). -/
def State.calm (s : State) : Nat → State
  | 0 => s
  | n + 1 =>
    if s.raised.isEmpty && s.loop.isEmpty then s
    else
      let t := (s.drainLoop s.loop.length).collect
      if t.raised.isEmpty && t.loop == s.loop then t else t.calm n

/-- The accesses of core `c` that an ended update hold kept back (R508), at most `fuel`. -/
def State.coreResume (s : State) (c : Nat) : Nat → State
  | 0 => s
  | n + 1 => (s.coreHeldNext coreSetup c).coreResume c n

/-- What becomes possible after an effect: a refused port's link goes down (R266), port resets end (R589), held mover steps
and core accesses go on (R508), and Quiet ends when its conditions do (R594). -/
def State.followUp (s : State) : State :=
  let s1 := s.dropRefused.syncPortBusy
  let s2 := if s1.on FAULT_STATUS_HALTED then s1
    else (List.range 8).foldl (fun (t : State) c => t.coreResume c (t.core c).held.length) s1.resumeMovers
  if s2.rd PWR_STATUS_STATE = pwQUIET then s2.quietCheck else s2

/-- Whether FAULT_PIN_STATUS agrees with what holds the pin (R556). -/
def State.pinStill (s : State) : Bool :=
  let low := s.faultPinLow
  s.on FAULT_PIN_STATUS_ASSERTED == low && s.on FAULT_PIN_STATUS_SOURCE_VALID == (low && s.pinSource.isSome)
    && s.rd FAULT_PIN_STATUS_SOURCE == (if low then s.pinSource.getD 0 else 0)

/-- Whether an effect left nothing that the end of its command has to do. -/
def State.still (s : State) : Bool :=
  s.raised.isEmpty && s.loop.isEmpty && s.rst.due.isNone && !s.flt.fatalDue && s.chm.held.isEmpty
    && s.chm.cores.all (fun e => e.2.held.isEmpty) && s.rst.ports.isEmpty && s.port.ports.all (fun e => !e.2.refused)
    && s.rd PWR_STATUS_STATE != pwQUIET && s.pinStill

/-- The rounds of deliveries and events that a command may need (log entry 52). -/
def calmRounds : Nat := 65536

/-- The end of a command. It is never unfolded by the way, because its rounds are many. -/
@[irreducible] def settle (s : State) : State :=
  if s.still then s
  else
    let s1 := ((s.calm calmRounds).followUp.calm calmRounds).syncFaultPin
    let s2 := if s1.rst.due.isSome || s1.flt.fatalDue then s1.resetDue.syncFaultPin else s1
    { s2 with raised := [] }

/-- The outcome of a command: the next state after its end. -/
def done (s : State) : Host.Outcome State Fault Refusal := .next (settle s)

end Sys2Proof.Machine
end

