-- ==== Sys2Proof/Machine/LinkRx.lean ====
section
/-! DEFINITION. The receiving side of a Gazelle link: the check of a flit, missing numbers, delivery in order, link
slots, and the Herd messages that bypass flits carry (R241, R312 to R339, R566). -/

namespace Sys2Proof.Machine

/-! ## Herd messages (R241, R566) -/

/-- HERD_PROTOCOL: a Herd message with a reserved code or field value is discarded (R566). -/
def State.herdBad (s : State) (k : Nat) : State := s.raise 80 { port := some (4 * k) }

/-- HELLO with its reserved values refused. -/
def State.helloIn (s : State) (k uid prio port flags depth : Nat) : State :=
  if 16 ≤ flags ∨ 96 ≤ port then s.herdBad k else s.hello k uid prio port flags depth

/-- CLAIM with its reserved flags refused. -/
def State.claimIn (s : State) (k prio uid dist flags : Nat) : State :=
  if 2 ≤ flags then s.herdBad k else s.claim k prio uid dist (bit flags 0)

/-- TIME_CLAIM with its reserved source classes refused. -/
def State.timeClaimIn (s : State) (k prio cls uid hops : Nat) : State :=
  if 2 < cls then s.herdBad k else s.timeClaim k { prio := prio, cls := cls, uid := uid, hops := hops }

/-- JOIN: requested DID in [11:0], [15] valid. -/
def State.joinIn (s : State) (k uid req dist : Nat) : State :=
  if bits req 14 12 ≠ 0 then s.herdBad k
  else s.join uid (if bit req 15 then some (req % 4096) else none) dist

/-- ASSIGN; one that gives another UID a DID bound here is a violation (R246, R566; log entry 63). -/
def State.assignIn (s : State) (k uid did seq : Nat) : State :=
  let e := SMap.get s.herd.dids did {}
  if 4096 ≤ did ∨ (e.assigned = true ∧ e.uid ≠ uid) then s.herdBad k else s.assign k uid did seq

/-- LSU with its reserved values refused. -/
def State.lsuIn (s : State) (k origin seq nbr oport nport cost delay flags : Nat) : State :=
  if 2 ≤ flags ∨ 4096 ≤ origin ∨ 4096 ≤ nbr ∨ 96 ≤ oport ∨ 96 ≤ nport then s.herdBad k
  else s.lsu k origin { nbr := nbr, oport := oport, nport := nport, cost := cost, delay := delay, seq := seq, up := bit flags 0 }

/-- GLOBAL with its reserved operations refused (log entry 31). -/
def State.globalIn (s : State) (k op arg value tick : Nat) : State :=
  if (1 ≤ op ∧ op ≤ 6) ∨ (17 ≤ op ∧ op ≤ 21) then s.globalMsg k op arg value tick else s.herdBad k

/-- GLOBAL_UP with its reserved operations refused (log entry 31). -/
def State.globalUpIn (s : State) (k op id count status value : Nat) : State :=
  if (1 ≤ op ∧ op ≤ 5) ∨ op = goSNAPSHOT + 32 then s.globalUp k op id count status value else s.herdBad k

/-- DOMAIN_CLAIM with its reserved values refused. -/
def State.domainClaimIn (s : State) (k uid hd port flags : Nat) : State :=
  if 2 ≤ flags ∨ 1024 ≤ hd ∨ 96 ≤ port then s.herdBad k else s.domainClaimMsg uid hd port (bit flags 0)

/-- DOMAIN with its reserved values refused. -/
def State.domainIn (s : State) (k hd did port flags claimant seq : Nat) : State :=
  if 4 ≤ flags ∨ 1024 ≤ hd ∨ 4096 ≤ did ∨ 4096 ≤ claimant then s.herdBad k
  else s.domainMsg k hd did port flags claimant seq

/-- A HERD slot as delivered: its code in byte 2, its body in bytes 3 to 15 (R241). The distance that a JOIN's test
needs is a free value here (log entry 33). -/
def State.herdIn (s : State) (k : Nat) (slot : List Nat) : State :=
  let f (lo hi : Nat) : Nat := bytesAt slot lo hi
  match byteAt slot 2 with
  | 1 => s.helloIn k (f 3 10) (f 11 11) (f 12 12) (f 13 13) (f 14 15)
  | 2 => s.claimIn k (f 3 3) (f 4 11) (f 12 13) (f 14 14)
  | 3 => s.timeClaimIn k (f 3 3) (f 4 4) (f 5 12) (f 13 13)
  | 4 => s.useFree.joinIn k (f 3 10) (f 11 12) (s.freeVal 65536)
  | 5 => s.assignIn k (f 3 10) (f 11 12) (f 13 14)
  | 6 => s.lsuIn k (f 3 4) (f 5 6) (f 7 8) (f 9 9) (f 10 10) (f 11 11) (f 12 13) (f 14 14)
  | 7 => s.globalIn k (f 3 3) (f 4 4) (f 5 8) (f 9 14)
  | 8 => s.globalUpIn k (f 3 3) (f 4 7) (f 8 9) (f 10 10) (f 11 14)
  | 9 => s.faultNotice k (f 3 4) (f 5 5) (f 6 6) (f 7 8) (f 9 12) (f 13 14)
  | 10 => s.domainClaimIn k (f 3 10) (f 11 12) (f 13 13) (f 14 14)
  | 11 => s.domainIn k (f 3 4) (f 5 6) (f 7 7) (f 8 8) (f 9 10) (f 11 12)
  | _ => s.herdBad k

/-! ## The check of a flit (R308, R309, R312, R329) -/

/-- The octet whose link takes flits: a fabric octet in ACTIVE or DOZE. -/
def State.linkTakes (s : State) (k : Nat) : Bool :=
  s.fabOct k && (s.trState k == trACTIVE || s.trState k == trDOZE)

/-- The sequence value of a replay flit: the one number near E that agrees with SEQ_LO (R312). -/
def replaySeq (e lo : Nat) : Nat := seqAdd e ((lo + 65536 + 32768 - e % 65536) % 65536 + 2 ^ 32 - 32768)

/-- The sequence value under which a flit passes its check, if any (R312). -/
def State.flitSeq (s : State) (k : Nat) (bytes : List Nat) : Option Nat :=
  let e := s.rd LINK_SEQ_RX_EXPECT_VALUE k
  let h := flitHead bytes
  let c := flitCheck bytes
  let try_ (q : Nat) : Option Nat := if flitCrc q bytes = c then some q else none
  if fhType h = 5 ∨ fhType h = 6 then try_ (replaySeq e (fhSeq h))
  else (List.range (min (s.lnk k).failRun 16 + 1)).findSome? (fun j => try_ (seqAdd e j))

/-- LINK_ERR_NOW follows the failures in the window. -/
def State.syncErr (s : State) (k : Nat) : State := s.wr LINK_ERR_NOW_COUNT (min (s.lnk k).fails.length 1023) k

/-- A flit slot arrives: the window moves, and a partner that was in Doze is awake (R296, R329). -/
def State.flitSlotIn (s : State) (k : Nat) : State :=
  let x := s.lnk k
  let w := 2 ^ s.rd LINK_ERR_CFG_LOG2_WINDOW k
  (s.setLnk k { x with
    slots := x.slots + 1, fails := x.fails.filter (fun n => decide (x.slots < n + w)), cnt := bumpAt x.cnt 1 1,
    rxDoze := false, wokeAt := if x.rxDoze then s.ns else x.wokeAt }).syncErr k

/-- The bytes that FEC corrected: each counts on its lane, and the flit once (R309, R337, R340). -/
def State.fecNote (s : State) (k : Nat) (fixed : List Nat) (bad : Bool) : State :=
  let w := lanesOf (s.rd OCT_FAB_STATUS_WIDTH k)
  let s1 := fixed.foldl (fun (t : State) b => t.incSat LINK_FEC_LANE_VALUE k (b % w)) s
  if fixed.isEmpty || bad then s1 else (s1.lnkCount k 2 1).raise 2 { port := some (4 * k) }

/-- A flit fails its check (R312, R329): too many in a row lose the sequence, too many in the window the link. -/
def State.flitFail (s : State) (k : Nat) : State :=
  let x := s.lnk k
  let exempt := decide (x.wokeAt ≠ 0) && decide (s.ns < x.wokeAt + 64)
  let s1 := ((s.setLnk k { x with failRun := x.failRun + 1, cnt := bumpAt x.cnt 3 1,
                                  fails := if exempt then x.fails else x.fails ++ [x.slots] }).syncErr k)
  if 16 < x.failRun + 1 then s1.linkDown k ldSEQ_LOST
  else if s1.rd LINK_ERR_CFG_THRESHOLD k < (s1.lnk k).fails.length then s1.linkDown k ldCRC_RATE
  else s1

/-! ## Link slots (R317, R320, R321, R325, R326, R339) -/

/-- The slots of a flit's payload. -/
def slotsOf (bytes : List Nat) : List (List Nat) := (List.range 14).map (flitSlot bytes)

/-- The slots of type `c`. -/
def slotsAs (bytes : List Nat) (c : Nat) : List (List Nat) := (slotsOf bytes).filter (fun l => byteAt l 0 == c)

/-- Whether a flit's slots break a condition of R339. -/
def State.slotsBad (s : State) (k : Nat) (bytes : List Nat) : Bool :=
  (slotsAs bytes 2).any (s.creditBad k) || (slotsAs bytes 3).any (fun l => s.ackBad k (bytesAt l 2 5))
    || (slotsAs bytes 4).any (fun l => s.ackBad k (bytesAt l 8 11) || s.nakBad k l)
    || (fhType (flitHead bytes) == 7 && !(slotsAs bytes 16).isEmpty)

/-- TIME_A and TIME_B as a TIME slot (R43, R316, R320). -/
def State.timePair (s : State) (a b : List Nat) : TimeSlot :=
  let tick := fillTick s.time.tick (bytesAt a 2 7)
  let p := bytesAt a 8 10
  let q := bytesAt b 10 12
  { tick := tick, quanta := p % 2 ^ 20, split := p / 2 ^ 20 % 4,
    pendTick := if q = 0 then 0 else tick + bytesAt b 13 15, pendQuanta := q % 2 ^ 20, pendSplit := q / 2 ^ 20 % 4,
    rootUid := bytesAt b 2 9, hops := byteAt a 11, state := byteAt a 1 % 8 }

/-- DELAY_REQ answered: the turnaround is the device's own time, up to 500 ns (R321; log entry 64). -/
def State.delayAnswer (s : State) (k i : Nat) : State :=
  s.useFree.slotSend k 8 (i :: leBytes 6 (s.freeVal (500 * 65536 + 1)))

/-- DELAY_RESP: one exchange ends, and the next starts until the 64th (R45, R321). -/
def State.delayRespIn (s : State) (k : Nat) (slot : List Nat) : State :=
  let x := s.lnk k
  match x.delayOut with
  | some t =>
    if byteAt slot 1 = (s.tport k).exchanges.length then
      let s1 := (s.setLnk k { x with delayOut := none }).delayResult k ((s.time.ct - t - bytesAt slot 2 7) / 2)
      if (s1.tport k).exchanges.isEmpty then s1 else s1.delayReq k
    else s
  | none => s

/-- A link slot other than CREDIT, ACK and NAK; `next` is the slot after it. -/
def State.linkSlot (s : State) (k : Nat) (slot next : List Nat) : State :=
  match byteAt slot 0 with
  | 1 => s.creditInit k slot
  | 5 => if byteAt next 0 = 6 then s.timeSlotIn k (s.timePair slot next) else s
  | 7 => s.delayAnswer k (byteAt slot 1)
  | 8 => s.delayRespIn k slot
  | 9 => s.linkReqIn k slot
  | 10 => s.changeNowIn k slot
  | 11 => s.setLnk k { s.lnk k with rxDoze := true }
  | _ => s

/-- The link slots of an accepted flit: ack points first, then NAKs, then the others in slot order (R317, R326). -/
def State.linkSlots (s : State) (k : Nat) (bytes : List Nat) : State :=
  if s.slotsBad k bytes then s.linkDown k ldPROTOCOL
  else
    let s1 := (slotsAs bytes 2).foldl (fun (t : State) l => t.creditIn k l) s
    let s2 := (slotsAs bytes 3).foldl (fun (t : State) l => t.ackTo k (bytesAt l 2 5)) s1
    let s3 := (slotsAs bytes 4).foldl (fun (t : State) l => t.ackTo k (bytesAt l 8 11)) s2
    let s4 := (slotsAs bytes 4).foldl (fun (t : State) l => t.nakIn k l) s3
    ((List.range 14).foldl (fun (t : State) i => t.linkSlot k (flitSlot bytes i) (flitSlot bytes (i + 1))) s4).changeCheck k

/-! ## Acceptance (R313 to R315, R322, R338, R339) -/

/-- Whether the header of an accepted flit breaks a condition of R338 or R339 (log entry 62). -/
def headBad (h : Nat) : Bool :=
  let t := fhType h
  decide (8 ≤ t) || (fhReplay h != (t == 5 || t == 6)) || (!(decide (t ≤ 3) || t == 5) && fhVc h != 0)

/-- The channel of a sequenced flit: its VC, or 8 for the bypass channel. -/
def flitChannel (h : Nat) : Nat := if fhType h = 4 ∨ fhType h = 6 then 8 else fhVc h

/-- The numbers from E to `q` found missing: each not yet held is NAKed (R313, R327). -/
def State.findMissing (s : State) (k q : Nat) : State :=
  let e := s.rd LINK_SEQ_RX_EXPECT_VALUE k
  let x := s.lnk k
  let new := ((List.range (seqDist e q)).map (seqAdd e)).filter (fun n => !x.held.any (fun f => f.seq == n))
  let s1 := s.setLnk k { x with missing := x.missing ++ new.map (fun n => { seq := n, attempt := 1, at_ := s.ns }) }
  new.foldl (fun (t : State) n => t.sendNak k n 1) s1

/-- A sequenced flit takes its place in the reorder buffer, unless it is a duplicate or beyond its credit (R314, R315,
R339). LINK_CRC reports the recovery of a number that was missing (R337). -/
def State.holdFlit (s : State) (k q : Nat) (bytes : List Nat) : State :=
  let d := s.rd LINK_SEQ_RX_DELIVER_VALUE k
  let x := s.lnk k
  let h := flitHead bytes
  let c := flitChannel h
  let used := (x.held.filter (fun f => f.vc == c)).length + (x.wait.filter (· == c)).length
  if 2 ^ 31 ≤ seqDist d q ∨ x.held.any (fun f => f.seq == q) then s.lnkCount k 6 1
  else if 1024 ≤ seqDist d q then s
  else if SMap.get x.mine c 0 ≤ used then s.linkDown k ldPROTOCOL
  else
    let lost := x.missing.any (fun m => m.seq == q)
    let f : FlitEnt := { seq := q, vc := c, type := fhType h, body := bytes }
    let s1 := s.setLnk k { x with held := x.held ++ [f], missing := x.missing.filter (fun m => m.seq != q) }
    if lost then s1.raise 1 { port := some (4 * k) } else s1

/-- The kind of a data flit: that of its type, or for a replay its position in its packet (R314). -/
def dataKind (type left len : Nat) : Nat :=
  if type < 4 then type else if left = 0 then (if len ≤ 236 then 3 else 0) else if left = 1 then 2 else 1

/-- Bytes of the packet whose header a flit carries (R310). -/
def flitPacketLen (bytes : List Nat) : Nat :=
  let h := FabHdr.ofWire ((bytes.drop 4).take 32)
  32 + (if h.type = tREAD ∨ (h.type = tCOMPLETION ∧ !bit h.ts 8) then 0 else h.lenBytes)

/-- The packets of a fabric port whose header waits for a record, a lookup slot or headroom, for which the pipeline
accepts no further flit (R70, R92, R111). -/
def State.ingressWaits (s : State) (k : Nat) : Bool := s.fwd.pkts.any (fun p => p.ing == 4 * k && p.stage != .reserved)

/-- The returned counter of a channel moves on by one (R324). -/
def State.giveCredit (s : State) (k c : Nat) : State :=
  let x := s.lnk k
  s.setLnk k { x with given := SMap.set x.given c ((SMap.get x.given c 0 + 1) % 4096) 0 }

/-- The pipeline accepts the delivered flits that waited (R324). -/
def State.acceptWaiting (s : State) (k : Nat) : State :=
  let x := s.lnk k
  if x.wait.isEmpty || s.ingressWaits k then s
  else (x.wait.foldl (fun (t : State) c => t.giveCredit k c) (s.setLnk k { x with wait := [] })).sendCredit k

/-- A data flit is delivered to the ingress of its VC: the packet it belongs to moves on (R314, R339). -/
def State.dataIn (s : State) (k : Nat) (f : FlitEnt) : State :=
  let x := s.lnk k
  let left := SMap.get x.left f.vc 0
  let n := ceilDiv (flitPacketLen f.body) 236
  let t := dataKind f.type left (flitPacketLen f.body)
  if (t = 0 ∨ t = 3) ↔ left ≠ 0 then s.linkDown k ldPROTOCOL
  else
    let now := if t = 0 then max (n - 1) 1 else if t = 1 then max (left - 1) 1 else 0
    (s.setLnk k { x with left := SMap.set x.left f.vc now 0, wait := x.wait ++ [f.vc] })

/-- The HERD slots of a delivered BYPASS flit go to Herd in slot order (R314, R316). -/
def State.herdSlots (s : State) (k : Nat) (bytes : List Nat) : State :=
  (slotsAs bytes 16).foldl (fun (t : State) l => t.herdIn k l) s

/-- Flit D and those that follow it are delivered while they are held (R314). -/
def State.deliverFlits : Nat → State → Nat → State
  | 0, s, _ => s
  | n + 1, s, k =>
    let d := s.rd LINK_SEQ_RX_DELIVER_VALUE k
    let x := s.lnk k
    match x.held.find? (fun f => f.seq == d) with
    | none => s
    | some f =>
      let s1 := (s.setLnk k { x with held := x.held.filter (fun g => g.seq != d) }).wr LINK_SEQ_RX_DELIVER_VALUE (seqAdd d 1) k
      State.deliverFlits n (if f.vc = 8 then (s1.herdSlots k f.body).giveCredit k 8 else s1.dataIn k f) k

/-- Delivery, and the credits and acknowledgement that a change of D or of a counter sends (R314, R324). -/
def State.deliverAll (s : State) (k : Nat) : State :=
  let s1 := State.deliverFlits 1024 s k
  let s2 := if s1.rd LINK_SEQ_RX_DELIVER_VALUE k = s.rd LINK_SEQ_RX_DELIVER_VALUE k then s1
    else if s1.linkLive k then s1.sendCredit k else s1
  (s2.acceptWaiting k).changeCheck k

/-- A flit that passed its check under `q` (R313 to R317). -/
def State.flitPass (s : State) (k q : Nat) (bytes : List Nat) : State :=
  let h := flitHead bytes
  let t := fhType h
  let s1 := s.setLnk k { s.lnk k with failRun := 0 }
  if headBad h then s1.linkDown k ldPROTOCOL
  else
    let slots := t == 4 || t == 7
    let s2 := if slots then s1.linkSlots k bytes else s1
    if !s2.linkTakes k then s2
    else if t = 7 then (s2.findMissing k q).wr LINK_SEQ_RX_EXPECT_VALUE q k
    else if !(s2.lnk k).creditIn then s2.linkDown k ldPROTOCOL
    else
      let s3 := if t ≤ 4 then (s2.findMissing k q).wr LINK_SEQ_RX_EXPECT_VALUE (seqAdd q 1) k else s2
      (s3.holdFlit k q bytes).deliverAll k

/-- FLIT_RECEIVE: 256 bytes arrive on the link of an octet; FEC first, then the CRC (R309, R312). -/
def State.flitReceive (s : State) (k : Nat) (bytes : List Nat) : State :=
  if !s.linkTakes k || bytes.length != 256 then s
  else
    let r := fecFlit (lanesOf (s.rd OCT_FAB_STATUS_WIDTH k)) (bytes.map (· % 256))
    let s1 := (s.flitSlotIn k).fecNote k r.2.1 r.2.2
    match (if r.2.2 then none else s1.flitSeq k r.1) with
    | none => s1.flitFail k
    | some q => s1.flitPass k q r.1

end Sys2Proof.Machine
end

