-- ==== Sys2Proof/Machine/TickOps.lean ====
section
/-! DEFINITION. The tick edge and its jobs, and the interval that replaces it while a device issues no tick edges
(R29, R53, R64 to R66). -/

namespace Sys2Proof.Machine

/-- The time of the next tick edge in ns (R29). -/
def State.nextEdge (s : State) : Nat := (s.time.edge / s.tTick + 1) * s.tTick

/-- Cell time reaches the next multiple of T_TICK, and the tick number goes up by one (R29). -/
def State.edgeTime (s : State) : State :=
  let n := s.nextEdge
  s.setTime (fun x => { x with ct := max x.ct (n * 65536), edge := n, tick := x.tick + 1 })

/-- TICK_OUT rises at the edge (R56). -/
def State.tickOutRise (s : State) : State :=
  if s.on TIME_CTRL_TICK_OUT_EN then (s.setTime (fun t => { t with tickOut := true })).emit (.pin 1 0 1) else s

/-- One abandoned job reported (R66): its bit in TICK_OVERRUN_SRC, the latched event and the raise. -/
def State.overrun (s : State) (f : Fld) : State := ((s.setOn f).setOn TIME_EVENTS_OVERRUN).raise 96

/-- The jobs of the past interval that had not finished at this edge (R65, R66): bit 0 the hardware jobs, 1 the
coalescing flush, 2 the mirror words, 3 the adaptation decisions. -/
def State.overrunJobs (s : State) (mask : Nat) : State :=
  let s1 := if bit mask 0 then s.overrun TICK_OVERRUN_SRC_HW_TICK_WORK else s
  let s2 := if bit mask 1 then s1.overrun TICK_OVERRUN_SRC_COALESCE else s1
  let s3 := if bit mask 2 then s2.overrun TICK_OVERRUN_SRC_MIRROR else s2
  if bit mask 3 then s3.overrun TICK_OVERRUN_SRC_ADAPTATION else s3

/-- The coalescing flush: one message for each vector of the functions whose period this tick ends (R464, R465). -/
def State.coalesceFlush (s : State) : State :=
  let due := s.ring.qps.filterMap (fun e => match e.2.fn with
    | some f => if e.2.msiPending && (s.fn f).reset.isNone && s.time.tick % max 1 (s.fn f).coalesce == 0 then some (e.1, f, e.2.vector) else none
    | none => none)
  let s1 := due.foldl (fun (t : State) d => t.setQp d.1 { t.qp d.1 with msiPending := false }) s
  ((due.map (fun d => (d.2.1, d.2.2))).eraseDups).foldl (fun (t : State) d => t.sendVector d.1 d.2) s1

/-- The devices that the DID table shows as live. -/
def State.liveDids (s : State) : List Nat := (s.herd.dids.filter (fun e => e.2.live)).map (·.1)

/-- EPOCH_INSTALL with what a lost device means for its remote endpoints (R252, R263, R351). -/
def State.epochEdge (s : State) : State :=
  let s1 := s.epochInstall
  let now := s1.liveDids
  s1.remoteLost (s.liveDids.filter (fun d => !now.contains d))

/-- GLOBAL_ACTION: the global operations whose tick has come (R267, R272); a device reset among them is triggered. -/
def State.globalEdge (s : State) : State :=
  let r := s.globalActs
  if r.1 then r.2.trigger rsHERD false else r.2

/-- SNAPSHOT_CAPTURE at the present edge, with the reports of those that Herd announced (R230, R271). -/
def State.captureEdge (s : State) (missed : Bool) : State :=
  let ops := s.herd.ops.filter (fun o => decide (o.tick ≤ s.time.tick))
  let r := s.snapCapture missed
  r.2.snapReports r.1 missed ops

/-- WATCHDOG_TRIP of a core (R491): a CL0 core's trip resets the device, a CL1 core's that core. -/
def State.wdtTrip (s : State) (c : Nat) : State :=
  if !s.wdtDue c then s
  else if c < 4 then ((s.setCore c { s.core c with wdt := 0 }).raise 177 { core := some c }).trigger rsWATCHDOG false
  else s.wdtReset c

/-- The gate swaps whose time has come (R177 to R183). -/
def State.swapEdge (s : State) : State := (s.gate.ports.map (·.1)).foldl (fun (t : State) p => t.swapTake p) s

/-- The hardware jobs of an edge that an overrun abandons (R65, R66). -/
def State.hwJobs (s : State) (missed : Bool) (cues : Nat) : State :=
  if missed then (((s.gate.ports.map (·.1)).foldl (fun (t : State) p => t.swapMiss p) s).captureEdge true)
  else
    let s1 := (s.swapEdge.shadowTick).captureEdge false
    (s1.cueSample cues).mirrorSample

/-- The release of timed descriptors at their release edge (R192). -/
def State.releaseAll (s : State) : State := (s.gate.launch.map (·.1)).foldl (fun (t : State) n => t.timedRelease n) s

/-- The Herd part of an edge: announced operations and epochs, the reset of a merge, the steps of election (R245 to
R247, R252, R266, R267). -/
def State.herdEdge (s : State) : State :=
  let s1 := ((s.globalEdge.epochEdge).fabricMergeReset).timeStep
  (s1.herdStep).moveTick

/-- The moves, watchdogs and stores that the edge times out (R261, R491, R501). -/
def State.timeoutEdge (s : State) : State :=
  let s1 := (s.herd.moves.map (·.1)).foldl (fun (t : State) n => t.moveTimeout n) s
  let s2 := s1.wdtTick
  ((List.range 8).foldl (fun (t : State) c => t.wdtTrip c) s2).storeTick

/-- The bounds and decisions of the adaptation engine at an edge (R161 to R163, R492). -/
def State.adaptEdge (s : State) (missed : Bool) : State :=
  let s1 := (s.sch.queues.map (·.1)).foldl (fun (t : State) n => t.applyBounds n) s
  if s.rst.phase == .running then (s1.adaptApply missed).adaptStage else s1

/-- The applet hooks that start, and those of the past tick that are late (R66, R489). -/
def State.hookEdge (s : State) : State :=
  let r := s.hookTick
  if r.1 then r.2.overrun TICK_OVERRUN_SRC_APPLET else r.2

/-- The jobs of a tick edge on a device that runs (R64, R65). `mask` names the jobs of this edge that will not have
finished by the next, `late` those of the past interval that had not, `cues` the levels on the cue balls. -/
def State.tickJobs (s : State) (late mask cues : Nat) : State :=
  let s1 := (s.hwJobs (bit mask 0) cues).herdEdge
  let s2 := s1.timeoutEdge.cueTick
  let s3 := if bit mask 0 then s2 else s2.releaseAll
  let s4 := if bit mask 2 then s3.mirrorSkip else s3.mirrorSend
  let s5 := (s4.cue.mirrors.map (·.1)).foldl (fun (t : State) w => t.mirrorStale w) s4
  let s6 := if bit mask 1 then s5 else s5.coalesceFlush
  let s7 := ((s6.adaptEdge (bit late 3)).hookEdge).coreTicks
  let s8 := ((s7.expireLines.dramTick).evtSelTick).wrapIrqs
  let s9 := s8.portStateRefresh.quietTick
  if s9.on PWR_CTRL_REST_ARM then s9.restEntry else s9

/-- TICK_EDGE (R29): the time part alone on a device that is in Rest or not yet running; a halted device keeps its tick
and the collector's work at it (R553, log entry 66). -/
def State.tickEdge (s : State) (run : Bool) (mask cues : Nat) : State :=
  if !s.ticking then s
  else
    let s1 := (s.edgeTime.tickOutRise).overrunJobs s.time.overruns
    let s2 := (s1.setTime (fun x => { x with overruns := mask % 16 })).takeStep.periodChange
    if run then (s2.tickJobs s.time.overruns mask cues).faultTick (bit mask 0)
    else if s2.on FAULT_STATUS_HALTED then s2.faultTick (bit mask 0)
    else s2

/-- ACQUIRING_INTERVAL: the steps of election and discovery on a device that issues no tick edges (R53), and the test
of the Rest conditions (R595). -/
def State.acquiringInterval (s : State) (run : Bool) : State :=
  if s.ticking || !run then s
  else
    let s1 := s.timeStep.herdStep
    if s1.on PWR_CTRL_REST_ARM then s1.restEntry else s1

end Sys2Proof.Machine
end

