-- ==== Sys2Proof/Machine/Access.lean ====
section
/-! DEFINITION. Where commands reach the device: the phases in which its parts run, and the access paths of the setup
space (R553, R572 to R586, R596, R626 to R629). -/

namespace Sys2Proof.Machine

/-! ## Phases -/

/-- The fuse load has completed and the device is out of reset (R576, R582). -/
def State.loadedUp (s : State) : Bool :=
  match s.rst.phase with
  | .sram | .firmware | .running | .noFirmware => true
  | _ => false

/-- The ports, pipelines and rings run: past SRAM initialisation, not halted and not in Rest (R553, R582, R596). -/
def State.portsUp (s : State) : Bool :=
  (match s.rst.phase with
   | .firmware | .running | .noFirmware => true
   | _ => false) && !s.on FAULT_STATUS_HALTED && s.rd PWR_STATUS_STATE != pwREST

/-- Firmware runs, and with it the cores and Herd (R582, R584). -/
def State.coresUp (s : State) : Bool := s.portsUp && s.rst.phase == .running

/-- An effect that needs the load to have completed. -/
def State.whenLoaded (s : State) (f : State → State) : State := if s.loadedUp && !s.on FAULT_STATUS_HALTED then f s else s

/-- An effect of cell time, the tick or the collector, which a halted device keeps running (R553). -/
def State.whenClock (s : State) (f : State → State) : State := if s.loadedUp then f s else s

/-- An effect of the lanes, which Rest turns off (R596). -/
def State.whenLinks (s : State) (f : State → State) : State :=
  if s.loadedUp && !s.on FAULT_STATUS_HALTED && s.rd PWR_STATUS_STATE != pwREST then f s else s

/-- An effect of the ports, pipelines or rings. -/
def State.whenUp (s : State) (f : State → State) : State := if s.portsUp then f s else s

/-- An effect of Herd or of a core. -/
def State.whenRunning (s : State) (f : State → State) : State := if s.coresUp then f s else s

/-! ## SMBus and JTAG (R628, R629) -/

/-- Whether SMBus and JTAG may not reach the block of an offset in the present phase (R578, R629). -/
def State.busyAt (s : State) (off : Nat) : Bool :=
  let b := off / 0x10000
  match s.rst.phase with
  | .held | .released => !(b == 0 || b == 1 || b == 2 || b == 3 || b == 5)
  | .safeHold => !(b == 2 || b == 5)
  | _ => false

/-- SMBUS_PROTOCOL: the transaction is refused and performs nothing (R566). -/
def State.smbBad (s : State) : State := s.raise 81

/-- Every addressed transaction wakes the device from Rest when that source is enabled (R597). -/
def State.smbWake (s : State) : State := s.restWake 3

/-- The result code of an access: 0 OK, 1 INVALID_ADDRESS, 2 BUSY. -/
def State.smbResult (s : State) (off : Nat) : Nat := if s.busyAt off then 2 else if s.defined 2 off then 0 else 1

/-- SMBUS_REG_WRITE. -/
def State.smbWrite (s0 : State) (off v : Nat) (bad : Bool) : State :=
  let s := s0.smbWake
  if bad then s.smbBad
  else
    let r := s.smbResult off
    let s1 := if r = 0 then s.setupWr 2 off v else s
    ({ s1 with bus := { s1.bus with result := r } }).emit (.smbus r [])

/-- SMBUS_REG_READ. -/
def State.smbRead (s0 : State) (off : Nat) (bad : Bool) : State :=
  let s := s0.smbWake
  if bad then s.smbBad
  else
    let r := s.smbResult off
    match (if r = 0 then s.setupRd 2 off else (none, s)) with
    | (some x, t) => t.emit (.smbus 0 (leBytes 4 x))
    | (none, t) => t.emit (.smbus r (leBytes 4 0))

/-- Byte 0 of STATUS. -/
def State.statusByte (s : State) : Nat :=
  let safe := s.rst.phase == .safeHold
  s.rd RST_STATUS_STAGE % 8 + 8 * b2n s.faultPinLow + 16 * b2n (s.on FAULT_STATUS_HALTED) + 32 * b2n safe
    + 64 * b2n (safe || s.rst.phase == .held || s.rst.phase == .released)

/-- SMBUS_STATUS. -/
def State.smbStatus (s0 : State) (bad : Bool) : State :=
  let s := s0.smbWake
  if bad then s.smbBad else s.emit (.smbus 0 [s.statusByte, s.bus.result])

/-- SMBUS_RESET. -/
def State.smbReset (s0 : State) (arg : Nat) (bad : Bool) : State :=
  let s := s0.smbWake
  if bad then s.smbBad else s.smbusReset arg

/-! ## The other paths (R9, R10, R626) -/

/-- Whether an access on path `path` reaches the setup space now. Path 0 is the anchor PF's BAR0, 1 ADMIN packets, 2
SMBus, 3 JTAG, 4 + c core `c`, 16 + n the PF of upstream port number `n`. SMBus and JTAG are held back by R629 (log entry
65); a host's BAR0 and ADMIN packets need running ports, a core's access a running core. -/
def State.pathOpen (s : State) (path off : Nat) : Bool :=
  if path = 2 then s.smbResult off == 0
  else if path = 3 then !s.busyAt off
  else if path = 1 then s.portsUp && s.on HERD_CTRL_REMOTE_ADMIN
  else if 4 ≤ path ∧ path < 12 then s.coresUp && s.coreState (path - 4) == 1
  else s.portsUp && (path == 0 || (decide (16 ≤ path) && decide (path < 48)))

/-- REGISTER_WRITE: a path of the setup space, or 0x1000 + f for the register page of function `f`. -/
def State.registerWrite (s : State) (path off v : Nat) : State :=
  if 0x1000 ≤ path then (if s.portsUp then s.pageWr (path - 0x1000) off v else s)
  else if s.pathOpen path off then s.setupWr path off v else s

/-- Whether an offset is the low word of a 64-bit pair. -/
def lowWordAt (off : Nat) : Bool :=
  match regAt off with
  | some (d, _, _) => d.pair == .low
  | none => false

/-- Whether an offset is the high word of a 64-bit pair. -/
def highWordAt (off : Nat) : Bool :=
  match regAt off with
  | some (d, _, _) => d.pair == .high
  | none => false

/-- LOW_WORD_READ. -/
def State.lowWordRead (s : State) (path off : Nat) : State :=
  if lowWordAt off && s.pathOpen path off then s.setup path off none else s

/-- HIGH_WORD_WRITE. -/
def State.highWordWrite (s : State) (path off v : Nat) : State :=
  if highWordAt off && s.pathOpen path off then s.setupWr path off v else s

/-- A register written as a path writes it, when the path is open. -/
def State.regCmd (s : State) (path off v : Nat) : State := if s.pathOpen path off then s.setupWr path off v else s

/-- Both words of a 64-bit pair written by a path (R9). -/
def State.pairCmd (s : State) (path : Nat) (d e : RegDesc) (v : Nat) : State :=
  if s.pathOpen path e.off then s.pairWrite d e 0 0 (v % 2 ^ 32) (v / 2 ^ 32 % 2 ^ 32) else s

/-- The offset of an element of a register array. -/
def RegDesc.addr (d : RegDesc) (i : Nat) (j : Nat := 0) : Nat := d.off + i * d.s1 + j * d.s2

/-- The table window's command register (R630): 1 READ, 2 WRITE. -/
def tblCmdOff : Nat := 0x408

/-! ## Commands that join several steps -/

/-- A fabric packet of one kind arrives at port `p`: the decision order and the delivery. -/
def State.packetRow (s : State) (kind : Bool) (p : Nat) (h : FabHdr) (data : List Nat) : State :=
  if kind then s.arrivePkt p h data else s

/-- The kind of message packet that a header and its data spell (R380). -/
def msgKind (c : Nat) (h : FabHdr) (data : List Nat) : Bool := h.type == tMESSAGE && !h.drain && msgCodeOf data == c

/-- HEADROOM_RESERVE, after which the pipeline accepts the flits that waited (R111, R324). -/
def State.headroomRow (s : State) (id : Nat) : State :=
  match s.pkt id with
  | some k => if k.fab then (s.headroomReserve id).acceptWaiting (k.ing / 4) else s.headroomReserve id
  | none => s

/-- PACKET_COMMIT, after which the pipeline accepts the flits that waited (R97, R324). -/
def State.commitRow (s : State) (id : Nat) (ok ecrcOk : Bool) (data : List Nat) : State :=
  match s.pkt id with
  | some k => if k.fab then (s.packetCommit id ok ecrcOk data).acceptWaiting (k.ing / 4) else s.packetCommit id ok ecrcOk data
  | none => s

/-- A doorbell's stored words are read first (R526), and a gated ring engine wakes (R594). -/
def State.doorbellWake (s : State) (f l : Nat) : State :=
  let s1 := s.quietExit
  match s1.doorbellQp f l with
  | some q => s1.eccQp q
  | none => s1

/-- PTM_REQUEST: a downstream port whose virtual port has PTM enabled answers with whole nanoseconds of cell time in a PTM
ResponseD message (R57, R361; log entry 25). -/
def State.ptmRequest (s : State) (p : Nat) : State :=
  if s.isDown p && s.on PORT_STATUS_LINK_UP p && s.portVc p vfPtmEn == 1 then s.emit (.message p 0x53 (leBytes 8 s.ns)) else s

/-- Whether wake source `n` with what it names wakes this device (R597): a channel of a slot for presence and buttons, an
input pin selected in PWR_WAKE_CUE for a cue. -/
def State.wakes (s : State) (n arg : Nat) : Bool :=
  if n < 2 then (match s.chanPort arg with
    | some p => s.portEn p
    | none => false)
  else if n = 2 then (s.pin arg).mode == 0 && bit (s.rd64 PWR_WAKE_CUE_LO_VALUE PWR_WAKE_CUE_HI_VALUE) arg
  else true

/-- REST_WAKE by source `n`. -/
def State.wakeBy (s : State) (n arg : Nat) : State := if s.wakes n arg then s.restWake n else s

end Sys2Proof.Machine
end

