-- ==== Sys2Proof/Machine/ExecAccess.lean ====
section
/-! DEFINITION. The meanings of the commands of the setup space: each the effect the rule names, after which the
collector has taken every event raised. -/

namespace Sys2Proof.Machine

/-- REGISTER_WRITE (R5). -/
def execRegisterWrite (t path off v : Nat) (s : State) : Host.Outcome State Fault Refusal :=
  done ((s.advance t).registerWrite path off v)

/-- LOW_WORD_READ (R9). -/
def execLowWordRead (t path off : Nat) (s : State) : Host.Outcome State Fault Refusal :=
  done ((s.advance t).lowWordRead path off)

/-- HIGH_WORD_WRITE (R9). -/
def execHighWordWrite (t path off v : Nat) (s : State) : Host.Outcome State Fault Refusal :=
  done ((s.advance t).highWordWrite path off v)

/-- SMBUS_RESET (R569). -/
def execSmbusReset (t arg : Nat) (bad : Bool) (s : State) : Host.Outcome State Fault Refusal :=
  done ((s.advance t).smbReset arg bad)

/-- SMBUS_REG_WRITE (R628). -/
def execSmbusRegWrite (t off v : Nat) (bad : Bool) (s : State) : Host.Outcome State Fault Refusal :=
  done ((s.advance t).smbWrite off v bad)

/-- SMBUS_REG_READ (R628). -/
def execSmbusRegRead (t off : Nat) (bad : Bool) (s : State) : Host.Outcome State Fault Refusal :=
  done ((s.advance t).smbRead off bad)

/-- SMBUS_STATUS (R628). -/
def execSmbusStatus (t : Nat) (bad : Bool) (s : State) : Host.Outcome State Fault Refusal :=
  done ((s.advance t).smbStatus bad)

/-- TBL_READ (R631). -/
def execTblRead (t path : Nat) (s : State) : Host.Outcome State Fault Refusal :=
  done ((s.advance t).regCmd path tblCmdOff 1)

/-- TBL_WRITE (R631). -/
def execTblWrite (t path : Nat) (s : State) : Host.Outcome State Fault Refusal :=
  done ((s.advance t).regCmd path tblCmdOff 2)

/-- DEBUG_WINDOW_WRITE (R634). -/
def execDebugWindowWrite (t path off v : Nat) (s : State) : Host.Outcome State Fault Refusal :=
  done (if 0x800000 ≤ off then (s.advance t).regCmd path off v else s.advance t)

end Sys2Proof.Machine
end

