-- ==== Sys2Proof/Machine/ExecBridge.lean ====
section
/-! DEFINITION. The meanings of the commands of bridging: each the effect the rule names, after which the
collector has taken every event raised. -/

namespace Sys2Proof.Machine

/-- BRIDGE_NP_TIMEOUT (R384). -/
def execBridgeNpTimeout (t tag : Nat) (s : State) : Host.Outcome State Fault Refusal :=
  done ((s.advance t).whenUp (fun s => s.bridgeTimeout tag))

/-- PREFETCH_FILL (R395). -/
def execPrefetchFill (t tag status : Nat) (poison : Bool) (data : List Nat) (s : State) : Host.Outcome State Fault Refusal :=
  done ((s.advance t).whenUp (fun s => s.prefetchFill tag status poison data))

/-- PREFETCH_LINE_EXPIRE (R394). -/
def execPrefetchLineExpire (t : Nat) (s : State) : Host.Outcome State Fault Refusal :=
  done ((s.advance t).whenUp (fun s => s.expireLines))

/-- CUE_SCHED (R403). -/
def execCueSched (t path v : Nat) (s : State) : Host.Outcome State Fault Refusal :=
  done ((s.advance t).regCmd path CUE_SCHED_CMD.off v)

/-- MIRROR_SEND (R406). -/
def execMirrorSend (t : Nat) (s : State) : Host.Outcome State Fault Refusal :=
  done ((s.advance t).whenUp (fun s => s.mirrorSend))

/-- MIRROR_STALE (R407). -/
def execMirrorStale (t w : Nat) (s : State) : Host.Outcome State Fault Refusal :=
  done ((s.advance t).whenUp (fun s => s.mirrorStale w))

/-- WINDOW_SET (R409). -/
def execWindowSet (t q idx : Nat) (s : State) : Host.Outcome State Fault Refusal :=
  done ((s.advance t).whenUp (fun s => s.onOp q idx (Desc.isOp 0x16 1) (fun s => s.windowSet q idx)))

/-- WINDOW_CLEAR (R409). -/
def execWindowClear (t q idx : Nat) (s : State) : Host.Outcome State Fault Refusal :=
  done ((s.advance t).whenUp (fun s => s.onOp q idx (Desc.isOp 0x16 2) (fun s => s.windowClear q idx)))

/-- WINDOW_READ (R409). -/
def execWindowRead (t q idx : Nat) (s : State) : Host.Outcome State Fault Refusal :=
  done ((s.advance t).whenUp (fun s => s.onOp q idx (Desc.isOp 0x16 3) (fun s => s.windowRead q idx)))

/-- MIRROR_BIND (R410). -/
def execMirrorBind (t q idx : Nat) (s : State) : Host.Outcome State Fault Refusal :=
  done ((s.advance t).whenUp (fun s => s.onOp q idx (Desc.isOp 0x06 1) (fun s => s.mirrorBind q idx)))

/-- MIRROR_UNBIND (R410). -/
def execMirrorUnbind (t q idx : Nat) (s : State) : Host.Outcome State Fault Refusal :=
  done ((s.advance t).whenUp (fun s => s.onOp q idx (Desc.isOp 0x06 2) (fun s => s.mirrorUnbind q idx)))

/-- MIRROR_SAMPLE_SET (R411). -/
def execMirrorSampleSet (t q idx : Nat) (s : State) : Host.Outcome State Fault Refusal :=
  done ((s.advance t).whenUp (fun s => s.onOp q idx (fun d => d.opcode == 0x1F) (fun s => s.mirrorSampleSet q idx)))

/-- ISSUED_REQUEST_TIMEOUT (R383). -/
def execIssuedRequestTimeout (t n : Nat) (s : State) : Host.Outcome State Fault Refusal :=
  done ((s.advance t).whenUp (fun s => s.issuedTimeout n))

end Sys2Proof.Machine
end

