-- ==== Sys2Proof/Machine/ExecBuffer.lean ====
section
/-! DEFINITION. The meanings of the commands of the buffers and the overflow memory: each the effect the rule names, after which the
collector has taken every event raised. -/

namespace Sys2Proof.Machine

/-- SPILL_WRITE_DONE (R119). -/
def execSpillWriteDone (t q : Nat) (s : State) : Host.Outcome State Fault Refusal :=
  done ((s.advance t).whenUp (fun s => s.spillWriteDone q))

/-- REFILL_START (R121). -/
def execRefillStart (t q : Nat) (s : State) : Host.Outcome State Fault Refusal :=
  done ((s.advance t).whenUp (fun s => s.refillStart q))

/-- REFILL_COMPLETE (R121). -/
def execRefillComplete (t q ch result : Nat) (s : State) : Host.Outcome State Fault Refusal :=
  done ((s.advance t).whenUp (fun s => s.refillComplete q ch (refillResult result)))

/-- MR4_POLL (R135). -/
def execMr4Poll (t hot : Nat) (s : State) : Host.Outcome State Fault Refusal :=
  done ((s.advance t).whenUp (fun s => s.mr4Poll hot))

/-- DRAM_SELF_REFRESH (R136). -/
def execDramSelfRefresh (t : Nat) (s : State) : Host.Outcome State Fault Refusal :=
  done ((s.advance t).whenUp (fun s => s.dramSelfRefresh))

/-- DRAM_TRAINING_DONE (R132). -/
def execDramTrainingDone (t fail : Nat) (s : State) : Host.Outcome State Fault Refusal :=
  done ((s.advance t).whenUp (fun s => s.dramTrainingDone fail))

/-- DRAM_INIT (R133). -/
def execDramInit (t path v : Nat) (s : State) : Host.Outcome State Fault Refusal :=
  done ((s.advance t).regCmd path DRAM_CTRL.off v)

/-- DRAM_CFG_WRITE (R133). -/
def execDramCfgWrite (t path v : Nat) (s : State) : Host.Outcome State Fault Refusal :=
  done ((s.advance t).regCmd path DRAM_CFG.off v)

end Sys2Proof.Machine
end

