-- ==== Sys2Proof/Machine/ExecChamois.lean ====
section
/-! DEFINITION. The meanings of the commands of the Chamois complex: each the effect the rule names, after which the
collector has taken every event raised. -/

namespace Sys2Proof.Machine

/-- CORE_MEMORY_ACCESS (R505). -/
def execCoreMemoryAccess (t c : Nat) (x : CoreAcc) (s : State) : Host.Outcome State Fault Refusal :=
  done ((s.advance t).whenRunning (fun s => s.coreAccess coreSetup c x))

/-- CORE_FABRIC_LOAD (R485). -/
def execCoreFabricLoad (t c : Nat) (x : CoreAcc) (s : State) : Host.Outcome State Fault Refusal :=
  done ((s.advance t).whenRunning (fun s => if x.kind = 0 then s.coreFabAccess coreSetup c x else s))

/-- CORE_LOAD_TIMEOUT (R485). -/
def execCoreLoadTimeout (t c : Nat) (s : State) : Host.Outcome State Fault Refusal :=
  done ((s.advance t).whenRunning (fun s => s.coreLoadTimeout c))

/-- CORE_FABRIC_STORE (R484). -/
def execCoreFabricStore (t c : Nat) (x : CoreAcc) (s : State) : Host.Outcome State Fault Refusal :=
  done ((s.advance t).whenRunning (fun s => if x.kind = 1 then s.coreFabAccess coreSetup c x else s))

/-- STORE_ACK_TIMEOUT (R501). -/
def execStoreAckTimeout (t c tag : Nat) (s : State) : Host.Outcome State Fault Refusal :=
  done ((s.advance t).whenRunning (fun s => s.storeAckTimeout c tag))

/-- FENCE_CORE (R498). -/
def execFenceCore (t c : Nat) (s : State) : Host.Outcome State Fault Refusal :=
  done ((s.advance t).whenRunning (fun s => s.fenceLocal c))

/-- FENCE_CLUSTER (R498). -/
def execFenceCluster (t c : Nat) (s : State) : Host.Outcome State Fault Refusal :=
  done ((s.advance t).whenRunning (fun s => s.fenceLocal c))

/-- FENCE_SYS (R501). -/
def execFenceSys (t c : Nat) (s : State) : Host.Outcome State Fault Refusal :=
  done ((s.advance t).whenRunning (fun s => s.fenceSys c))

/-- APPLET_LOAD (R488). -/
def execAppletLoad (t q idx : Nat) (s : State) : Host.Outcome State Fault Refusal :=
  done ((s.advance t).whenUp (fun s => s.onOp q idx (Desc.isOp 0x1C 1) (fun s => s.appletLoad q idx)))

/-- APPLET_START (R488). -/
def execAppletStart (t q idx : Nat) (s : State) : Host.Outcome State Fault Refusal :=
  done ((s.advance t).whenUp (fun s => s.onOp q idx (Desc.isOp 0x1C 2) (fun s => s.appletStart q idx)))

/-- APPLET_STOP (R488). -/
def execAppletStop (t q idx : Nat) (s : State) : Host.Outcome State Fault Refusal :=
  done ((s.advance t).whenUp (fun s => s.onOp q idx (Desc.isOp 0x1C 3) (fun s => s.appletStop q idx)))

/-- APPLET_UNLOAD (R488). -/
def execAppletUnload (t q idx : Nat) (s : State) : Host.Outcome State Fault Refusal :=
  done ((s.advance t).whenUp (fun s => s.onOp q idx (Desc.isOp 0x1C 4) (fun s => s.appletUnload q idx)))

/-- APPLET_READ (R488). -/
def execAppletRead (t q idx : Nat) (s : State) : Host.Outcome State Fault Refusal :=
  done ((s.advance t).whenUp (fun s => s.onOp q idx (Desc.isOp 0x1C 5) (fun s => s.appletRead q idx)))

/-- APPLET_HOOK_RETURN (R489). -/
def execAppletHookReturn (t k : Nat) (s : State) : Host.Outcome State Fault Refusal :=
  done ((s.advance t).whenRunning (fun s => s.appletHookReturn coreSetup k))

/-- WATCHDOG_KICK (R491). -/
def execWatchdogKick (t path c v : Nat) (s : State) : Host.Outcome State Fault Refusal :=
  done ((s.advance t).regCmd path (CORE_WDT.addr c) v)

/-- WATCHDOG_TRIP (R491). -/
def execWatchdogTrip (t c : Nat) (s : State) : Host.Outcome State Fault Refusal :=
  done ((s.advance t).whenRunning (fun s => s.wdtTrip c))

/-- FREEZE_RELEASE_CORE (R512). -/
def execFreezeReleaseCore (t q idx : Nat) (s : State) : Host.Outcome State Fault Refusal :=
  done ((s.advance t).whenUp (fun s => s.onOp q idx (Desc.isOp 0x1D 1) (fun s => s.freezeRelease q idx)))

/-- FREEZE_RELEASE_QP (R512). -/
def execFreezeReleaseQp (t q idx : Nat) (s : State) : Host.Outcome State Fault Refusal :=
  done ((s.advance t).whenUp (fun s => s.onOp q idx (Desc.isOp 0x1D 2) (fun s => s.freezeRelease q idx)))

/-- FREEZE_RELEASE_STREAM (R512). -/
def execFreezeReleaseStream (t q idx : Nat) (s : State) : Host.Outcome State Fault Refusal :=
  done ((s.advance t).whenUp (fun s => s.onOp q idx (Desc.isOp 0x1D 3) (fun s => s.freezeRelease q idx)))

/-- FREEZE_RELEASE_REG_CORE (R512). -/
def execFreezeReleaseRegCore (t path v : Nat) (s : State) : Host.Outcome State Fault Refusal :=
  done (if bits v 25 24 = 1 then (s.advance t).regCmd path FREEZE_RELEASE.off v else s.advance t)

/-- FREEZE_RELEASE_REG_QP (R512). -/
def execFreezeReleaseRegQp (t path v : Nat) (s : State) : Host.Outcome State Fault Refusal :=
  done (if bits v 25 24 = 2 then (s.advance t).regCmd path FREEZE_RELEASE.off v else s.advance t)

/-- FREEZE_RELEASE_REG_STREAM (R512). -/
def execFreezeReleaseRegStream (t path v : Nat) (s : State) : Host.Outcome State Fault Refusal :=
  done (if bits v 25 24 = 3 then (s.advance t).regCmd path FREEZE_RELEASE.off v else s.advance t)

/-- MPU_UPDATE_HOLD (R508). -/
def execMpuUpdateHold (t path u v : Nat) (s : State) : Host.Outcome State Fault Refusal :=
  done (if u < 8 then (if bit v 0 = false then (s.advance t).regCmd path (CORE_MPU_CTRL.addr u) v else s.advance t)
    else if bit v 31 = false then (s.advance t).regCmd path MOVER_MPU_HOLD.off v else s.advance t)

/-- MPU_HOLD_RELEASE (R508). -/
def execMpuHoldRelease (t path u v : Nat) (s : State) : Host.Outcome State Fault Refusal :=
  done (if u < 8 then (if bit v 0 = true then (s.advance t).regCmd path (CORE_MPU_CTRL.addr u) v else s.advance t)
    else if bit v 31 = true then (s.advance t).regCmd path MOVER_MPU_HOLD.off v else s.advance t)

/-- CORE_RUN (R591). -/
def execCoreRun (t path v : Nat) (s : State) : Host.Outcome State Fault Refusal :=
  done ((s.advance t).regCmd path CH_CTRL.off v)

/-- CORE_COUNTER_OVERFLOW (R515). -/
def execCoreCounterOverflow (t c i : Nat) (s : State) : Host.Outcome State Fault Refusal :=
  done ((s.advance t).whenRunning (fun s => s.counterOverflow c i))

end Sys2Proof.Machine
end

