-- ==== Sys2Proof/Machine/ExecEcc.lean ====
section
/-! DEFINITION. The meanings of the commands of stored-data protection: each the effect the rule names, after which the
collector has taken every event raised. -/

namespace Sys2Proof.Machine

/-- SCRUB_READ (R529). -/
def execScrubRead (t : Nat) (s : State) : Host.Outcome State Fault Refusal :=
  done ((s.advance t).whenUp (fun s => s.scrubRead))

/-- MERGE_DRAIN (R528). -/
def execMergeDrain (t w : Nat) (s : State) : Host.Outcome State Fault Refusal :=
  done ((s.advance t).whenUp (fun s => s.mergeDrain w))

/-- ECC_WRITE_RAW (R534). -/
def execEccWriteRaw (t path v : Nat) (s : State) : Host.Outcome State Fault Refusal :=
  done (if v % 4 = 1 then (s.advance t).regCmd path ECC_TEST_CTRL.off v else s.advance t)

/-- ECC_READ_RAW (R534). -/
def execEccReadRaw (t path v : Nat) (s : State) : Host.Outcome State Fault Refusal :=
  done (if v % 4 = 2 then (s.advance t).regCmd path ECC_TEST_CTRL.off v else s.advance t)

/-- ECC_TEST_READ (R534). -/
def execEccTestRead (t path v : Nat) (s : State) : Host.Outcome State Fault Refusal :=
  done (if v % 4 = 3 then (s.advance t).regCmd path ECC_TEST_CTRL.off v else s.advance t)

end Sys2Proof.Machine
end

