-- ==== Sys2Proof/Machine/ExecFabric.lean ====
section
/-! DEFINITION. The meanings of the commands of fabric packets to this device: each the effect the rule names, after which the
collector has taken every event raised. -/

namespace Sys2Proof.Machine

/-- CUE_PACKET (R203). -/
def execCuePacket (t p : Nat) (h : FabHdr) (data : List Nat) (s : State) : Host.Outcome State Fault Refusal :=
  done ((s.advance t).whenUp (fun s => s.packetRow (h.type == tCUE) p h data))

/-- DRAIN_MARKER (R260). -/
def execDrainMarker (t p : Nat) (h : FabHdr) (data : List Nat) (s : State) : Host.Outcome State Fault Refusal :=
  done ((s.advance t).whenUp (fun s => s.packetRow (h.type == tMESSAGE && h.drain) p h data))

/-- MOVE_COMPLETE (R259). -/
def execMoveComplete (t p : Nat) (h : FabHdr) (data : List Nat) (s : State) : Host.Outcome State Fault Refusal :=
  done ((s.advance t).whenUp (fun s => s.packetRow (h.type == tCOMPLETION && decide (0xFFC0 ≤ h.tag)) p h data))

/-- LOSS_NOTICE (R263). -/
def execLossNotice (t p : Nat) (h : FabHdr) (data : List Nat) (s : State) : Host.Outcome State Fault Refusal :=
  done ((s.advance t).whenUp (fun s => s.packetRow (h.type == tCOMPLETION && bits h.ts 7 0 == stREMOTE_UNREACHABLE) p h data))

/-- ADMIN_PACKET (R240). -/
def execAdminPacket (t p : Nat) (h : FabHdr) (data : List Nat) (s : State) : Host.Outcome State Fault Refusal :=
  done ((s.advance t).whenUp (fun s => s.packetRow (h.type == tADMIN) p h data))

/-- FABRIC_WRITE (R374). -/
def execFabricWrite (t p : Nat) (h : FabHdr) (data : List Nat) (s : State) : Host.Outcome State Fault Refusal :=
  done ((s.advance t).whenUp (fun s => s.packetRow (h.type == tWRITE) p h data))

/-- FABRIC_READ (R374). -/
def execFabricRead (t p : Nat) (h : FabHdr) (data : List Nat) (s : State) : Host.Outcome State Fault Refusal :=
  done ((s.advance t).whenUp (fun s => s.packetRow (h.type == tREAD) p h data))

/-- COMPLETION (R238). -/
def execCompletion (t p : Nat) (h : FabHdr) (data : List Nat) (s : State) : Host.Outcome State Fault Refusal :=
  done ((s.advance t).whenUp (fun s => s.packetRow (h.type == tCOMPLETION) p h data))

/-- MASKED_WRITE (R380). -/
def execMaskedWrite (t p : Nat) (h : FabHdr) (data : List Nat) (s : State) : Host.Outcome State Fault Refusal :=
  done ((s.advance t).whenUp (fun s => s.packetRow (msgKind 1 h data) p h data))

/-- MASKED_READ (R380). -/
def execMaskedRead (t p : Nat) (h : FabHdr) (data : List Nat) (s : State) : Host.Outcome State Fault Refusal :=
  done ((s.advance t).whenUp (fun s => s.packetRow (msgKind 2 h data) p h data))

/-- PORT_WATCH (R381). -/
def execPortWatch (t p : Nat) (h : FabHdr) (data : List Nat) (s : State) : Host.Outcome State Fault Refusal :=
  done ((s.advance t).whenUp (fun s => s.packetRow (msgKind 0x10 h data) p h data))

/-- PORT_STATE (R381). -/
def execPortState (t p : Nat) (h : FabHdr) (data : List Nat) (s : State) : Host.Outcome State Fault Refusal :=
  done ((s.advance t).whenUp (fun s => s.packetRow (msgKind 0x11 h data) p h data))

/-- DPC_RELEASE_MESSAGE (R381). -/
def execDpcReleaseMessage (t p : Nat) (h : FabHdr) (data : List Nat) (s : State) : Host.Outcome State Fault Refusal :=
  done ((s.advance t).whenUp (fun s => s.packetRow (msgKind 0x12 h data) p h data))

/-- PCIE_MSG (R381). -/
def execPcieMsg (t p : Nat) (h : FabHdr) (data : List Nat) (s : State) : Host.Outcome State Fault Refusal :=
  done ((s.advance t).whenUp (fun s => s.packetRow (msgKind 0x13 h data) p h data))

/-- INTERRUPT_PACKET (R400). -/
def execInterruptPacket (t p : Nat) (h : FabHdr) (data : List Nat) (s : State) : Host.Outcome State Fault Refusal :=
  done ((s.advance t).whenUp (fun s => s.packetRow (h.type == tINTERRUPT) p h data))

/-- MIRROR_PACKET (R407). -/
def execMirrorPacket (t p : Nat) (h : FabHdr) (data : List Nat) (s : State) : Host.Outcome State Fault Refusal :=
  done ((s.advance t).whenUp (fun s => s.packetRow (h.type == tMIRROR) p h data))

/-- MW_BIND (R408). -/
def execMwBind (t p : Nat) (h : FabHdr) (data : List Nat) (s : State) : Host.Outcome State Fault Refusal :=
  done ((s.advance t).whenUp (fun s => s.packetRow (msgKind 0x20 h data) p h data))

/-- MW_UNBIND (R380). -/
def execMwUnbind (t p : Nat) (h : FabHdr) (data : List Nat) (s : State) : Host.Outcome State Fault Refusal :=
  done ((s.advance t).whenUp (fun s => s.packetRow (msgKind 0x21 h data) p h data))

/-- MW_PERIOD (R408). -/
def execMwPeriod (t p : Nat) (h : FabHdr) (data : List Nat) (s : State) : Host.Outcome State Fault Refusal :=
  done ((s.advance t).whenUp (fun s => s.packetRow (msgKind 0x22 h data) p h data))

end Sys2Proof.Machine
end

