-- ==== Sys2Proof/Machine/ExecFault.lean ====
section
/-! DEFINITION. The meanings of the commands of faults and containment: each the effect the rule names, after which the
collector has taken every event raised. -/

namespace Sys2Proof.Machine

/-- FAULT_EVENT (R539). -/
def execFaultEvent (t src : Nat) (subj : Subj) (s : State) : Host.Outcome State Fault Refusal :=
  done ((s.advance t).raise src subj)

/-- FAULT_FORCE (R539). -/
def execFaultForce (t path n v : Nat) (s : State) : Host.Outcome State Fault Refusal :=
  done ((s.advance t).regCmd path (FAULT_SRC_CFG.addr n) v)

/-- CLASSIFIER_WINDOW_CLOSE (R543). -/
def execClassifierWindowClose (t n : Nat) (s : State) : Host.Outcome State Fault Refusal :=
  done ((s.advance t).whenClock (fun s => s.windowClose n))

/-- FSW_ACKNOWLEDGE (R540). -/
def execFswAcknowledge (t path i v : Nat) (s : State) : Host.Outcome State Fault Refusal :=
  done ((s.advance t).regCmd path (FAULT_FSW.addr i) v)

/-- FAULT_NOTICE (R562). -/
def execFaultNotice (t k subject src flags reporters tick first : Nat) (s : State) : Host.Outcome State Fault Refusal :=
  done ((s.advance t).whenUp (fun s => s.faultNotice k subject src flags reporters tick first))

/-- CONTAIN_RELEASE_PORT (R551). -/
def execContainReleasePort (t path v : Nat) (s : State) : Host.Outcome State Fault Refusal :=
  done (if bit v 24 = false then (s.advance t).regCmd path FAULT_CONTAIN_RELEASE.off v else s.advance t)

/-- CONTAIN_RELEASE_DOMAIN (R551). -/
def execContainReleaseDomain (t path v : Nat) (s : State) : Host.Outcome State Fault Refusal :=
  done (if bit v 24 = true then (s.advance t).regCmd path FAULT_CONTAIN_RELEASE.off v else s.advance t)

end Sys2Proof.Machine
end

