-- ==== Sys2Proof/Machine/ExecGate.lean ====
section
/-! DEFINITION. The meanings of the commands of time gates and timed transfers: each the effect the rule names, after which the
collector has taken every event raised. -/

namespace Sys2Proof.Machine

/-- GATE_ENTRY_START (R174). -/
def execGateEntryStart (t p : Nat) (s : State) : Host.Outcome State Fault Refusal :=
  done ((s.advance t).whenUp (fun s => s.eccGate p))

/-- GATE_LIST_LOAD (R206). -/
def execGateListLoad (t q idx : Nat) (s : State) : Host.Outcome State Fault Refusal :=
  done ((s.advance t).whenUp (fun s => s.onOp q idx (fun d => d.opcode == 0x14 && !bit (byteAt d.img 41) 0) (fun s => s.gateListLoad q idx)))

/-- GATE_LIST_READ (R205). -/
def execGateListRead (t q idx : Nat) (s : State) : Host.Outcome State Fault Refusal :=
  done ((s.advance t).whenUp (fun s => s.onOp q idx (fun d => d.opcode == 0x14 && bit (byteAt d.img 41) 0) (fun s => s.gateListRead q idx)))

/-- GATE_LIST_FETCH_DONE (R206). -/
def execGateListFetchDone (t q idx status : Nat) (poison : Bool) (data : List Nat) (s : State) : Host.Outcome State Fault Refusal :=
  done ((s.advance t).whenUp (fun s => s.gateListFetchDone q idx status poison data))

/-- GATE_SWAP (R177). -/
def execGateSwap (t q idx : Nat) (s : State) : Host.Outcome State Fault Refusal :=
  done ((s.advance t).whenUp (fun s => s.onOp q idx (fun d => d.opcode == 0x15) (fun s => s.gateSwap q idx)))

/-- SWAP_ARM (R179). -/
def execSwapArm (t p : Nat) (s : State) : Host.Outcome State Fault Refusal :=
  done ((s.advance t).whenUp (fun s => s.swapArm p))

/-- SWAP_TAKE_EFFECT (R180). -/
def execSwapTakeEffect (t p : Nat) (s : State) : Host.Outcome State Fault Refusal :=
  done ((s.advance t).whenUp (fun s => s.swapTake p))

/-- TIMED_WRITE (R194). -/
def execTimedWrite (t q idx : Nat) (s : State) : Host.Outcome State Fault Refusal :=
  done ((s.advance t).whenUp (fun s => s.onOp q idx (fun d => d.opcode == 0x04) (fun s => s.timedWrite q idx)))

/-- TIMED_CUE (R202). -/
def execTimedCue (t q idx : Nat) (s : State) : Host.Outcome State Fault Refusal :=
  done ((s.advance t).whenUp (fun s => s.onOp q idx (fun d => d.opcode == 0x05) (fun s => s.timedCue q idx)))

/-- TIMED_RELEASE (R192). -/
def execTimedRelease (t n : Nat) (s : State) : Host.Outcome State Fault Refusal :=
  done ((s.advance t).whenUp (fun s => s.timedRelease n))

/-- TIMED_FETCH_DONE (R198). -/
def execTimedFetchDone (t n status : Nat) (poison : Bool) (data : List Nat) (s : State) : Host.Outcome State Fault Refusal :=
  done ((s.advance t).whenUp (fun s => s.timedFetchDone n status poison data))

/-- TIMED_LAUNCH (R197). -/
def execTimedLaunch (t n : Nat) (s : State) : Host.Outcome State Fault Refusal :=
  done ((s.advance t).whenUp (fun s => s.timedLaunch n))

/-- TIMED_WINDOW_LAUNCH (R389). -/
def execTimedWindowLaunch (t n : Nat) (s : State) : Host.Outcome State Fault Refusal :=
  done ((s.advance t).whenUp (fun s => s.timedWindowLaunch n))

end Sys2Proof.Machine
end

