-- ==== Sys2Proof/Machine/ExecHerd.lean ====
section
/-! DEFINITION. The meanings of the commands of Herd: each the effect the rule names, after which the
collector has taken every event raised. -/

namespace Sys2Proof.Machine

/-- HELLO (R243). -/
def execHello (t k uid prio port flags depth : Nat) (s : State) : Host.Outcome State Fault Refusal :=
  done ((s.advance t).whenUp (fun s => s.helloIn k uid prio port flags depth))

/-- ADJACENCY_TIMEOUT (R243). -/
def execAdjacencyTimeout (t k : Nat) (s : State) : Host.Outcome State Fault Refusal :=
  done ((s.advance t).whenUp (fun s => s.adjTimeout k))

/-- CLAIM (R244). -/
def execClaim (t k prio uid dist flags : Nat) (s : State) : Host.Outcome State Fault Refusal :=
  done ((s.advance t).whenUp (fun s => s.claimIn k prio uid dist flags))

/-- TIME_CLAIM (R35). -/
def execTimeClaim (t k prio cls uid hops : Nat) (s : State) : Host.Outcome State Fault Refusal :=
  done ((s.advance t).whenUp (fun s => s.timeClaimIn k prio cls uid hops))

/-- ROOT_ESTABLISHED (R245). -/
def execRootEstablished (t : Nat) (s : State) : Host.Outcome State Fault Refusal :=
  done ((s.advance t).whenUp (fun s => s.rootEstablished))

/-- FABRIC_MERGE_RESET (R245). -/
def execFabricMergeReset (t : Nat) (s : State) : Host.Outcome State Fault Refusal :=
  done ((s.advance t).whenUp (fun s => s.fabricMergeReset))

/-- JOIN_SEND (R246). -/
def execJoinSend (t : Nat) (s : State) : Host.Outcome State Fault Refusal :=
  done ((s.advance t).whenUp (fun s => s.joinSend))

/-- JOIN (R246). -/
def execJoin (t k uid req dist : Nat) (s : State) : Host.Outcome State Fault Refusal :=
  done ((s.advance t).whenUp (fun s => s.joinIn k uid req dist))

/-- ASSIGN (R246). -/
def execAssign (t k uid did seq : Nat) (s : State) : Host.Outcome State Fault Refusal :=
  done ((s.advance t).whenUp (fun s => s.assignIn k uid did seq))

/-- LSU (R250). -/
def execLsu (t k origin seq nbr oport nport cost delay flags : Nat) (s : State) : Host.Outcome State Fault Refusal :=
  done ((s.advance t).whenUp (fun s => s.lsuIn k origin seq nbr oport nport cost delay flags))

/-- EPOCH_INSTALL (R252). -/
def execEpochInstall (t : Nat) (s : State) : Host.Outcome State Fault Refusal :=
  done ((s.advance t).whenUp (fun s => s.epochEdge))

/-- REBALANCE (R255). -/
def execRebalance (t path v : Nat) (s : State) : Host.Outcome State Fault Refusal :=
  done ((s.advance t).regCmd path HERD_CTRL.off v)

/-- APPLY_PENDING (R256). -/
def execApplyPending (t path v : Nat) (s : State) : Host.Outcome State Fault Refusal :=
  done ((s.advance t).regCmd path HERD_CTRL.off v)

/-- MOVE_TIMEOUT (R261). -/
def execMoveTimeout (t n : Nat) (s : State) : Host.Outcome State Fault Refusal :=
  done ((s.advance t).whenUp (fun s => s.moveTimeout n))

/-- DOMAIN_CLAIM (R265). -/
def execDomainClaim (t k uid hd port flags : Nat) (s : State) : Host.Outcome State Fault Refusal :=
  done ((s.advance t).whenUp (fun s => s.domainClaimIn k uid hd port flags))

/-- DOMAIN (R266). -/
def execDomain (t k hd did port flags claimant seq : Nat) (s : State) : Host.Outcome State Fault Refusal :=
  done ((s.advance t).whenUp (fun s => s.domainIn k hd did port flags claimant seq))

/-- BARRIER_ARRIVE (R269). -/
def execBarrierArrive (t path v : Nat) (s : State) : Host.Outcome State Fault Refusal :=
  done (if v % 8 = 1 then (s.advance t).regCmd path HERD_GLOBAL_CMD.off v else s.advance t)

/-- BROADCAST (R270). -/
def execBroadcast (t path v : Nat) (s : State) : Host.Outcome State Fault Refusal :=
  done (if v % 8 = 2 then (s.advance t).regCmd path HERD_GLOBAL_CMD.off v else s.advance t)

/-- FABRIC_RESET_HERD (R272). -/
def execFabricResetHerd (t path v : Nat) (s : State) : Host.Outcome State Fault Refusal :=
  done (if v % 8 = 3 then (s.advance t).regCmd path HERD_GLOBAL_CMD.off v else s.advance t)

/-- FABRIC_RESET_DEVICE (R272). -/
def execFabricResetDevice (t path v : Nat) (s : State) : Host.Outcome State Fault Refusal :=
  done (if v % 8 = 4 then (s.advance t).regCmd path HERD_GLOBAL_CMD.off v else s.advance t)

/-- GLOBAL_UP (R267). -/
def execGlobalUp (t k op id count status value : Nat) (s : State) : Host.Outcome State Fault Refusal :=
  done ((s.advance t).whenUp (fun s => s.globalUpIn k op id count status value))

/-- GLOBAL (R267). -/
def execGlobal (t k op arg value tick : Nat) (s : State) : Host.Outcome State Fault Refusal :=
  done ((s.advance t).whenUp (fun s => s.globalIn k op arg value tick))

/-- GLOBAL_ACTION (R267). -/
def execGlobalAction (t : Nat) (s : State) : Host.Outcome State Fault Refusal :=
  done ((s.advance t).whenUp (fun s => s.globalEdge))

/-- ROUTE_PIN_DID (R275). -/
def execRoutePinDid (t q idx : Nat) (s : State) : Host.Outcome State Fault Refusal :=
  done ((s.advance t).whenUp (fun s => s.onOp q idx (Desc.isOp 0x17 1) (fun s => s.pinDid q idx)))

/-- ROUTE_UNPIN_DID (R275). -/
def execRouteUnpinDid (t q idx : Nat) (s : State) : Host.Outcome State Fault Refusal :=
  done ((s.advance t).whenUp (fun s => s.onOp q idx (Desc.isOp 0x17 2) (fun s => s.unpinDid q idx)))

/-- ROUTE_PIN_HOPS (R275). -/
def execRoutePinHops (t q idx : Nat) (s : State) : Host.Outcome State Fault Refusal :=
  done ((s.advance t).whenUp (fun s => s.onOp q idx (Desc.isOp 0x17 3) (fun s => s.pinHops q idx)))

/-- ROUTE_UNPIN_HOPS (R275). -/
def execRouteUnpinHops (t q idx : Nat) (s : State) : Host.Outcome State Fault Refusal :=
  done ((s.advance t).whenUp (fun s => s.onOp q idx (Desc.isOp 0x17 4) (fun s => s.unpinHops q idx)))

/-- ROUTE_READ (R275). -/
def execRouteRead (t q idx : Nat) (s : State) : Host.Outcome State Fault Refusal :=
  done ((s.advance t).whenUp (fun s => s.onOp q idx (Desc.isOp 0x17 5) (fun s => s.routeRead q idx)))

end Sys2Proof.Machine
end

