-- ==== Sys2Proof/Machine/ExecIbex.lean ====
section
/-! DEFINITION. The meanings of the commands of Ibex slot power: each the effect the rule names, after which the
collector has taken every event raised. -/

namespace Sys2Proof.Machine

/-- PRESENCE_QUALIFIED (R609). -/
def execPresenceQualified (t n : Nat) (s : State) : Host.Outcome State Fault Refusal :=
  done (((s.advance t).wakeBy 0 n).presenceQualified n)

/-- PRESENCE_LOST (R609). -/
def execPresenceLost (t n : Nat) (s : State) : Host.Outcome State Fault Refusal :=
  done (((s.advance t).wakeBy 0 n).presenceLost n)

/-- BUTTON_PRESS (R609). -/
def execButtonPress (t n : Nat) (s : State) : Host.Outcome State Fault Refusal :=
  done (((s.advance t).wakeBy 1 n).buttonPress n)

/-- INSERT_DELAY_EXPIRE (R607). -/
def execInsertDelayExpire (t n : Nat) (s : State) : Host.Outcome State Fault Refusal :=
  done ((s.advance t).insertDelay n)

/-- PRECHARGE_DONE (R607). -/
def execPrechargeDone (t n : Nat) (s : State) : Host.Outcome State Fault Refusal :=
  done ((s.advance t).prechargeDone n)

/-- OUTPUT_GOOD (R612). -/
def execOutputGood (t n : Nat) (s : State) : Host.Outcome State Fault Refusal :=
  done ((s.advance t).outputGood n)

/-- GATE_RISE_OK (R613). -/
def execGateRiseOk (t n : Nat) (s : State) : Host.Outcome State Fault Refusal :=
  done ((s.advance t).gateRiseOk n)

/-- GATE_FAIL (R613). -/
def execGateFail (t n : Nat) (s : State) : Host.Outcome State Fault Refusal :=
  done ((s.advance t).gateFail n)

/-- FAULT_TIMER_TRIP (R610). -/
def execFaultTimerTrip (t n : Nat) (s : State) : Host.Outcome State Fault Refusal :=
  done ((s.advance t).faultTimerTrip n)

/-- FAST_TRIP (R611). -/
def execFastTrip (t n : Nat) (s : State) : Host.Outcome State Fault Refusal :=
  done ((s.advance t).fastTrip n)

/-- START_TIMER_TRIP (R612). -/
def execStartTimerTrip (t n : Nat) (s : State) : Host.Outcome State Fault Refusal :=
  done ((s.advance t).startTimerTrip n)

/-- PRECHARGE_TIMEOUT (R614). -/
def execPrechargeTimeout (t n : Nat) (s : State) : Host.Outcome State Fault Refusal :=
  done ((s.advance t).prechargeTimeout n)

/-- RETRY_DELAY_EXPIRE (R607). -/
def execRetryDelayExpire (t n : Nat) (s : State) : Host.Outcome State Fault Refusal :=
  done ((s.advance t).retryDelay n)

/-- ON_TIMER_EXPIRE (R608). -/
def execOnTimerExpire (t n : Nat) (s : State) : Host.Outcome State Fault Refusal :=
  done ((s.advance t).onTimer n)

/-- BANK_WINDOW_EXIT (R615). -/
def execBankWindowExit (t b : Nat) (s : State) : Host.Outcome State Fault Refusal :=
  done ((s.advance t).bankExit b)

/-- BANK_WINDOW_RETURN (R615). -/
def execBankWindowReturn (t b : Nat) (s : State) : Host.Outcome State Fault Refusal :=
  done ((s.advance t).bankReturn b)

/-- PFAIL_ASSERT (R616). -/
def execPfailAssert (t b : Nat) (s : State) : Host.Outcome State Fault Refusal :=
  done ((s.advance t).pfailAssert b)

/-- PFAIL_RELEASE (R616). -/
def execPfailRelease (t b : Nat) (s : State) : Host.Outcome State Fault Refusal :=
  done ((s.advance t).pfailRelease b)

/-- FET_SHORT (R617). -/
def execFetShort (t n : Nat) (s : State) : Host.Outcome State Fault Refusal :=
  done ((s.advance t).fetShort n)

/-- CLEAR_LOCK (R618). -/
def execClearLock (t path n v : Nat) (s : State) : Host.Outcome State Fault Refusal :=
  done ((s.advance t).regCmd path (IBX_CTRL.addr n) v)

/-- IBEX_LINK_DOWN (R619). -/
def execIbexLinkDown (t : Nat) (s : State) : Host.Outcome State Fault Refusal :=
  done ((s.advance t).ibexDown)

/-- IBEX_LINK_RESTORE (R619). -/
def execIbexLinkRestore (t : Nat) (s : State) : Host.Outcome State Fault Refusal :=
  done ((s.advance t).ibexRestore)

/-- BUTTON_RELEASE (R609). -/
def execButtonRelease (t n : Nat) (s : State) : Host.Outcome State Fault Refusal :=
  done ((s.advance t).buttonRelease n)

/-- CURRENT_LIMIT_ENTER (R610). -/
def execCurrentLimitEnter (t n : Nat) (s : State) : Host.Outcome State Fault Refusal :=
  done ((s.advance t).limitEnter n)

/-- CURRENT_LIMIT_EXIT (R610). -/
def execCurrentLimitExit (t n : Nat) (s : State) : Host.Outcome State Fault Refusal :=
  done ((s.advance t).limitExit n)

end Sys2Proof.Machine
end

