-- ==== Sys2Proof/Machine/ExecLink.lean ====
section
/-! DEFINITION. The meanings of the commands of the Gazelle link: each the effect the rule names, after which the
collector has taken every event raised. -/

namespace Sys2Proof.Machine

/-- FLIT_RECEIVE (R312). -/
def execFlitReceive (t k : Nat) (bytes : List Nat) (s : State) : Host.Outcome State Fault Refusal :=
  done ((s.advanceCt t).whenLinks (fun s => s.flitReceive k bytes))

/-- NAK_RETRY (R327). -/
def execNakRetry (t k : Nat) (s : State) : Host.Outcome State Fault Refusal :=
  done ((s.advance t).whenLinks (fun s => s.nakRetry k))

/-- CREDIT_KEEPALIVE (R324). -/
def execCreditKeepalive (t k : Nat) (s : State) : Host.Outcome State Fault Refusal :=
  done ((s.advance t).whenLinks (fun s => (s.acceptWaiting k).creditKeepalive k))

/-- FORCE_DOWN (R330). -/
def execForceDown (t path k v : Nat) (s : State) : Host.Outcome State Fault Refusal :=
  done ((s.advance t).regCmd path (LINK_CTRL.addr k) v)

/-- PARTNER_LOST (R330). -/
def execPartnerLost (t k : Nat) (s : State) : Host.Outcome State Fault Refusal :=
  done ((s.advance t).whenLinks (fun s => s.partnerLost k))

/-- LINK_CHANGE_REQ (R332). -/
def execLinkChangeReq (t path k v : Nat) (s : State) : Host.Outcome State Fault Refusal :=
  done ((s.advance t).regCmd path (LINK_CTRL.addr k) v)

/-- DRAIN_TIMEOUT (R333). -/
def execDrainTimeout (t k : Nat) (s : State) : Host.Outcome State Fault Refusal :=
  done ((s.advance t).whenLinks (fun s => s.drainTimeout k))

/-- LINK_CHANGE_DONE (R334). -/
def execLinkChangeDone (t k : Nat) (ok : Bool) (rate width : Nat) (s : State) : Host.Outcome State Fault Refusal :=
  done ((s.advance t).whenLinks (fun s => s.linkChangeDone k ok rate width))

end Sys2Proof.Machine
end

