-- ==== Sys2Proof/Machine/ExecObserve.lean ====
section
/-! DEFINITION. The meanings of the commands of observing traffic: each the effect the rule names, after which the
collector has taken every event raised. -/

namespace Sys2Proof.Machine

/-- OBS_COUNTER_CLEAR (R217). -/
def execObsCounterClear (t path p v : Nat) (s : State) : Host.Outcome State Fault Refusal :=
  done ((s.advance t).regCmd path (OBS_PORT_CTRL.addr p) v)

/-- QUEUE_SAMPLE_POINT (R223). -/
def execQueueSamplePoint (t j : Nat) (s : State) : Host.Outcome State Fault Refusal :=
  done ((s.advance t).whenUp (fun s => s.samplePoint j))

/-- SAMPLE_RING_ENABLE (R226). -/
def execSampleRingEnable (t path v : Nat) (s : State) : Host.Outcome State Fault Refusal :=
  done ((s.advance t).regCmd path OBS_RING_CFG.off v)

/-- SNAPSHOT_LOCAL (R229). -/
def execSnapshotLocal (t q idx : Nat) (s : State) : Host.Outcome State Fault Refusal :=
  done ((s.advance t).whenUp (fun s => s.onOp q idx (Desc.isOp 0x1B 1) (fun s => s.snapLocal q idx)))

/-- SNAPSHOT_FABRIC (R229). -/
def execSnapshotFabric (t q idx : Nat) (s : State) : Host.Outcome State Fault Refusal :=
  done ((s.advance t).whenUp (fun s => s.onOp q idx (Desc.isOp 0x1B 2) (fun s => s.snapFabric q idx)))

/-- SNAPSHOT_CAPTURE (R230). -/
def execSnapshotCapture (t : Nat) (s : State) : Host.Outcome State Fault Refusal :=
  done ((s.advance t).whenUp (fun s => s.captureEdge false))

/-- OBSERVER_EVT_SEL (R444). -/
def execObserverEvtSel (t q idx : Nat) (s : State) : Host.Outcome State Fault Refusal :=
  done ((s.advance t).whenUp (fun s => s.onOp q idx (Desc.isOp 0x1A 1) (fun s => s.observerEvtSel q idx)))

/-- OBSERVER_SAMPLE (R444). -/
def execObserverSample (t q idx : Nat) (s : State) : Host.Outcome State Fault Refusal :=
  done ((s.advance t).whenUp (fun s => s.onOp q idx (Desc.isOp 0x1A 2) (fun s => s.observerSample q idx)))

/-- OBSERVER_VF_VIS (R444). -/
def execObserverVfVis (t q idx : Nat) (s : State) : Host.Outcome State Fault Refusal :=
  done ((s.advance t).whenUp (fun s => s.onOp q idx (Desc.isOp 0x1A 3) (fun s => s.observerVfVis q idx)))

/-- OBSERVER_CLEAR (R444). -/
def execObserverClear (t q idx : Nat) (s : State) : Host.Outcome State Fault Refusal :=
  done ((s.advance t).whenUp (fun s => s.onOp q idx (Desc.isOp 0x1A 4) (fun s => s.observerClear q idx)))

end Sys2Proof.Machine
end

