-- ==== Sys2Proof/Machine/ExecOctet.lean ====
section
/-! DEFINITION. The meanings of the commands of octets and lanes: each the effect the rule names, after which the
collector has taken every event raised. -/

namespace Sys2Proof.Machine

/-- OCT_MODE_WRITE (R279). -/
def execOctModeWrite (t path k v : Nat) (s : State) : Host.Outcome State Fault Refusal :=
  done ((s.advance t).regCmd path (OCT_MODE.addr k) v)

/-- TRAINING_BLOCK (R285). -/
def execTrainingBlock (t k lane : Nat) (raw : List Nat) (s : State) : Host.Outcome State Fault Refusal :=
  done ((s.advance t).whenLinks (fun s => s.trainingBlock k lane raw))

/-- EQ_COUNT_DONE (R288). -/
def execEqCountDone (t k : Nat) (counts : List (Nat × Nat)) (s : State) : Host.Outcome State Fault Refusal :=
  done ((s.advance t).whenLinks (fun s => s.eqCount k counts))

/-- BRINGUP_TIMEOUT (R291). -/
def execBringupTimeout (t k : Nat) (s : State) : Host.Outcome State Fault Refusal :=
  done ((s.advance t).whenLinks (fun s => s.bringupTimeout k))

/-- BRINGUP_RETRY (R291). -/
def execBringupRetry (t k : Nat) (s : State) : Host.Outcome State Fault Refusal :=
  done ((s.advance t).whenLinks (fun s => s.bringupRetry k))

/-- CLOCK_LANE_LOSS (R294). -/
def execClockLaneLoss (t k : Nat) (s : State) : Host.Outcome State Fault Refusal :=
  done ((s.advance t).whenLinks (fun s => s.clockLaneLoss k))

/-- CLOCK_LANE_RELOCK (R294). -/
def execClockLaneRelock (t k : Nat) (s : State) : Host.Outcome State Fault Refusal :=
  done ((s.advance t).whenLinks (fun s => s.clockLaneRelock k))

/-- DOZE_ENTRY (R295). -/
def execDozeEntry (t k : Nat) (s : State) : Host.Outcome State Fault Refusal :=
  done ((s.advance t).whenUp (fun s => s.dozeEntry k))

/-- DOZE_EXIT (R296). -/
def execDozeExit (t k : Nat) (s : State) : Host.Outcome State Fault Refusal :=
  done ((s.advance t).whenUp (fun s => s.dozeExit k))

/-- DOZE_TIMED_WAKE (R296). -/
def execDozeTimedWake (t k : Nat) (s : State) : Host.Outcome State Fault Refusal :=
  done ((s.advance t).whenUp (fun s => s.dozeTimedWake k))

/-- HIBERNATE_ENTER (R297). -/
def execHibernateEnter (t path k v : Nat) (s : State) : Host.Outcome State Fault Refusal :=
  done ((s.advance t).regCmd path (OCT_POWER.addr k) v)

/-- HIBERNATE_EXIT (R297). -/
def execHibernateExit (t path k v : Nat) (s : State) : Host.Outcome State Fault Refusal :=
  done ((s.advance t).regCmd path (OCT_POWER.addr k) v)

/-- HIBERNATE_EXIT_DONE (R297). -/
def execHibernateExitDone (t k : Nat) (ok : Bool) (s : State) : Host.Outcome State Fault Refusal :=
  done ((s.advance t).whenLinks (fun s => s.hibernateExitDone k ok))

/-- PRBS_INJECT (R302). -/
def execPrbsInject (t path k i v : Nat) (s : State) : Host.Outcome State Fault Refusal :=
  done ((s.advance t).regCmd path (LANE_PRBS_CTRL.addr k i) v)

/-- PRBS_CLEAR (R302). -/
def execPrbsClear (t path k i v : Nat) (s : State) : Host.Outcome State Fault Refusal :=
  done ((s.advance t).regCmd path (LANE_PRBS_CTRL.addr k i) v)

/-- RECEIVER_DETECTION (R291). -/
def execReceiverDetection (t k : Nat) (s : State) : Host.Outcome State Fault Refusal :=
  done ((s.advance t).whenLinks (fun s => s.detected k))

/-- PRBS_CHECKER_LOCK (R302). -/
def execPrbsCheckerLock (t k i : Nat) (s : State) : Host.Outcome State Fault Refusal :=
  done ((s.advance t).whenLinks (fun s => s.prbsLock k i))

/-- PRBS_CHECKER_LOCK_LOSS (R302). -/
def execPrbsCheckerLockLoss (t k i nbits errs : Nat) (s : State) : Host.Outcome State Fault Refusal :=
  done ((s.advance t).whenLinks (fun s => s.prbsLockLoss k i nbits errs))

end Sys2Proof.Machine
end

