-- ==== Sys2Proof/Machine/ExecPcie.lean ====
section
/-! DEFINITION. The meanings of the commands of PCI Express ports and slots: each the effect the rule names, after which the
collector has taken every event raised. -/

namespace Sys2Proof.Machine

/-- PCIE_LINK_UP (R343). -/
def execPcieLinkUp (t p rate width : Nat) (flit : Bool) (s : State) : Host.Outcome State Fault Refusal :=
  done ((s.advance t).whenLinks (fun s => s.pcieUp p rate width flit))

/-- PCIE_DL_DOWN (R357). -/
def execPcieDlDown (t p : Nat) (hot : Bool) (s : State) : Host.Outcome State Fault Refusal :=
  done ((s.advance t).whenLinks (fun s => s.pcieDown p hot))

/-- CONFIG_REQUEST (R346). -/
def execConfigRequest (t p : Nat) (tlp : Tlp) (fields : List (Nat × Nat)) (data : List Nat) (s : State) : Host.Outcome State Fault Refusal :=
  done ((s.advance t).whenLinks (fun s => s.configRequest p tlp fields data))

/-- HIER_READY (R346). -/
def execHierReady (t path p v : Nat) (s : State) : Host.Outcome State Fault Refusal :=
  done ((s.advance t).regCmd path (PORT_HIER_CTRL.addr p) v)

/-- RETRAIN_LINK (R351). -/
def execRetrainLink (t hd dev : Nat) (s : State) : Host.Outcome State Fault Refusal :=
  done ((s.advance t).whenLinks (fun s => s.retrain hd dev))

/-- LINK_DISABLE (R351). -/
def execLinkDisable (t hd dev : Nat) (on : Bool) (s : State) : Host.Outcome State Fault Refusal :=
  done ((s.advance t).whenLinks (fun s => s.linkDisable hd dev on))

/-- SECONDARY_BUS_RESET (R351). -/
def execSecondaryBusReset (t hd dev : Nat) (on : Bool) (s : State) : Host.Outcome State Fault Refusal :=
  done ((s.advance t).whenLinks (fun s => s.busReset hd dev on))

/-- DPC_ENTRY (R362). -/
def execDpcEntry (t p kind bitNo : Nat) (s : State) : Host.Outcome State Fault Refusal :=
  done ((s.advance t).whenLinks (fun s => s.dpcEvent p kind bitNo))

/-- DPC_SOFTWARE_TRIGGER (R362). -/
def execDpcSoftwareTrigger (t hd dev : Nat) (s : State) : Host.Outcome State Fault Refusal :=
  done ((s.advance t).whenLinks (fun s => s.vpWrite hd dev vfDpcTrigger 1))

/-- DPC_TRIGGER (R362). -/
def execDpcTrigger (t path p v : Nat) (s : State) : Host.Outcome State Fault Refusal :=
  done ((s.advance t).regCmd path (PORT_DPC.addr p) v)

/-- DPC_RELEASE (R363). -/
def execDpcRelease (t path p v : Nat) (s : State) : Host.Outcome State Fault Refusal :=
  done ((s.advance t).regCmd path (PORT_DPC.addr p) v)

/-- DPC_STATUS_CLEAR (R363). -/
def execDpcStatusClear (t hd dev : Nat) (s : State) : Host.Outcome State Fault Refusal :=
  done ((s.advance t).whenLinks (fun s => s.dpcStatusClear hd dev))

/-- POWER_CONTROLLER_CONTROL (R365). -/
def execPowerControllerControl (t hd dev : Nat) (off : Bool) (s : State) : Host.Outcome State Fault Refusal :=
  done ((s.advance t).whenLinks (fun s => s.powerControl hd dev off))

/-- INDICATOR_CONTROL (R364). -/
def execIndicatorControl (t hd dev : Nat) (attn : Bool) (c : Nat) (s : State) : Host.Outcome State Fault Refusal :=
  done ((s.advance t).whenLinks (fun s => s.indicatorControl hd dev attn c))

/-- PERST_DEASSERT (R367). -/
def execPerstDeassert (t p : Nat) (s : State) : Host.Outcome State Fault Refusal :=
  done ((s.advance t).whenLoaded (fun s => s.perstDeassert p))

/-- PORT_STATE_REFRESH (R381). -/
def execPortStateRefresh (t : Nat) (s : State) : Host.Outcome State Fault Refusal :=
  done ((s.advance t).whenUp (fun s => s.portStateRefresh))

/-- INDICATOR_BLINK (R366). -/
def execIndicatorBlink (t : Nat) (s : State) : Host.Outcome State Fault Refusal :=
  done ((s.advance t).whenLoaded (fun s => s.indicatorBlink))

/-- LINK_POWER_STATE_CHANGE (R341). -/
def execLinkPowerStateChange (t p st width : Nat) (s : State) : Host.Outcome State Fault Refusal :=
  done ((s.advance t).whenLinks (fun s => s.linkPower p st width))

end Sys2Proof.Machine
end

