-- ==== Sys2Proof/Machine/ExecPipe.lean ====
section
/-! DEFINITION. The meanings of the commands of the forwarding pipeline: each the effect the rule names, after which the
collector has taken every event raised. -/

namespace Sys2Proof.Machine

/-- PACKET_PARSE (R69). -/
def execPacketParse (t p : Nat) (h : FabHdr) (tlp : Tlp) (s : State) : Host.Outcome State Fault Refusal :=
  done ((s.advance t).whenUp (fun s => s.packetParse p h tlp))

/-- SPEC_RECORD_GRANT (R70). -/
def execSpecRecordGrant (t id : Nat) (s : State) : Host.Outcome State Fault Refusal :=
  done ((s.advance t).whenUp (fun s => s.specRecordGrant id))

/-- LOOKUP_SLOT_GRANT (R92). -/
def execLookupSlotGrant (t id : Nat) (s : State) : Host.Outcome State Fault Refusal :=
  done ((s.advance t).whenUp (fun s => (s.eccLookup id).lookupSlotGrant id))

/-- HEADROOM_RESERVE (R111). -/
def execHeadroomReserve (t id : Nat) (s : State) : Host.Outcome State Fault Refusal :=
  done ((s.advance t).whenUp (fun s => s.headroomRow id))

/-- PACKET_COMMIT (R97). -/
def execPacketCommit (t id : Nat) (ok ecrcOk : Bool) (data : List Nat) (s : State) : Host.Outcome State Fault Refusal :=
  done ((s.advance t).whenUp (fun s => s.commitRow id ok ecrcOk data))

/-- CAPTURE_ARM (R107). -/
def execCaptureArm (t path v : Nat) (s : State) : Host.Outcome State Fault Refusal :=
  done ((s.advance t).regCmd path FWD_CTRL.off v)

/-- SESSION_ENABLE (R104). -/
def execSessionEnable (t path n v : Nat) (s : State) : Host.Outcome State Fault Refusal :=
  done ((s.advance t).regCmd path (SESS_CTRL.addr n) v)

/-- FLOW_SET_ADD (R86). -/
def execFlowSetAdd (t q idx : Nat) (s : State) : Host.Outcome State Fault Refusal :=
  done ((s.advance t).whenUp (fun s => s.onOp q idx (fun d => d.opcode == 0x10 && byteAt d.img 56 == 1) (fun s => s.flowAdd q idx)))

/-- FLOW_SET_REPLACE (R91). -/
def execFlowSetReplace (t q idx : Nat) (s : State) : Host.Outcome State Fault Refusal :=
  done ((s.advance t).whenUp (fun s => s.onOp q idx (fun d => d.opcode == 0x10 && byteAt d.img 56 == 2) (fun s => s.flowReplace q idx)))

/-- FLOW_SET_DELETE (R91). -/
def execFlowSetDelete (t q idx : Nat) (s : State) : Host.Outcome State Fault Refusal :=
  done ((s.advance t).whenUp (fun s => s.onOp q idx (fun d => d.opcode == 0x10 && byteAt d.img 56 == 3) (fun s => s.flowDelete q idx)))

/-- FLOW_SET_READ (R85). -/
def execFlowSetRead (t q idx : Nat) (s : State) : Host.Outcome State Fault Refusal :=
  done ((s.advance t).whenUp (fun s => s.onOp q idx (fun d => d.opcode == 0x10 && byteAt d.img 56 == 4) (fun s => s.flowRead q idx)))

end Sys2Proof.Machine
end

