-- ==== Sys2Proof/Machine/ExecPower.lean ====
section
/-! DEFINITION. The meanings of the commands of power states and fuses: each the effect the rule names, after which the
collector has taken every event raised. -/

namespace Sys2Proof.Machine

/-- QUIET_ENTRY (R593). -/
def execQuietEntry (t : Nat) (s : State) : Host.Outcome State Fault Refusal :=
  done ((s.advance t).whenUp (fun s => s.quietEntry))

/-- QUIET_EXIT (R594). -/
def execQuietExit (t : Nat) (s : State) : Host.Outcome State Fault Refusal :=
  done ((s.advance t).whenUp (fun s => s.quietExit))

/-- REST_ARM (R595). -/
def execRestArm (t path v : Nat) (s : State) : Host.Outcome State Fault Refusal :=
  done ((s.advance t).regCmd path PWR_CTRL.off v)

/-- REST_ENTRY (R595). -/
def execRestEntry (t : Nat) (s : State) : Host.Outcome State Fault Refusal :=
  done ((s.advance t).whenUp (fun s => s.restEntry))

/-- REST_WAKE (R597). -/
def execRestWake (t n arg : Nat) (s : State) : Host.Outcome State Fault Refusal :=
  done ((s.advance t).whenLoaded (fun s => s.wakeBy n arg))

/-- FUSE_PROGRAM (R601). -/
def execFuseProgram (t path v : Nat) (s : State) : Host.Outcome State Fault Refusal :=
  done ((s.advance t).regCmd path FUSE_PROG_CMD.off v)

/-- FUSE_PROGRAM_DONE (R601). -/
def execFuseProgramDone (t : Nat) (s : State) : Host.Outcome State Fault Refusal :=
  done ((s.advance t).fuseProgramDone)

end Sys2Proof.Machine
end

