-- ==== Sys2Proof/Machine/ExecReset.lean ====
section
/-! DEFINITION. The meanings of the commands of reset and start-up: each the effect the rule names, after which the
collector has taken every event raised. -/

namespace Sys2Proof.Machine

/-- POWER_ON_RESET (R641). -/
def execPowerOnReset (s : State) : Host.Outcome State Fault Refusal :=
  done (s.powerOnReset)

/-- RESET_N_ASSERT (R572). -/
def execResetNAssert (s : State) : Host.Outcome State Fault Refusal :=
  done (s.resetN)

/-- DEVICE_RESET (R569). -/
def execDeviceReset (t path v : Nat) (s : State) : Host.Outcome State Fault Refusal :=
  done ((s.advance t).regCmd path RST_DEVICE.off v)

/-- THERMAL_TRIP (R646). -/
def execThermalTrip (s : State) : Host.Outcome State Fault Refusal :=
  done (s.thermalTrip)

/-- THERMAL_WARN (R646). -/
def execThermalWarn (s : State) : Host.Outcome State Fault Refusal :=
  done (s.thermalWarn)

/-- SUPPLY_FAULT (R641). -/
def execSupplyFault (n : Nat) (s : State) : Host.Outcome State Fault Refusal :=
  done (s.supplyFault n)

/-- RESET_STRETCH_END (R573). -/
def execResetStretchEnd (s : State) : Host.Outcome State Fault Refusal :=
  done (s.stretchEnd)

/-- RESET_RELEASE (R574). -/
def execResetRelease (s : State) : Host.Outcome State Fault Refusal :=
  done (s.resetRelease)

/-- FUSE_LOAD_DONE (R576). -/
def execFuseLoadDone (retried bad : List Nat) (s : State) : Host.Outcome State Fault Refusal :=
  done (s.fuseLoadDone retried bad)

/-- SRAM_INIT_DONE (R582). -/
def execSramInitDone (bad : List (Nat × Nat)) (s : State) : Host.Outcome State Fault Refusal :=
  done (s.sramInitDone bad)

/-- FIRMWARE_LOAD (R584). -/
def execFirmwareLoad (a b : List Nat) (s : State) : Host.Outcome State Fault Refusal :=
  done (s.firmwareLoad a b)

/-- NO_FIRMWARE_TIMEOUT (R585). -/
def execNoFirmwareTimeout (s : State) : Host.Outcome State Fault Refusal :=
  done (s.noFirmware)

/-- HOST_DOMAIN_RESET (R587). -/
def execHostDomainReset (t d : Nat) (s : State) : Host.Outcome State Fault Refusal :=
  done ((s.advance t).whenLinks (fun s => s.hdReset d))

/-- HOST_DOMAIN_RESET_DONE (R588). -/
def execHostDomainResetDone (t d : Nat) (s : State) : Host.Outcome State Fault Refusal :=
  done ((s.advance t).whenLinks (fun s => s.hdResetDone d))

/-- PORT_RESET (R589). -/
def execPortReset (t path v : Nat) (s : State) : Host.Outcome State Fault Refusal :=
  done ((s.advance t).regCmd path RST_PORT.off v)

/-- BLOCK_RESET (R590). -/
def execBlockReset (t path v : Nat) (s : State) : Host.Outcome State Fault Refusal :=
  done ((s.advance t).regCmd path RST_BLOCK_CMD.off v)

/-- BLOCK_IDLE_ACK (R590). -/
def execBlockIdleAck (t : Nat) (s : State) : Host.Outcome State Fault Refusal :=
  done ((s.advance t).whenLoaded (fun s => s.blockIdleAck))

/-- BLOCK_RESET_TIMEOUT (R590). -/
def execBlockResetTimeout (t : Nat) (s : State) : Host.Outcome State Fault Refusal :=
  done ((s.advance t).whenLoaded (fun s => s.blockTimeout))

/-- POR_RELEASE (R641). -/
def execPorRelease (s : State) : Host.Outcome State Fault Refusal :=
  done (s.porRelease)

/-- THERMAL_TRIP_END (R573). -/
def execThermalTripEnd (s : State) : Host.Outcome State Fault Refusal :=
  done (s.thermalEnd)

/-- SUPPLY_WINDOW_RETURN (R641). -/
def execSupplyWindowReturn (n : Nat) (s : State) : Host.Outcome State Fault Refusal :=
  done (s.supplyReturn n)

/-- THERMAL_WARN_REARM (R646). -/
def execThermalWarnRearm (s : State) : Host.Outcome State Fault Refusal :=
  done (s.thermalRearm)

end Sys2Proof.Machine
end

