-- ==== Sys2Proof/Machine/ExecRing.lean ====
section
/-! DEFINITION. The meanings of the commands of the host endpoint and descriptor rings: each the effect the rule names, after which the
collector has taken every event raised. -/

namespace Sys2Proof.Machine

/-- QP_ENABLE (R428). -/
def execQpEnable (t f : Nat) (s : State) : Host.Outcome State Fault Refusal :=
  done ((s.advance t).whenUp (fun s => s.qpEnable f))

/-- QP_DISABLE (R429). -/
def execQpDisable (t f : Nat) (s : State) : Host.Outcome State Fault Refusal :=
  done ((s.advance t).whenUp (fun s => s.qpDisable f))

/-- QP_DRAIN_DONE (R429). -/
def execQpDrainDone (t q : Nat) (s : State) : Host.Outcome State Fault Refusal :=
  done ((s.advance t).whenUp (fun s => s.qpDrainDone q))

/-- SQ_DOORBELL (R431). -/
def execSqDoorbell (t f l v : Nat) (s : State) : Host.Outcome State Fault Refusal :=
  done ((s.advance t).whenUp (fun s => (s.doorbellWake f l).sqDoorbell f l v))

/-- CQ_DOORBELL (R431). -/
def execCqDoorbell (t f l v : Nat) (s : State) : Host.Outcome State Fault Refusal :=
  done ((s.advance t).whenUp (fun s => (s.doorbellWake f l).cqDoorbell f l v))

/-- DESCRIPTOR_FETCH (R451). -/
def execDescriptorFetch (t q status : Nat) (bytes : List Nat) (s : State) : Host.Outcome State Fault Refusal :=
  done ((s.advance t).whenUp (fun s => (s.eccQp q).descriptorFetch q status bytes))

/-- RING_WRITE (R439). -/
def execRingWrite (t q idx : Nat) (s : State) : Host.Outcome State Fault Refusal :=
  done ((s.advance t).whenUp (fun s => s.onOp q idx (fun d => d.opcode == 0x01) (fun s => s.ringWrite q idx)))

/-- RING_READ (R440). -/
def execRingRead (t q idx : Nat) (s : State) : Host.Outcome State Fault Refusal :=
  done ((s.advance t).whenUp (fun s => s.onOp q idx (fun d => d.opcode == 0x02) (fun s => s.ringRead q idx)))

/-- SEND (R441). -/
def execSend (t q idx : Nat) (s : State) : Host.Outcome State Fault Refusal :=
  done ((s.advance t).whenUp (fun s => s.onOp q idx (fun d => d.opcode == 0x03) (fun s => s.send q idx)))

/-- WRITE_ACK_TIMEOUT (R439). -/
def execWriteAckTimeout (t tag : Nat) (s : State) : Host.Outcome State Fault Refusal :=
  done ((s.advance t).whenUp (fun s => s.writeAckTimeout tag))

/-- READ_TIMEOUT (R440). -/
def execReadTimeout (t tag : Nat) (s : State) : Host.Outcome State Fault Refusal :=
  done ((s.advance t).whenUp (fun s => s.readTimeout tag))

/-- HOST_READ_COMPLETION (R439). -/
def execHostReadCompletion (t q idx status : Nat) (poison : Bool) (data : List Nat) (s : State) : Host.Outcome State Fault Refusal :=
  done ((s.advance t).whenUp (fun s => s.hostReadDone q idx status poison data))

end Sys2Proof.Machine
end

