-- ==== Sys2Proof/Machine/ExecSched.lean ====
section
/-! DEFINITION. The meanings of the commands of policing, shaping and queue service: each the effect the rule names, after which the
collector has taken every event raised. -/

namespace Sys2Proof.Machine

/-- METER_BIND (R148). -/
def execMeterBind (t q idx : Nat) (s : State) : Host.Outcome State Fault Refusal :=
  done ((s.advance t).whenUp (fun s => s.onOp q idx (Desc.isOp 0x11 1) (fun s => s.meterBind q idx)))

/-- METER_PROFILE (R148). -/
def execMeterProfile (t q idx : Nat) (s : State) : Host.Outcome State Fault Refusal :=
  done ((s.advance t).whenUp (fun s => s.onOp q idx (Desc.isOp 0x11 2) (fun s => s.meterProfile q idx)))

/-- METER_READ (R166). -/
def execMeterRead (t q idx : Nat) (s : State) : Host.Outcome State Fault Refusal :=
  done ((s.advance t).whenUp (fun s => s.onOp q idx (Desc.isOp 0x11 3) (fun s => s.meterRead q idx)))

/-- METER_PROFILE_READ (R166). -/
def execMeterProfileRead (t q idx : Nat) (s : State) : Host.Outcome State Fault Refusal :=
  done ((s.advance t).whenUp (fun s => s.onOp q idx (Desc.isOp 0x11 4) (fun s => s.meterProfileRead q idx)))

/-- SHAPER_SET (R158). -/
def execShaperSet (t q idx : Nat) (s : State) : Host.Outcome State Fault Refusal :=
  done ((s.advance t).whenUp (fun s => s.onOp q idx (fun d => d.opcode == 0x12 && !bit (byteAt d.img 41) 1) (fun s => s.shaperSet q idx)))

/-- SHAPER_READ (R167). -/
def execShaperRead (t q idx : Nat) (s : State) : Host.Outcome State Fault Refusal :=
  done ((s.advance t).whenUp (fun s => s.onOp q idx (fun d => d.opcode == 0x12 && bit (byteAt d.img 41) 1) (fun s => s.shaperRead q idx)))

/-- QUEUE_MAP_MAP (R149). -/
def execQueueMapMap (t q idx : Nat) (s : State) : Host.Outcome State Fault Refusal :=
  done ((s.advance t).whenUp (fun s => s.onOp q idx (Desc.isOp 0x13 1) (fun s => s.queueMapMap q idx)))

/-- QUEUE_MAP_UNMAP (R153). -/
def execQueueMapUnmap (t q idx : Nat) (s : State) : Host.Outcome State Fault Refusal :=
  done ((s.advance t).whenUp (fun s => s.onOp q idx (Desc.isOp 0x13 2) (fun s => s.queueMapUnmap q idx)))

/-- QUEUE_MAP_READ (R168). -/
def execQueueMapRead (t q idx : Nat) (s : State) : Host.Outcome State Fault Refusal :=
  done ((s.advance t).whenUp (fun s => s.onOp q idx (Desc.isOp 0x13 3) (fun s => s.queueMapRead q idx)))

/-- ADAPT_BOUNDS_SHAPED (R169). -/
def execAdaptBoundsShaped (t q idx : Nat) (s : State) : Host.Outcome State Fault Refusal :=
  done ((s.advance t).whenUp (fun s => s.onOp q idx (Desc.isOp 0x1E 1) (fun s => s.adaptBoundsShaped q idx)))

/-- ADAPT_BOUNDS_BULK (R169). -/
def execAdaptBoundsBulk (t q idx : Nat) (s : State) : Host.Outcome State Fault Refusal :=
  done ((s.advance t).whenUp (fun s => s.onOp q idx (Desc.isOp 0x1E 2) (fun s => s.adaptBoundsBulk q idx)))

/-- ADAPT_BOUNDS_DELETE (R163). -/
def execAdaptBoundsDelete (t q idx : Nat) (s : State) : Host.Outcome State Fault Refusal :=
  done ((s.advance t).whenUp (fun s => s.onOp q idx (Desc.isOp 0x1E 3) (fun s => s.adaptBoundsDelete q idx)))

/-- EGRESS_SLOT (R159). -/
def execEgressSlot (t p kind types : Nat) (s : State) : Host.Outcome State Fault Refusal :=
  done ((s.advance t).whenUp (fun s => (s.eccEgress p).egressSlot p kind types))

end Sys2Proof.Machine
end

