-- ==== Sys2Proof/Machine/ExecTime.lean ====
section
/-! DEFINITION. The meanings of the commands of cell time and the tick: each the effect the rule names, after which the
collector has taken every event raised. -/

namespace Sys2Proof.Machine

/-- TICK_EDGE (R29). -/
def execTickEdge (mask cues : Nat) (s : State) : Host.Outcome State Fault Refusal :=
  done ((s).whenClock (fun s => s.tickEdge s.portsUp mask cues))

/-- TICK_CHANGE_AT_WRITE (R33). -/
def execTickChangeAtWrite (t path v : Nat) (s : State) : Host.Outcome State Fault Refusal :=
  done ((s.advance t).pairCmd path TICK_CHANGE_AT_LO TICK_CHANGE_AT_HI v)

/-- PERIOD_CHANGE_EDGE (R33). -/
def execPeriodChangeEdge (t : Nat) (s : State) : Host.Outcome State Fault Refusal :=
  done ((s.advance t).whenClock (fun s => s.periodChange))

/-- ACQUIRING_INTERVAL (R53). -/
def execAcquiringInterval (t : Nat) (s : State) : Host.Outcome State Fault Refusal :=
  done ((s.advance t).whenLoaded (fun s => s.acquiringInterval s.portsUp))

/-- CELLREF_LOSS (R36). -/
def execCellrefLoss (t : Nat) (s : State) : Host.Outcome State Fault Refusal :=
  done ((s.advance t).whenClock (fun s => s.cellrefLoss))

/-- CELLREF_RETURN (R36). -/
def execCellrefReturn (t : Nat) (s : State) : Host.Outcome State Fault Refusal :=
  done ((s.advance t).whenClock (fun s => s.cellrefReturn))

/-- TIME_ENABLE_WRITE (R39). -/
def execTimeEnableWrite (t path v : Nat) (s : State) : Host.Outcome State Fault Refusal :=
  done ((s.advance t).regCmd path TIME_CTRL.off v)

/-- CELL_TIME_LOAD (R39). -/
def execCellTimeLoad (t path : Nat) (tickNum : Bool) (v : Nat) (s : State) : Host.Outcome State Fault Refusal :=
  done (if tickNum then (s.advance t).pairCmd path TICK_NUM_LOAD_LO TICK_NUM_LOAD_HI v
    else (s.advance t).pairCmd path CELL_TIME_LOAD_LO CELL_TIME_LOAD_HI v)

/-- STEP_NOW (R52). -/
def execStepNow (t path v : Nat) (s : State) : Host.Outcome State Fault Refusal :=
  done ((s.advance t).regCmd path TIME_CTRL.off v)

/-- TICK_IN_EDGE (R38). -/
def execTickInEdge (t : Nat) (s : State) : Host.Outcome State Fault Refusal :=
  done ((s.advance t).whenClock (fun s => (s.restWake 4).tickInEdge))

/-- TICK_MARK (R42). -/
def execTickMark (t k freq : Nat) (s : State) : Host.Outcome State Fault Refusal :=
  done ((s.advanceCt t).whenLinks (fun s => s.tickMark k freq))

/-- TIME_SLOT_SEND (R320). -/
def execTimeSlotSend (t k : Nat) (s : State) : Host.Outcome State Fault Refusal :=
  done ((s.advance t).whenLinks (fun s => s.timeSlotSend k))

/-- SOURCE_LOSS (R49). -/
def execSourceLoss (t k cause : Nat) (s : State) : Host.Outcome State Fault Refusal :=
  done ((s.advance t).whenClock (fun s => s.sourceLossEvent k cause))

/-- CANDIDATE_VALID (R51). -/
def execCandidateValid (t k : Nat) (off : Int) (n : Nat) (s : State) : Host.Outcome State Fault Refusal :=
  done ((s.advance t).whenLinks (fun s => s.candidateValid k off n))

/-- SLEW_LOCKED (R51). -/
def execSlewLocked (t : Nat) (s : State) : Host.Outcome State Fault Refusal :=
  done ((s.advance t).whenClock (fun s => s.slewLocked))

/-- PTM_REQUESTER (R57). -/
def execPtmRequester (t n host : Nat) (s : State) : Host.Outcome State Fault Refusal :=
  done ((s.advance t).whenUp (fun s => s.ptmRequester n host))

/-- PTM_REQUEST (R361). -/
def execPtmRequest (t p : Nat) (s : State) : Host.Outcome State Fault Refusal :=
  done ((s.advance t).whenUp (fun s => s.ptmRequest p))

/-- CUE_EDGE_DUE (R58). -/
def execCueEdgeDue (t pin : Nat) (s : State) : Host.Outcome State Fault Refusal :=
  done ((s.advance t).whenUp (fun s => s.cueEdgeDue pin))

/-- TICK_IN_LOSS (R38). -/
def execTickInLoss (t : Nat) (s : State) : Host.Outcome State Fault Refusal :=
  done ((s.advance t).whenClock (fun s => s.tickInLoss))

/-- TICK_OUT_PULSE_END (R56). -/
def execTickOutPulseEnd (t : Nat) (s : State) : Host.Outcome State Fault Refusal :=
  done ((s.advance t).whenClock (fun s => s.tickOutEnd))

end Sys2Proof.Machine
end

