-- ==== Sys2Proof/Machine/ExecVf.lean ====
section
/-! DEFINITION. The meanings of the commands of virtual functions: each the effect the rule names, after which the
collector has taken every event raised. -/

namespace Sys2Proof.Machine

/-- VF_ENABLE (R454). -/
def execVfEnable (t n : Nat) (s : State) : Host.Outcome State Fault Refusal :=
  done ((s.advance t).whenUp (fun s => s.vfEnable n))

/-- VF_ENABLE_CLEAR (R454). -/
def execVfEnableClear (t n : Nat) (s : State) : Host.Outcome State Fault Refusal :=
  done ((s.advance t).whenUp (fun s => s.vfEnableClear n))

/-- VF_QPS (R458). -/
def execVfQps (t q idx : Nat) (s : State) : Host.Outcome State Fault Refusal :=
  done ((s.advance t).whenUp (fun s => s.onOp q idx (Desc.isOp 0x18 1) (fun s => s.vfQps q idx)))

/-- VF_VECTORS (R459). -/
def execVfVectors (t q idx : Nat) (s : State) : Host.Outcome State Fault Refusal :=
  done ((s.advance t).whenUp (fun s => s.onOp q idx (Desc.isOp 0x18 2) (fun s => s.vfVectors q idx)))

/-- VF_REGIONS (R461). -/
def execVfRegions (t q idx : Nat) (s : State) : Host.Outcome State Fault Refusal :=
  done ((s.advance t).whenUp (fun s => s.onOp q idx (Desc.isOp 0x18 3) (fun s => s.vfRegions q idx)))

/-- VF_METER (R460). -/
def execVfMeter (t q idx : Nat) (s : State) : Host.Outcome State Fault Refusal :=
  done ((s.advance t).whenUp (fun s => s.onOp q idx (Desc.isOp 0x18 4) (fun s => s.vfMeter q idx)))

/-- VF_COALESCE (R464). -/
def execVfCoalesce (t q idx : Nat) (s : State) : Host.Outcome State Fault Refusal :=
  done ((s.advance t).whenUp (fun s => s.onOp q idx (Desc.isOp 0x18 5) (fun s => s.vfCoalesce q idx)))

/-- DIRTY_START (R474). -/
def execDirtyStart (t q idx : Nat) (s : State) : Host.Outcome State Fault Refusal :=
  done ((s.advance t).whenUp (fun s => s.onOp q idx (Desc.isOp 0x18 6) (fun s => s.dirtyStart q idx)))

/-- DIRTY_SYNC (R474). -/
def execDirtySync (t q idx : Nat) (s : State) : Host.Outcome State Fault Refusal :=
  done ((s.advance t).whenUp (fun s => s.onOp q idx (Desc.isOp 0x18 7) (fun s => s.dirtySync q idx)))

/-- DIRTY_STOP (R474). -/
def execDirtyStop (t q idx : Nat) (s : State) : Host.Outcome State Fault Refusal :=
  done ((s.advance t).whenUp (fun s => s.onOp q idx (Desc.isOp 0x18 8) (fun s => s.dirtyStop q idx)))

/-- VF_RESOURCES_READ (R462). -/
def execVfResourcesRead (t q idx : Nat) (s : State) : Host.Outcome State Fault Refusal :=
  done ((s.advance t).whenUp (fun s => s.onOp q idx (Desc.isOp 0x18 9) (fun s => s.vfRead q idx)))

/-- DIRTY_MERGE_DONE (R473). -/
def execDirtyMergeDone (t v w : Nat) (write : Bool) (status host : Nat) (s : State) : Host.Outcome State Fault Refusal :=
  done ((s.advance t).whenUp (fun s => s.dirtyMergeDone v w write status host))

/-- FUNCTION_LEVEL_RESET (R466). -/
def execFunctionLevelReset (t f : Nat) (s : State) : Host.Outcome State Fault Refusal :=
  done ((s.advance t).whenUp (fun s => s.flr f))

/-- VF_RESET (R467). -/
def execVfReset (t q idx : Nat) (s : State) : Host.Outcome State Fault Refusal :=
  done ((s.advance t).whenUp (fun s => s.onOp q idx (fun d => d.opcode == 0x19) (fun s => s.vfReset q idx)))

/-- VF_RESET_SQUASH (R468). -/
def execVfResetSquash (t f : Nat) (s : State) : Host.Outcome State Fault Refusal :=
  done ((s.advance t).whenUp (fun s => s.vfResetSquash f))

/-- VF_RESET_COMPLETE (R468). -/
def execVfResetComplete (t f : Nat) (s : State) : Host.Outcome State Fault Refusal :=
  done ((s.advance t).whenUp (fun s => s.vfResetComplete f))

end Sys2Proof.Machine
end

