-- ==== Sys2Proof/Machine/ExecAll.lean ====
section
/-! DEFINITION. Every meaning, gathered for the dispatch. -/
end

