-- ==== Sys2Proof/Machine/Dispatch.lean ====
section
/-! DEFINITION. One arm for each command: its meaning. -/

namespace Sys2Proof.Machine

def exec (i : Instr) (s : State) : Host.Outcome State Fault Refusal :=
  match i with
  | .registerWrite t path off v => Sys2Proof.Machine.execRegisterWrite t path off v s
  | .lowWordRead t path off => Sys2Proof.Machine.execLowWordRead t path off s
  | .highWordWrite t path off v => Sys2Proof.Machine.execHighWordWrite t path off v s
  | .tickEdge mask cues => Sys2Proof.Machine.execTickEdge mask cues s
  | .tickChangeAtWrite t path v => Sys2Proof.Machine.execTickChangeAtWrite t path v s
  | .periodChangeEdge t => Sys2Proof.Machine.execPeriodChangeEdge t s
  | .acquiringInterval t => Sys2Proof.Machine.execAcquiringInterval t s
  | .cellrefLoss t => Sys2Proof.Machine.execCellrefLoss t s
  | .cellrefReturn t => Sys2Proof.Machine.execCellrefReturn t s
  | .timeEnableWrite t path v => Sys2Proof.Machine.execTimeEnableWrite t path v s
  | .cellTimeLoad t path tickNum v => Sys2Proof.Machine.execCellTimeLoad t path tickNum v s
  | .stepNow t path v => Sys2Proof.Machine.execStepNow t path v s
  | .tickInEdge t => Sys2Proof.Machine.execTickInEdge t s
  | .tickMark t k freq => Sys2Proof.Machine.execTickMark t k freq s
  | .timeSlotSend t k => Sys2Proof.Machine.execTimeSlotSend t k s
  | .sourceLoss t k cause => Sys2Proof.Machine.execSourceLoss t k cause s
  | .candidateValid t k off n => Sys2Proof.Machine.execCandidateValid t k off n s
  | .slewLocked t => Sys2Proof.Machine.execSlewLocked t s
  | .ptmRequester t n host => Sys2Proof.Machine.execPtmRequester t n host s
  | .ptmRequest t p => Sys2Proof.Machine.execPtmRequest t p s
  | .cueEdgeDue t pin => Sys2Proof.Machine.execCueEdgeDue t pin s
  | .packetParse t p h tlp => Sys2Proof.Machine.execPacketParse t p h tlp s
  | .specRecordGrant t id => Sys2Proof.Machine.execSpecRecordGrant t id s
  | .lookupSlotGrant t id => Sys2Proof.Machine.execLookupSlotGrant t id s
  | .headroomReserve t id => Sys2Proof.Machine.execHeadroomReserve t id s
  | .packetCommit t id ok ecrcOk data => Sys2Proof.Machine.execPacketCommit t id ok ecrcOk data s
  | .captureArm t path v => Sys2Proof.Machine.execCaptureArm t path v s
  | .sessionEnable t path n v => Sys2Proof.Machine.execSessionEnable t path n v s
  | .flowSetAdd t q idx => Sys2Proof.Machine.execFlowSetAdd t q idx s
  | .flowSetReplace t q idx => Sys2Proof.Machine.execFlowSetReplace t q idx s
  | .flowSetDelete t q idx => Sys2Proof.Machine.execFlowSetDelete t q idx s
  | .flowSetRead t q idx => Sys2Proof.Machine.execFlowSetRead t q idx s
  | .spillWriteDone t q => Sys2Proof.Machine.execSpillWriteDone t q s
  | .refillStart t q => Sys2Proof.Machine.execRefillStart t q s
  | .refillComplete t q ch result => Sys2Proof.Machine.execRefillComplete t q ch result s
  | .mr4Poll t hot => Sys2Proof.Machine.execMr4Poll t hot s
  | .dramSelfRefresh t => Sys2Proof.Machine.execDramSelfRefresh t s
  | .dramTrainingDone t fail => Sys2Proof.Machine.execDramTrainingDone t fail s
  | .dramInit t path v => Sys2Proof.Machine.execDramInit t path v s
  | .dramCfgWrite t path v => Sys2Proof.Machine.execDramCfgWrite t path v s
  | .meterBind t q idx => Sys2Proof.Machine.execMeterBind t q idx s
  | .meterProfile t q idx => Sys2Proof.Machine.execMeterProfile t q idx s
  | .meterRead t q idx => Sys2Proof.Machine.execMeterRead t q idx s
  | .meterProfileRead t q idx => Sys2Proof.Machine.execMeterProfileRead t q idx s
  | .shaperSet t q idx => Sys2Proof.Machine.execShaperSet t q idx s
  | .shaperRead t q idx => Sys2Proof.Machine.execShaperRead t q idx s
  | .queueMapMap t q idx => Sys2Proof.Machine.execQueueMapMap t q idx s
  | .queueMapUnmap t q idx => Sys2Proof.Machine.execQueueMapUnmap t q idx s
  | .queueMapRead t q idx => Sys2Proof.Machine.execQueueMapRead t q idx s
  | .adaptBoundsShaped t q idx => Sys2Proof.Machine.execAdaptBoundsShaped t q idx s
  | .adaptBoundsBulk t q idx => Sys2Proof.Machine.execAdaptBoundsBulk t q idx s
  | .adaptBoundsDelete t q idx => Sys2Proof.Machine.execAdaptBoundsDelete t q idx s
  | .egressSlot t p kind types => Sys2Proof.Machine.execEgressSlot t p kind types s
  | .gateEntryStart t p => Sys2Proof.Machine.execGateEntryStart t p s
  | .gateListLoad t q idx => Sys2Proof.Machine.execGateListLoad t q idx s
  | .gateListRead t q idx => Sys2Proof.Machine.execGateListRead t q idx s
  | .gateListFetchDone t q idx status poison data => Sys2Proof.Machine.execGateListFetchDone t q idx status poison data s
  | .gateSwap t q idx => Sys2Proof.Machine.execGateSwap t q idx s
  | .swapArm t p => Sys2Proof.Machine.execSwapArm t p s
  | .swapTakeEffect t p => Sys2Proof.Machine.execSwapTakeEffect t p s
  | .timedWrite t q idx => Sys2Proof.Machine.execTimedWrite t q idx s
  | .timedCue t q idx => Sys2Proof.Machine.execTimedCue t q idx s
  | .timedRelease t n => Sys2Proof.Machine.execTimedRelease t n s
  | .timedFetchDone t n status poison data => Sys2Proof.Machine.execTimedFetchDone t n status poison data s
  | .timedLaunch t n => Sys2Proof.Machine.execTimedLaunch t n s
  | .cuePacket t p h data => Sys2Proof.Machine.execCuePacket t p h data s
  | .obsCounterClear t path p v => Sys2Proof.Machine.execObsCounterClear t path p v s
  | .queueSamplePoint t j => Sys2Proof.Machine.execQueueSamplePoint t j s
  | .sampleRingEnable t path v => Sys2Proof.Machine.execSampleRingEnable t path v s
  | .snapshotLocal t q idx => Sys2Proof.Machine.execSnapshotLocal t q idx s
  | .snapshotFabric t q idx => Sys2Proof.Machine.execSnapshotFabric t q idx s
  | .snapshotCapture t => Sys2Proof.Machine.execSnapshotCapture t s
  | .hello t k uid prio port flags depth => Sys2Proof.Machine.execHello t k uid prio port flags depth s
  | .adjacencyTimeout t k => Sys2Proof.Machine.execAdjacencyTimeout t k s
  | .claim t k prio uid dist flags => Sys2Proof.Machine.execClaim t k prio uid dist flags s
  | .timeClaim t k prio cls uid hops => Sys2Proof.Machine.execTimeClaim t k prio cls uid hops s
  | .rootEstablished t => Sys2Proof.Machine.execRootEstablished t s
  | .fabricMergeReset t => Sys2Proof.Machine.execFabricMergeReset t s
  | .joinSend t => Sys2Proof.Machine.execJoinSend t s
  | .join t k uid req dist => Sys2Proof.Machine.execJoin t k uid req dist s
  | .assign t k uid did seq => Sys2Proof.Machine.execAssign t k uid did seq s
  | .lsu t k origin seq nbr oport nport cost delay flags => Sys2Proof.Machine.execLsu t k origin seq nbr oport nport cost delay flags s
  | .epochInstall t => Sys2Proof.Machine.execEpochInstall t s
  | .rebalance t path v => Sys2Proof.Machine.execRebalance t path v s
  | .applyPending t path v => Sys2Proof.Machine.execApplyPending t path v s
  | .drainMarker t p h data => Sys2Proof.Machine.execDrainMarker t p h data s
  | .moveComplete t p h data => Sys2Proof.Machine.execMoveComplete t p h data s
  | .moveTimeout t n => Sys2Proof.Machine.execMoveTimeout t n s
  | .lossNotice t p h data => Sys2Proof.Machine.execLossNotice t p h data s
  | .domainClaim t k uid hd port flags => Sys2Proof.Machine.execDomainClaim t k uid hd port flags s
  | .domain t k hd did port flags claimant seq => Sys2Proof.Machine.execDomain t k hd did port flags claimant seq s
  | .barrierArrive t path v => Sys2Proof.Machine.execBarrierArrive t path v s
  | .broadcast t path v => Sys2Proof.Machine.execBroadcast t path v s
  | .fabricResetHerd t path v => Sys2Proof.Machine.execFabricResetHerd t path v s
  | .fabricResetDevice t path v => Sys2Proof.Machine.execFabricResetDevice t path v s
  | .globalUp t k op id count status value => Sys2Proof.Machine.execGlobalUp t k op id count status value s
  | .global t k op arg value tick => Sys2Proof.Machine.execGlobal t k op arg value tick s
  | .globalAction t => Sys2Proof.Machine.execGlobalAction t s
  | .routePinDid t q idx => Sys2Proof.Machine.execRoutePinDid t q idx s
  | .routeUnpinDid t q idx => Sys2Proof.Machine.execRouteUnpinDid t q idx s
  | .routePinHops t q idx => Sys2Proof.Machine.execRoutePinHops t q idx s
  | .routeUnpinHops t q idx => Sys2Proof.Machine.execRouteUnpinHops t q idx s
  | .routeRead t q idx => Sys2Proof.Machine.execRouteRead t q idx s
  | .adminPacket t p h data => Sys2Proof.Machine.execAdminPacket t p h data s
  | .fabricWrite t p h data => Sys2Proof.Machine.execFabricWrite t p h data s
  | .fabricRead t p h data => Sys2Proof.Machine.execFabricRead t p h data s
  | .completion t p h data => Sys2Proof.Machine.execCompletion t p h data s
  | .octModeWrite t path k v => Sys2Proof.Machine.execOctModeWrite t path k v s
  | .trainingBlock t k lane raw => Sys2Proof.Machine.execTrainingBlock t k lane raw s
  | .eqCountDone t k counts => Sys2Proof.Machine.execEqCountDone t k counts s
  | .bringupTimeout t k => Sys2Proof.Machine.execBringupTimeout t k s
  | .bringupRetry t k => Sys2Proof.Machine.execBringupRetry t k s
  | .clockLaneLoss t k => Sys2Proof.Machine.execClockLaneLoss t k s
  | .clockLaneRelock t k => Sys2Proof.Machine.execClockLaneRelock t k s
  | .dozeEntry t k => Sys2Proof.Machine.execDozeEntry t k s
  | .dozeExit t k => Sys2Proof.Machine.execDozeExit t k s
  | .dozeTimedWake t k => Sys2Proof.Machine.execDozeTimedWake t k s
  | .hibernateEnter t path k v => Sys2Proof.Machine.execHibernateEnter t path k v s
  | .hibernateExit t path k v => Sys2Proof.Machine.execHibernateExit t path k v s
  | .hibernateExitDone t k ok => Sys2Proof.Machine.execHibernateExitDone t k ok s
  | .prbsInject t path k ix v => Sys2Proof.Machine.execPrbsInject t path k ix v s
  | .prbsClear t path k ix v => Sys2Proof.Machine.execPrbsClear t path k ix v s
  | .flitReceive t k bytes => Sys2Proof.Machine.execFlitReceive t k bytes s
  | .nakRetry t k => Sys2Proof.Machine.execNakRetry t k s
  | .creditKeepalive t k => Sys2Proof.Machine.execCreditKeepalive t k s
  | .forceDown t path k v => Sys2Proof.Machine.execForceDown t path k v s
  | .partnerLost t k => Sys2Proof.Machine.execPartnerLost t k s
  | .linkChangeReq t path k v => Sys2Proof.Machine.execLinkChangeReq t path k v s
  | .drainTimeout t k => Sys2Proof.Machine.execDrainTimeout t k s
  | .linkChangeDone t k ok rate width => Sys2Proof.Machine.execLinkChangeDone t k ok rate width s
  | .pcieLinkUp t p rate width flit => Sys2Proof.Machine.execPcieLinkUp t p rate width flit s
  | .pcieDlDown t p hot => Sys2Proof.Machine.execPcieDlDown t p hot s
  | .configRequest t p tlp fields data => Sys2Proof.Machine.execConfigRequest t p tlp fields data s
  | .hierReady t path p v => Sys2Proof.Machine.execHierReady t path p v s
  | .retrainLink t hd dev => Sys2Proof.Machine.execRetrainLink t hd dev s
  | .linkDisable t hd dev on => Sys2Proof.Machine.execLinkDisable t hd dev on s
  | .secondaryBusReset t hd dev on => Sys2Proof.Machine.execSecondaryBusReset t hd dev on s
  | .dpcEntry t p kind bitNo => Sys2Proof.Machine.execDpcEntry t p kind bitNo s
  | .dpcSoftwareTrigger t hd dev => Sys2Proof.Machine.execDpcSoftwareTrigger t hd dev s
  | .dpcTrigger t path p v => Sys2Proof.Machine.execDpcTrigger t path p v s
  | .dpcRelease t path p v => Sys2Proof.Machine.execDpcRelease t path p v s
  | .dpcStatusClear t hd dev => Sys2Proof.Machine.execDpcStatusClear t hd dev s
  | .powerControllerControl t hd dev off => Sys2Proof.Machine.execPowerControllerControl t hd dev off s
  | .indicatorControl t hd dev attn c => Sys2Proof.Machine.execIndicatorControl t hd dev attn c s
  | .perstDeassert t p => Sys2Proof.Machine.execPerstDeassert t p s
  | .maskedWrite t p h data => Sys2Proof.Machine.execMaskedWrite t p h data s
  | .maskedRead t p h data => Sys2Proof.Machine.execMaskedRead t p h data s
  | .portWatch t p h data => Sys2Proof.Machine.execPortWatch t p h data s
  | .portState t p h data => Sys2Proof.Machine.execPortState t p h data s
  | .portStateRefresh t => Sys2Proof.Machine.execPortStateRefresh t s
  | .dpcReleaseMessage t p h data => Sys2Proof.Machine.execDpcReleaseMessage t p h data s
  | .pcieMsg t p h data => Sys2Proof.Machine.execPcieMsg t p h data s
  | .bridgeNpTimeout t tag => Sys2Proof.Machine.execBridgeNpTimeout t tag s
  | .timedWindowLaunch t n => Sys2Proof.Machine.execTimedWindowLaunch t n s
  | .prefetchFill t tag status poison data => Sys2Proof.Machine.execPrefetchFill t tag status poison data s
  | .prefetchLineExpire t => Sys2Proof.Machine.execPrefetchLineExpire t s
  | .interruptPacket t p h data => Sys2Proof.Machine.execInterruptPacket t p h data s
  | .cueSched t path v => Sys2Proof.Machine.execCueSched t path v s
  | .mirrorSend t => Sys2Proof.Machine.execMirrorSend t s
  | .mirrorPacket t p h data => Sys2Proof.Machine.execMirrorPacket t p h data s
  | .mirrorStale t w => Sys2Proof.Machine.execMirrorStale t w s
  | .mwBind t p h data => Sys2Proof.Machine.execMwBind t p h data s
  | .mwUnbind t p h data => Sys2Proof.Machine.execMwUnbind t p h data s
  | .mwPeriod t p h data => Sys2Proof.Machine.execMwPeriod t p h data s
  | .windowSet t q idx => Sys2Proof.Machine.execWindowSet t q idx s
  | .windowClear t q idx => Sys2Proof.Machine.execWindowClear t q idx s
  | .windowRead t q idx => Sys2Proof.Machine.execWindowRead t q idx s
  | .mirrorBind t q idx => Sys2Proof.Machine.execMirrorBind t q idx s
  | .mirrorUnbind t q idx => Sys2Proof.Machine.execMirrorUnbind t q idx s
  | .mirrorSampleSet t q idx => Sys2Proof.Machine.execMirrorSampleSet t q idx s
  | .qpEnable t f => Sys2Proof.Machine.execQpEnable t f s
  | .qpDisable t f => Sys2Proof.Machine.execQpDisable t f s
  | .qpDrainDone t q => Sys2Proof.Machine.execQpDrainDone t q s
  | .sqDoorbell t f l v => Sys2Proof.Machine.execSqDoorbell t f l v s
  | .cqDoorbell t f l v => Sys2Proof.Machine.execCqDoorbell t f l v s
  | .descriptorFetch t q status bytes => Sys2Proof.Machine.execDescriptorFetch t q status bytes s
  | .ringWrite t q idx => Sys2Proof.Machine.execRingWrite t q idx s
  | .ringRead t q idx => Sys2Proof.Machine.execRingRead t q idx s
  | .send t q idx => Sys2Proof.Machine.execSend t q idx s
  | .writeAckTimeout t tag => Sys2Proof.Machine.execWriteAckTimeout t tag s
  | .readTimeout t tag => Sys2Proof.Machine.execReadTimeout t tag s
  | .observerEvtSel t q idx => Sys2Proof.Machine.execObserverEvtSel t q idx s
  | .observerSample t q idx => Sys2Proof.Machine.execObserverSample t q idx s
  | .observerVfVis t q idx => Sys2Proof.Machine.execObserverVfVis t q idx s
  | .observerClear t q idx => Sys2Proof.Machine.execObserverClear t q idx s
  | .vfEnable t n => Sys2Proof.Machine.execVfEnable t n s
  | .vfEnableClear t n => Sys2Proof.Machine.execVfEnableClear t n s
  | .vfQps t q idx => Sys2Proof.Machine.execVfQps t q idx s
  | .vfVectors t q idx => Sys2Proof.Machine.execVfVectors t q idx s
  | .vfRegions t q idx => Sys2Proof.Machine.execVfRegions t q idx s
  | .vfMeter t q idx => Sys2Proof.Machine.execVfMeter t q idx s
  | .vfCoalesce t q idx => Sys2Proof.Machine.execVfCoalesce t q idx s
  | .dirtyStart t q idx => Sys2Proof.Machine.execDirtyStart t q idx s
  | .dirtySync t q idx => Sys2Proof.Machine.execDirtySync t q idx s
  | .dirtyStop t q idx => Sys2Proof.Machine.execDirtyStop t q idx s
  | .vfResourcesRead t q idx => Sys2Proof.Machine.execVfResourcesRead t q idx s
  | .dirtyMergeDone t v w write status host => Sys2Proof.Machine.execDirtyMergeDone t v w write status host s
  | .functionLevelReset t f => Sys2Proof.Machine.execFunctionLevelReset t f s
  | .vfReset t q idx => Sys2Proof.Machine.execVfReset t q idx s
  | .vfResetSquash t f => Sys2Proof.Machine.execVfResetSquash t f s
  | .vfResetComplete t f => Sys2Proof.Machine.execVfResetComplete t f s
  | .coreMemoryAccess t c x => Sys2Proof.Machine.execCoreMemoryAccess t c x s
  | .coreFabricLoad t c x => Sys2Proof.Machine.execCoreFabricLoad t c x s
  | .coreLoadTimeout t c => Sys2Proof.Machine.execCoreLoadTimeout t c s
  | .coreFabricStore t c x => Sys2Proof.Machine.execCoreFabricStore t c x s
  | .storeAckTimeout t c tag => Sys2Proof.Machine.execStoreAckTimeout t c tag s
  | .fenceCore t c => Sys2Proof.Machine.execFenceCore t c s
  | .fenceCluster t c => Sys2Proof.Machine.execFenceCluster t c s
  | .fenceSys t c => Sys2Proof.Machine.execFenceSys t c s
  | .appletLoad t q idx => Sys2Proof.Machine.execAppletLoad t q idx s
  | .appletStart t q idx => Sys2Proof.Machine.execAppletStart t q idx s
  | .appletStop t q idx => Sys2Proof.Machine.execAppletStop t q idx s
  | .appletUnload t q idx => Sys2Proof.Machine.execAppletUnload t q idx s
  | .appletRead t q idx => Sys2Proof.Machine.execAppletRead t q idx s
  | .appletHookReturn t k => Sys2Proof.Machine.execAppletHookReturn t k s
  | .watchdogKick t path c v => Sys2Proof.Machine.execWatchdogKick t path c v s
  | .watchdogTrip t c => Sys2Proof.Machine.execWatchdogTrip t c s
  | .freezeReleaseCore t q idx => Sys2Proof.Machine.execFreezeReleaseCore t q idx s
  | .freezeReleaseQp t q idx => Sys2Proof.Machine.execFreezeReleaseQp t q idx s
  | .freezeReleaseStream t q idx => Sys2Proof.Machine.execFreezeReleaseStream t q idx s
  | .freezeReleaseRegCore t path v => Sys2Proof.Machine.execFreezeReleaseRegCore t path v s
  | .freezeReleaseRegQp t path v => Sys2Proof.Machine.execFreezeReleaseRegQp t path v s
  | .freezeReleaseRegStream t path v => Sys2Proof.Machine.execFreezeReleaseRegStream t path v s
  | .mpuUpdateHold t path u v => Sys2Proof.Machine.execMpuUpdateHold t path u v s
  | .mpuHoldRelease t path u v => Sys2Proof.Machine.execMpuHoldRelease t path u v s
  | .coreRun t path v => Sys2Proof.Machine.execCoreRun t path v s
  | .scrubRead t => Sys2Proof.Machine.execScrubRead t s
  | .mergeDrain t w => Sys2Proof.Machine.execMergeDrain t w s
  | .eccWriteRaw t path v => Sys2Proof.Machine.execEccWriteRaw t path v s
  | .eccReadRaw t path v => Sys2Proof.Machine.execEccReadRaw t path v s
  | .eccTestRead t path v => Sys2Proof.Machine.execEccTestRead t path v s
  | .faultEvent t src subj => Sys2Proof.Machine.execFaultEvent t src subj s
  | .faultForce t path n v => Sys2Proof.Machine.execFaultForce t path n v s
  | .classifierWindowClose t n => Sys2Proof.Machine.execClassifierWindowClose t n s
  | .fswAcknowledge t path ix v => Sys2Proof.Machine.execFswAcknowledge t path ix v s
  | .faultNotice t k subject src flags reporters tick first => Sys2Proof.Machine.execFaultNotice t k subject src flags reporters tick first s
  | .containReleasePort t path v => Sys2Proof.Machine.execContainReleasePort t path v s
  | .containReleaseDomain t path v => Sys2Proof.Machine.execContainReleaseDomain t path v s
  | .powerOnReset => Sys2Proof.Machine.execPowerOnReset s
  | .resetNAssert => Sys2Proof.Machine.execResetNAssert s
  | .smbusReset t arg bad => Sys2Proof.Machine.execSmbusReset t arg bad s
  | .deviceReset t path v => Sys2Proof.Machine.execDeviceReset t path v s
  | .thermalTrip => Sys2Proof.Machine.execThermalTrip s
  | .thermalWarn => Sys2Proof.Machine.execThermalWarn s
  | .supplyFault n => Sys2Proof.Machine.execSupplyFault n s
  | .resetStretchEnd => Sys2Proof.Machine.execResetStretchEnd s
  | .resetRelease => Sys2Proof.Machine.execResetRelease s
  | .fuseLoadDone retried bad => Sys2Proof.Machine.execFuseLoadDone retried bad s
  | .sramInitDone bad => Sys2Proof.Machine.execSramInitDone bad s
  | .firmwareLoad a b => Sys2Proof.Machine.execFirmwareLoad a b s
  | .noFirmwareTimeout => Sys2Proof.Machine.execNoFirmwareTimeout s
  | .hostDomainReset t d => Sys2Proof.Machine.execHostDomainReset t d s
  | .hostDomainResetDone t d => Sys2Proof.Machine.execHostDomainResetDone t d s
  | .portReset t path v => Sys2Proof.Machine.execPortReset t path v s
  | .blockReset t path v => Sys2Proof.Machine.execBlockReset t path v s
  | .blockIdleAck t => Sys2Proof.Machine.execBlockIdleAck t s
  | .blockResetTimeout t => Sys2Proof.Machine.execBlockResetTimeout t s
  | .quietEntry t => Sys2Proof.Machine.execQuietEntry t s
  | .quietExit t => Sys2Proof.Machine.execQuietExit t s
  | .restArm t path v => Sys2Proof.Machine.execRestArm t path v s
  | .restEntry t => Sys2Proof.Machine.execRestEntry t s
  | .restWake t n arg => Sys2Proof.Machine.execRestWake t n arg s
  | .fuseProgram t path v => Sys2Proof.Machine.execFuseProgram t path v s
  | .fuseProgramDone t => Sys2Proof.Machine.execFuseProgramDone t s
  | .presenceQualified t n => Sys2Proof.Machine.execPresenceQualified t n s
  | .presenceLost t n => Sys2Proof.Machine.execPresenceLost t n s
  | .buttonPress t n => Sys2Proof.Machine.execButtonPress t n s
  | .insertDelayExpire t n => Sys2Proof.Machine.execInsertDelayExpire t n s
  | .prechargeDone t n => Sys2Proof.Machine.execPrechargeDone t n s
  | .outputGood t n => Sys2Proof.Machine.execOutputGood t n s
  | .gateRiseOk t n => Sys2Proof.Machine.execGateRiseOk t n s
  | .gateFail t n => Sys2Proof.Machine.execGateFail t n s
  | .faultTimerTrip t n => Sys2Proof.Machine.execFaultTimerTrip t n s
  | .fastTrip t n => Sys2Proof.Machine.execFastTrip t n s
  | .startTimerTrip t n => Sys2Proof.Machine.execStartTimerTrip t n s
  | .prechargeTimeout t n => Sys2Proof.Machine.execPrechargeTimeout t n s
  | .retryDelayExpire t n => Sys2Proof.Machine.execRetryDelayExpire t n s
  | .onTimerExpire t n => Sys2Proof.Machine.execOnTimerExpire t n s
  | .bankWindowExit t b => Sys2Proof.Machine.execBankWindowExit t b s
  | .bankWindowReturn t b => Sys2Proof.Machine.execBankWindowReturn t b s
  | .pfailAssert t b => Sys2Proof.Machine.execPfailAssert t b s
  | .pfailRelease t b => Sys2Proof.Machine.execPfailRelease t b s
  | .fetShort t n => Sys2Proof.Machine.execFetShort t n s
  | .clearLock t path n v => Sys2Proof.Machine.execClearLock t path n v s
  | .ibexLinkDown t => Sys2Proof.Machine.execIbexLinkDown t s
  | .ibexLinkRestore t => Sys2Proof.Machine.execIbexLinkRestore t s
  | .smbusRegWrite t off v bad => Sys2Proof.Machine.execSmbusRegWrite t off v bad s
  | .smbusRegRead t off bad => Sys2Proof.Machine.execSmbusRegRead t off bad s
  | .smbusStatus t bad => Sys2Proof.Machine.execSmbusStatus t bad s
  | .tblRead t path => Sys2Proof.Machine.execTblRead t path s
  | .tblWrite t path => Sys2Proof.Machine.execTblWrite t path s
  | .debugWindowWrite t path off v => Sys2Proof.Machine.execDebugWindowWrite t path off v s
  | .receiverDetection t k => Sys2Proof.Machine.execReceiverDetection t k s
  | .prbsCheckerLock t k ix => Sys2Proof.Machine.execPrbsCheckerLock t k ix s
  | .prbsCheckerLockLoss t k ix nbits errs => Sys2Proof.Machine.execPrbsCheckerLockLoss t k ix nbits errs s
  | .hostReadCompletion t q idx status poison data => Sys2Proof.Machine.execHostReadCompletion t q idx status poison data s
  | .issuedRequestTimeout t n => Sys2Proof.Machine.execIssuedRequestTimeout t n s
  | .coreCounterOverflow t c ix => Sys2Proof.Machine.execCoreCounterOverflow t c ix s
  | .porRelease => Sys2Proof.Machine.execPorRelease s
  | .thermalTripEnd => Sys2Proof.Machine.execThermalTripEnd s
  | .supplyWindowReturn n => Sys2Proof.Machine.execSupplyWindowReturn n s
  | .thermalWarnRearm => Sys2Proof.Machine.execThermalWarnRearm s
  | .tickInLoss t => Sys2Proof.Machine.execTickInLoss t s
  | .tickOutPulseEnd t => Sys2Proof.Machine.execTickOutPulseEnd t s
  | .indicatorBlink t => Sys2Proof.Machine.execIndicatorBlink t s
  | .buttonRelease t n => Sys2Proof.Machine.execButtonRelease t n s
  | .currentLimitEnter t n => Sys2Proof.Machine.execCurrentLimitEnter t n s
  | .currentLimitExit t n => Sys2Proof.Machine.execCurrentLimitExit t n s
  | .linkPowerStateChange t p st width => Sys2Proof.Machine.execLinkPowerStateChange t p st width s

end Sys2Proof.Machine
end

