-- ==== Sys2Proof/Safety.lean ====
section
/-! DEFINITION. What counts as a safe step, and what every step leaves in order: no event that a block raised waits for
the collector (R539), and FAULT_PIN_STATUS says what holds FAULT_N (R556). -/

namespace Sys2Proof.Safety
open Machine

/-- The collector is at rest: it has taken every event, and the pin's status agrees with the pin. -/
def atRest (s : State) : Bool := s.raised.isEmpty && s.pinStill

/-- The links may act: the load has completed, and the device is neither halted nor in Rest (R553, R596). -/
def linksUp (s : State) : Bool := s.loadedUp && !s.on FAULT_STATUS_HALTED && s.rd PWR_STATUS_STATE != pwREST

/-- An access of path `path` to offset `off` reaches the setup space now. -/
def opens (s : State) (path off : Nat) : Bool := s.pathOpen path off && reaches path off

/-- A write of `v` to an element of register `d` over a path reaches the register and places no reserved encoding (R8). -/
def takes (s : State) (path : Nat) (d : RegDesc) (i j v : Nat) : Bool :=
  opens s path (d.addr i j) && !d.reserved v && !s.absent d.off i

/-- Descriptor `d` has started on ring `q` at submission index `idx`, and its outcome is not yet known. -/
def ready (s : State) (q idx : Nat) (d : Desc) : Bool :=
  (s.qp q).desc idx == some d && d.started && d.outcome.isNone

/-- A step that answers a next state. -/
def runs (s : State) : Bool :=
  match step s with
  | .next _ => true
  | .fault _ => false
  | .refused _ => false

end Sys2Proof.Safety
end

