-- ==== Sys2Proof/WellFormed.lean ====
section
/-! DEFINITION. Which commands are well formed: each operand within the range that the spec gives what it names.
A command outside these ranges is nothing a sender can give (log entry 1). -/

namespace Sys2Proof
open Machine

/-- A number below its end. -/
def below (n x : Nat) : Bool := decide (x < n)

/-- Cell time and tick numbers have 64 bits (R28, R29). -/
def timeEnd : Nat := 2 ^ 64
/-- A register word (R5). -/
def wordEnd : Nat := 2 ^ 32
/-- QPs (R13). -/
def qpEnd : Nat := 16384
/-- Submission indices of a ring (R425). -/
def indexEnd : Nat := 4096
/-- Octets (R17). -/
def octetEnd : Nat := 24
/-- Ports (R17). -/
def portEnd : Nat := 96
/-- Chamois cores (R13). -/
def coreEnd : Nat := 8
/-- Host domains (R13). -/
def domainEnd : Nat := 1024
/-- Unique identifiers (R241). -/
def uidEnd : Nat := 2 ^ 64
/-- Devices of a fabric (R13). -/
def didEnd : Nat := 4096
/-- Entries of the launch table (R194). -/
def launchEnd : Nat := 4096
/-- Queues (R13). -/
def queueEnd : Nat := 65536
/-- Slot power channels (R13). -/
def channelEnd : Nat := 24

/-- A path to the setup space: 0 the anchor PF BAR0, 1 ADMIN, 2 SMBus, 3 JTAG, 4 + c core c, 16 + n upstream port n,
0x1000 + f the page of function f. -/
def pathOk (p : Nat) : Bool :=
  below 12 p || (decide (16 ≤ p) && below 48 p) || (decide (4096 ≤ p) && below (4096 + 2080) p)

/-- A function: VF 0 to 2047, or 2048 + n for PF n (R453). -/
def fnOk (f : Nat) : Bool := below 2080 f

/-- An offset of a register word in the setup space. -/
def offsetOk (o : Nat) : Bool := below (2 ^ 32) o && o % 4 == 0

/-- A list of bytes. -/
def bytesOk (l : List Nat) : Bool := l.all (below 256)

/-- A list of fuse rows (R575). -/
def rowsOk (l : List Nat) : Bool := l.all (below 512)

/-- A list of words by ECC group (R524). -/
def wordsOk (l : List (Nat × Nat)) : Bool := l.all (fun e => below 16 e.1)

/-- A fabric header whose fields have the widths of R233. -/
def headerOk (h : FabHdr) : Bool := FabHdr.ofNat h.toNat == h

/-- A TLP whose fields have the widths that the PCI Express specification gives them. -/
def tlpOk (x : Tlp) : Bool :=
  below 65536 x.req && below 65536 x.cplr && below 16384 x.tag && below 8 x.tc && below (2 ^ 64) x.addr && below 1025 x.dw
    && below 16 x.fbe && below 16 x.lbe && below 4 x.addrType && below 8 x.status && below 8192 x.byteCount && below 256 x.msgCode

/-- A core access of 1 to 8 bytes at an address, with that many bytes of data. -/
def coreAccOk (x : CoreAcc) : Bool := below 4 x.mode && below (2 ^ 64) x.addr && below 9 x.n && bytesOk x.data

/-- The check of a command. -/
def Instr.wf : Instr → Bool
  | .registerWrite t path off v => below timeEnd t && pathOk path && offsetOk off && below wordEnd v
  | .lowWordRead t path off => below timeEnd t && pathOk path && offsetOk off
  | .highWordWrite t path off v => below timeEnd t && pathOk path && offsetOk off && below wordEnd v
  | .tickEdge mask cues => below 16 mask && below (2 ^ 48) cues
  | .tickChangeAtWrite t path v => below timeEnd t && pathOk path && below timeEnd v
  | .periodChangeEdge t => below timeEnd t
  | .acquiringInterval t => below timeEnd t
  | .cellrefLoss t => below timeEnd t
  | .cellrefReturn t => below timeEnd t
  | .timeEnableWrite t path v => below timeEnd t && pathOk path && below wordEnd v
  | .cellTimeLoad t path _ v => below timeEnd t && pathOk path && below timeEnd v
  | .stepNow t path v => below timeEnd t && pathOk path && below wordEnd v
  | .tickInEdge t => below timeEnd t
  | .tickMark t k _ => below (timeEnd * 65536) t && below octetEnd k
  | .timeSlotSend t k => below timeEnd t && below octetEnd k
  | .sourceLoss t k cause => below timeEnd t && below octetEnd k && below 3 cause
  | .candidateValid t k _ n => below timeEnd t && below octetEnd k && below timeEnd n
  | .slewLocked t => below timeEnd t
  | .ptmRequester t n host => below timeEnd t && below 32 n && below timeEnd host
  | .ptmRequest t p => below timeEnd t && below portEnd p
  | .cueEdgeDue t pin => below timeEnd t && below 48 pin
  | .packetParse t p h tlp => below timeEnd t && below portEnd p && headerOk h && tlpOk tlp
  | .specRecordGrant t _ => below timeEnd t
  | .lookupSlotGrant t _ => below timeEnd t
  | .headroomReserve t _ => below timeEnd t
  | .packetCommit t _ _ _ data => below timeEnd t && bytesOk data
  | .captureArm t path v => below timeEnd t && pathOk path && below wordEnd v
  | .sessionEnable t path n v => below timeEnd t && pathOk path && below 8 n && below wordEnd v
  | .flowSetAdd t q idx => below timeEnd t && below qpEnd q && below indexEnd idx
  | .flowSetReplace t q idx => below timeEnd t && below qpEnd q && below indexEnd idx
  | .flowSetDelete t q idx => below timeEnd t && below qpEnd q && below indexEnd idx
  | .flowSetRead t q idx => below timeEnd t && below qpEnd q && below indexEnd idx
  | .spillWriteDone t q => below timeEnd t && below queueEnd q
  | .refillStart t q => below timeEnd t && below queueEnd q
  | .refillComplete t q ch result => below timeEnd t && below queueEnd q && below 8 ch && below 5 result
  | .mr4Poll t hot => below timeEnd t && below 256 hot
  | .dramSelfRefresh t => below timeEnd t
  | .dramTrainingDone t fail => below timeEnd t && below 256 fail
  | .dramInit t path v => below timeEnd t && pathOk path && below wordEnd v
  | .dramCfgWrite t path v => below timeEnd t && pathOk path && below wordEnd v
  | .meterBind t q idx => below timeEnd t && below qpEnd q && below indexEnd idx
  | .meterProfile t q idx => below timeEnd t && below qpEnd q && below indexEnd idx
  | .meterRead t q idx => below timeEnd t && below qpEnd q && below indexEnd idx
  | .meterProfileRead t q idx => below timeEnd t && below qpEnd q && below indexEnd idx
  | .shaperSet t q idx => below timeEnd t && below qpEnd q && below indexEnd idx
  | .shaperRead t q idx => below timeEnd t && below qpEnd q && below indexEnd idx
  | .queueMapMap t q idx => below timeEnd t && below qpEnd q && below indexEnd idx
  | .queueMapUnmap t q idx => below timeEnd t && below qpEnd q && below indexEnd idx
  | .queueMapRead t q idx => below timeEnd t && below qpEnd q && below indexEnd idx
  | .adaptBoundsShaped t q idx => below timeEnd t && below qpEnd q && below indexEnd idx
  | .adaptBoundsBulk t q idx => below timeEnd t && below qpEnd q && below indexEnd idx
  | .adaptBoundsDelete t q idx => below timeEnd t && below qpEnd q && below indexEnd idx
  | .egressSlot t p kind types => below timeEnd t && below portEnd p && below 4 kind && below 8 types
  | .gateEntryStart t p => below timeEnd t && below portEnd p
  | .gateListLoad t q idx => below timeEnd t && below qpEnd q && below indexEnd idx
  | .gateListRead t q idx => below timeEnd t && below qpEnd q && below indexEnd idx
  | .gateListFetchDone t q idx status _ data =>
      below timeEnd t && below qpEnd q && below indexEnd idx && below 8 status && bytesOk data
  | .gateSwap t q idx => below timeEnd t && below qpEnd q && below indexEnd idx
  | .swapArm t p => below timeEnd t && below portEnd p
  | .swapTakeEffect t p => below timeEnd t && below portEnd p
  | .timedWrite t q idx => below timeEnd t && below qpEnd q && below indexEnd idx
  | .timedCue t q idx => below timeEnd t && below qpEnd q && below indexEnd idx
  | .timedRelease t n => below timeEnd t && below launchEnd n
  | .timedFetchDone t n status _ data => below timeEnd t && below launchEnd n && below 8 status && bytesOk data
  | .timedLaunch t n => below timeEnd t && below launchEnd n
  | .cuePacket t p h data => below timeEnd t && below portEnd p && headerOk h && bytesOk data
  | .obsCounterClear t path p v => below timeEnd t && pathOk path && below portEnd p && below wordEnd v
  | .queueSamplePoint t j => below timeEnd t && below 1024 j
  | .sampleRingEnable t path v => below timeEnd t && pathOk path && below wordEnd v
  | .snapshotLocal t q idx => below timeEnd t && below qpEnd q && below indexEnd idx
  | .snapshotFabric t q idx => below timeEnd t && below qpEnd q && below indexEnd idx
  | .snapshotCapture t => below timeEnd t
  | .hello t k uid prio port flags depth =>
      below timeEnd t && below octetEnd k && below uidEnd uid && below 256 prio && below 256 port
        && below 256 flags && below 65536 depth
  | .adjacencyTimeout t k => below timeEnd t && below octetEnd k
  | .claim t k prio uid dist flags =>
      below timeEnd t && below octetEnd k && below 256 prio && below uidEnd uid && below 65536 dist && below 256 flags
  | .timeClaim t k prio cls uid hops =>
      below timeEnd t && below octetEnd k && below 256 prio && below 256 cls && below uidEnd uid && below 256 hops
  | .rootEstablished t => below timeEnd t
  | .fabricMergeReset t => below timeEnd t
  | .joinSend t => below timeEnd t
  | .join t k uid req dist =>
      below timeEnd t && below octetEnd k && below uidEnd uid && below 65536 req && below 65536 dist
  | .assign t k uid did seq =>
      below timeEnd t && below octetEnd k && below uidEnd uid && below didEnd did && below 65536 seq
  | .lsu t k origin seq nbr oport nport cost delay flags =>
      below timeEnd t && below octetEnd k && below didEnd origin && below 65536 seq && below didEnd nbr
        && below 256 oport && below 256 nport && below 256 cost && below 65536 delay && below 256 flags
  | .epochInstall t => below timeEnd t
  | .rebalance t path v => below timeEnd t && pathOk path && below wordEnd v
  | .applyPending t path v => below timeEnd t && pathOk path && below wordEnd v
  | .drainMarker t p h data => below timeEnd t && below portEnd p && headerOk h && bytesOk data
  | .moveComplete t p h data => below timeEnd t && below portEnd p && headerOk h && bytesOk data
  | .moveTimeout t n => below timeEnd t && below 64 n
  | .lossNotice t p h data => below timeEnd t && below portEnd p && headerOk h && bytesOk data
  | .domainClaim t k uid hd port flags =>
      below timeEnd t && below octetEnd k && below uidEnd uid && below domainEnd hd && below 256 port
        && below 256 flags
  | .domain t k hd did port flags claimant seq =>
      below timeEnd t && below octetEnd k && below domainEnd hd && below didEnd did && below 256 port
        && below 256 flags && below didEnd claimant && below 65536 seq
  | .barrierArrive t path v => below timeEnd t && pathOk path && below wordEnd v
  | .broadcast t path v => below timeEnd t && pathOk path && below wordEnd v
  | .fabricResetHerd t path v => below timeEnd t && pathOk path && below wordEnd v
  | .fabricResetDevice t path v => below timeEnd t && pathOk path && below wordEnd v
  | .globalUp t k op _ count status value =>
      below timeEnd t && below octetEnd k && below 256 op && below 65536 count && below 8 status
        && below timeEnd value
  | .global t k op arg value tick =>
      below timeEnd t && below octetEnd k && below 256 op && below wordEnd arg && below timeEnd value
        && below timeEnd tick
  | .globalAction t => below timeEnd t
  | .routePinDid t q idx => below timeEnd t && below qpEnd q && below indexEnd idx
  | .routeUnpinDid t q idx => below timeEnd t && below qpEnd q && below indexEnd idx
  | .routePinHops t q idx => below timeEnd t && below qpEnd q && below indexEnd idx
  | .routeUnpinHops t q idx => below timeEnd t && below qpEnd q && below indexEnd idx
  | .routeRead t q idx => below timeEnd t && below qpEnd q && below indexEnd idx
  | .adminPacket t p h data => below timeEnd t && below portEnd p && headerOk h && bytesOk data
  | .fabricWrite t p h data => below timeEnd t && below portEnd p && headerOk h && bytesOk data
  | .fabricRead t p h data => below timeEnd t && below portEnd p && headerOk h && bytesOk data
  | .completion t p h data => below timeEnd t && below portEnd p && headerOk h && bytesOk data
  | .octModeWrite t path k v => below timeEnd t && pathOk path && below octetEnd k && below wordEnd v
  | .trainingBlock t k lane raw => below timeEnd t && below octetEnd k && below 16 lane && bytesOk raw
  | .eqCountDone t k counts => below timeEnd t && below octetEnd k && counts.all (fun e => below 16 e.1)
  | .bringupTimeout t k => below timeEnd t && below octetEnd k
  | .bringupRetry t k => below timeEnd t && below octetEnd k
  | .clockLaneLoss t k => below timeEnd t && below octetEnd k
  | .clockLaneRelock t k => below timeEnd t && below octetEnd k
  | .dozeEntry t k => below timeEnd t && below octetEnd k
  | .dozeExit t k => below timeEnd t && below octetEnd k
  | .dozeTimedWake t k => below timeEnd t && below octetEnd k
  | .hibernateEnter t path k v => below timeEnd t && pathOk path && below octetEnd k && below wordEnd v
  | .hibernateExit t path k v => below timeEnd t && pathOk path && below octetEnd k && below wordEnd v
  | .hibernateExitDone t k _ => below timeEnd t && below octetEnd k
  | .prbsInject t path k i v => below timeEnd t && pathOk path && below octetEnd k && below 8 i && below wordEnd v
  | .prbsClear t path k i v => below timeEnd t && pathOk path && below octetEnd k && below 8 i && below wordEnd v
  | .flitReceive t k bytes => below (timeEnd * 65536) t && below octetEnd k && bytesOk bytes
  | .nakRetry t k => below timeEnd t && below octetEnd k
  | .creditKeepalive t k => below timeEnd t && below octetEnd k
  | .forceDown t path k v => below timeEnd t && pathOk path && below octetEnd k && below wordEnd v
  | .partnerLost t k => below timeEnd t && below octetEnd k
  | .linkChangeReq t path k v => below timeEnd t && pathOk path && below octetEnd k && below wordEnd v
  | .drainTimeout t k => below timeEnd t && below octetEnd k
  | .linkChangeDone t k _ rate width => below timeEnd t && below octetEnd k && below 8 rate && below 17 width
  | .pcieLinkUp t p rate width _ => below timeEnd t && below portEnd p && below 8 rate && below 17 width
  | .pcieDlDown t p _ => below timeEnd t && below portEnd p
  | .configRequest t p tlp _ data => below timeEnd t && below portEnd p && tlpOk tlp && bytesOk data
  | .hierReady t path p v => below timeEnd t && pathOk path && below portEnd p && below wordEnd v
  | .retrainLink t hd dev => below timeEnd t && below domainEnd hd && below 32 dev
  | .linkDisable t hd dev _ => below timeEnd t && below domainEnd hd && below 32 dev
  | .secondaryBusReset t hd dev _ => below timeEnd t && below domainEnd hd && below 32 dev
  | .dpcEntry t p kind bitNo => below timeEnd t && below portEnd p && below 3 kind && below 32 bitNo
  | .dpcSoftwareTrigger t hd dev => below timeEnd t && below domainEnd hd && below 32 dev
  | .dpcTrigger t path p v => below timeEnd t && pathOk path && below portEnd p && below wordEnd v
  | .dpcRelease t path p v => below timeEnd t && pathOk path && below portEnd p && below wordEnd v
  | .dpcStatusClear t hd dev => below timeEnd t && below domainEnd hd && below 32 dev
  | .powerControllerControl t hd dev _ => below timeEnd t && below domainEnd hd && below 32 dev
  | .indicatorControl t hd dev _ c => below timeEnd t && below domainEnd hd && below 32 dev && below 4 c
  | .perstDeassert t p => below timeEnd t && below portEnd p
  | .maskedWrite t p h data => below timeEnd t && below portEnd p && headerOk h && bytesOk data
  | .maskedRead t p h data => below timeEnd t && below portEnd p && headerOk h && bytesOk data
  | .portWatch t p h data => below timeEnd t && below portEnd p && headerOk h && bytesOk data
  | .portState t p h data => below timeEnd t && below portEnd p && headerOk h && bytesOk data
  | .portStateRefresh t => below timeEnd t
  | .dpcReleaseMessage t p h data => below timeEnd t && below portEnd p && headerOk h && bytesOk data
  | .pcieMsg t p h data => below timeEnd t && below portEnd p && headerOk h && bytesOk data
  | .bridgeNpTimeout t tag => below timeEnd t && below 65536 tag
  | .timedWindowLaunch t n => below timeEnd t && below launchEnd n
  | .prefetchFill t tag status _ data => below timeEnd t && below 65536 tag && below 8 status && bytesOk data
  | .prefetchLineExpire t => below timeEnd t
  | .interruptPacket t p h data => below timeEnd t && below portEnd p && headerOk h && bytesOk data
  | .cueSched t path v => below timeEnd t && pathOk path && below wordEnd v
  | .mirrorSend t => below timeEnd t
  | .mirrorPacket t p h data => below timeEnd t && below portEnd p && headerOk h && bytesOk data
  | .mirrorStale t w => below timeEnd t && below 4096 w
  | .mwBind t p h data => below timeEnd t && below portEnd p && headerOk h && bytesOk data
  | .mwUnbind t p h data => below timeEnd t && below portEnd p && headerOk h && bytesOk data
  | .mwPeriod t p h data => below timeEnd t && below portEnd p && headerOk h && bytesOk data
  | .windowSet t q idx => below timeEnd t && below qpEnd q && below indexEnd idx
  | .windowClear t q idx => below timeEnd t && below qpEnd q && below indexEnd idx
  | .windowRead t q idx => below timeEnd t && below qpEnd q && below indexEnd idx
  | .mirrorBind t q idx => below timeEnd t && below qpEnd q && below indexEnd idx
  | .mirrorUnbind t q idx => below timeEnd t && below qpEnd q && below indexEnd idx
  | .mirrorSampleSet t q idx => below timeEnd t && below qpEnd q && below indexEnd idx
  | .qpEnable t f => below timeEnd t && fnOk f
  | .qpDisable t f => below timeEnd t && fnOk f
  | .qpDrainDone t q => below timeEnd t && below qpEnd q
  | .sqDoorbell t f l v => below timeEnd t && fnOk f && below qpEnd l && below wordEnd v
  | .cqDoorbell t f l v => below timeEnd t && fnOk f && below qpEnd l && below wordEnd v
  | .descriptorFetch t q status bytes => below timeEnd t && below qpEnd q && below 8 status && bytesOk bytes
  | .ringWrite t q idx => below timeEnd t && below qpEnd q && below indexEnd idx
  | .ringRead t q idx => below timeEnd t && below qpEnd q && below indexEnd idx
  | .send t q idx => below timeEnd t && below qpEnd q && below indexEnd idx
  | .writeAckTimeout t tag => below timeEnd t && below 65536 tag
  | .readTimeout t tag => below timeEnd t && below 65536 tag
  | .observerEvtSel t q idx => below timeEnd t && below qpEnd q && below indexEnd idx
  | .observerSample t q idx => below timeEnd t && below qpEnd q && below indexEnd idx
  | .observerVfVis t q idx => below timeEnd t && below qpEnd q && below indexEnd idx
  | .observerClear t q idx => below timeEnd t && below qpEnd q && below indexEnd idx
  | .vfEnable t n => below timeEnd t && below 32 n
  | .vfEnableClear t n => below timeEnd t && below 32 n
  | .vfQps t q idx => below timeEnd t && below qpEnd q && below indexEnd idx
  | .vfVectors t q idx => below timeEnd t && below qpEnd q && below indexEnd idx
  | .vfRegions t q idx => below timeEnd t && below qpEnd q && below indexEnd idx
  | .vfMeter t q idx => below timeEnd t && below qpEnd q && below indexEnd idx
  | .vfCoalesce t q idx => below timeEnd t && below qpEnd q && below indexEnd idx
  | .dirtyStart t q idx => below timeEnd t && below qpEnd q && below indexEnd idx
  | .dirtySync t q idx => below timeEnd t && below qpEnd q && below indexEnd idx
  | .dirtyStop t q idx => below timeEnd t && below qpEnd q && below indexEnd idx
  | .vfResourcesRead t q idx => below timeEnd t && below qpEnd q && below indexEnd idx
  | .dirtyMergeDone t v w _ status host =>
      below timeEnd t && below 2048 v && below wordEnd w && below 8 status && below timeEnd host
  | .functionLevelReset t f => below timeEnd t && fnOk f
  | .vfReset t q idx => below timeEnd t && below qpEnd q && below indexEnd idx
  | .vfResetSquash t f => below timeEnd t && fnOk f
  | .vfResetComplete t f => below timeEnd t && fnOk f
  | .coreMemoryAccess t c x => below timeEnd t && below coreEnd c && coreAccOk x
  | .coreFabricLoad t c x => below timeEnd t && below coreEnd c && coreAccOk x
  | .coreLoadTimeout t c => below timeEnd t && below coreEnd c
  | .coreFabricStore t c x => below timeEnd t && below coreEnd c && coreAccOk x
  | .storeAckTimeout t c tag => below timeEnd t && below coreEnd c && below 65536 tag
  | .fenceCore t c => below timeEnd t && below coreEnd c
  | .fenceCluster t c => below timeEnd t && below coreEnd c
  | .fenceSys t c => below timeEnd t && below coreEnd c
  | .appletLoad t q idx => below timeEnd t && below qpEnd q && below indexEnd idx
  | .appletStart t q idx => below timeEnd t && below qpEnd q && below indexEnd idx
  | .appletStop t q idx => below timeEnd t && below qpEnd q && below indexEnd idx
  | .appletUnload t q idx => below timeEnd t && below qpEnd q && below indexEnd idx
  | .appletRead t q idx => below timeEnd t && below qpEnd q && below indexEnd idx
  | .appletHookReturn t k => below timeEnd t && below 6 k
  | .watchdogKick t path c v => below timeEnd t && pathOk path && below coreEnd c && below wordEnd v
  | .watchdogTrip t c => below timeEnd t && below coreEnd c
  | .freezeReleaseCore t q idx => below timeEnd t && below qpEnd q && below indexEnd idx
  | .freezeReleaseQp t q idx => below timeEnd t && below qpEnd q && below indexEnd idx
  | .freezeReleaseStream t q idx => below timeEnd t && below qpEnd q && below indexEnd idx
  | .freezeReleaseRegCore t path v => below timeEnd t && pathOk path && below wordEnd v
  | .freezeReleaseRegQp t path v => below timeEnd t && pathOk path && below wordEnd v
  | .freezeReleaseRegStream t path v => below timeEnd t && pathOk path && below wordEnd v
  | .mpuUpdateHold t path u v => below timeEnd t && pathOk path && below 9 u && below wordEnd v
  | .mpuHoldRelease t path u v => below timeEnd t && pathOk path && below 9 u && below wordEnd v
  | .coreRun t path v => below timeEnd t && pathOk path && below wordEnd v
  | .scrubRead t => below timeEnd t
  | .mergeDrain t w => below timeEnd t && below wordEnd w
  | .eccWriteRaw t path v => below timeEnd t && pathOk path && below wordEnd v
  | .eccReadRaw t path v => below timeEnd t && pathOk path && below wordEnd v
  | .eccTestRead t path v => below timeEnd t && pathOk path && below wordEnd v
  | .faultEvent t src _ => below timeEnd t && below 256 src
  | .faultForce t path n v => below timeEnd t && pathOk path && below 256 n && below wordEnd v
  | .classifierWindowClose t n => below timeEnd t && below 256 n
  | .fswAcknowledge t path i v => below timeEnd t && pathOk path && below 8 i && below wordEnd v
  | .faultNotice t k subject src flags reporters tick first =>
      below timeEnd t && below octetEnd k && below didEnd subject && below 256 src && below 256 flags
        && below 256 reporters && below wordEnd tick && below wordEnd first
  | .containReleasePort t path v => below timeEnd t && pathOk path && below wordEnd v
  | .containReleaseDomain t path v => below timeEnd t && pathOk path && below wordEnd v
  | .powerOnReset => true
  | .resetNAssert => true
  | .smbusReset t arg _ => below timeEnd t && below 256 arg
  | .deviceReset t path v => below timeEnd t && pathOk path && below wordEnd v
  | .thermalTrip => true
  | .thermalWarn => true
  | .supplyFault n => below 8 n
  | .resetStretchEnd => true
  | .resetRelease => true
  | .fuseLoadDone retried bad => rowsOk retried && rowsOk bad
  | .sramInitDone bad => wordsOk bad
  | .firmwareLoad a b => bytesOk a && bytesOk b
  | .noFirmwareTimeout => true
  | .hostDomainReset t d => below timeEnd t && below domainEnd d
  | .hostDomainResetDone t d => below timeEnd t && below domainEnd d
  | .portReset t path v => below timeEnd t && pathOk path && below wordEnd v
  | .blockReset t path v => below timeEnd t && pathOk path && below wordEnd v
  | .blockIdleAck t => below timeEnd t
  | .blockResetTimeout t => below timeEnd t
  | .quietEntry t => below timeEnd t
  | .quietExit t => below timeEnd t
  | .restArm t path v => below timeEnd t && pathOk path && below wordEnd v
  | .restEntry t => below timeEnd t
  | .restWake t n arg => below timeEnd t && below 5 n && below 64 arg
  | .fuseProgram t path v => below timeEnd t && pathOk path && below wordEnd v
  | .fuseProgramDone t => below timeEnd t
  | .presenceQualified t n => below timeEnd t && below channelEnd n
  | .presenceLost t n => below timeEnd t && below channelEnd n
  | .buttonPress t n => below timeEnd t && below channelEnd n
  | .insertDelayExpire t n => below timeEnd t && below channelEnd n
  | .prechargeDone t n => below timeEnd t && below channelEnd n
  | .outputGood t n => below timeEnd t && below channelEnd n
  | .gateRiseOk t n => below timeEnd t && below channelEnd n
  | .gateFail t n => below timeEnd t && below channelEnd n
  | .faultTimerTrip t n => below timeEnd t && below channelEnd n
  | .fastTrip t n => below timeEnd t && below channelEnd n
  | .startTimerTrip t n => below timeEnd t && below channelEnd n
  | .prechargeTimeout t n => below timeEnd t && below channelEnd n
  | .retryDelayExpire t n => below timeEnd t && below channelEnd n
  | .onTimerExpire t n => below timeEnd t && below channelEnd n
  | .bankWindowExit t b => below timeEnd t && below 2 b
  | .bankWindowReturn t b => below timeEnd t && below 2 b
  | .pfailAssert t b => below timeEnd t && below 2 b
  | .pfailRelease t b => below timeEnd t && below 2 b
  | .fetShort t n => below timeEnd t && below channelEnd n
  | .clearLock t path n v => below timeEnd t && pathOk path && below channelEnd n && below wordEnd v
  | .ibexLinkDown t => below timeEnd t
  | .ibexLinkRestore t => below timeEnd t
  | .smbusRegWrite t off v _ => below timeEnd t && offsetOk off && below wordEnd v
  | .smbusRegRead t off _ => below timeEnd t && offsetOk off
  | .smbusStatus t _ => below timeEnd t
  | .tblRead t path => below timeEnd t && pathOk path
  | .tblWrite t path => below timeEnd t && pathOk path
  | .debugWindowWrite t path off v => below timeEnd t && pathOk path && offsetOk off && below wordEnd v
  | .receiverDetection t k => below timeEnd t && below octetEnd k
  | .prbsCheckerLock t k i => below timeEnd t && below octetEnd k && below 8 i
  | .prbsCheckerLockLoss t k i _ _ => below timeEnd t && below octetEnd k && below 8 i
  | .hostReadCompletion t q idx status _ data =>
      below timeEnd t && below qpEnd q && below indexEnd idx && below 8 status && bytesOk data
  | .issuedRequestTimeout t n => below timeEnd t && below 32768 n
  | .coreCounterOverflow t c i => below timeEnd t && below coreEnd c && below 9 i
  | .porRelease => true
  | .thermalTripEnd => true
  | .supplyWindowReturn n => below 8 n
  | .thermalWarnRearm => true
  | .tickInLoss t => below timeEnd t
  | .tickOutPulseEnd t => below timeEnd t
  | .indicatorBlink t => below timeEnd t
  | .buttonRelease t n => below timeEnd t && below channelEnd n
  | .currentLimitEnter t n => below timeEnd t && below channelEnd n
  | .currentLimitExit t n => below timeEnd t && below channelEnd n
  | .linkPowerStateChange t p st width => below timeEnd t && below portEnd p && below 6 st && below 17 width

end Sys2Proof
end

