-- ==== Sys2Proof/Certificates/Slice0/Obligations.lean ====
section
/-! DEFINITION. The statements about the device. Each says what its docstring says; a statement about commands says, for
every state, which conditions on the state and the operands make the command have its own effect, and what that effect
is. `settle` is the end of every command (the collector takes the events raised), and leaves a state that is at rest as
it is (`SettleLeavesRest`). -/

open Sys2Proof Sys2Proof.Machine

/-- O1. For every command c, queue rest and state s: a step of s with c at the front of its queue is exec of c on s with
the rest as its queue. (The queue of waiting commands is the model's own, log entry 4.) -/
def Obligations.StepRunsFrontCommand : Prop :=
  ∀ (c : Instr) (rest : List Instr) (s : State), step { s with pending := c :: rest } = exec c { s with pending := rest }

/-- O2. On an empty queue of commands the block idles: a step answers the same state (the model's choice, log entry 4). -/
def Obligations.EmptyQueueIdles : Prop :=
  ∀ s : State, s.pending = [] → step s = .next s

/-- O3. The end of a command (settle) changes nothing of a state in which no event waits for the collector, no packet
for the device waits for delivery, no reset is due, no access is held, no refused port and no port reset is
open, the device is not in Quiet, and FAULT_PIN_STATUS agrees with the pin. -/
def Obligations.SettleLeavesRest : Prop :=
  ∀ s : State, s.raised = [] → s.loop = [] → s.rst.due = none → s.flt.fatalDue = false → s.chm.held = [] →
    (∀ e ∈ s.chm.cores, e.2.held = []) → s.rst.ports = [] → (∀ e ∈ s.port.ports, e.2.refused = false) →
    s.rd PWR_STATUS_STATE ≠ pwQUIET → s.pinStill = true → settle s = s

/-- O4. Every command on every state, and so every step, answers a next state: the spec gives no command that stops the
block. -/
def Obligations.EveryCommandAnswersNext : Prop :=
  (∀ (c : Instr) (s : State), ∃ t, exec c s = .next t) ∧ ∀ s : State, ∃ t, step s = .next t

/-- O5. From every state, a command ends with no raised event waiting for the collector and with FAULT_PIN_STATUS saying
what holds FAULT_N: ASSERTED whether the pin is held low, SOURCE_VALID whether a source does so, SOURCE the
lowest such source. A step keeps that of every state in which it holds, on an empty queue too. -/
def Obligations.AtRestIsKept : Prop :=
  (∀ (c : Instr) (s t : State), exec c s = .next t → Safety.atRest t = true) ∧
  ∀ s t : State, Safety.atRest s = true → step s = .next t → Safety.atRest t = true

/-- O6. The state right after reset: it is at rest, memory lists nothing, nothing has been sent, no command waits, cell
time and the tick number are 0, the time state is DISABLED, the tick period in force is 31,250 ns (R31's
default), no port exists (every octet is off), RESET_N holds the device, every slot channel is in its first
state, and no event of a fault source is recorded. -/
def Obligations.ResetState : Prop :=
  Safety.atRest State.reset = true ∧ State.reset.mem = [] ∧ State.reset.out = [] ∧ State.reset.pending = [] ∧
  State.reset.time.ct = 0 ∧ State.reset.time.tick = 0 ∧ State.reset.timeState = tsDISABLED ∧ State.reset.tTick = 31250 ∧
  (∀ p < 96, State.reset.portExists p = false) ∧ State.reset.rst.phase = .held ∧
  (∀ n < 24, State.reset.rd IBX_STATUS_STATE n = 0) ∧ ∀ n < 256, State.reset.fsw n = false

/-- O7. REGISTER_WRITE over a path that reaches a 32-bit register whose write does no more than store its fields, with
no reserved encoding: every RW field of the register then holds the bits of the written word at its place, an
RW1C field loses the bits written as 1, an RW1S field gains them, RO and WO fields are as before, every field
standing elsewhere is as before, and nothing but the registers changes. -/
def Obligations.RegisterWriteStoresItsFields : Prop :=
  ∀ (s : State) (t path off v : Nat) (d : RegDesc) (i j : Nat), let a := s.advance t
    path < 0x1000 → 0x10000 ≤ off → off < 0x800000 → regAt off = some (d, i, j) → d.pair = .none →
    Safety.opens a path off = true → d.reserved v = false → a.absent d.off i = false →
    a.hookSystem path d.off i v = none → a.hookPorts d.off i j v = none → a.hookFabric path d.off i j v = none →
    ∃ u, exec (.registerWrite t path off v) s = .next (settle u) ∧ u = { a with reg := u.reg } ∧
      (∀ f ∈ d.flds, u.rd f i j = match f.acc with
        | .rw => bits v f.hi f.lo
        | .rw1c => (a.rd f i j - Nat.land (a.rd f i j) (bits v f.hi f.lo)) % f.size
        | .rw1s => Nat.lor (a.rd f i j) (bits v f.hi f.lo) % f.size
        | .ro => a.rd f i j
        | .wo => a.rd f i j) ∧
      ∀ g x y, (∀ f ∈ d.flds, g.key x y ≠ f.key i j) → u.rd g x y = a.rd g x y

/-- O8. A write over any path, of a 32-bit register, that places a reserved encoding in one of its fields changes no
register and nothing else: the write does nothing, and REGISTER_WRITE of it only lets cell time reach the time
of the command. -/
def Obligations.ReservedEncodingIsDiscarded : Prop :=
  ∀ (s : State) (t path off v : Nat) (d : RegDesc) (i j : Nat),
    path < 0x1000 → 0x10000 ≤ off → off < 0x800000 → regAt off = some (d, i, j) → d.pair = .none → d.reserved v = true →
    s.setupWr path off v = s ∧ exec (.registerWrite t path off v) s = .next (settle (s.advance t))

/-- O9. For a 64-bit value in two registers (d the low word's, e the high word's): LOW_WORD_READ answers the low word on
its path and keeps the high word as it is at that moment in the holding copy, which the next read of the high
word returns and uses up. A write of the low word is only held; HIGH_WORD_WRITE makes both words, the held low
one and the written high one, take effect at once, and the held word is gone. -/
def Obligations.PairsAreReadAndWrittenWhole : Prop :=
  (∀ (s : State) (t path off : Nat) (d e : RegDesc) (i j x y : Nat), let a := s.advance t
    Safety.opens a path off = true → 0x10000 ≤ off → off < 0x800000 →
    regAt off = some (d, i, j) → d.pair = .low → regAt (off + 4) = some (e, x, y) →
    exec (.lowWordRead t path off) s = .next (settle
      (((a.regWord d i j).2.setHold (off + 4) (some ((a.regWord d i j).2.regWord e x y).1)).emit (.read path (a.regWord d i j).1)))) ∧
  (∀ (s : State) (off w : Nat) (d : RegDesc) (i j : Nat), d.pair = .high → SMap.get s.bus.hold off none = some w →
    s.regRead off d i j = (w, s.setHold off none)) ∧
  (∀ (s : State) (path off v : Nat) (d : RegDesc) (i j : Nat), d.pair = .low → s.regStore path off d i j v = s.setLow off (some v)) ∧
  (∀ (s : State) (t path off v w : Nat) (d e : RegDesc) (i j x y : Nat), let a := s.advance t
    Safety.opens a path off = true → 0x10000 ≤ off → off < 0x800000 →
    regAt off = some (e, i, j) → e.pair = .high → regAt (off - 4) = some (d, x, y) → SMap.get a.bus.low (off - 4) none = some w →
    exec (.highWordWrite t path off v) s = .next (settle ((a.setLow (off - 4) none).pairWrite d e i j w v)))

/-- O10. SMBUS_REG_WRITE and SMBUS_REG_READ with a good CRC to a defined register whose block the phase leaves open
perform the access and answer OK (the read with the word's 4 bytes); SMBUS_STATUS answers the status byte and
the last result; SMBUS_RESET 0 asks for a warm, 1 for a cold device reset; each first counts as an SMBus wake.
TBL_READ puts the selected entry into the window's data words and TBL_WRITE gives the table the data words, each
with the result code. DEBUG_WINDOW_WRITE stores the word into a core memory whose domain is on. -/
def Obligations.SetupBusCommandsComplete : Prop :=
  (∀ (s : State) (t off v : Nat), let w := (s.advance t).restWake 3
    w.busyAt off = false → w.defined 2 off = true →
    exec (.smbusRegWrite t off v false) s = .next (settle
      (({ w.setupWr 2 off v with bus := { (w.setupWr 2 off v).bus with result := 0 } }).emit (.smbus 0 [])))) ∧
  (∀ (s u : State) (t off x : Nat), let w := (s.advance t).restWake 3
    w.busyAt off = false → w.defined 2 off = true → w.setupRd 2 off = (some x, u) →
    exec (.smbusRegRead t off false) s = .next (settle (u.emit (.smbus 0 (leBytes 4 x))))) ∧
  (∀ (s : State) (t : Nat), let w := (s.advance t).restWake 3
    exec (.smbusStatus t false) s = .next (settle (w.emit (.smbus 0 [w.statusByte, w.bus.result])))) ∧
  (∀ (s : State) (t arg : Nat), let w := (s.advance t).restWake 3
    arg < 2 → w.rst.phase ≠ .safeHold →
    exec (.smbusReset t arg false) s = .next (settle (w.setRst (fun r =>
      { r with due := some (arg == 1 || r.due.getD false), sources := setBit r.sources rsSMBUS true, cold := r.cold || arg == 1 })))) ∧
  (∀ (s : State) (t path : Nat) (ws : List Nat), let a := s.advance t
    let b := busBank path
    Safety.opens a path tblCmdOff = true → (a.bank_ b).sel ≠ 0x60 → a.tblImage (a.bank_ b).sel (a.bank_ b).index = some (some ws) →
    exec (.tblRead t path) s = .next (settle
      (a.setBank_ b { a.bank_ b with data := (ws ++ List.replicate 8 0).take 8, result := trOK }))) ∧
  (∀ (s u : State) (t path r : Nat) (ws : List Nat), let a := s.advance t
    let b := busBank path
    Safety.opens a path tblCmdOff = true → a.tblImage (a.bank_ b).sel (a.bank_ b).index = some (some ws) →
    a.tblPut (a.bank_ b).sel (a.bank_ b).index (a.bank_ b).data = some (r, u) →
    exec (.tblWrite t path) s = .next (settle (u.setBank_ b { u.bank_ b with result := r }))) ∧
  (∀ (s : State) (t path off v m n : Nat), let a := s.advance t
    Safety.opens a path off = true → 0x800000 ≤ off → a.debugAt path off = some (m, n) → a.domainOn n = true →
    exec (.debugWindowWrite t path off v) s = .next (settle (a.memWrite 8 m (leBytes 4 v))))

/-- O11. On a loaded device that issues tick edges, TICK_EDGE makes the edge the next multiple of T_TICK of cell time,
raises the tick number by one and lets cell time reach the edge, and nothing else of the state; then TICK_OUT
rises, abandoned jobs are reported, a step and a period change that are due take effect, and on a running device
the jobs of the edge and of the collector follow. ACQUIRING_INTERVAL, on a running device that issues no tick
edges and has no Rest armed after it, runs the step of time election and the step of Herd. -/
def Obligations.TickEdgeMovesTime : Prop :=
  (∀ s : State, let n := (s.time.edge / s.tTick + 1) * s.tTick
    s.edgeTime = { s with time := { s.time with ct := max s.time.ct (n * 65536), edge := n, tick := s.time.tick + 1 } }) ∧
  (∀ (s : State) (mask cues : Nat),
    let m := (((s.edgeTime.tickOutRise).overrunJobs s.time.overruns).setTime (fun x => { x with overruns := mask % 16 })).takeStep.periodChange
    s.loadedUp = true → s.ticking = true →
    (s.portsUp = true → exec (.tickEdge mask cues) s = .next (settle ((m.tickJobs s.time.overruns mask cues).faultTick (bit mask 0)))) ∧
    (s.portsUp = false → m.on FAULT_STATUS_HALTED = false → exec (.tickEdge mask cues) s = .next (settle m)) ∧
    (s.portsUp = false → m.on FAULT_STATUS_HALTED = true → exec (.tickEdge mask cues) s = .next (settle (m.faultTick (bit mask 0))))) ∧
  (∀ (s : State) (t : Nat), let a := s.advance t
    a.portsUp = true → a.loadedUp = true → a.ticking = false → a.timeStep.herdStep.on PWR_CTRL_REST_ARM = false →
    exec (.acquiringInterval t) s = .next (settle a.timeStep.herdStep))

/-- O12. TICK_CHANGE_AT_WRITE on the time root, with no change pending, at least the lead ahead and a legal new period
that divides the edge's time and suits the tree depth, makes that change pending. TIME_ENABLE_WRITE that sets
ENABLE takes the device to ACQUIRING with the loaded epoch; one that clears it takes it to DISABLED.
CELL_TIME_LOAD stores the pair while ENABLE is 0 (cell time only at a multiple of T_TICK); while ENABLE is 1 it
only sets LOAD_REJECTED. STEP_NOW asks for a step. -/
def Obligations.TimeRegisterCommandsComplete : Prop :=
  (∀ (s : State) (t path v : Nat), let a := s.advance t
    let q := a.rd TICK_PERIOD_NEXT_QUANTA
    let sp := a.rd TICK_PERIOD_NEXT_SPLIT
    a.pathOpen path TICK_CHANGE_AT_HI.off = true → v < 2 ^ 64 → a.time.root = true → a.time.pend = none → v ≠ 0 →
    a.time.tick + a.lead ≤ v → periodOk q sp = true →
    (a.time.edge + (v - a.time.tick) * a.tTick) % periodOf q sp = 0 → a.treeDepth ≤ a.dMaxFor (periodOf q sp) →
    exec (.tickChangeAtWrite t path v) s = .next (settle (a.setTime (fun x => { x with pend := some (v, q, sp) })))) ∧
  (∀ (s : State) (t path v : Nat), let a := s.advance t
    let b := ((((a.wr TIME_CTRL_CELLREF_OUT_EN (bits v 6 6)).wr TIME_CTRL_TICK_OUT_EN (bits v 5 5)).wr TIME_CTRL_TICK_IN_EN (bits v 4 4)).wr
      TIME_CTRL_SOURCE (bits v 3 3))
    Safety.takes a path TIME_CTRL 0 0 v = true → bit v 7 = false →
    (bit v 0 = true → b.on TIME_CTRL_ENABLE = false → exec (.timeEnableWrite t path v) s = .next (settle
      (((b.setOn TIME_CTRL_ENABLE).timeTo tsACQUIRING).setTime (fun x =>
        { x with epoch := some (b.rd64 CELL_TIME_LOAD_LO_VALUE CELL_TIME_LOAD_HI_VALUE, b.rd64 TICK_NUM_LOAD_LO_VALUE TICK_NUM_LOAD_HI_VALUE),
                 winSteps := 0, quietSteps := 0, quietDone := false, lastView := b.rootView })))) ∧
    (bit v 0 = false → b.on TIME_CTRL_ENABLE = true → exec (.timeEnableWrite t path v) s = .next (settle
      (((((b.wr TIME_CTRL_ENABLE 0).timeTo tsDISABLED).wr TIME_STATUS_SOURCE_OCTET 0x1F).timeRoot 0 0xFF).setTime (fun x =>
        { x with root := false, pend := none, slew := .none, cand := none, stepReq := false, epoch := none, winSteps := 0 }))))) ∧
  (∀ (s : State) (t path v : Nat), let a := s.advance t
    v < 2 ^ 64 →
    (a.pathOpen path TICK_NUM_LOAD_HI.off = true → a.on TIME_CTRL_ENABLE = false →
      exec (.cellTimeLoad t path true v) s = .next (settle (a.wr64 TICK_NUM_LOAD_LO_VALUE TICK_NUM_LOAD_HI_VALUE v))) ∧
    (a.pathOpen path CELL_TIME_LOAD_HI.off = true → a.on TIME_CTRL_ENABLE = false → v % a.tTick = 0 →
      exec (.cellTimeLoad t path false v) s = .next (settle (a.wr64 CELL_TIME_LOAD_LO_VALUE CELL_TIME_LOAD_HI_VALUE v))) ∧
    (a.pathOpen path CELL_TIME_LOAD_HI.off = true → a.on TIME_CTRL_ENABLE = true →
      exec (.cellTimeLoad t path false v) s = .next (settle (a.setOn TIME_EVENTS_LOAD_REJECTED)))) ∧
  (∀ (s : State) (t path v : Nat), let a := s.advance t
    let b := ((((a.wr TIME_CTRL_CELLREF_OUT_EN (bits v 6 6)).wr TIME_CTRL_TICK_OUT_EN (bits v 5 5)).wr TIME_CTRL_TICK_IN_EN (bits v 4 4)).wr
      TIME_CTRL_SOURCE (bits v 3 3))
    Safety.takes a path TIME_CTRL 0 0 v = true → bit v 7 = true → b.on TIME_CTRL_ENABLE = bit v 0 →
    exec (.stepNow t path v) s = .next (settle (b.setTime (fun x => { x with stepReq := true }))))

/-- O13. On a loaded device: PERIOD_CHANGE_EDGE puts a due pending period in force; CELLREF_LOSS of a root elected on
CELLREF enters HOLDOVER and raises CELLREF_LOSS, else clears CELLREF_OK only; CELLREF_RETURN sets CELLREF_OK,
and only that off the root; TICK_IN_LOSS clears TICK_IN_OK; TICK_IN_EDGE takes note of the edge's time and sets
TICK_IN_OK for an edge within 3 ns of a multiple of T_TICK after the last; TICK_MARK that a slot announced
clears the wait for it in LOCKED, and in ACQUIRING on the best source locks the device to it; SOURCE_LOSS of the
source in force follows the next candidate or enters HOLDOVER; CANDIDATE_VALID in HOLDOVER keeps the candidate
and slews a small offset away; SLEW_LOCKED ends HOLDOVER in LOCKED; TICK_OUT_PULSE_END lets TICK_OUT fall. -/
def Obligations.TimeEventsComplete : Prop :=
  (∀ (s : State) (t n q sp : Nat), let a := s.advance t
    a.loadedUp = true → a.time.pend = some (n, q, sp) → n ≤ a.time.tick →
    exec (.periodChangeEdge t) s = .next (settle
      ((((a.setPeriod q sp).setTime (fun x => { x with pend := none })).syncDiameter.gate.ports.map (·.1)).foldl
        (fun (x : State) p => x.changeEdgeGate p) ((a.setPeriod q sp).setTime (fun x => { x with pend := none })).syncDiameter))) ∧
  (∀ (s : State) (t : Nat), let a := s.advance t
    a.loadedUp = true →
    ((a.time.root && a.timeState == tsROOT && a.time.onCellref) = true →
      exec (.cellrefLoss t) s = .next (settle ((a.wr TIME_STATUS_CELLREF_OK 0).enterHoldover.raise 101))) ∧
    ((a.time.root && a.timeState == tsROOT && a.time.onCellref) = false →
      exec (.cellrefLoss t) s = .next (settle (a.wr TIME_STATUS_CELLREF_OK 0))) ∧
    (a.time.root = false → exec (.cellrefReturn t) s = .next (settle (a.setOn TIME_STATUS_CELLREF_OK))) ∧
    exec (.tickInLoss t) s = .next (settle ((a.wr TIME_STATUS_TICK_IN_OK 0).setTime (fun x => { x with tickInLast := none })))) ∧
  (∀ (s : State) (t l : Nat), let w := (s.advance t).restWake 4
    (s.advance t).loadedUp = true → w.time.tickInLast = some l → (w.on TIME_CTRL_TICK_IN_EN && w.time.root) = false →
    exec (.tickInEdge t) s = .next (settle
      ((w.wr TIME_STATUS_TICK_IN_OK (b2n (decide (w.tTick ≤ w.ns - l + 3) &&
        (decide ((w.ns - l) % w.tTick ≤ 3) || decide (w.tTick ≤ (w.ns - l) % w.tTick + 3))))).setTime
        (fun x => { x with tickInLast := some w.ns })))) ∧
  (∀ (s : State) (t k freq : Nat) (x : TimeSlot), let a := s.advanceCt t
    Safety.linksUp a = true → (a.tport k).slot = some x → (a.tport k).markDue = true →
    (a.timeState = tsLOCKED → (a.rd TIME_STATUS_SOURCE_OCTET = k → a.markNumber k = x.tick) →
      exec (.tickMark t k freq) s = .next (settle (a.setTport k { a.tport k with markDue := false, missed := 0 }))) ∧
    (a.timeState = tsACQUIRING → (a.setTport k { a.tport k with markDue := false, missed := 0 }).bestSource none = some k →
      exec (.tickMark t k freq) s = .next (settle ((a.setTport k { a.tport k with markDue := false, missed := 0 }).lockTo k x.tick freq)))) ∧
  (∀ (s : State) (t k : Nat), let a := s.advance t
    a.loadedUp = true → a.fabUp k = false → a.timeState = tsLOCKED → a.rd TIME_STATUS_SOURCE_OCTET = k →
    (a.bestSource (some k) = none → exec (.sourceLoss t k 2) s = .next (settle (a.enterHoldover.raise 97))) ∧
    ∀ m, a.bestSource (some k) = some m →
      exec (.sourceLoss t k 2) s = .next (settle (((a.follow m).setOn TIME_EVENTS_SOURCE_SWITCH).raise 98 { port := some (4 * m) }))) ∧
  (∀ (s : State) (t k : Nat) (off : Int) (n : Nat), let a := s.advance t
    let x := ((a.tport k).slot).getD {}
    let p := periodOf x.quanta x.split
    Safety.linksUp a = true → a.timeState = tsHOLDOVER → a.time.root = false → a.timeCand k = true →
    off.natAbs ≤ a.rd HOLDOVER_CTRL_STEP_THRESHOLD * 65536 → p = a.tTick →
    n + a.ns / max p 1 = a.time.tick + ((a.time.ct : Int) + off).toNat / 65536 / max p 1 →
    exec (.candidateValid t k off n) s = .next (settle (a.setTime (fun y => { y with cand := some (k, off, a.ns, n), slew := .source })))) ∧
  (∀ (s : State) (t k m n : Nat) (off : Int), let a := s.advance t
    a.loadedUp = true → a.timeState = tsHOLDOVER → a.time.slew = .source → a.time.cand = some (k, off, m, n) →
    exec (.slewLocked t) s = .next (settle
      (((((a.setTime (fun x => { x with slew := .none })).setTime (fun x => { x with cand := none, stepReq := false })).timeTo tsLOCKED).setOn
        TIME_EVENTS_HOLDOVER_EXIT).follow k))) ∧
  (∀ (s : State) (t : Nat), let a := s.advance t
    a.loadedUp = true → a.time.tickOut = true → a.time.edge + min (a.rd TICK_OUT_CTRL_WIDTH) (a.tTick / 2) ≤ a.ns →
    exec (.tickOutPulseEnd t) s = .next (settle ((a.setTime (fun x => { x with tickOut := false })).emit (.pin 1 0 0))))

/-- O14. TIME_SLOT_SEND on an up fabric link of a device that issues tick edges, with no change pending, sends the slot
with the device's time state, the number of the next tick, the period in force, the hops to the root and the
root's UID. PTM_REQUESTER at a tick of its interval stores host time minus the edge's time, modulo 2^64, in the
PF's HOST_OFFSET. PTM_REQUEST on an up downstream port with PTM enabled answers the whole nanoseconds of cell
time. CUE_EDGE_DUE drives the pin to the level of the edge at the front of its queue once its time has come, and
that edge leaves the queue. -/
def Obligations.TimeMessagesComplete : Prop :=
  (∀ (s : State) (t k : Nat), let a := s.advance t
    Safety.linksUp a = true → a.ticking = true → a.fabUp k = true → a.time.pend = none →
    exec (.timeSlotSend t k) s = .next (settle (a.emit (.slot k 5
      ([a.timeState] ++ leBytes 6 (a.time.tick + 1) ++ leBytes 3 (a.rd TICK_PERIOD_SPLIT * 2 ^ 20 + a.rd TICK_PERIOD_QUANTA)
        ++ [a.rd TIME_STATUS_HOPS_TO_ROOT] ++ leBytes 8 (a.rd64 ROOT_UID_LO_VALUE ROOT_UID_HI_VALUE) ++ leBytes 3 0 ++ leBytes 3 0))))) ∧
  (∀ (s : State) (t n host p : Nat), let a := s.advance t
    let d := ofSigned 64 ((host : Int) - (a.time.edge : Int))
    a.portsUp = true → a.pfPort n = some p → a.rd PTM_CTRL_INTERVAL ≠ 0 → a.time.tick % a.rd PTM_CTRL_INTERVAL = 0 →
    a.ticking = true → a.on PORT_STATUS_LINK_UP p = true →
    exec (.ptmRequester t n host) s = .next (settle ((a.wr HOST_OFFSET_LO_VALUE d n).wr HOST_OFFSET_HI_VALUE (d / 2 ^ 32) n))) ∧
  (∀ (s : State) (t p : Nat), let a := s.advance t
    a.portsUp = true → a.isDown p = true → a.on PORT_STATUS_LINK_UP p = true → a.portVc p vfPtmEn = 1 →
    exec (.ptmRequest t p) s = .next (settle (a.emit (.message p 0x53 (leBytes 8 a.ns))))) ∧
  (∀ (s : State) (t n : Nat) (e : CueEdge) (r : List CueEdge), let a := s.advance t
    let b := (a.setPin n { a.pin n with level := e.level, before := (a.pin n).level, edgeAt := e.at_, queue := r }).emit (.pin 9 n (b2n e.level))
    a.portsUp = true → (a.pin n).queue = e :: r → e.at_ ≤ a.ns →
    (e.last = false → e.qp = none → exec (.cueEdgeDue t n) s = .next (settle b)) ∧
    (e.last = true → e.qp = none → exec (.cueEdgeDue t n) s = .next (settle (b.endEdge e stOK e.at_))) ∧
    (e.last = true → e.qp.isSome = true →
      exec (.cueEdgeDue t n) s = .next (settle ((b.inc GATE_LAUNCHED_VALUE).endEdge e stOK e.at_))))

/-- O15. PACKET_PARSE on an existing fabric port puts the packet, parsed, at the end of the packets in the pipeline under
the next number. SPEC_RECORD_GRANT records a parsed packet while its port has a free record. LOOKUP_SLOT_GRANT
classifies a recorded packet, debits its meter and moves it to looked up. HEADROOM_RESERVE takes a looked-up
packet's cells when they fit the headroom and moves it to reserved. PACKET_COMMIT of a packet that failed its
check removes it and undoes its debit and reservation; of a reserved one that passed, decides it. CAPTURE_ARM
arms the drop capture; SESSION_ENABLE of a disabled session starts it at sequence 0. -/
def Obligations.PipelineCommandsComplete : Prop :=
  (∀ (s : State) (t p : Nat) (h : FabHdr) (x : Tlp), let a := s.advance t
    a.portsUp = true → a.portExists p = true → a.isFab p = true →
    exec (.packetParse t p h x) s = .next (settle { a with fwd := { a.fwd with nextId := a.fwd.nextId + 1, pkts := a.fwd.pkts ++
      [{ id := a.fwd.nextId, ing := p, pipe := p / 4, fab := true, hdr := h, tlp := {}, tc := streamTc h.stream,
         sl := a.slOf p (streamTc h.stream), keyDid := (a.keyOf p h x).1, keyStream := (a.keyOf p h x).2, hd := a.portHd p,
         len := 32 + h.payload }] } })) ∧
  (∀ (s : State) (t n : Nat) (k : Pkt), let a := s.advance t
    a.portsUp = true → a.pkt n = some k → k.stage = .parsed → (a.records k.ing).2 < (a.records k.ing).1 →
    exec (.specRecordGrant t n) s = .next (settle (a.setPkt { k with stage := .recorded }))) ∧
  (∀ (s : State) (t n : Nat) (k : Pkt), let a := (s.advance t).eccLookup n
    let c := a.classify { k with cells := 0 } none none
    let r := a.debit { c with cells := 0, stage := .looked }
    (s.advance t).portsUp = true → a.pkt n = some k → k.stage = .recorded →
    exec (.lookupSlotGrant t n) s = .next (settle (r.1.setPkt { r.2 with out := { r.2.out with le := c.cells } }))) ∧
  (∀ (s : State) (t n : Nat) (k : Pkt), let a := s.advance t
    a.portsUp = true → a.pkt n = some k → k.fab = false → k.stage = .looked →
    a.buf.headroomUsed + k.out.le ≤ a.rd BUF_HEADROOM_CELLS → k.timedDelay = none →
    exec (.headroomReserve t n) s = .next (settle ((a.takeHeadroom k.out.le).setPkt { k with stage := .reserved, cells := k.out.le }))) ∧
  (∀ (s : State) (t n : Nat) (ecrc : Bool) (data : List Nat) (k : Pkt), let a := s.advance t
    a.portsUp = true → a.pkt n = some k → k.fab = false →
    exec (.packetCommit t n false ecrc data) s = .next (settle ((a.dropPkt n).undo k)) ∧
    (k.stage = .reserved → (a.dropPkt n).pfRead k = none → ∀ u, (a.dropPkt n).decidePkt k ecrc data = some u →
      exec (.packetCommit t n true ecrc data) s = .next (settle u))) ∧
  (∀ (s : State) (t path v : Nat), let a := s.advance t
    Safety.takes a path FWD_CTRL 0 0 v = true → bit v 1 = true →
    exec (.captureArm t path v) s = .next (settle ((a.wr FWD_CTRL_FLOW_EN (bits v 0 0)).setOn FWD_CTRL_CAPTURE_ARM))) ∧
  (∀ (s : State) (t path n v : Nat), let a := s.advance t
    let b := (((a.wr SESS_CTRL_EN (bits v 31 31) n).wr SESS_CTRL_SL (bits v 30 28) n).wr SESS_CTRL_SLOT_SIZE (bits v 27 26) n).wr
      SESS_CTRL_SAMPLE_N (bits v 25 10) n
    n < 8 → Safety.takes a path SESS_CTRL n 0 v = true → bit v 31 = true → a.on SESS_CTRL_EN n = false →
    exec (.sessionEnable t path n v) s = .next (settle
      { b.wr SESS_SEQ_VALUE 0 n with fwd := { b.fwd with sessSeen := SMap.set b.fwd.sessSeen n 0 0 } }))

/-- O16. On a started, well-formed FLOW_SET descriptor: ADD of a key with no entry, where placing succeeds, writes the
entry without a record and completes OK; REPLACE and DELETE of an existing entry that no move concerns and that
needs none write or remove it and complete OK; READ returns the entry's 128-bit image (0 for none). -/
def Obligations.FlowSetCompletes : Prop :=
  (∀ (s u : State) (t q i n : Nat) (d : Desc), let a := s.advance t
    let e := FlowEnt.ofImage d.flowImg
    a.portsUp = true → Safety.ready a q i d = true → d.opcode = 0x10 → byteAt d.img 56 = 1 → d.flowOk true = true →
    a.findFlow e.src e.stream = none → a.placeFor e.src e.stream = some (u, n) →
    exec (.flowSetAdd t q i) s = .next (settle ((((u.setFlow n (some e)).setRec n none).syncFlows).finish q d stOK))) ∧
  (∀ (s : State) (t q i n : Nat) (d : Desc), let a := s.advance t
    let e := FlowEnt.ofImage d.flowImg
    a.portsUp = true → Safety.ready a q i d = true → d.opcode = 0x10 → byteAt d.img 56 = 2 → d.flowOk true = true →
    a.findFlow e.src e.stream = some n → a.flowBegun q i = false → a.moving e.src e.stream = false →
    a.needsMove n ((a.flowAt n).getD {}) e.hopSel = none →
    exec (.flowSetReplace t q i) s = .next (settle ((a.setFlow n (some e)).finish q d stOK))) ∧
  (∀ (s : State) (t q i n : Nat) (d : Desc), let a := s.advance t
    let e := FlowEnt.ofImage d.flowImg
    a.portsUp = true → Safety.ready a q i d = true → d.opcode = 0x10 → byteAt d.img 56 = 3 → d.flowOk false = true →
    a.findFlow e.src e.stream = some n → a.flowBegun q i = false → a.moving e.src e.stream = false →
    a.needsMove n ((a.flowAt n).getD {}) none = none →
    exec (.flowSetDelete t q i) s = .next (settle ((((a.setFlow n none).setRec n none).syncFlows).finish q d stOK))) ∧
  (∀ (s : State) (t q i : Nat) (d : Desc), let a := s.advance t
    let e := FlowEnt.ofImage d.flowImg
    a.portsUp = true → Safety.ready a q i d = true → d.opcode = 0x10 → byteAt d.img 56 = 4 → d.flowOk false = true →
    (a.qp q).dataBase ≠ 0 →
    exec (.flowSetRead t q i) s = .next (settle (a.finish q d stOK 0 (some (leBytes 16 (match a.findFlow e.src e.stream with
      | some n => a.flowImage n
      | none => 0))))))

/-- O17. SPILL_WRITE_DONE moves the first staged packet of its queue to the end of the DRAM tail and frees its staging
cells. REFILL_START marks a spilling queue with packets behind its head, and on-chip depth below its threshold,
as refilling and issues reads. REFILL_COMPLETE of a clean read joins the first packet on its way to the head.
MR4_POLL stores the hot ranks of enabled channels and raises DRAM_HOT for each that was not hot.
DRAM_SELF_REFRESH enters self-refresh on an idle DRAM after the set idle ticks. DRAM_TRAINING_DONE with no
failing channel makes the DRAM ready, with every block of the enabled channels free. DRAM_INIT resets it;
DRAM_CFG_WRITE while it is not ready stores the configuration and starts training. -/
def Obligations.BufferCommandsComplete : Prop :=
  (∀ (s : State) (t n : Nat) (p : QPkt) (r : List QPkt), let a := s.advance t
    let q := a.queue n
    a.portsUp = true → q.staged = p :: r →
    exec (.spillWriteDone t n) s = .next (settle
      ((({ a with buf := { a.buf with stagedUsed := a.buf.stagedUsed - cellsOf p.le } }.setQueue n
        { q with staged := r, stagedCells := q.stagedCells - cellsOf p.le, tail := q.tail ++ [p] }).syncCells).wr
        DRAM_STATUS_SELF_REFRESH 0))) ∧
  (∀ (s : State) (t n : Nat), let a := s.advance t
    let q := a.queue n
    a.portsUp = true → q.spill = true → q.behind ≠ 0 → q.onchip < q.refillThr →
    exec (.refillStart t n) s = .next (settle (((a.setQueue n { q with refilling := true }).issueRefill n (q.behind + 1)).spillExit n))) ∧
  (∀ (s : State) (t n ch : Nat) (p : QPkt) (r : List QPkt), let a := s.advance t
    a.portsUp = true → (a.queue n).late = 0 → (a.queue n).refill = p :: r → ((a.joinHead n p).queue n).refilling = false →
    exec (.refillComplete t n ch 0) s = .next (settle ((a.joinHead n p).spillExit n))) ∧
  (∀ (s : State) (t hot : Nat), let a := s.advance t
    a.portsUp = true → a.on DRAM_STATUS_READY = true →
    exec (.mr4Poll t hot) s = .next (settle ((bitsSet (hot % 256) 8).foldl (fun u c =>
      if bit (a.rd DRAM_CFG_CH_EN) c && !bit (a.rd DRAM_STATUS_HOT) c then u.raise 53 { arg := c } else u)
      (a.wr DRAM_STATUS_HOT (Nat.land hot (a.rd DRAM_CFG_CH_EN)))))) ∧
  (∀ (s : State) (t : Nat), let a := s.advance t
    a.portsUp = true → a.on DRAM_STATUS_READY = true → a.rd DRAM_CTRL_SR_IDLE_TICKS ≠ 0 → a.dramIdle = true →
    a.rd DRAM_CTRL_SR_IDLE_TICKS ≤ a.buf.idleTicks → exec (.dramSelfRefresh t) s = .next (settle a.enterSelfRefresh)) ∧
  (∀ (s : State) (t : Nat), let a := s.advance t
    let en := a.rd DRAM_CFG_CH_EN
    let b : State := { (a.wr DRAM_CFG_CH_EN en).wr DRAM_STATUS_TRAIN_FAIL (Nat.lor (Nat.land (a.rd DRAM_STATUS_TRAIN_FAIL) (255 - en)) 0) with
      buf := { a.buf with initRun := false } }
    a.portsUp = true → a.buf.initRun = true → en ≠ 0 →
    exec (.dramTrainingDone t 0) s = .next (settle
      ((({ b with buf := { b.buf with freeBlocks := b.dramBlocks, totalBlocks := b.dramBlocks } }.wr DRAM_STATUS_READY 1).wr
        OVF_BLOCKS_TOTAL_TOTAL b.dramBlocks).wr DRAM_STATUS_HOT 0).syncBlocks)) ∧
  (∀ (s : State) (t path v : Nat), let a := s.advance t
    Safety.takes a path DRAM_CTRL 0 0 v = true → bit v 31 = true →
    exec (.dramInit t path v) s = .next (settle
      { ((a.wr DRAM_CTRL_SR_IDLE_TICKS v).wr DRAM_STATUS_READY 0).wr DRAM_STATUS_SELF_REFRESH 0 with buf := { a.buf with initRun := false } })) ∧
  (∀ (s : State) (t path v : Nat), let a := s.advance t
    Safety.takes a path DRAM_CFG 0 0 v = true → a.on DRAM_STATUS_READY = false → bits v 7 6 ≠ 3 → bits v 4 3 ≠ 3 → bits v 2 0 < 4 →
    exec (.dramCfgWrite t path v) s = .next (settle
      (((((a.wr DRAM_CFG_CH_EN (bits v 15 8)).wr DRAM_CFG_RATE (bits v 7 6)).wr DRAM_CFG_RANKS (bits v 5 5)).wr
        DRAM_CFG_CH_SIZE (bits v 4 3)).wr DRAM_CFG_DENSITY (bits v 2 0)).dramStart))

/-- O18. On a started METER_SET descriptor of legal form: BIND binds each meter of the range to the profile and colour
set with full buckets and clears what packets in the pipeline would refund to them; PROFILE stores the profile
and cuts the bound meters' levels to its burst sizes; READ and PROFILE_READ return the meter's or the profile's
words. Each completes OK. -/
def Obligations.MeterSetCompletes : Prop :=
  (∀ (s : State) (t q i : Nat) (d : Desc), let a := s.advance t
    let first := bytesAt d.img 42 45
    let prof := bytesAt d.img 46 47
    let cset := bytesAt d.img 48 49
    let n := bytesAt d.img 52 53
    a.portsUp = true → Safety.ready a q i d = true → Desc.isOp 0x11 1 d = true →
    (d.flagsOk && d.zero 8 39 && d.zero 41 41 && decide (byteAt d.img 50 < 2) && d.zero 51 51 && d.zero 54 63
      && decide (first < 2 ^ 18) && decide (prof < 4096) && decide (cset < 4096) && decide (1 ≤ n) && decide (n ≤ 4096)
      && decide (first + n ≤ 262144)) = true →
    exec (.meterBind t q i) s = .next (settle
      (((a.bindMeters first prof cset (bit (byteAt d.img 50) 0) n).clearDebits first n).finish q d stOK))) ∧
  (∀ (s : State) (t q i : Nat) (d : Desc), let a := s.advance t
    let f := d.profile
    let p := bytesAt d.img 46 47
    a.portsUp = true → Safety.ready a q i d = true → Desc.isOp 0x11 2 d = true →
    (d.flagsOk && d.zero 14 39 && d.zero 41 45 && decide (p < 4096) && d.zero 48 53 && d.zero 62 63
      && !bit (bytesAt d.img 54 57) 31 && decide (bytesAt d.img 58 61 < 2 ^ 28) && f.cbs != 0
      && (if f.sr then f.pir == 0 else f.pbs != 0 && decide (f.cir ≤ f.pir))) = true →
    ∃ u : State, exec (.meterProfile t q i) s = .next (settle (u.finish q d stOK)) ∧ u = { a with sch := u.sch } ∧
      u.sch = { a.sch with profiles := SMap.set a.sch.profiles p f {}, meters := u.sch.meters } ∧
      u.sch.meters = a.sch.meters.map (fun e =>
        if e.2.profile = p then
          (e.1, { (e.2.upTo (a.profile p) a.ns) with
            visC := min (uB f.cbs) (e.2.upTo (a.profile p) a.ns).visC, visP := min (uB f.pbs) (e.2.upTo (a.profile p) a.ns).visP,
            comC := min (uB f.cbs) (e.2.upTo (a.profile p) a.ns).comC, comP := min (uB f.pbs) (e.2.upTo (a.profile p) a.ns).comP })
        else e)) ∧
  (∀ (s : State) (t q i : Nat) (d : Desc), let a := s.advance t
    let m := bytesAt d.img 42 45
    a.portsUp = true → Safety.ready a q i d = true → Desc.isOp 0x11 3 d = true → (a.qp q).dataBase ≠ 0 →
    (d.flagsOk && d.zero 8 39 && d.zero 41 41 && decide (m < 262144) && d.zero 46 63) = true →
    exec (.meterRead t q i) s = .next (settle
      (a.finish q d stOK 0 (some (wordBytes (a.meterWords m ++ [0] ++ a.profileWords (a.meter m).profile)))))) ∧
  (∀ (s : State) (t q i : Nat) (d : Desc), let a := s.advance t
    let p := bytesAt d.img 46 47
    a.portsUp = true → Safety.ready a q i d = true → Desc.isOp 0x11 4 d = true → (a.qp q).dataBase ≠ 0 →
    (d.flagsOk && d.zero 8 39 && d.zero 41 45 && decide (p < 4096) && d.zero 48 63) = true →
    exec (.meterProfileRead t q i) s = .next (settle (a.finish q d stOK 0 (some (wordBytes (a.profileWords p))))))

/-- O19. On a started descriptor of legal form: SHAPER_SET stores the shaper of a queue (cancelling a pending rate pair),
node or port, its tokens as the reset mode says, and READ returns it; QUEUE_MAP MAP of an unmapped queue maps it
to its port, SL and subscriber (holding it back behind what the default queue of that port and SL holds) with
its tokens reset; UNMAP flushes and unmaps it; READ returns the map word; ADAPT_BOUNDS stores shaped bounds for
a queue of the SHAPED class, bulk bounds for one of the BULK class, or their deletion, to take effect at the
next edge. Each completes OK. -/
def Obligations.QueueAdminCompletes : Prop :=
  (∀ (s : State) (t q i : Nat) (d : Desc), let a := s.advance t
    let n := bytesAt d.img 42 43
    let cir := bytesAt d.img 44 47
    let pir := bytesAt d.img 48 51
    let qu := bytesAt d.img 58 59
    a.portsUp = true → Safety.ready a q i d = true → d.opcode = 0x12 →
    (a.shaperOk d && !bit (byteAt d.img 41) 1 && decide (cir < 2 ^ 28) && decide (pir < 2 ^ 28)
      && (if d.op40 = 3 then cir == 0 && d.zero 52 54 && qu == 0 else decide (1 ≤ qu) && decide (qu ≤ 4095))
      && (pir == 0 || decide (cir ≤ pir))) = true →
    (d.op40 = 1 → exec (.shaperSet t q i) s = .next (settle ((a.setQueue n { a.queue n with
      sh := shaperOf d a.ns,
      adaptNext := (match (a.queue n).adaptNext with
        | some (.pair _ _) => none
        | x => x) }).finish q d stOK))) ∧
    (d.op40 = 2 → exec (.shaperSet t q i) s = .next (settle ((a.setNode n { a.node n with sh := shaperOf d a.ns }).finish q d stOK))) ∧
    (d.op40 = 3 → exec (.shaperSet t q i) s = .next (settle
      ((a.setPortSh n {
        rate := pir, burst := bytesAt d.img 55 57,
        level := (if bit (byteAt d.img 41) 0 then 0 else ((uB (bytesAt d.img 55 57) : Nat) : Int)), at_ := a.ns }).finish q d stOK)))) ∧
  (∀ (s : State) (t q i : Nat) (d : Desc), let a := s.advance t
    let n := bytesAt d.img 42 43
    a.portsUp = true → Safety.ready a q i d = true → d.opcode = 0x12 → (a.qp q).dataBase ≠ 0 →
    a.shaperOk d = true → byteAt d.img 41 = 2 → d.zero 44 59 = true →
    (d.op40 = 1 → exec (.shaperRead t q i) s = .next (settle (a.finish q d stOK 0 (some
      (wordBytes (shaperWords ((a.queue n).sh.upTo a.ns)) ++ (leBytes 2 ((a.queue n).sh.upTo a.ns).quantum ++ [b2n ((a.queue n).sh.upTo a.ns).zero])))))) ∧
    (d.op40 = 2 → exec (.shaperRead t q i) s = .next (settle (a.finish q d stOK 0 (some
      (wordBytes (shaperWords ((a.node n).sh.upTo a.ns)) ++ (leBytes 2 ((a.node n).sh.upTo a.ns).quantum ++ [b2n ((a.node n).sh.upTo a.ns).zero])))))) ∧
    (d.op40 = 3 → exec (.shaperRead t q i) s = .next (settle
      (a.finish q d stOK 0 (some (wordBytes (portShaperWords ((a.portSh n).upTo a.ns)))))))) ∧
  (∀ (s : State) (t q i : Nat) (d : Desc), let a := s.advance t
    let n := bytesAt d.img 42 43
    let p := byteAt d.img 44
    let sl := byteAt d.img 45
    let sub := bytesAt d.img 46 47
    let dflt := bit (byteAt d.img 41) 0
    a.portsUp = true → Safety.ready a q i d = true → Desc.isOp 0x13 1 d = true →
    (d.flagsOk && d.zero 8 39 && decide (byteAt d.img 41 < 2) && a.portExists p && decide (sl < 8) && decide (sub < 8192)
      && d.zero 48 63 && !(a.queue n).valid
      && (if dflt then (a.defaultQueue p sl).isNone
          else !(a.mapped.any (fun e => e.2.port == p && e.2.sl == sl && !e.2.dflt && e.2.sub == sub)))) = true →
    exec (.queueMapMap t q i) s = .next (settle (((a.setQueue n { a.queue n with
      valid := true, port := p, sl := sl, sub := sub, dflt := dflt,
      hold := (if dflt then 0 else
         match a.defaultQueue p sl with
         | some dq => (a.queue dq).packets.length
         | none => 0),
      sh := (a.queue n).sh.resetTokens a.ns, maxDepth := 0, maxSojourn := 0 }).syncMapped).finish q d stOK))) ∧
  (∀ (s : State) (t q i : Nat) (d : Desc), let a := s.advance t
    let n := bytesAt d.img 42 43
    let u := a.flushQueue n
    a.portsUp = true → Safety.ready a q i d = true → Desc.isOp 0x13 2 d = true →
    (d.flagsOk && d.zero 8 39 && d.zero 41 41 && d.zero 44 63 && (a.queue n).valid) = true →
    ((a.queue n).dflt && a.on SCHED_PORT_CFG_EN (a.queue n).port) = false →
    exec (.queueMapUnmap t q i) s = .next (settle (((u.setQueue n { u.queue n with
      valid := false, port := 0, sl := 0, sub := 0, dflt := false, hold := 0, maxDepth := 0, maxSojourn := 0 }).syncMapped).finish q d stOK))) ∧
  (∀ (s : State) (t q i : Nat) (d : Desc), let a := s.advance t
    a.portsUp = true → Safety.ready a q i d = true → Desc.isOp 0x13 3 d = true → (a.qp q).dataBase ≠ 0 →
    (d.flagsOk && d.zero 8 39 && d.zero 41 41 && d.zero 44 63) = true →
    exec (.queueMapRead t q i) s = .next (settle (a.finish q d stOK 0 (some (leBytes 4 (a.queueMapWord (bytesAt d.img 42 43))))))) ∧
  (∀ (s : State) (t q i : Nat) (d : Desc), let a := s.advance t
    let n := bytesAt d.img 42 43
    let pf := bytesAt d.img 44 47
    let pc := bytesAt d.img 48 51
    let bf := bytesAt d.img 52 54
    let bc := bytesAt d.img 55 57
    let soj := bytesAt d.img 58 59
    a.portsUp = true → Safety.ready a q i d = true → Desc.isOp 0x1E 1 d = true →
    (d.flagsOk && d.zero 8 39 && d.zero 41 41 && d.zero 60 63 && decide (pf < 2 ^ 28) && decide (pc < 2 ^ 28) && soj != 0) = true →
    a.qClass (a.queue n) = 2 → (a.queue n).sh.cir ≤ pf → 0 < pf → pf ≤ pc → 0 < bf → bf ≤ bc →
    exec (.adaptBoundsShaped t q i) s = .next (settle ((a.setQueue n { a.queue n with
      boundsNext := some (.put { target := 1, pirFloor := pf, pirCeil := pc, pbsFloor := bf, pbsCeil := bc, sojourn := soj }) }).finish q d stOK))) ∧
  (∀ (s : State) (t q i : Nat) (d : Desc), let a := s.advance t
    let n := bytesAt d.img 42 43
    let w := bytesAt d.img 44 47
    let soj := bytesAt d.img 58 59
    a.portsUp = true → Safety.ready a q i d = true → Desc.isOp 0x1E 2 d = true →
    (d.flagsOk && d.zero 8 39 && d.zero 41 41 && decide (w < 2) && d.zero 48 57 && d.zero 60 63 && soj != 0) = true →
    a.qClass (a.queue n) = 3 →
    exec (.adaptBoundsBulk t q i) s = .next (settle ((a.setQueue n { a.queue n with
      boundsNext := some (.put { target := 2, ovfAllowed := bit w 0, sojourn := soj }) }).finish q d stOK))) ∧
  (∀ (s : State) (t q i : Nat) (d : Desc), let a := s.advance t
    let n := bytesAt d.img 42 43
    a.portsUp = true → Safety.ready a q i d = true → Desc.isOp 0x1E 3 d = true →
    (d.flagsOk && d.zero 8 39 && d.zero 41 41 && d.zero 44 63) = true → 2 ≤ a.qClass (a.queue n) →
    exec (.adaptBoundsDelete t q i) s = .next (settle ((a.setQueue n { a.queue n with boundsNext := some .delete }).finish q d stOK)))

/-- O20. EGRESS_SLOT offered to packets on a port that has slots, with no packet under way, no replay, and permission to
start: it counts the slot; where a queue is selected and its head's stored data read well, that packet starts on
the port; where none is selected, the slot counts in the idle class that the rules give. -/
def Obligations.EgressSlotCompletes : Prop :=
  ∀ (s : State) (t p types : Nat), let a := (s.advance t).eccEgress p
    let b := a.obsAdd p 0 1
    (s.advance t).portsUp = true → a.slotting p = true → a.isFab p = true → (b.lnk (p / 4)).resend = [] →
    (b.txOf p).left = 0 → b.mayStart (p / 4) = true → b.blockAsked (p / 4) = false →
    (∀ (g : Grant) (k : QPkt) (u : State), b.select p types = some g → b.headOf (b.queue g.queue) types = some k → b.bufferRead = (0, u) →
      exec (.egressSlot t p 0 types) s = .next (settle (u.startPacket p g k))) ∧
    (b.select p types = none → exec (.egressSlot t p 0 types) s = .next (settle (b.idleSlot p types false false)))

/-- O21. GATE_ENTRY_START reads the stored word of the entry of the port's list in force. GATE_LIST_LOAD of legal form on
a port with no swap pending, whose read the MPU allows, asks for the host bytes and notes the load;
GATE_LIST_FETCH_DONE with all of them, giving a legal list, writes the admin list and completes OK.
GATE_LIST_READ writes the chosen list's words to host memory and completes OK. GATE_SWAP at a legal tick edge,
with no swap pending, becomes the port's pending swap. SWAP_ARM at the edge before arms it; SWAP_TAKE_EFFECT at
its time puts the admin list in force from that time, the lists changing places, or opens the gates for good. -/
def Obligations.GateCommandsComplete : Prop :=
  (∀ (s : State) (t p : Nat), let a := s.advance t
    a.portsUp = true → exec (.gateEntryStart t p) s = .next (settle
      (a.eccTouch 5 (fun w => w / 1024 == p && (w / 512 % 2 == 1) == (a.gatePort p).which)))) ∧
  (∀ (s : State) (t q i : Nat) (d : Desc), let a := s.advance t
    let p := byteAt d.img 40
    let first := bytesAt d.img 42 43
    let len := bytesAt d.img 44 45
    let b := (a.setDesc q { d with asked := d.length }).hostReads q d.source d.length (.desc q i)
    a.portsUp = true → Safety.ready a q i d = true → d.opcode = 0x14 → d.asked = 0 →
    (d.listOk && byteAt d.img 41 == 0 && decide (1 ≤ len) && decide (len ≤ 1024) && decide (first + d.length / 4 ≤ len)
      && a.portExists p) = true → (a.gatePort p).swap = none → a.qpHeld q = false →
    a.moverBad (a.qp q) spHost false d.source d.length = none →
    exec (.gateListLoad t q i) s = .next (settle { b with gate := { b.gate with
      loads := b.gate.loads ++ [{ qp := q, idx := i, port := p, first := first, len := len, bytes := d.length }] } })) ∧
  (∀ (s : State) (t q i : Nat) (d : Desc), let a := s.advance t
    let p := byteAt d.img 40
    let first := bytesAt d.img 42 43
    a.portsUp = true → Safety.ready a q i d = true → d.opcode = 0x14 → (byteAt d.img 41 = 1 ∨ byteAt d.img 41 = 3) →
    (d.listOk && d.zero 44 45 && decide (first + d.length / 4 ≤ 1024) && a.portExists p) = true → a.qpHeld q = false →
    a.moverBad (a.qp q) spHost true d.source d.length = none →
    exec (.gateListRead t q i) s = .next (settle ((a.hostWrites ((a.qp q).fn.getD 0) d.source (wordBytes ((List.range (d.length / 4)).map
      (fun k => SMap.get (if byteAt d.img 41 = 3 then (a.gatePort p).oper else (a.gatePort p).admin) (first + k) 0)))).finish q d stOK d.length))) ∧
  (∀ (s : State) (t q i : Nat) (d : Desc) (x : ListLoad) (data : List Nat), let a := s.advance t
    let b : State := { a with gate := { a.gate with loads := a.gate.loads.filter (fun y => y != x) } }
    let m := putWords (a.gatePort x.port).admin x.first (wordsOf (x.bytes / 4) data)
    a.portsUp = true → Safety.ready a q i d = true → a.gate.loads.find? (fun y => y.qp == q && y.idx == i) = some x →
    data.length = x.bytes → (a.gatePort x.port).swap = none → (gateList m x.len).any (fun e => e.1 == 0) = false →
    cycleOf (gateList m x.len) < 2 ^ 32 →
    exec (.gateListFetchDone t q i 0 false data) s = .next (settle
      ((b.setGate x.port { b.gatePort x.port with admin := m, adminLen := x.len }).finish q d stOK x.bytes))) ∧
  (∀ (s : State) (t q i : Nat) (d : Desc), let a := s.advance t
    let p := byteAt d.img 40
    let g := a.gatePort p
    a.portsUp = true → Safety.ready a q i d = true → d.opcode = 0x15 → g.swap = none → a.ticking = true →
    (d.flagsOk && d.zero 8 31 && d.zero 42 63 && decide (byteAt d.img 41 < 2) && a.portExists p) = true →
    (decide (d.launch % a.periodAt d.launch = 0) && decide (a.edgeNum (a.time.tick + 2) ≤ d.launch)
      && decide (d.launch ≤ a.edgeNum (a.time.tick + 65536))
      && (g.state != 1 || (d.launch - g.base) % cycleOf g.operList == 0)
      && (byteAt d.img 41 == 1 || (decide (1 ≤ g.adminLen) && legalFor (cycleOf g.adminList) (a.periodAt d.launch)))) = true →
    exec (.gateSwap t q i) s = .next (settle (a.setGate p { g with
      swap := some { at_ := d.launch, toOpen := byteAt d.img 41 == 1, qp := q, idx := i }, swapTime := d.launch }))) ∧
  (∀ (s : State) (t p : Nat) (w : Swap), let a := s.advance t
    let g := a.gatePort p
    a.portsUp = true → g.swap = some w → w.armed = false → w.late = false → a.edgeBefore w.at_ ≤ a.ns →
    (w.toOpen = true ∨ (1 ≤ g.adminLen ∧ legalFor (cycleOf g.adminList) (a.periodAt w.at_) = true)) →
    exec (.swapArm t p) s = .next (settle (a.setGate p { g with swap := some { w with armed := true } }))) ∧
  (∀ (s : State) (t p : Nat) (w : Swap), let a := s.advance t
    let g := a.gatePort p
    a.portsUp = true → g.swap = some w → w.armed = true → w.at_ ≤ a.ns →
    (w.toOpen = true → exec (.swapTakeEffect t p) s = .next (settle
      (((a.setGate p { g with swap := none, state := 0 }).closeMoves p w.at_).endSwap w stOK w.at_))) ∧
    (w.toOpen = false → legalFor (cycleOf g.adminList) a.tTick = true → exec (.swapTakeEffect t p) s = .next (settle
      (((a.setGate p { g with swap := none, state := 1, base := w.at_, which := !g.which, oper := g.admin, operLen := g.adminLen,
                              admin := g.oper, adminLen := g.operLen }).closeMoves p w.at_).endSwap w stOK w.at_))))

/-- O22. TIMED_WRITE and TIMED_CUE of legal form, with a free launch entry and a launch time ahead of now and not past
the horizon, take the lowest free entry, which is released at once where its release edge has passed.
TIMED_RELEASE between the release edge and the launch time starts the write's host read or the cue's edge.
TIMED_FETCH_DONE without an error adds the data, its poison noted, and the entry has arrived when all bytes are
there. TIMED_LAUNCH at the launch time launches a write that has arrived, and completes LATE one that has not.
TIMED_WINDOW_LAUNCH at the launch time, where the launch test passes and the run-ahead cells commit, sends the
held packets with the launch time in their headers. -/
def Obligations.TimedCommandsComplete : Prop :=
  (∀ (s : State) (t q i n : Nat) (d : Desc), let a := s.advance t
    a.portsUp = true → Safety.ready a q i d = true → (a.qpLaunches q).any (fun e => e.2.2 == i) = false → a.launchFree = some n →
    a.ns < d.launch → d.launch ≤ a.edgeNum (a.time.tick + 65536) + (a.ns - a.time.edge) → d.flagsOk = true →
    (d.opcode = 0x04 → (decide (1 ≤ d.length) && decide (d.length ≤ 4096) && decide (byteAt d.img 28 < 32)
        && decide (d.ordSel < 3) && (d.ordSel == 2 || d.reqId == 0) && d.zero 29 29 && d.zero 40 63) = true →
      exec (.timedWrite t q i) s = .next (settle ((a.setLaunch n (some { kind := .write q i, lt := d.launch })).timedRelease n))) ∧
    (d.opcode = 0x05 → (d.zero 8 15 && d.zero 24 31 && d.zero 46 63 && decide (d.dest % 2 ^ 52 = 0) && decide (byteAt d.img 40 < 48)
        && decide (byteAt d.img 41 < 4)
        && (if bit (byteAt d.img 41) 1 then decide (1 ≤ bytesAt d.img 42 45) && decide (bytesAt d.img 42 45 < 2 ^ 24)
            else bytesAt d.img 42 45 == 0)) = true →
      exec (.timedCue t q i) s = .next (settle ((a.setLaunch n (some { kind := .cue q i, lt := d.launch })).timedRelease n)))) ∧
  (∀ (s : State) (t n q i : Nat) (l : Launch) (d : Desc), let a := s.advance t
    a.portsUp = true → SMap.get a.gate.launch n none = some l → (a.qp q).desc i = some d →
    (l.released = false → a.releaseEdge l.lt ≤ a.ns → a.ns < l.lt →
      (l.kind = .write q i → exec (.timedRelease t n) s = .next (settle (a.releaseWrite n l q d))) ∧
      (l.kind = .cue q i → exec (.timedRelease t n) s = .next (settle (a.releaseCue n l q d)))) ∧
    (l.kind = .write q i → l.released = true → l.arrived = false → ∀ (poison : Bool) (data : List Nat),
      exec (.timedFetchDone t n 0 poison data) s = .next (settle (a.setLaunch n (some { l with
        pkt := { l.pkt with data := l.pkt.data ++ data }, poison := l.poison || poison,
        arrived := decide (d.length ≤ (l.pkt.data ++ data).length) })))) ∧
    (l.kind = .write q i → l.lt ≤ a.ns →
      (l.arrived = true → exec (.timedLaunch t n) s = .next (settle (a.launchWrite n l q d))) ∧
      (l.arrived = false → exec (.timedLaunch t n) s = .next (settle (((a.undoRunAhead l).setLaunch n none).endLate q d l.lt))))) ∧
  (∀ (s u : State) (t n : Nat) (l : Launch), let a := s.advance t
    let o := l.outs.headD {}
    let pkts := l.outs.map (fun x => { x with hdr := { x.hdr with timed := true, ts := l.lt } })
    a.portsUp = true → SMap.get a.gate.launch n none = some l → l.kind = .window → l.lt ≤ a.ns →
    (a.setLaunch n none).launchTest l.src.ing (streamReq l.src.keyStream) l.src.hd o.hdr.dst o.hdr.stream (l.src.flow.bind FlowEnt.hopSel) = none →
    (a.setLaunch n none).commitRunAhead l.queue l.cells pkts = some u →
    exec (.timedWindowLaunch t n) s = .next (settle ((pkts.foldl (fun (v : State) x => v.touchLines x)
      ((u.countColour l.src).commitDebit l.src)).ingressCopies l.src l.egress l.pkt.data)))

/-- O23. OBS_COUNTER_CLEAR with CLEAR set stores IRQ_ON_WRAP and clears the port's nine counters but for their sticky
overflow. QUEUE_SAMPLE_POINT whose time has come raises each mapped queue's maximum depth and sojourn to those
of now (the ring being off). SAMPLE_RING_ENABLE stores the ring's setting and restarts it at index 0 with phase
1. SNAPSHOT_LOCAL asks for a capture at the next tick; SNAPSHOT_FABRIC begins the global operation;
SNAPSHOT_CAPTURE takes every due capture and reports. The OBSERVER operations store an event selector, a sample
selection, a VF's visibility bit, or clear a port's counters, and complete OK. -/
def Obligations.ObservingCommandsComplete : Prop :=
  (∀ (s : State) (t path p v : Nat), let a := s.advance t
    p < 96 → Safety.takes a path OBS_PORT_CTRL p 0 v = true → bit v 1 = true →
    exec (.obsCounterClear t path p v) s = .next (settle ((a.wr OBS_PORT_CTRL_IRQ_ON_WRAP (bits v 0 0) p).obsClear p))) ∧
  (∀ (s : State) (t j : Nat), let a := s.advance t
    a.portsUp = true → a.ticking = true → j < 2 ^ a.rd OBS_RING_CFG_SUBDIV → a.sampleTime j (a.rd OBS_RING_CFG_SUBDIV) ≤ a.ns →
    let b := a.mapped.foldl (fun (u : State) e => u.setQueue e.1 { u.queue e.1 with
      maxDepth := max (u.queue e.1).maxDepth (u.queue e.1).depth, maxSojourn := max (u.queue e.1).maxSojourn (u.sojourn (u.queue e.1)),
      lastSojourn := if j = 0 then u.sojourn (u.queue e.1) else (u.queue e.1).lastSojourn }) a
    a.on OBS_RING_CFG_EN = false → exec (.queueSamplePoint t j) s = .next (settle b)) ∧
  (∀ (s : State) (t path v : Nat), let a := s.advance t
    let b := (((((a.wr OBS_RING_CFG_SUBDIV (bits v 2 0)).wr OBS_RING_CFG_PF (bits v 28 24)).wr OBS_RING_CFG_IRQ (bits v 30 30)).wr
      OBS_RING_CFG_EN 1).wr OBS_RING_CFG_LOG2_ENTRIES (min (bits v 19 16) 16)).wr OBS_RING_TAIL_INDEX 0
    Safety.takes a path OBS_RING_CFG 0 0 v = true → bit v 31 = true → 6 ≤ bits v 19 16 → bits v 2 0 = a.rd OBS_RING_CFG_SUBDIV →
    exec (.sampleRingEnable t path v) s = .next (settle { b with obs := { b.obs with ringPhase := true } })) ∧
  (∀ (s : State) (t q i : Nat) (d : Desc), let a := s.advance t
    a.portsUp = true → Safety.ready a q i d = true → d.snapOk = true → a.herd.snaps.any (fun w => w.qp == q && w.idx == i) = false →
    a.on OBS_SNAP_STATUS_PENDING = false →
    (let b := a.askCapture (a.time.tick + 1) (byteAt d.img 41) (bytesAt d.img 42 45)
     Desc.isOp 0x1B 1 d = true → exec (.snapshotLocal t q i) s = .next (settle
       { b with herd := { b.herd with snaps := b.herd.snaps ++ [{ qp := q, idx := i, id := a.time.tick + 1 }] } })) ∧
    (Desc.isOp 0x1B 2 d = true → exec (.snapshotFabric t q i) s = .next (settle
      (((a.setHerd (fun h => { h with snaps := h.snaps ++ [{ qp := q, idx := i, id := bytesAt d.img 42 45 }] })).beginOwnOp
        goSNAPSHOT (bytesAt d.img 42 45)).request goSNAPSHOT (bytesAt d.img 42 45) (byteAt d.img 41) 0)))) ∧
  (∀ (s : State) (t : Nat), let a := s.advance t
    let r := a.dueCaptures
    a.portsUp = true → exec (.snapshotCapture t) s = .next (settle
      ((r.1.foldl (fun (u : State) x => (u.capture x).endLocalSnaps x.tick) r.2).snapReports r.1 false
        (a.herd.ops.filter (fun o => decide (o.tick ≤ a.time.tick)))))) ∧
  (∀ (s : State) (t q i : Nat) (d : Desc), let a := s.advance t
    let n := bytesAt d.img 42 43
    let v := bytesAt d.img 44 47
    a.portsUp = true → Safety.ready a q i d = true → d.obsOk = true →
    (Desc.isOp 0x1A 1 d = true → n < 8 → v < 2 ^ 30 → bits v 7 0 ≤ 11 → a.portExists (byteAt d.img 41) = true →
      exec (.observerEvtSel t q i) s = .next (settle ((a.evtSelWrite (byteAt d.img 41) n v).finish q d stOK))) ∧
    (Desc.isOp 0x1A 2 d = true → d.zero 41 41 = true → n < 4096 → bits v 30 16 = 0 →
      exec (.observerSample t q i) s = .next (settle (({ a with obs := { a.obs with sample := SMap.set a.obs.sample n v 0 } }).finish q d stOK))) ∧
    (Desc.isOp 0x1A 3 d = true → d.zero 41 41 = true → n < 2048 → v < 2 →
      exec (.observerVfVis t q i) s = .next (settle
        ((a.wr OBS_VF_VIS_VALUE (setBit (a.rd OBS_VF_VIS_VALUE (n / 32)) (n % 32) (v == 1)) (n / 32)).finish q d stOK))) ∧
    (Desc.isOp 0x1A 4 d = true → d.zero 42 47 = true → a.portExists (byteAt d.img 41) = true →
      exec (.observerClear t q i) s = .next (settle ((a.obsClear (byteAt d.img 41)).finish q d stOK))))

/-- O24. On a running device with Herd enabled, for a legal message on octet k: HELLO of a known partner stores what it
says (and brings the adjacency up when it first names this device); CLAIM on a two-way adjacency is kept and the
election repeated; TIME_CLAIM on an up link is kept one hop further on, or forgotten with priority 0xFF; JOIN is
answered by the root or passed to the parent; ASSIGN of an unknown pair is flooded and takes effect; an LSU
newer than the one stored, not the device's own, is stored and flooded; DOMAIN_CLAIM is kept by the root or
passed on; DOMAIN with a newer sequence is flooded and takes effect; GLOBAL_UP arrivals, reports and requests
are gathered; GLOBAL announcements ahead of now are kept and flooded. ADJACENCY_TIMEOUT after three silent ticks
takes the adjacency down. -/
def Obligations.HerdMessagesComplete : Prop :=
  (∀ (s : State) (t k uid prio port flags depth : Nat), let a := s.advance t
    let x : Adj := { a.adj k with uid := uid, prio := prio, port := port, heard := true, age := 0, heardYou := bit flags 0,
                                  child := bit flags 1, joined := bit flags 2, depth := depth, did := (a.didOf uid).getD 0 }
    a.portsUp = true → a.herdOn = true → a.fabUp k = true → flags < 16 → port < 96 → ((a.adj k).heard = true → (a.adj k).uid = uid) →
    ((bit flags 0 && !(a.adj k).twoWay) = false → exec (.hello t k uid prio port flags depth) s = .next (settle (a.setAdj k x))) ∧
    ((bit flags 0 && !(a.adj k).twoWay) = true → exec (.hello t k uid prio port flags depth) s = .next (settle ((a.setAdj k x).adjUp k)))) ∧
  (∀ (s : State) (t k : Nat), let a := s.advance t
    a.portsUp = true → (a.adj k).heard = true → 3 ≤ (a.adj k).age → exec (.adjacencyTimeout t k) s = .next (settle (a.adjDown k))) ∧
  (∀ (s : State) (t k prio uid dist flags : Nat), let a := s.advance t
    a.portsUp = true → a.herdOn = true → (a.adj k).twoWay = true → flags < 2 →
    exec (.claim t k prio uid dist flags) s = .next (settle ((a.setAdj k { a.adj k with
      claim := some { prio := prio, uid := uid, dist := dist, est := bit flags 0 } }).elect (some k)))) ∧
  (∀ (s : State) (t k prio cls uid hops : Nat), let a := s.advance t
    let x : Option TimeVec := if prio = 0xFF ∨ 254 ≤ hops then none else some { prio := prio, cls := cls, uid := uid, hops := hops + 1 }
    let b := a.setTime (fun y => { y with claims := SMap.set y.claims k x none, claimSeen := y.claimSeen || prio != 0xFF })
    a.portsUp = true → a.fabUp k = true → cls ≤ 2 →
    (b.bestTime = a.bestTime → exec (.timeClaim t k prio cls uid hops) s = .next (settle b)) ∧
    (∀ v, b.bestTime = some v → a.bestTime ≠ some v →
      exec (.timeClaim t k prio cls uid hops) s = .next (settle (b.flood (some k) hmTIME_CLAIM v.body)))) ∧
  (∀ (s : State) (t k uid req dist : Nat), let a := s.advance t
    let r := if bit req 15 then some (req % 4096) else none
    a.portsUp = true → a.herdOn = true → bits req 14 12 = 0 →
    exec (.join t k uid req dist) s = .next (settle (if a.isRoot then a.rootAssign uid r dist else a.toParent hmJOIN (joinBody uid r)))) ∧
  (∀ (s : State) (t k uid did seq : Nat), let a := s.advance t
    a.portsUp = true → a.herdOn = true → did < 4096 → (SMap.get a.herd.dids did {}).assigned = false → a.didOf uid ≠ some did →
    exec (.assign t k uid did seq) s = .next (settle ((a.flood (some k) hmASSIGN (assignBody uid did seq)).assignEffect uid did))) ∧
  (∀ (s : State) (t k origin seq nbr oport nport cost delay flags : Nat), let a := s.advance t
    let l : Lsu := { nbr := nbr, oport := oport, nport := nport, cost := cost, delay := delay, seq := seq, up := bit flags 0 }
    let b := (a.putLsu origin l).flood (some k) hmLSU (lsuBody origin l)
    a.portsUp = true → a.herdOn = true → flags < 2 → origin < 4096 → nbr < 4096 → oport < 96 → nport < 96 →
    (∀ o, a.lsuAt origin (oport / 4) = some o → newer seq o.seq = true) → (a.on HERD_STATUS_DID_VALID && origin == a.did) = false →
    (b.on HERD_STATUS_DID_VALID && nbr == b.did && (b.adj (nport / 4)).twoWay && (b.didOf (b.adj (nport / 4)).uid).isNone) = false →
    exec (.lsu t k origin seq nbr oport nport cost delay flags) s = .next (settle b.announceEpoch)) ∧
  (∀ (s : State) (t k uid hd port flags : Nat), let a := s.advance t
    a.portsUp = true → a.herdOn = true → flags < 2 → hd < 1024 → port < 96 →
    (a.isRoot = true → exec (.domainClaim t k uid hd port flags) s = .next (settle (a.setHerd (fun h => { h with claims := h.claims ++
      [{ uid := uid, did := (a.didOf uid).getD 0, hd := hd, port := port, claim := bit flags 0 }] })))) ∧
    (a.isRoot = false → exec (.domainClaim t k uid hd port flags) s = .next (settle
      (a.toParent hmDOMAIN_CLAIM (claimBody uid hd port (bit flags 0)))))) ∧
  (∀ (s : State) (t k hd did port flags claimant seq : Nat), let a := s.advance t
    a.portsUp = true → a.herdOn = true → a.isRoot = false → newer seq a.herd.domSeq = true →
    flags < 4 → hd < 1024 → did < 4096 → claimant < 4096 →
    exec (.domain t k hd did port flags claimant seq) s = .next (settle
      (((a.setHerd (fun h => { h with domSeq := seq })).flood (some k) hmDOMAIN (domainBody hd did port flags claimant seq)).domainEffect
        hd did port flags claimant))) ∧
  (∀ (s : State) (t k op n count status value : Nat), let a := s.advance t
    a.portsUp = true → a.herdOn = true →
    (op = goBARRIER → exec (.globalUp t k op n count status value) s = .next (settle (a.arrive (some k) n count (bit status 0)))) ∧
    (op = goSNAPSHOT + 32 → exec (.globalUp t k op n count status value) s = .next (settle (a.report (some k) n count (bit status 0)))) ∧
    (2 ≤ op → op ≤ 5 → exec (.globalUp t k op n count status value) s = .next (settle
      (if a.isRoot then a.rootRequest op n status value else a.toParent hmGLOBAL_UP (globalUpBody op n count status value))))) ∧
  (∀ (s : State) (t k op arg value tick : Nat), let a := s.advance t
    let n := fillTick a.time.tick tick
    a.portsUp = true → a.herdOn = true → a.isRoot = false →
    (1 ≤ op → op ≤ 5 → op ≠ goEPOCH → a.herd.ops.contains { op := op, arg := arg, value := value, tick := n } = false → a.time.tick < n →
      exec (.global t k op arg value tick) s = .next (settle
        ((a.announced { op := op, arg := arg, value := value, tick := n }).flood (some k) hmGLOBAL (globalBody op arg value tick)))) ∧
    (17 ≤ op → op ≤ 21 → a.herd.parent = some k →
      exec (.global t k op arg value tick) s = .next (settle
        ((a.flood (some k) hmGLOBAL (globalBody op arg value tick)).completed (op - 16) arg value))))

/-- O25. ROOT_ESTABLISHED after three steps with its own vector as best makes the device the established root, which
assigns its own DID and floods its claim. JOIN_SEND after three steps under another root sends JOIN to the
parent. FABRIC_MERGE_RESET that is due resets Herd. EPOCH_INSTALL with a due epoch installs the routes.
GLOBAL_ACTION performs the operations whose tick has come, a device reset among them. REBALANCE fills every
route's map anew; APPLY_PENDING joins the held adjacencies. BARRIER_ARRIVE, BROADCAST and the two reset commands
on a joined, ticking device begin their operation. MOVE_TIMEOUT ends an overdue move and raises the event. -/
def Obligations.HerdStepsComplete : Prop :=
  (∀ (s : State) (t : Nat), let a := s.advance t
    let b := ((a.setHerd (fun h => { h with best := { h.best with est := true } })).rebuildHomes)
    let c := b.rootAssign b.uid b.didReq 0
    let d := if c.twoWays.isEmpty then (c.wr HERD_STATUS_STATE hsROOT).wr HERD_FABRIC_DEVICES 1 else c
    a.portsUp = true → a.herdOn = true → a.herd.known = true → a.herd.best.uid = a.uid → a.herd.best.est = false → 3 ≤ a.herd.since →
    ∃ u : State, exec (.rootEstablished t) s = .next (settle u) ∧ (b.uid = (a.setHerd (fun h => { h with best := { h.best with est := true } })).uid →
      b.didReq = (a.setHerd (fun h => { h with best := { h.best with est := true } })).didReq →
      u = (d.syncElect).flood none hmCLAIM d.herd.best.body)) ∧
  (∀ (s : State) (t : Nat), let a := s.advance t
    let b := (a.setHerd (fun h => { h with joinSent := true })).toParent hmJOIN (joinBody a.uid a.didReq)
    a.portsUp = true → a.herdOn = true → a.herd.known = true → a.herd.best.uid ≠ a.uid → 3 ≤ a.herd.since → a.herd.joinSent = false →
    a.herd.best.dist ≤ a.dMaxFor a.tTick → exec (.joinSend t) s = .next (settle b)) ∧
  (∀ (s : State) (t : Nat), let a := s.advance t
    a.portsUp = true →
    (a.herd.mergeDue = true → exec (.fabricMergeReset t) s = .next (settle
      ((((a.setOn HERD_EVENTS_ROOT_CHANGE).raise 153).failGlobals).herdReset.mergeTime))) ∧
    (a.herd.epochs.any (fun n => decide (n ≤ a.time.tick)) = true →
      let r := a.herd.epochs.filter (fun n => decide (a.time.tick < n))
      let b := ((a.setHerd (fun h => { h with epochs := r })).wr HERD_EPOCH_PENDING (b2n (!r.isEmpty))).installRoutes
      exec (.epochInstall t) s = .next (settle (b.remoteLost (a.liveDids.filter (fun d => !b.liveDids.contains d))))) ∧
    (let due := a.herd.ops.filter (fun o => decide (o.tick ≤ a.time.tick))
     let b := due.foldl (fun (u : State) o => u.globalAct o) (a.setHerd (fun h => { h with ops := h.ops.filter (fun o => decide (a.time.tick < o.tick)) }))
     (due.any (fun o => o.op == goRESET_DEVICE) = false → exec (.globalAction t) s = .next (settle b)) ∧
     (due.any (fun o => o.op == goRESET_DEVICE) = true → exec (.globalAction t) s = .next (settle (b.trigger rsHERD false)))) ∧
    (∀ (n : Nat) (m : Move), a.move n = some m → a.rd HERD_MOVE_CFG_TIMEOUT ≤ m.ticks →
      exec (.moveTimeout t n) s = .next (settle (((a.endMove n).setOn HERD_EVENTS_MOVE_TIMEOUT).raise 151 { arg := n })))) ∧
  (∀ (s : State) (t path v : Nat), let a := s.advance t
    let b := (a.wr HERD_CTRL_JOIN_HOLD (bits v 2 2)).wr HERD_CTRL_REMOTE_ADMIN (bits v 1 1)
    Safety.takes a path HERD_CTRL 0 0 v = true → bit v 0 = b.herdOn →
    (bit v 3 = true → bit v 4 = false → exec (.rebalance t path v) s = .next (settle
      (b.setHerd (fun h => { h with routes := h.routes.map (fun e => (e.1, e.2.fillMap)) })))) ∧
    (bit v 3 = false → bit v 4 = true → exec (.applyPending t path v) s = .next (settle b.applyPending))) ∧
  (∀ (s : State) (t path n : Nat), let a := s.advance t
    n < 2 ^ 16 → a.on HERD_STATUS_DID_VALID = true → a.ticking = true →
    (Safety.takes a path HERD_GLOBAL_CMD 0 0 (1 + n * 2 ^ 16) = true →
      exec (.barrierArrive t path (1 + n * 2 ^ 16)) s = .next (settle ((a.beginOwnOp 1 n).arrive none n 1 false))) ∧
    (Safety.takes a path HERD_GLOBAL_CMD 0 0 (2 + n * 2 ^ 16) = true →
      exec (.broadcast t path (2 + n * 2 ^ 16)) s = .next (settle ((a.beginOwnOp 2 n).request 2 n 0 (a.rd HERD_GLOBAL_ARG_VALUE)))) ∧
    (Safety.takes a path HERD_GLOBAL_CMD 0 0 (3 + n * 2 ^ 16) = true →
      exec (.fabricResetHerd t path (3 + n * 2 ^ 16)) s = .next (settle ((a.beginOwnOp 3 n).request 3 n 0 0))) ∧
    (Safety.takes a path HERD_GLOBAL_CMD 0 0 (4 + n * 2 ^ 16) = true →
      exec (.fabricResetDevice t path (4 + n * 2 ^ 16)) s = .next (settle ((a.beginOwnOp 4 n).request 4 n 0 0))))

/-- O26. On a started ROUTE_PIN descriptor of legal form: PIN_DID reserves the DID for the UID and UNPIN_DID ends that;
PIN_HOPS with a non-empty list of different fabric ports makes the route valid and pinned with those hops, its
map filled from them; UNPIN_HOPS clears the pin; READ returns the 32-byte entry. Each completes OK. -/
def Obligations.RoutePinsComplete : Prop :=
  ∀ (s : State) (t q i : Nat) (d : Desc), let a := s.advance t
    let n := bytesAt d.img 42 43
    a.portsUp = true → Safety.ready a q i d = true → d.pinOk = true →
    (Desc.isOp 0x17 1 d = true → exec (.routePinDid t q i) s = .next (settle
      ((a.setDid n { SMap.get a.herd.dids n {} with pinned := true, pinUid := bytesAt d.img 44 51 }).finish q d stOK))) ∧
    (Desc.isOp 0x17 2 d = true → exec (.routeUnpinDid t q i) s = .next (settle
      ((a.setDid n { SMap.get a.herd.dids n {} with pinned := false, pinUid := 0 }).finish q d stOK))) ∧
    (Desc.isOp 0x17 3 d = true → d.pinPorts ≠ [] → (d.pinPorts.map (·.2)).Nodup → (∀ e ∈ d.pinPorts, a.isFab e.2 = true) →
      exec (.routePinHops t q i) s = .next (settle
        ((a.setRoute n { (d.pinPorts.foldl (fun (x : Route) e => x.setHop e.1 e.2)
            { a.route n with hv := sum (d.pinPorts.map (fun e => 2 ^ e.1)) }).fillMap with
          valid := true, pinned := true, dir := a.ringDir (d.pinPorts.map (·.2)) }).finish q d stOK))) ∧
    (Desc.isOp 0x17 4 d = true → exec (.routeUnpinHops t q i) s = .next (settle
      ((a.setRoute n { a.route n with pinned := false }).finish q d stOK))) ∧
    (Desc.isOp 0x17 5 d = true → (a.qp q).dataBase ≠ 0 → exec (.routeRead t q i) s = .next (settle
      (a.finish q d stOK 0 (some (leBytes 32 (a.route n).image)))))

/-- O27. A well-formed fabric packet for this device's DID at an up fabric port that is neither contained nor frozen,
under the action forward, is queued for delivery within the device and completes the decision order: CUE, ADMIN,
MIRROR, COMPLETION (a move's end and a loss notice among them), the drain marker and every MESSAGE code but the
masked accesses. At its delivery a packet of each kind has the effect of that kind. -/
def Obligations.DeliveredPacketsComplete : Prop :=
  (∀ (s : State) (t p : Nat) (h : FabHdr) (data : List Nat) (i : Instr), let a := s.advance t
    let k := a.arrived p h data
    let o := k.mark { fab := true, hdr := h, data := data, le := 32 + data.length }
    a.portsUp = true → a.isFab p = true → a.fabUp (p / 4) = true → h.dst = a.did → fabMalformed h data true = false →
    a.portContained p = false → a.streamFrozen p (streamReq h.stream) = false → a.actionOf k = 0 →
    (i = .cuePacket t p h data ∧ h.type = tCUE ∨ i = .adminPacket t p h data ∧ h.type = tADMIN ∨
      i = .mirrorPacket t p h data ∧ h.type = tMIRROR ∨ i = .completion t p h data ∧ h.type = tCOMPLETION ∨
      i = .moveComplete t p h data ∧ h.type = tCOMPLETION ∧ 0xFFC0 ≤ h.tag ∨
      i = .lossNotice t p h data ∧ h.type = tCOMPLETION ∧ bits h.ts 7 0 = stREMOTE_UNREACHABLE ∨
      i = .drainMarker t p h data ∧ h.type = tMESSAGE ∧ h.drain = true ∨
      h.type = tMESSAGE ∧ h.drain = false ∧
        (i = .portWatch t p h data ∧ msgCodeOf data = 0x10 ∨ i = .portState t p h data ∧ msgCodeOf data = 0x11 ∨
          i = .dpcReleaseMessage t p h data ∧ msgCodeOf data = 0x12 ∨ i = .pcieMsg t p h data ∧ msgCodeOf data = 0x13 ∨
          i = .mwBind t p h data ∧ msgCodeOf data = 0x20 ∨ i = .mwUnbind t p h data ∧ msgCodeOf data = 0x21 ∨
          i = .mwPeriod t p h data ∧ msgCodeOf data = 0x22)) →
    exec i s = .next (settle ((({ a with loop := a.loop ++ [o] } : State).touchLines o).settleCommit k))) ∧
  (∀ (s : State) (o : QPkt), o.fab = true →
    (o.hdr.type = tCUE → s.deliver o = s.cuePacket o.hdr o.data) ∧
    (o.hdr.type = tMIRROR → s.deliver o = s.mirrorIn o.hdr.src o.data) ∧
    (o.hdr.type = tADMIN → s.deliver o = s.deliverAdmin o) ∧
    (o.hdr.type = tCOMPLETION → s.deliver o = s.deliverCompletion o) ∧
    (o.hdr.type = tMESSAGE → o.hdr.drain = false →
      (msgCodeOf o.data = 0x10 → s.deliver o = s.portWatch o.hdr.src (bits (bytesAt o.data 0 3) 22 16)) ∧
      (msgCodeOf o.data = 0x11 → s.deliver o = s.portStateIn o.hdr.src o.data) ∧
      (msgCodeOf o.data = 0x12 → s.deliver o = s.dpcRelease (bits (bytesAt o.data 0 3) 22 16)) ∧
      (msgCodeOf o.data = 0x13 → s.deliver o = s.pcieMsgIn o.hdr.src o.data) ∧
      (msgCodeOf o.data = 0x20 → s.deliver o = s.mwBind o.hdr o.ing o.data) ∧
      (msgCodeOf o.data = 0x21 → s.deliver o = s.mwUnbind o.hdr o.ing o.data) ∧
      (msgCodeOf o.data = 0x22 → s.deliver o = s.mwPeriod o.hdr.src o.data)))

/-- O28. A well-formed WRITE, READ, INTERRUPT, MASKED_WRITE or MASKED_READ for this device's DID at an up fabric port,
that nothing discards, becomes the TLPs that the local fabric space gives it. Where those leave at local port q
they join its queues, take their entries and tags, and the port's copies are made; where the management function
takes it, it is queued for delivery there. -/
def Obligations.FabricRequestsComplete : Prop :=
  ∀ (s : State) (t p : Nat) (h : FabHdr) (data : List Nat) (i : Instr), let a := s.advance t
    let k := a.arrived p h data
    a.portsUp = true → a.isFab p = true → a.fabUp (p / 4) = true → h.dst = a.did → fabMalformed h data true = false →
    a.portContained p = false → a.streamFrozen p (streamReq h.stream) = false → a.actionOf k = 0 →
    (i = .fabricWrite t p h data ∧ h.type = tWRITE ∨ i = .fabricRead t p h data ∧ h.type = tREAD ∨
      i = .interruptPacket t p h data ∧ h.type = tINTERRUPT ∨
      h.type = tMESSAGE ∧ h.drain = false ∧
        (i = .maskedWrite t p h data ∧ msgCodeOf data = 1 ∨ i = .maskedRead t p h data ∧ msgCodeOf data = 2)) →
    (∀ (q : Nat) (outs : List QPkt) (held : Bool) (u : State), a.localForm k data = .queue q outs held → a.egressContained q = false →
      a.isFab q = false → (∀ d, a.portHd q = some d → a.hdContained d = false) → outs.any (a.tooLarge q) = false →
      (a.freeHeadroom 0).linkAll q cGREEN held outs = some u →
      exec i s = .next (settle (((u.endAsked { k with egress := q }).commitDebit { k with egress := q }).ingressCopies { k with egress := q } q data))) ∧
    (∀ (f : Nat) (x : Tlp) (body : List Nat), a.localForm k data = .endpoint f x body →
      exec i s = .next (settle (({ a with loop := a.loop ++ [{ id := f, ing := p, fab := false, hdr := h, tlp := x, data := body, owner := .fabric h.src h.stream h.tag h.addr false x.fbe x.lbe }] } : State).settleCommit k)))

/-- O29. OCT_MODE_WRITE of an idle octet, within R26's limit, stores mode, protocol and no enables; enabling P0 of a
one-port octet whose mode stays stores the enable and starts the port. RECEIVER_DETECTION in DETECT resets the
lanes to 8 GT/s and goes to ALIGN. A TRAINING_BLOCK with a right CRC and SYNC stores what it tells in the state
that takes it. EQ_COUNT_DONE counts an iteration and the lanes passed. BRINGUP_TIMEOUT fails an overdue state
and raises event 20; BRINGUP_RETRY after 100 ms detects again. CLOCK_LANE_LOSS and CLOCK_LANE_RELOCK move
RX_LOCK and what follows it. -/
def Obligations.BringupCommandsComplete : Prop :=
  (∀ (s : State) (t path k v : Nat), let a := s.advance t
    k < 24 → Safety.takes a path OCT_MODE k 0 v = true →
    (v % 8 ≤ 3 → (bit v 4 = true → v % 8 ≤ 1) → bits v 11 8 = 0 → a.rd OCT_MODE_PORT_EN k = 0 → a.octMode k ≠ 4 →
      (let b := ((a.wr OCT_MODE_MODE (v % 8) k).wr OCT_MODE_FABRIC (b2n (bit v 4)) k).wr OCT_MODE_PORT_EN 0 k
       b.upPorts.length ≤ 32 → exec (.octModeWrite t path k v) s = .next (settle (if k % 2 = 0 then b.wr OCT_STATUS_PAIRED 0 (k + 1) else b)))) ∧
    (v % 8 = 1 → a.octMode k = 1 → bit v 4 = a.on OCT_MODE_FABRIC k → bits v 11 8 = 1 → a.rd OCT_MODE_PORT_EN k = 0 →
      a.octPaired k = false → a.on OCT_TEST_EN k = false →
      (let b := ((a.wr OCT_MODE_MODE 1 k).wr OCT_MODE_FABRIC (b2n (bit v 4)) k).wr OCT_MODE_PORT_EN 1 k
       exec (.octModeWrite t path k v) s = .next (settle
         ((if k % 2 = 0 then b.wr OCT_STATUS_PAIRED 0 (k + 1) else b).portOn (4 * k + 0)))))) ∧
  (∀ (s : State) (t k : Nat), let a := s.advance t
    let b := (List.range (a.fabWidth k)).foldl (fun (u : State) i =>
      ((((u.laneWr LANE_STATUS_LOCKED 0 k i).laneWr LANE_STATUS_RX_INVERTED 0 k i).laneWr LANE_STATUS_LOGICAL 0 k i).laneWr
        LANE_STATUS_FAIL_RATE 15 k i).laneWr LANE_STATUS_RATE 2 k i) a
    Safety.linksUp a = true → a.bringing k = true → a.trState k = trDETECT →
    exec (.receiverDetection t k) s = .next (settle ((((b.wr OCT_FAB_STATUS_REVERSED 0 k).wr OCT_FAB_STATUS_RATE 2 k).setTrn k {}).trainTo k trALIGN))) ∧
  (∀ (s : State) (t k lane : Nat) (raw b : List Nat) (inv : Bool), let a := s.advance t
    let x := a.trn k
    let n := (a.setTrn k { x with partnerUid := bytesAt b 4 11, partnerRate := byteAt b 12, partnerOk := bytesAt b 14 15 }).wr
      OCT_FAB_STATUS_PARTNER_MAX (byteAt b 12) k
    let m := (((n.laneWr LANE_STATUS_LOCKED 1 k lane).laneWr LANE_STATUS_RX_INVERTED (b2n inv) k lane).laneWr LANE_STATUS_LOGICAL
      (byteAt b 3) k lane).syncLock (k + lane / 8)
    Safety.linksUp a = true → a.bringing k = true → lane < a.fabWidth k → raw.length = 32 →
    polarity (a.laneRd LANE_CTRL_RX_POLARITY k lane) raw = some (inv, b) → crc16 (b.take 30) = bytesAt b 30 31 →
    (a.trState k = trALIGN → byteAt b 2 = 1 →
      exec (.trainingBlock t k lane raw) s = .next (settle (if bit (byteAt b 17) 0 then m.alignDone k else m))) ∧
    (a.trState k = trCONFIG → byteAt b 2 = 2 →
      exec (.trainingBlock t k lane raw) s = .next (settle (if bit (byteAt b 17) 0 then n.configDone k else n))) ∧
    (a.trState k = trSTEP → byteAt b 2 = 4 → byteAt b 16 ≤ 10 →
      exec (.trainingBlock t k lane raw) s = .next (settle (a.laneWr LANE_STATUS_TX_PRESET (byteAt b 16) k lane)))) ∧
  (∀ (s : State) (t k : Nat) (counts : List (Nat × Nat)), let a := s.advance t
    let x := a.trn k
    let all := 2 ^ lanesOf (a.rd OCT_FAB_STATUS_WIDTH k) - 1
    let good := counts.filter (fun c => decide (c.1 < 16) && decide (c.2 ≤ a.rd OCT_FAB_CFG_EQ_ERR_LIMIT k))
    let mask := good.foldl (fun m c => setBit m c.1 true) x.passed
    let b := a.setTrn k { x with passed := mask, iter := x.iter + 1 }
    Safety.linksUp a = true → a.bringing k = true → a.trState k = trSTEP → x.done = false → x.verify = false →
    x.prevRate < a.rd OCT_FAB_STATUS_RATE k →
    exec (.eqCountDone t k counts) s = .next (settle (if Nat.land mask all = all then b.stepPassed k
      else if x.iter + 1 < a.rd OCT_FAB_CFG_EQ_MAX_ITER k then b else b.stepFailed k mask))) ∧
  (∀ (s : State) (t k : Nat), let a := s.advance t
    Safety.linksUp a = true → a.bringing k = true →
    (∀ x ∈ [(trALIGN, 2000000), (trCONFIG, 200000), (trSTEP, 4000000)], a.trState k = x.1 → (a.trn k).since + x.2 ≤ a.ns →
      exec (.bringupTimeout t k) s = .next (settle ((a.bringupFailed k).raise 20 { port := some (4 * k) }))) ∧
    (a.trState k = trFAILED → (a.trn k).since + 100000000 ≤ a.ns → exec (.bringupRetry t k) s = .next (settle (a.trainTo k trDETECT)))) ∧
  (∀ (s : State) (t k : Nat), let a := s.advance t
    Safety.linksUp a = true →
    (a.on CK_STATUS_RX_LOCK k = true → exec (.clockLaneLoss t k) s = .next (settle
      (((((a.wr CK_STATUS_RX_LOCK 0 k).setTport k { a.tport k with clockLost := true, calOk := false }).raise 19 { port := some (4 * k) }).sourceLost k)))) ∧
    (a.on CK_STATUS_RX_LOCK k = false → a.fabOct k = true → a.trState k ≠ trOFF → a.trState k ≠ trDETECT →
      (let b := (a.setOn CK_STATUS_RX_LOCK k).setTport k { a.tport k with clockLost := false }
       exec (.clockLaneRelock t k) s = .next (settle (if b.fabUp k then b.calibrate k else b)))))

/-- O30. DOZE_ENTRY of an idle link sends two DOZE slots and dozes; DOZE_EXIT with data ready and DOZE_TIMED_WAKE before
a tick edge wake it. HIBERNATE_ENTER of a link that is not the time source stores its lanes and stops them;
HIBERNATE_EXIT starts the relock and HIBERNATE_EXIT_DONE restores rate and width, or goes to DETECT with event
20. PRBS_INJECT inverts one transmitted bit, PRBS_CLEAR zeroes both counters, PRBS_CHECKER_LOCK sets CHK_LOCK,
and its loss adds the bits and errors counted. -/
def Obligations.LanePowerAndTestsComplete : Prop :=
  (∀ (s : State) (t k : Nat), let a := s.advance t
    let n := leBytes 4 (a.rd LINK_SEQ_TX_NEXT_VALUE k)
    a.portsUp = true →
    (a.on OCT_POWER_DOZE_EN k = true → a.fabUp k = true → a.trState k = trACTIVE → (a.lnk k).change = none → (a.lnk k).doze = false →
      a.txReady k = false → (a.lnk k).busyAt + a.rd OCT_POWER_DOZE_IDLE_NS k ≤ a.ns → a.slotPs (4 * k) ≤ 40000 →
      exec (.dozeEntry t k) s = .next (settle ((((a.setLnk k { a.lnk k with doze := true }).slotSend k 11 n).slotSend k 11 n).wr
        OCT_FAB_STATUS_TRAIN_STATE trDOZE k))) ∧
    ((a.lnk k).doze = true →
      (let b := (a.setLnk k { a.lnk k with doze := false, busyAt := a.ns }).wr OCT_FAB_STATUS_TRAIN_STATE trACTIVE k
       (a.txReady k = true → exec (.dozeExit t k) s = .next (settle b)) ∧
       (a.ticking = true → (a.time.edge / a.tTick + 1) * a.tTick ≤ a.ns + 250 → exec (.dozeTimedWake t k) s = .next (settle b))))) ∧
  (∀ (s : State) (t path k v : Nat), let a := s.advance t
    let b := (a.wr OCT_POWER_DOZE_EN (bits v 30 30) k).wr OCT_POWER_DOZE_IDLE_NS (bits v 15 0) k
    k < 24 → Safety.takes a path OCT_POWER k 0 v = true →
    (bit v 31 = true → a.on OCT_POWER_HIBERNATE_REQ k = false → (b.trState k = trACTIVE ∨ b.trState k = trDOZE) → (b.lnk k).change = none →
      b.rd TIME_STATUS_SOURCE_OCTET ≠ k → b.fabOcts.filter b.timeCand ≠ [k] →
      (let c := b.setTrn k { b.trn k with hibRate := b.rd OCT_FAB_STATUS_RATE k, hibWidth := b.rd OCT_FAB_STATUS_WIDTH k, leaving := false }
       let d := ((c.setOn OCT_POWER_HIBERNATE_REQ k).wr LINK_STATUS_UP 0 k).trainTo k trHIBERNATE
       exec (.hibernateEnter t path k v) s = .next (settle
         (((d.setLnk k { d.lnk k with doze := false, rxDoze := false }).lanesIdle k).fabLost k)))) ∧
    (bit v 31 = false → a.on OCT_POWER_HIBERNATE_REQ k = true → b.trState k = trHIBERNATE →
      (let c := b.wr OCT_POWER_HIBERNATE_REQ 0 k
       exec (.hibernateExit t path k v) s = .next (settle ((c.setTrn k { c.trn k with leaving := true }).wr CK_STATUS_TX_ACTIVE 1 k))))) ∧
  (∀ (s : State) (t k : Nat) (ok : Bool), let a := s.advance t
    let x := a.trn k
    let b := (a.setLanes k x.hibRate x.hibWidth).trainTo k trACTIVE
    let c := b.setTrn k { b.trn k with leaving := false }
    Safety.linksUp a = true → a.trState k = trHIBERNATE → x.leaving = true →
    exec (.hibernateExitDone t k ok) s = .next (settle (if ok then (if (c.lnk k).creditIn then (c.setOn LINK_STATUS_UP k).calibrate k else c)
      else (((a.setTrn k { x with leaving := false }).trainTo k trDETECT).linkRestart k).raise 20 { port := some (4 * k) }))) ∧
  (∀ (s : State) (t path k i v : Nat), let a := s.advance t
    let b := (((a.wr LANE_PRBS_CTRL_GEN_EN (bits v 31 31) k i).wr LANE_PRBS_CTRL_CHK_EN 1 k i).wr
      LANE_PRBS_CTRL_LOOPBACK (bits v 27 26) k i).wr LANE_PRBS_CTRL_PATTERN (bits v 2 0) k i
    k < 24 → i < 8 → Safety.takes a path LANE_PRBS_CTRL k i v = true → patternOk (a.rd OCT_TEST_RATE k) (v % 8) = true → bits v 30 30 = 1 →
    (bit v 28 = false → bit v 29 = true → b.on OCT_TEST_EN k = true → b.on LANE_PRBS_CTRL_GEN_EN k i = true →
      exec (.prbsInject t path k i v) s = .next (settle (b.emit (.pin 2 (8 * k + i) 1)))) ∧
    (bit v 28 = true → bit v 29 = false → exec (.prbsClear t path k i v) s = .next (settle
      (((b.wr LANE_PRBS_ERR_ERRORS 0 k i).wr LANE_PRBS_BITS_LO_VALUE 0 k i).wr LANE_PRBS_BITS_HI_VALUE 0 k i)))) ∧
  (∀ (s : State) (t k i nbits errs : Nat), let a := s.advance t
    let n := a.rd LANE_PRBS_BITS_LO_VALUE k i + a.rd LANE_PRBS_BITS_HI_VALUE k i * 2 ^ 32 + nbits
    Safety.linksUp a = true →
    (a.on OCT_TEST_EN k = true → a.on LANE_PRBS_CTRL_CHK_EN k i = true →
      exec (.prbsCheckerLock t k i) s = .next (settle (a.setOn LANE_PRBS_ERR_CHK_LOCK k i))) ∧
    (a.on LANE_PRBS_ERR_CHK_LOCK k i = true → exec (.prbsCheckerLockLoss t k i nbits errs) s = .next (settle
      ((((a.wr LANE_PRBS_ERR_CHK_LOCK 0 k i).wr LANE_PRBS_ERR_ERRORS (min (a.rd LANE_PRBS_ERR_ERRORS k i + errs) (2 ^ 31 - 1)) k i).wr
        LANE_PRBS_BITS_LO_VALUE n k i).wr LANE_PRBS_BITS_HI_VALUE (n / 2 ^ 32) k i))))

/-- O31. FLIT_RECEIVE of a flit that its FEC leaves readable and whose CRC agrees takes a data flit into the reorder
buffer and delivers what follows in order, or performs the slots of an idle flit; a flit that fails counts as
failed. NAK_RETRY NAKs each overdue number again, or takes the link down after the fourth attempt.
CREDIT_KEEPALIVE sends the credits and the acknowledgement. FORCE_DOWN and PARTNER_LOST take a live link down
with their reason. LINK_CHANGE_REQ sends a request of this end; DRAIN_TIMEOUT ends an overdue drain;
LINK_CHANGE_DONE sets the new rate and width, or takes the link down. -/
def Obligations.LinkCommandsComplete : Prop :=
  (∀ (s : State) (t k : Nat) (bytes : List Nat), let a := s.advanceCt t
    let r := fecFlit (lanesOf (a.rd OCT_FAB_STATUS_WIDTH k)) (bytes.map (· % 256))
    let b := (a.flitSlotIn k).fecNote k r.2.1 r.2.2
    Safety.linksUp a = true → a.linkTakes k = true → bytes.length = 256 →
    ((r.2.2 = true ∨ b.flitSeq k r.1 = none) → exec (.flitReceive t k bytes) s = .next (settle (b.flitFail k))) ∧
    (∀ q, r.2.2 = false → b.flitSeq k r.1 = some q → headBad (flitHead r.1) = false →
      (let c := b.setLnk k { b.lnk k with failRun := 0 }
       (fhType (flitHead r.1) ≤ 3 → c.linkTakes k = true → (c.lnk k).creditIn = true →
         exec (.flitReceive t k bytes) s = .next (settle
           ((((c.findMissing k q).wr LINK_SEQ_RX_EXPECT_VALUE (seqAdd q 1) k).holdFlit k q r.1).deliverAll k))) ∧
       (fhType (flitHead r.1) = 7 → (c.linkSlots k r.1).linkTakes k = true →
         exec (.flitReceive t k bytes) s = .next (settle (((c.linkSlots k r.1).findMissing k q).wr LINK_SEQ_RX_EXPECT_VALUE q k)))))) ∧
  (∀ (s : State) (t k : Nat), let a := s.advance t
    let x := a.lnk k
    let w := a.rd LINK_REPLAY_CFG_NAK_RETRY_NS k
    let due := x.missing.filter (fun m => decide (m.at_ + w ≤ a.ns))
    Safety.linksUp a = true →
    (due.any (fun m => decide (4 ≤ m.attempt)) = true → exec (.nakRetry t k) s = .next (settle (a.linkDown k ldREPLAY_LIMIT))) ∧
    (due.any (fun m => decide (4 ≤ m.attempt)) = false → exec (.nakRetry t k) s = .next (settle
      (due.foldl (fun (u : State) m => u.sendNak k m.seq (m.attempt + 1)) (a.setLnk k { x with missing := x.missing.map (fun m =>
        if m.at_ + w ≤ a.ns then { m with attempt := m.attempt + 1, at_ := a.ns } else m) })))) ∧
    (x.wait = [] → a.fabUp k = true → exec (.creditKeepalive t k) s = .next (settle
      ((a.slotSend k 2 (packNine (fun v => SMap.get x.given v 0))).slotSend k 3 (leBytes 4 (a.rd LINK_SEQ_RX_DELIVER_VALUE k)))))) ∧
  (∀ (s : State) (t path k v : Nat), let a := s.advance t
    let b := ((a.wr LINK_CTRL_CHANGE_KIND (bits v 29 28) k).wr LINK_CTRL_TARGET_RATE (bits v 27 24) k).wr LINK_CTRL_TARGET_WIDTH (bits v 23 21) k
    k < 24 → Safety.takes a path LINK_CTRL k 0 v = true →
    (bit v 31 = true → bit v 30 = false → b.linkLive k = true →
      exec (.forceDown t path k v) s = .next (settle (b.linkDown k ldSOFTWARE))) ∧
    (bit v 31 = false → bit v 30 = true → b.fabUp k = true → (b.lnk k).change = none →
      (let n := ((b.lnk k).reqNo + 1) % 65536
       let c : Change := { kind := b.rd LINK_CTRL_CHANGE_KIND k, rate := b.rd LINK_CTRL_TARGET_RATE k, width := b.rd LINK_CTRL_TARGET_WIDTH k, num := n, mine := true, at_ := b.ns }
       exec (.linkChangeReq t path k v) s = .next (settle
         ((((b.setLnk k { b.lnk k with reqNo := n, change := some c }).setOn LINK_STATUS_CHANGING k).wr LINK_STATUS_CHANGE_RESULT 0 k).sendLinkReq
           k b.uid c.kind c.rate c.width 0 n))))) ∧
  (∀ (s : State) (t k : Nat), let a := s.advance t
    Safety.linksUp a = true → a.linkLive k = true →
    ((a.lnk k).rxDoze = false → (a.lnk k).failRun = 0 → exec (.partnerLost t k) s = .next (settle (a.linkDown k ldPARTNER_LOST))) ∧
    (∀ c, (a.lnk k).change = some c → c.acked = true → (a.drained k && c.nowSent) = false →
      c.at_ + a.rd LINK_REPLAY_CFG_DRAIN_TIMEOUT k * 100 ≤ a.ns → exec (.drainTimeout t k) s = .next (settle (a.linkDown k ldDRAIN_TIMEOUT)))) ∧
  (∀ (s : State) (t k rate width : Nat) (c : Change), let a := s.advance t
    let r := if c.kind = 2 then a.rd OCT_FAB_STATUS_RATE k else if c.kind = 3 then c.rate else rate
    let w := if c.kind = 3 then a.rd OCT_FAB_STATUS_WIDTH k else if c.kind = 2 then c.width else width
    Safety.linksUp a = true → (a.lnk k).change = some c → c.nowSent = true → c.nowSeen = true →
    exec (.linkChangeDone t k true rate width) s = .next (settle
      ((((((a.setLanes k r w).trainTo k trACTIVE).setLnk k { a.lnk k with change := none }).wr LINK_STATUS_CHANGING 0 k).wr
        LINK_STATUS_CHANGE_RESULT (if c.mine then 1 else 2) k).calibrate k)) ∧
    exec (.linkChangeDone t k false rate width) s = .next (settle (a.linkDown k ldCHANGE_FAIL)))

/-- O32. PCIE_LINK_UP of a port that may train stores rate, width and LTSSM, with event 7 when below the port's own,
after its virtual port has seen it. PCIE_DL_DOWN takes an up link down: an upstream port starts its domain's
reset. HIER_READY sets the bit. RETRAIN_LINK, LINK_DISABLE and SECONDARY_BUS_RESET of a vDSP act on the local
port behind it. LINK_POWER_STATE_CHANGE to L0 stores the state. CONFIG_REQUEST at an upstream port is retried
before HIER_READY, and for the vUSP written, or answered with the fields' values. -/
def Obligations.PcieLinkCommandsComplete : Prop :=
  (∀ (s : State) (t p rate width : Nat) (flit : Bool), let a := s.advance t
    let r := min rate (a.rateCap p)
    let w := min width (a.modeLanes p)
    let b := (((((a.setOn PORT_STATUS_LINK_UP p).wr PORT_STATUS_FLIT (b2n (flit && decide (5 ≤ a.rd PORT_CFG_MAX_RATE p))) p).wr
      PORT_STATUS_SPEED r p).wr PORT_STATUS_WIDTH w p).wr PORT_STATUS_LTSSM lsL0 p).portDll p true
    Safety.linksUp a = true → a.mayTrain p = true → a.on PORT_STATUS_LINK_UP p = false →
    exec (.pcieLinkUp t p rate width flit) s = .next (settle
      (if r < a.rd PORT_CFG_MAX_RATE p ∨ w < a.modeLanes p then b.raise 7 { port := some p } else b))) ∧
  (∀ (s : State) (t p : Nat) (hot : Bool), let a := s.advance t
    Safety.linksUp a = true → a.on PORT_STATUS_LINK_UP p = true →
    (a.isUp p = true → exec (.pcieDlDown t p hot) s = .next (settle ((a.dlDown p lsDETECT hot).hdReset (a.rd PORT_CFG_HD p)))) ∧
    (a.isDown p = true → exec (.pcieDlDown t p hot) s = .next (settle
      (if (a.slotChan p).isSome ∧ a.on PORT_SLOT_CFG_SURPRISE p = false then (a.dlDown p lsDETECT hot).dpcEvent p 0 5 else a.dlDown p lsDETECT hot)))) ∧
  (∀ (s : State) (t path p v : Nat), let a := s.advance t
    p < 96 → Safety.takes a path PORT_HIER_CTRL p 0 v = true → bit v 0 = true → a.isUp p = true →
    exec (.hierReady t path p v) s = .next (settle (a.setOn PORT_HIER_CTRL_HIER_READY p))) ∧
  (∀ (s : State) (t hd dev p : Nat), let a := s.advance t
    Safety.linksUp a = true → a.localPort hd dev = some p →
    (a.on PORT_STATUS_LINK_UP p = true → exec (.retrainLink t hd dev) s = .next (settle
      (a.wr PORT_STATUS_SPEED (min (a.rd PORT_STATUS_SPEED p) (a.rateCap p)) p))) ∧
    (∀ on, let b := (a.setVc (vfKey hd dev vfLinkDisable) (b2n on)).setPport p { a.pport p with disabled := on }
      exec (.linkDisable t hd dev on) s = .next (settle
        (if on then b.dlDown p lsDISABLED true else if a.portContained p then b else b.wr PORT_STATUS_LTSSM lsDETECT p))) ∧
    (∀ on, let b := (a.setVc (vfKey hd dev vfBusReset) (b2n on)).setPport p { a.pport p with hot := on }
      exec (.secondaryBusReset t hd dev on) s = .next (settle
        (if on then b.dlDown p lsHOTRESET true else if a.portContained p ∨ (a.pport p).disabled then b else b.wr PORT_STATUS_LTSSM lsDETECT p)))) ∧
  (∀ (s : State) (t p width : Nat), let a := s.advance t
    Safety.linksUp a = true → a.isPcie p = true → a.on PORT_STATUS_LINK_UP p = true →
    exec (.linkPowerStateChange t p 0 width) s = .next (settle
      ((a.wr PORT_STATUS_LTSSM lsL0 p).setPport p { (a.wr PORT_STATUS_LTSSM lsL0 p).pport p with l0s := 0 }))) ∧
  (∀ (s : State) (t p : Nat) (x : Tlp) (fields : List (Nat × Nat)) (data : List Nat), let a := s.advance t
    let hd := a.rd PORT_CFG_HD p
    let ans (u : State) (st : Nat) (d : List Nat) : State := u.emit (.answer p x.req x.tag st d)
    Safety.linksUp a = true → a.isUp p = true → a.on PORT_STATUS_LINK_UP p = true → x.kind.isCfg = true →
    (a.on PORT_HIER_CTRL_HIER_READY p = false → exec (.configRequest t p x fields data) s = .next (settle (ans a cplRRS []))) ∧
    (a.on PORT_HIER_CTRL_HIER_READY p = true → x.addr / 2 ^ 19 % 32 = 0 → x.addr / 2 ^ 16 % 8 = 0 →
      (x.kind = .cfgRd0 → exec (.configRequest t p x fields data) s = .next (settle (ans a cplSC (fields.map (fun e => a.vpRead hd vUSP e.1))))) ∧
      (x.kind = .cfgWr0 → exec (.configRequest t p x fields data) s = .next (settle
        (ans (fields.foldl (fun (u : State) e => u.vpWrite hd vUSP e.1 e.2) a) cplSC [])))))

/-- O33. DPC_ENTRY of an enabled kind, DPC_SOFTWARE_TRIGGER and DPC_TRIGGER contain a downstream port with their reason;
DPC_RELEASE and DPC_STATUS_CLEAR of a local port end it. POWER_CONTROLLER_CONTROL and INDICATOR_CONTROL that
change a control store it, act on the slot and complete the command. PERST_DEASSERT 99 ms and more after ON
releases PERSTO_N. PORT_STATE_REFRESH tells every watcher last told 64 ticks ago; INDICATOR_BLINK drives each
blinking indicator. -/
def Obligations.ContainmentAndSlotCommandsComplete : Prop :=
  (∀ (s : State) (t p : Nat), let a := s.advance t
    Safety.linksUp a = true → a.isDown p = true → a.on PORT_STATUS_DPC_ACTIVE p = false →
    (∀ n, a.dpcSelects p n = true → exec (.dpcEntry t p 0 n) s = .next (settle ((a.uncorrectable p n).dpcEnter p 0 0))) ∧
    (∀ (f : Nat → Nat) (n : Nat), a.portKey p = some f → (a.vc (f vfDpcEnable) = 2 → exec (.dpcEntry t p 1 n) s = .next (settle (a.dpcEnter p 1 0))) ∧
      (a.vc (f vfDpcEnable) = 1 ∨ a.vc (f vfDpcEnable) = 2 → exec (.dpcEntry t p 2 n) s = .next (settle (a.dpcEnter p 2 0)))) ∧
    (∀ hd dev, a.localPort hd dev = some p → exec (.dpcSoftwareTrigger t hd dev) s = .next (settle (a.dpcEnter p 3 1)))) ∧
  (∀ (s : State) (t path p v : Nat), let a := s.advance t
    p < 96 → Safety.takes a path PORT_DPC p 0 v = true → a.isDown p = true →
    (bit v 30 = true → bit v 31 = false → exec (.dpcTrigger t path p v) s = .next (settle (a.dpcEnter p 3 1))) ∧
    (bit v 30 = false → bit v 31 = true → exec (.dpcRelease t path p v) s = .next (settle (a.dpcRelease p)))) ∧
  (∀ (s : State) (t hd dev : Nat) (e : VEnt), let a := s.advance t
    Safety.linksUp a = true → a.vent hd dev = some e → (a.vdsp hd dev).dpc = true → e.did = a.did →
    exec (.dpcStatusClear t hd dev) s = .next (settle (a.dpcRelease e.port))) ∧
  (∀ (s : State) (t hd dev p : Nat), let a := s.advance t
    Safety.linksUp a = true → a.localPort hd dev = some p → (a.slotChan p).isSome = true →
    (∀ off, (a.pport p).off ≠ off → exec (.powerControllerControl t hd dev off) s = .next (settle
      (((a.setVc (vfKey hd dev vfPowerOff) (b2n off)).setPower p off).cmdCompleted hd dev))) ∧
    (∀ (attn : Bool) (c : Nat), let k := vfKey hd dev (if attn then vfAttnInd else vfPwrInd)
      1 ≤ c → c ≤ 3 → a.vc k ≠ c →
      exec (.indicatorControl t hd dev attn c) s = .next (settle (((a.setVc k c).setInd p attn c).cmdCompleted hd dev)))) ∧
  (∀ (s : State) (t p n at_ : Nat), let a := s.advance t
    a.loadedUp = true → a.on FAULT_STATUS_HALTED = false → a.slotChan p = some n → (a.pport p).onAt = some at_ → at_ + 99000000 ≤ a.ns →
    a.on PORT_SLOT_STATUS_POWER_ON p = true → a.on PORT_SLOT_CTRL_PERST_FORCE p = false → a.inHdReset p = false → a.on PORT_SLOT_STATUS_PERST p = true →
    (if 2 * n < 32 then bit (a.rd REFOUT_EN_LO_VALUE) (2 * n) else bit (a.rd REFOUT_EN_HI_VALUE) (2 * n - 32)) = true →
    exec (.perstDeassert t p) s = .next (settle ((a.wr PORT_SLOT_STATUS_PERST 0 p).emit (.pin 3 n 1)))) ∧
  (∀ (s : State) (t : Nat), let a := s.advance t
    a.portsUp = true → exec (.portStateRefresh t) s = .next (settle
      ((a.port.watches.filter (fun w => decide (w.sent + 64 ≤ a.time.tick))).foldl (fun (u : State) w =>
        ({ u with port := { u.port with watches := u.port.watches.map (fun x => if x = w then { x with sent := u.time.tick } else x) } } : State).sendMsg
          w.did w.port (u.portStateData w.port)) a))) ∧
  (∀ (s : State) (t : Nat), let a := s.advance t
    a.loadedUp = true → a.on FAULT_STATUS_HALTED = false → exec (.indicatorBlink t) s = .next (settle
      ((List.range 96).foldl (fun (u : State) p =>
        match u.slotChan p with
        | none => u
        | some n =>
          let v := if u.rd PORT_SLOT_STATUS_PWR_IND p = 2 then u.emit (.pin 4 n (u.indLevel 2)) else u
          if u.rd PORT_SLOT_STATUS_ATTN_IND p = 2 then v.emit (.pin 5 n (u.indLevel 2)) else v) a)))

/-- O34. BRIDGE_NP_TIMEOUT of an overdue host request, no read waiting for a line, answers UR, counts and raises 91;
ISSUED_REQUEST_TIMEOUT answers the fabric requester with REMOTE_ERROR. PREFETCH_FILL with OK fills the line and
answers the reads that wait for it; with another status it discards the line. PREFETCH_LINE_EXPIRE discards
every line issued before the latest tick edge. CUE_SCHED stores the result of queueing its edge: 1 taken, 2
late, 3 no space, 4 otherwise. MIRROR_SEND sends the due producers' values, at once where the consumer is local.
MIRROR_STALE of a consumer silent for 4 periods marks it and raises 108. -/
def Obligations.BridgeEventsComplete : Prop :=
  (∀ (s : State) (t tag : Nat) (e : NpEnt), let a := s.advance t
    a.portsUp = true → e.port = none → e.issued + a.npTimeout ≤ a.ns → a.brg.waits = [] → a.np tag = some e →
    (∀ r, e.owner = .host r → exec (.bridgeNpTimeout t tag) s = .next (settle
      ((((a.setNp tag none).hostAnswer r cplUR false []).inc BRG_READ_TIMEOUTS_VALUE).raise 91))) ∧
    (∀ did stream tg addr cfg fbe lbe, e.owner = .fabric did stream tg addr cfg fbe lbe → exec (.bridgeNpTimeout t tag) s = .next (settle
      ((((a.setNp tag none).ownerReply did stream tg addr fbe lbe 0 stREMOTE_ERROR false []).inc BRG_READ_TIMEOUTS_VALUE).raise 91)))) ∧
  (∀ (s : State) (t n p did stream tg addr fbe lbe : Nat) (cfg : Bool) (e : NpEnt), let a := s.advance t
    a.portsUp = true → a.np n = some e → e.port = some p → e.owner = .fabric did stream tg addr cfg fbe lbe →
    exec (.issuedRequestTimeout t n) s = .next (settle ((a.setNp n none).ownerReply did stream tg addr fbe lbe p stREMOTE_ERROR false []))) ∧
  (∀ (s : State) (t tag n : Nat) (poison : Bool) (data : List Nat) (e : NpEnt) (l : Line), let a := s.advance t
    let b := a.setNp tag none
    a.portsUp = true → a.np tag = some e → e.owner = .line n → SMap.get b.brg.lines n none = some l → l.tag = tag → l.filled = false →
    (let c := b.setLine n (some { l with filled := true, poison := poison, data := data })
     exec (.prefetchFill t tag stOK poison data) s = .next (settle
      ((c.brg.waits.filter (fun w => w.line == n)).foldl
        (fun (u : State) w => u.hostAnswer w.r cplSC poison (readBack w.r w.a ((data.drop (w.a - l.base)).take w.n)))
        { c with brg := { c.brg with waits := c.brg.waits.filter (fun w => w.line != n) } }))) ∧
    (∀ st, st ≠ stOK → exec (.prefetchFill t tag st poison data) s = .next (settle (b.discardLine n)))) ∧
  (∀ (s : State) (t : Nat), let a := s.advance t
    a.portsUp = true → exec (.prefetchLineExpire t) s = .next (settle
      ((a.lineList.filter (fun e => decide (e.2.tick < a.time.tick))).foldl (fun (u : State) e => u.discardLine e.1) a))) ∧
  (∀ (s : State) (t path v : Nat), let a := s.advance t
    let x := a.queueEdge (bits v 5 0) { at_ := a.rd64 CUE_SCHED_LO_VALUE CUE_SCHED_HI_VALUE, level := bit v 8 }
    Safety.takes a path CUE_SCHED_CMD 0 0 v = true → bit v 31 = true →
    exec (.cueSched t path v) s = .next (settle (x.2.wr CUE_SCHED_STATUS_RESULT
      (if x.1 = stOK then 1 else if x.1 = stLATE then 2 else if x.1 = stRESOURCE_LIMIT then 3 else 4)))) ∧
  (∀ (s : State) (t : Nat), let a := s.advance t
    let due := a.cue.mirrors.filter (fun e => e.2.role == 1 && e.2.bound && (a.time.tick % max 1 e.2.effP == 0 || e.2.due))
    let b := due.foldl (fun (u : State) e => u.setMirror e.1 { e.2 with due := false }) a
    let c := (due.filter (fun e => e.2.peerDid == a.did)).foldl (fun (u : State) e =>
      u.mirrorTake a.did e.1 a.time.tick e.2.peerWord (u.rd MW_VALUE_VALUE e.1)) b
    a.portsUp = true → due.all (fun e => e.2.peerDid == a.did) = true → exec (.mirrorSend t) s = .next (settle c)) ∧
  (∀ (s : State) (t w : Nat), let a := s.advance t
    a.portsUp = true → (a.mirror w).role = 2 → (a.mirror w).bound = true → (a.mirror w).stale = false →
    (a.mirror w).since + 4 * (a.mirror w).effP ≤ a.time.tick →
    exec (.mirrorStale t w) s = .next (settle ((a.setMirror w { a.mirror w with stale := true }).raise 108 { arg := w })))

/-- O35. On a started descriptor of legal form: WINDOW_SET stores a window that fits the rules in its slot's pool entry,
or in the lowest free one; WINDOW_CLEAR frees the slot's entry; WINDOW_READ returns the window's image.
MIRROR_BIND of a free producer of the ring's function to a free local consumer binds both; MIRROR_UNBIND ends
that binding; MIRROR_SAMPLE_SET stores role, source, period and owner of its unbound words. Each completes OK. -/
def Obligations.WindowAndMirrorAdminCompletes : Prop :=
  (∀ (s : State) (t q i : Nat) (d : Desc), let a := s.advance t
    let w := d.window
    a.portsUp = true → Safety.ready a q i d = true → d.windowOk = true →
    (Desc.isOp 0x16 1 d = true → a.windowFits w = true →
      (∀ n o, a.windowAt w.hd w.slot = some (n, o) → exec (.windowSet t q i) s = .next (settle ((a.setWindow n (some w)).finish q d stOK))) ∧
      (a.windowAt w.hd w.slot = none → lowestFree a.brg.windows 0 < 65536 →
        exec (.windowSet t q i) s = .next (settle ((a.setWindow (lowestFree a.brg.windows 0) (some w)).finish q d stOK)))) ∧
    (Desc.isOp 0x16 2 d = true → d.zero 8 23 = true → d.zero 44 47 = true → ∀ n o, a.windowAt w.hd w.slot = some (n, o) →
      exec (.windowClear t q i) s = .next (settle ((a.setWindow n none).finish q d stOK))) ∧
    (Desc.isOp 0x16 3 d = true → d.zero 8 23 = true → d.zero 44 47 = true → (a.qp q).dataBase ≠ 0 →
      exec (.windowRead t q i) s = .next (settle (a.finish q d stOK 0 (some (windowImage ((a.windowAt w.hd w.slot).map (·.2)))))))) ∧
  (∀ (s : State) (t q i : Nat) (d : Desc), let a := s.advance t
    let m := a.mirror d.mirWord
    let c := d.dest % 4096
    a.portsUp = true → Safety.ready a q i d = true → d.mirOk = true → d.outstanding = 0 → m.role = 1 → d.dest / 2 ^ 52 % 4096 = a.did →
    (a.qp q).fn = some (ownerFn m.owner) →
    (Desc.isOp 0x06 1 d = true → m.bound = false → (a.mirror c).role = 2 → (a.mirror c).bound = false →
      (let b := a.setMirror c { a.mirror c with bound := true, peerDid := a.did, peerWord := d.mirWord, since := a.time.tick }
       exec (.mirrorBind t q i) s = .next (settle ((b.setMirror d.mirWord
         { m with bound := true, peerDid := a.did, peerWord := c, peerP := (b.mirror c).period }).finish q d stOK)))) ∧
    (Desc.isOp 0x06 2 d = true → m.bound = true → m.peerDid = a.did → m.peerWord = c →
      exec (.mirrorUnbind t q i) s = .next (settle (((a.setMirror d.mirWord
        { m with bound := false, peerDid := 0, peerWord := 0, peerP := 0, due := false }).consumerUnbind a.did d.mirWord c).finish q d stOK)))) ∧
  (∀ (s : State) (t q i : Nat) (d : Desc), let a := s.advance t
    let first := bytesAt d.img 42 43
    let n := bytesAt d.img 44 45
    let owner := bytesAt d.img 48 49
    let ws := (List.range n).map (first + ·)
    a.portsUp = true → Safety.ready a q i d = true → d.opcode = 0x1F → d.flagsOk = true → d.zero 8 39 = true → d.zero 50 63 = true →
    d.op40 ≤ 2 → byteAt d.img 41 ≤ 2 → (d.op40 = 1 ∨ byteAt d.img 41 = 0) → 1 ≤ n → first + n ≤ 4096 → 1 ≤ bytesAt d.img 46 47 → owner < 2048 →
    (∀ w, (a.mirror w).bound = false) →
    exec (.mirrorSampleSet t q i) s = .next (settle ((ws.foldl (fun (u : State) w => u.setMirror w
      { u.mirror w with role := d.op40, source := byteAt d.img 41, period := bytesAt d.img 46 47, owner := owner }) a).finish q d stOK)))

/-- O36. QP_ENABLE of a configured DISABLED QP makes it ACTIVE with its pointers and phase at their start; QP_DISABLE of
an ACTIVE or FROZEN one starts to drain it, and QP_DRAIN_DONE with nothing outstanding ends that. SQ_DOORBELL
with a legal tail stores it and fetches; CQ_DOORBELL with a legal head stores it and lets held entries go.
DESCRIPTOR_FETCH with the bytes asked for appends the descriptors, moves the head and starts what may start; a
failed one freezes the QP and raises 94. -/
def Obligations.RingCommandsComplete : Prop :=
  (∀ (s : State) (t f qn : Nat), let a := s.advance t
    let q := a.qp qn
    a.portsUp = true → (a.fn f).reset = none → a.localQp f (a.fn f).qpSel = some qn →
    (q.state = .disabled → q.sqLog ≤ q.cqLog → q.sqBase ≠ 0 → q.cqBase ≠ 0 → q.freeze = none →
      exec (.qpEnable t f) s = .next (settle (a.setQp qn { q with
        state := .active, head := 0, tail := 0, cqTail := 0, cqHead := 0, phase := true, inProg := [], held := [],
        fetching := 0, msiPending := false }))) ∧
    (q.state = .active ∨ q.state = .frozen → exec (.qpDisable t f) s = .next (settle (a.drainQp qn)))) ∧
  (∀ (s : State) (t qn : Nat), let a := s.advance t
    let b := a.freeNpOf (ownedBy qn)
    a.portsUp = true → (a.qp qn).state = .draining → ((a.qp qn).fn.bind (fun f => (a.fn f).reset)) = none → a.qpBusy qn = false →
    exec (.qpDrainDone t qn) s = .next (settle (b.setQp qn { b.qp qn with state := .disabled, inProg := [], fetching := 0 }))) ∧
  (∀ (s : State) (t f l v qn : Nat), let a := (s.advance t).doorbellWake f l
    let q := a.qp qn
    (s.advance t).portsUp = true → a.doorbellQp f l = some qn →
    (v < 2 ^ q.sqLog → (q.tail + 2 ^ q.sqLog - q.head) % 2 ^ q.sqLog ≤ (v + 2 ^ q.sqLog - q.head) % 2 ^ q.sqLog →
      exec (.sqDoorbell t f l v) s = .next (settle ((a.setQp qn { q with tail := v }).fetchMore qn))) ∧
    (v < 2 ^ q.cqLog → (v + 2 ^ q.cqLog - q.cqHead) % 2 ^ q.cqLog ≤ (q.cqTail + 2 ^ q.cqLog - q.cqHead) % 2 ^ q.cqLog →
      exec (.cqDoorbell t f l v) s = .next (settle ((a.setQp qn { q with cqHead := v }).pumpQp qn)))) ∧
  (∀ (s : State) (t qn st : Nat) (bytes : List Nat), let a := (s.advance t).eccQp qn
    let q := a.qp qn
    (s.advance t).portsUp = true → q.fetching ≠ 0 → q.state ≠ .draining →
    (bytes.length = 64 * q.fetching → exec (.descriptorFetch t qn 0 bytes) s = .next (settle
      ((a.setQp qn { q with fetching := 0, head := (q.head + q.fetching) % 2 ^ q.sqLog,
                            inProg := q.inProg ++ descsOf (2 ^ q.sqLog) bytes q.fetching q.head }).pumpQp qn))) ∧
    (st ≠ 0 → st ≠ 7 → exec (.descriptorFetch t qn st bytes) s = .next (settle
      (((a.setQp qn { q with fetching := 0, freeze := some { q.freeze.getD {} with at_ := a.ns } }).freezeQp qn).raise 94
        { qp := some qn, hd := q.fn.bind a.fnHd }))))

/-- O37. RING_WRITE and SEND of legal form, not held and allowed by the MPU, ask for the first page of their source; SEND
first needs a target that it may send to, ACTIVE, with a data base and room. RING_READ of legal form sends its
READs in order. HOST_READ_COMPLETION takes the bytes awaited: a SEND with all of its data is copied to the
target, a WRITE sends its pieces; an error fails the descriptor. WRITE_ACK_TIMEOUT and READ_TIMEOUT of an
overdue entry free the descriptor's entries and complete it TIMEOUT. -/
def Obligations.DataMoversComplete : Prop :=
  (∀ (s : State) (t q i : Nat) (d : Desc), let a := s.advance t
    let n := min d.length (4096 - d.source % 4096)
    let b := (a.setDesc q { d with asked := n, hostReads := 1 }).hostReads q d.source n (.desc q i)
    a.portsUp = true → Safety.ready a q i d = true → d.idx = i → d.asked = 0 → d.hostReads = 0 → a.qpHeld q = false →
    a.moverBad (a.qp q) spHost false d.source n = none →
    (d.opcode = 0x01 → d.moveOk true 16777216 = true → exec (.ringWrite t q i) s = .next (settle b)) ∧
    (∀ tq, d.opcode = 0x03 → d.moveOk false 4096 = true → a.sendShape d = true → a.maySend ((a.qp q).fn.getD 0) d.target = true →
      a.localQp d.target (bits d.dest 8 0) = some tq → (a.qp tq).state = .active → (a.qp tq).dataBase ≠ 0 → (a.qp tq).cqFull = false →
      d.length ≤ 2 ^ (a.qp tq).dataLog → exec (.send t q i) s = .next (settle b))) ∧
  (∀ (s : State) (t q i : Nat) (d : Desc), let a := s.advance t
    a.portsUp = true → Safety.ready a q i d = true → d.opcode = 0x02 → d.moveOk false 16777216 = true →
    exec (.ringRead t q i) s = .next (settle (a.readPieces q i 4098))) ∧
  (∀ (s : State) (t q i st : Nat) (poison : Bool) (data : List Nat) (d : Desc), let a := s.advance t
    let x := { d with buf := d.buf ++ data, hostReads := 0, poisoned := d.poisoned || poison }
    let b := a.setDesc q x
    a.portsUp = true → Safety.ready a q i d = true → d.hostReads ≠ 0 →
    (d.opcode = 0x03 → data.length = d.awaited → d.length ≤ x.buf.length →
      exec (.hostReadCompletion t q i 0 poison data) s = .next (settle (b.sendCopy q x))) ∧
    (d.opcode = 0x01 → data.length = d.awaited → (∀ e, ((b.pumpWrites q 64).qp q).desc i = some e → e.outcome.isSome = true) →
      exec (.hostReadCompletion t q i 0 poison data) s = .next (settle (b.pumpWrites q 64))) ∧
    (d.opcode = 0x01 ∨ d.opcode = 0x03 → st ≠ 0 → exec (.hostReadCompletion t q i st poison data) s = .next (settle (a.hostReadFailed q d st)))) ∧
  (∀ (s : State) (t tag q i : Nat) (e : NpEnt) (d : Desc), let a := s.advance t
    let b := a.freeNpOf (· == .desc q i)
    a.portsUp = true → a.np tag = some e → e.owner = .desc q i → e.issued + a.npTimeout ≤ a.ns → (b.qp q).desc i = some d → d.outcome = none →
    (npTotal ≤ tag → exec (.writeAckTimeout t tag) s = .next (settle (b.finish q d stTIMEOUT d.done))) ∧
    (tag < npTotal → exec (.readTimeout t tag) s = .next (settle (b.finish q d stTIMEOUT 0))))

/-- O38. On a started VF_RESOURCES descriptor of legal form for a VF that is not resetting: VF_QPS and VF_VECTORS within
the pools set the counts; VF_METER and VF_COALESCE store their value; VF_RESOURCES_READ returns the VF's image;
VF_REGIONS asks for its images; DIRTY_START stores a new log. Each completes OK but VF_REGIONS, whose completion
follows its data. DIRTY_SYNC and DIRTY_STOP of a log in use start the merge of a bitmap, which ends at once when
it has no cached word. -/
def Obligations.VfResourcesComplete : Prop :=
  (∀ (s : State) (t q i : Nat) (d : Desc), let a := s.advance t
    let v := bytesAt d.img 42 43
    let x := a.fn v
    let l := x.log
    a.portsUp = true → Safety.ready a q i d = true → d.vfOk = true → x.reset = none →
    (Desc.isOp 0x18 1 d = true → d.vfValue ≤ 512 → ∀ u, a.setQps v d.vfValue = (stOK, u) →
      exec (.vfQps t q i) s = .next (settle (u.finish q d stOK))) ∧
    (Desc.isOp 0x18 2 d = true → d.vfValue ≤ 2048 → x.qps.any (fun g => (a.qp g).state != .disabled && decide (d.vfValue ≤ (a.qp g).vector)) = false →
      d.vfValue ≤ a.rd RING_POOL_FREE_VECTORS + x.vectors →
      exec (.vfVectors t q i) s = .next (settle (((a.setFn v { x with vectors := d.vfValue, msix := x.msix.filter (fun e => decide (e.1 < d.vfValue)) }).wr
        RING_POOL_FREE_VECTORS (a.rd RING_POOL_FREE_VECTORS + x.vectors - d.vfValue)).finish q d stOK))) ∧
    (Desc.isOp 0x18 3 d = true → d.vfValue / 512 = 0 → 1 ≤ d.regCount → d.regFirst + d.regCount ≤ 16 → d.asked = 0 → a.qpHeld q = false →
      a.moverBad (a.qp q) spHost false d.source (16 * d.regCount) = none →
      exec (.vfRegions t q i) s = .next (settle ((a.setDesc q { d with asked := 16 * d.regCount, hostReads := 1 }).hostReads q d.source
        (16 * d.regCount) (.desc q d.idx)))) ∧
    (Desc.isOp 0x18 4 d = true → bits d.vfValue 30 18 = 0 → exec (.vfMeter t q i) s = .next (settle
      ((a.setFn v { x with meter := bits d.vfValue 17 0, meterEn := bit d.vfValue 31 }).finish q d stOK))) ∧
    (Desc.isOp 0x18 5 d = true → 1 ≤ d.vfValue → d.vfValue ≤ 255 → exec (.vfCoalesce t q i) s = .next (settle
      ((a.setFn v { x with coalesce := d.vfValue }).finish q d stOK))) ∧
    (Desc.isOp 0x18 6 d = true → d.vfValue = 0 → 27 ≤ byteAt d.img 56 → byteAt d.img 56 ≤ 48 → bytesAt d.img 48 55 % 2 ^ byteAt d.img 56 = 0 →
      d.source % 4096 = 0 → d.dest % 4096 = 0 → l.logging = false →
      exec (.dirtyStart t q i) s = .next (settle ((a.setLog v
        { mapA := d.source, mapB := d.dest, base := bytesAt d.img 48 55, span := byteAt d.img 56, logging := true }).finish q d stOK))) ∧
    (d.vfValue = 0 → l.waiter = none → l.logging = true → l.syncing = none →
      (Desc.isOp 0x18 7 d = true → exec (.dirtySync t q i) s = .next (settle
        (((a.setLog v (if l.sel then { l with sel := false, syncing := some true, waiter := some (q, i), newA := 0 }
          else { l with sel := true, syncing := some false, waiter := some (q, i), newB := 0 })).mergeIssue v).mergeEnd v))) ∧
      (Desc.isOp 0x18 8 d = true → exec (.dirtyStop t q i) s = .next (settle
        (((a.setLog v { l with syncing := some l.sel, stopping := true, waiter := some (q, i) }).mergeIssue v).mergeEnd v)))) ∧
    (Desc.isOp 0x18 9 d = true → d.vfValue = 0 → (a.qp q).dataBase ≠ 0 →
      exec (.vfResourcesRead t q i) s = .next (settle (a.finish q d stOK 0 (some
        (leBytes 2 x.qps.length ++ leBytes 2 x.vectors ++ leBytes 4 (x.meter + b2n x.meterEn * 2 ^ 31)
          ++ [x.coalesce, b2n (a.on VF_STATE_ENABLED v) + 4 * b2n l.logging + 8 * b2n l.sel] ++ List.replicate 6 0 ++ leBytes 8 l.base
          ++ [l.span] ++ List.replicate 7 0)))))) ∧
  (∀ (s : State) (t v w host : Nat) (b : Bool), let a := s.advance t
    let l := (a.fn v).log
    let all := SMap.get (l.cache b) w 0 ||| host
    let n := popcount64 all - popcount64 host
    let c := l.setCache b (SMap.set (l.cache b) w 0 0)
    let d := if b then { c with newB := c.newB + n } else { c with newA := c.newA + n }
    a.portsUp = true → l.syncing = some b →
    (SMap.get l.written w 0 = 1 → exec (.dirtyMergeDone t v w false 0 host) s = .next (settle
      ((a.setLog v { d with written := SMap.set d.written w 2 0 }).hostWrite (a.logPf v) (l.addr b w) (leBytes 8 all)))) ∧
    (SMap.get l.written w 0 = 2 → exec (.dirtyMergeDone t v w true 0 host) s = .next (settle
      (((a.setLog v { l with written := SMap.set l.written w 0 0 }).mergeIssue v).mergeEnd v))))

/-- O39. VF_ENABLE with a legal number of VFs makes those VFs present and counts them; VF_ENABLE_CLEAR removes and resets
each enabled VF. FUNCTION_LEVEL_RESET of a present VF and a started VF_RESET descriptor start the VF's reset:
Bus Master off, pending vectors dropped, configuration at its reset values, its QPs drained and its queues
flushed. VF_RESET_SQUASH after NP_TIMEOUT drops the outstanding reads and raises 160. VF_RESET_COMPLETE with
nothing outstanding disables the QPs and ends the reset; the waiting VF_RESET completes with the number aborted. -/
def Obligations.VfEnablesAndResetsComplete : Prop :=
  (∀ (s : State) (t n : Nat), let a := s.advance t
    let x := a.fn (pfIndex n)
    a.portsUp = true →
    (x.vfEnable = false → x.numVfs ≠ 0 → x.numVfs ≤ a.rd RING_PF_VF_VF_LIMIT n →
      (let vs := (List.range x.numVfs).map (fun i => a.rd RING_PF_VF_VF_BASE n + i)
       let b := vs.foldl (fun (u : State) v => (u.setFn v { u.fn v with present := true }).setOn VF_STATE_ENABLED v)
         (a.setFn (pfIndex n) { x with vfEnable := true })
       exec (.vfEnable t n) s = .next (settle (b.wr RING_VF_ENABLED_COUNT (b.rd RING_VF_ENABLED_COUNT + vs.length - 0))))) ∧
    (x.vfEnable = true →
      (let vs := a.enabledVfs n
       let b := vs.foldl (fun (u : State) v => ((u.setFn v { u.fn v with present := false }).wr VF_STATE_ENABLED 0 v).fnReset v false none)
         (a.setFn (pfIndex n) { x with vfEnable := false })
       exec (.vfEnableClear t n) s = .next (settle (b.wr RING_VF_ENABLED_COUNT (b.rd RING_VF_ENABLED_COUNT + 0 - vs.length)))))) ∧
  (∀ (s : State) (t f : Nat), let a := s.advance t
    let x := a.fn f
    let start (flr : Bool) (who : List (Nat × Nat)) : State :=
      let r : VfReset := { at_ := a.ns, qp := who, flr := flr, aborted := a.abortCount f }
      let y : Fn := { x with reset := some r, msix := (x.msix.map (fun e => (e.1, { e.2 with pending := false }))).filter (fun e => e.2 != {}) }
      (x.qps.foldl (fun (u : State) qn => u.drainQp qn) (((a.setFn f y).clearFnCfg f).setOn VF_STATE_RESETTING f)).flushSub f
    a.portsUp = true → f < 2048 → x.reset = none →
    (x.present = true → exec (.functionLevelReset t f) s = .next (settle (start true []))) ∧
    (∀ (q i : Nat) (d : Desc), Safety.ready a q i d = true → d.opcode = 0x19 → bytesAt d.img 42 43 = f → d.flagsOk = true → d.zero 8 41 = true →
      d.zero 44 63 = true → exec (.vfReset t q i) s = .next (settle (start false [(q, i)])))) ∧
  (∀ (s : State) (t f : Nat) (r : VfReset), let a := s.advance t
    let x := a.fn f
    a.portsUp = true → x.reset = some r →
    (r.squashed = false → a.fnBusy f = true → r.at_ + a.rd RING_RESET_CFG_NP_TIMEOUT * 10000 ≤ a.ns →
      (let b := x.qps.foldl (fun (u : State) qn => (u.freeNpOf (ownedBy qn)).setQp qn { u.qp qn with fetching := 0, inProg := [] }) a
       exec (.vfResetSquash t f) s = .next (settle ((b.setFn f { b.fn f with reset := some { r with squashed := true } }).raise 160 { arg := f })))) ∧
    (a.fnBusy f = false → a.fnPosted f = false → f < 2048 →
      (let b := x.qps.foldl (fun (u : State) qn => u.endDrain qn) a
       exec (.vfResetComplete t f) s = .next (settle (r.qp.foldl (fun (u : State) w => u.withDesc w.1 w.2 (fun d => u.finish w.1 d stOK r.aborted))
         ((b.setFn f { b.fn f with reset := none }).wr VF_STATE_RESETTING 0 f))))))

/-- O40. An access of an executing core that its MPU allows: in the memories a load or fetch returns the bytes, a store
writes them, an AMO does its operation; in the setup space it reads or writes the register; in the fabric window
a store sends its packets and a load that is sent waits for its answer. One that is not allowed and no store
freezes the core. CORE_LOAD_TIMEOUT ends a load past its limit with the access fault, STORE_ACK_TIMEOUT declares
a store lost. FENCE.CORE and FENCE.CLUSTER change nothing, as every access is complete before the next (log
entry 48). FENCE.SYS waits for the stores issued before it. CORE_COUNTER_OVERFLOW sets OF and the interrupt. -/
def Obligations.CoreAccessesComplete : Prop :=
  (∀ (s : State) (t c : Nat) (x : CoreAcc), let a := s.advance t
    a.coresUp = true → a.coreFree c = true → 1 ≤ x.n → x.n ≤ 8 → coreExempt c x = false → a.on CORE_MPU_CTRL_ENABLE c = true → (a.core c).held = [] →
    (a.coreBad c x = none →
      (∀ m u, coreTgt c x.addr = .mem m → (∀ k < x.n, coreTgt c (x.addr + k) = .mem (m + k)) →
        (if x.kind = 1 then (true, a) else a.eccMem m x.n) = (true, u) →
        let v := if 0x40000000 ≤ m then
            (if (m < 0x40400000) = (c < 4) then u.coreCount c 8 x.mode else (u.coreCount c 8 x.mode).coreCount c 9 x.mode)
          else u
        exec (.coreMemoryAccess t c x) s = .next (settle
          (if x.kind = 3 then v.coreAmo c x m
           else if x.kind = 1 then v.memWrite c m (x.data.take x.n)
           else v.emit (.core c (leNat (v.mem.reads m x.n)))))) ∧
      (∀ o, coreTgt c x.addr = .setup o → x.n = 4 → o % 4 = 0 →
        (x.kind = 0 → exec (.coreMemoryAccess t c x) s = .next (settle (coreSetup a (4 + c) o none))) ∧
        (x.kind = 1 → ¬ (x.mode = 0 ∧ 4 ≤ c ∧ hookReg o = true) → ¬ (o = FREEZE_RELEASE.off ∧ x.mode ≠ 3) →
          exec (.coreMemoryAccess t c x) s = .next (settle (coreSetup a (4 + c) o (some (leNat (x.data.take 4))))))) ∧
      (∀ slot b, coreTgt c x.addr = .fabric slot b →
        (x.kind = 1 → (a.core c).stores.length < 64 → exec (.coreFabricStore t c x) s = .next (settle
          (a.storeSend c x.mode (fabWrites { src := a.did, stream := a.coreStream c } (a.rd CORE_FAB_DID_DID c slot * 2 ^ 52 + b % 2 ^ 52)
            (x.data.take x.n))))) ∧
        (x.kind = 0 → ∀ tag u, a.npFree = some tag →
          let k : QPkt := { readPkt { dst := a.rd CORE_FAB_DID_DID c slot, src := a.did, stream := a.coreStream c } tag (spanReq b x.n false) with
            owner := .coreLoad c 0 }
          ((a.coreCount c 6 x.mode).takeNp 255 k).sendOwn k = (0, u) →
          exec (.coreFabricLoad t c x) s = .next (settle (u.setCore c { u.core c with load := some (tag, x) }))))) ∧
    (∀ b r, a.coreBad c x = some (b, r) → x.kind ≠ 1 → exec (.coreMemoryAccess t c x) s = .next (settle (a.coreViolation c x b r)))) ∧
  (∀ (s : State) (t c tag : Nat) (x : CoreAcc) (e : NpEnt), let a := s.advance t
    a.coresUp = true → (a.core c).load = some (tag, x) → a.np tag = some e → e.issued + a.npTimeout ≤ a.ns →
    exec (.coreLoadTimeout t c) s = .next (settle (((a.setNp tag none).setCore c { a.core c with load := none }).coreTrap c x.cause x.addr))) ∧
  (∀ (s : State) (t c tag : Nat) (e : CoreStore), let a := s.advance t
    a.coresUp = true → (a.core c).stores.find? (fun e => e.tag == tag) = some e → a.rd CH_CFG_STORE_ACK_TICKS ≤ e.ticks →
    exec (.storeAckTimeout t c tag) s = .next (settle ((a.storeLost c tag).fenceEnd c))) ∧
  (∀ (s : State) (t c : Nat), let a := s.advance t
    let x := a.core c
    a.coresUp = true →
    exec (.fenceCore t c) s = .next (settle a) ∧ exec (.fenceCluster t c) s = .next (settle a) ∧
    (a.coreFree c = true → exec (.fenceSys t c) s = .next (settle
      ((a.setCore c { x with fence := some (x.stores.map (·.tag)), fenceLost := false }).fenceEnd c))) ∧
    (∀ i, c < 8 → 3 ≤ i → i ≤ 8 → a.coreState c = 1 → bit (SMap.get x.hpmEvent i 0) 63 = false →
      exec (.coreCounterOverflow t c i) s = .next (settle (a.setCore c { x with
        hpm := SMap.set x.hpm i 0 0, hpmEvent := SMap.set x.hpmEvent i (SMap.get x.hpmEvent i 0 + 2 ^ 63) 0, ofPending := true }))))

/-- O41. APPLET_LOAD of a legal image to an EMPTY slot asks for its first bytes, its completion following the data. START
of a LOADED slot makes it RUNNING with its core, grant and owner; STOP of a RUNNING or FAULTED one makes it
LOADED; UNLOAD of a LOADED one empties it; READ returns APPLET_STATUS and the header; each completes OK. The
return of an open tick hook applies its writes in order. CORE_RUN resets each core whose bit changes and lets it
run or hold. A write of CORE_WDT with KICK starts its count afresh; a watchdog that has run out raises 177 and
resets the device (a CL0 core) or the core alone (a CL1 core). -/
def Obligations.AppletsAndRunComplete : Prop :=
  (∀ (s : State) (t q i : Nat) (d : Desc), let a := s.advance t
    let k := d.applet
    let n := min d.length (4096 - d.source % 4096)
    a.portsUp = true → Safety.ready a q i d = true →
    (Desc.isOp 0x1C 1 d = true → d.appletOk true false = true → d.asked = 0 → d.hostReads = 0 → a.rd APPLET_STATUS_STATE k = 0 →
      64 ≤ d.length → d.length ≤ 393216 → d.length % 64 = 0 → a.qpHeld q = false → a.moverBad (a.qp q) spHost false d.source n = none →
      exec (.appletLoad t q i) s = .next (settle ((a.setDesc q { d with asked := n, hostReads := 1 }).hostReads q d.source n (.desc q d.idx)))) ∧
    (Desc.isOp 0x1C 2 d = true → d.appletOk false true = true → a.rd APPLET_STATUS_STATE k = 1 →
      exec (.appletStart t q i) s = .next (settle
        (((({ a with chm := { a.chm with applets := SMap.set a.chm.applets k { grant := byteAt d.img 43, owner := bytesAt d.img 44 45 } {} } } : State).wr
          APPLET_STATUS_STATE 2 k).wr APPLET_STATUS_CORE (byteAt d.img 42 - 4) k).finish q d stOK))) ∧
    (d.appletOk false false = true →
      (Desc.isOp 0x1C 3 d = true → 2 ≤ a.rd APPLET_STATUS_STATE k →
        exec (.appletStop t q i) s = .next (settle (((a.wr APPLET_STATUS_STATE 1 k).closeHook k).finish q d stOK))) ∧
      (Desc.isOp 0x1C 4 d = true → a.rd APPLET_STATUS_STATE k = 1 →
        exec (.appletUnload t q i) s = .next (settle
          ((({ a with chm := { a.chm with applets := SMap.set a.chm.applets k {} {} } } : State).wr APPLET_STATUS_STATE 0 k).finish q d stOK))) ∧
      (Desc.isOp 0x1C 5 d = true → (a.qp q).dataBase ≠ 0 →
        exec (.appletRead t q i) s = .next (settle
          (a.finish q d stOK 0 (some (leBytes 4 (a.appletWord k) ++ a.mem.reads (appletBase k) 64))))))) ∧
  (∀ (s : State) (t k : Nat), let a := s.advance t
    let c := a.rd APPLET_STATUS_CORE k + 4
    a.coresUp = true → bit a.time.hookOpen k = true →
    exec (.appletHookReturn t k) s = .next (settle
      ((a.core c).hook.foldl (fun (u : State) w => coreSetup u (4 + c) w.1 (some w.2)) ((a.setCore c { a.core c with hook := [] }).closeHook k)))) ∧
  (∀ (s : State) (t path v : Nat), let a := s.advance t
    let old := a.rd CH_CTRL_RUN
    Safety.takes a path CH_CTRL 0 0 v = true → (∀ c < 8, bit old c = bit v c ∨ a.on CORE_FREEZE_INFO_VALID c = false) →
    exec (.coreRun t path v) s = .next (settle ((List.range 8).foldl (fun (u : State) c =>
        if bit old c = bit v c then u else (u.coreClear c).setCoreState c (b2n (bit v c)))
      (({ a with rst := { a.rst with cores := Nat.lor a.rst.cores (v % 256) } } : State).wr CH_CTRL_RUN v)))) ∧
  (∀ (s : State) (t path c v : Nat), let a := s.advance t
    let b := (a.wr CORE_WDT_EN (bits v 31 31) c).wr CORE_WDT_TICKS (bits v 15 0) c
    c < 8 → Safety.takes a path CORE_WDT c 0 v = true →
    exec (.watchdogKick t path c v) s = .next (settle
      (if bit v 30 = true ∨ (bit v 31 = true ∧ a.on CORE_WDT_EN c = false) then b.setCore c { b.core c with wdt := 0 } else b))) ∧
  (∀ (s : State) (t c : Nat), let a := s.advance t
    a.coresUp = true → a.on CORE_WDT_EN c = true → a.rd CORE_WDT_TICKS c ≤ (a.core c).wdt →
    (c < 4 → exec (.watchdogTrip t c) s = .next (settle
      (((a.setCore c { a.core c with wdt := 0 }).raise 177 { core := some c }).trigger rsWATCHDOG false))) ∧
    (4 ≤ c → c < 8 → exec (.watchdogTrip t c) s = .next (settle (((a.faultApplets c).coreClear c).raise 177 { core := some c }))))

/-- O42. A release of a frozen master outside the sample of its freeze clears its record: a core takes the access fault
or is reset, a QP goes on, a stream passes test 4 again. The descriptor completes OK with BYTES_DONE 1, or 0
when the master was not frozen, and NOT_PERMITTED when refused; the register rows report RESULT 1, 2 and 3.
MPU_UPDATE_HOLD and MPU_HOLD_RELEASE clear and set the enable of a core's MPU (units 0 to 7) or of the mover
hold. -/
def Obligations.FreezeAndHoldComplete : Prop :=
  (∀ (s : State) (t c act : Nat), let a := s.advance t
    let x := a.core c
    let b := ((((a.wr CORE_FREEZE_INFO_VALID 0 c).wr CORE_FREEZE_INFO_KIND 0 c).wr CORE_FREEZE_INFO_MODE 0 c).wr
      CORE_FREEZE_INFO_REGION 0x1F c).wr64 CORE_FREEZE_ADDR_LO_VALUE CORE_FREEZE_ADDR_HI_VALUE 0 c
    c < 8 → a.on CORE_FREEZE_INFO_VALID c = true → x.frozenAt ≠ a.ns →
    (act = 0 → bit (a.rd CH_CTRL_RUN) c = true → a.releaseKind 1 c act =
      .yes (((b.setCoreState c 1).setCore c { x with frozenAcc := none, frozenAt := 0 }).coreTrap c ((x.frozenAcc.map CoreAcc.cause).getD 5)
        (a.rd64 CORE_FREEZE_ADDR_LO_VALUE CORE_FREEZE_ADDR_HI_VALUE c))) ∧
    (act = 1 → a.releaseKind 1 c act = .yes ((b.coreClear c).setCoreState c (b2n (bit (a.rd CH_CTRL_RUN) c))))) ∧
  (∀ (s : State) (n act : Nat),
    (∀ r, (s.qp n).freeze = some r → r.at_ ≠ s.ns → (s.qp n).state = .frozen →
      s.releaseKind 2 n act = .yes ((s.setQp n { s.qp n with freeze := none, state := .active }).pumpQp n)) ∧
    (∀ e, SMap.get s.streams n none = some e → e.at_ ≠ s.ns →
      s.releaseKind 3 n act = .yes { s with streams := SMap.set s.streams n none none })) ∧
  (∀ (s : State) (t q i : Nat) (d : Desc), let a := s.advance t
    let f := a.releaseKind d.op40 (bytesAt d.img 42 45) (byteAt d.img 41)
    a.portsUp = true → Safety.ready a q i d = true → d.flagsOk = true → d.zero 8 39 = true → d.zero 46 63 = true →
    (∀ v, (∃ u, f = .yes u ∧ v = u.finish q d stOK 1) ∨ (f = .not ∧ v = a.finish q d stOK 0) ∨ (f = .refused ∧ v = a.finish q d stNOT_PERMITTED) →
      (Desc.isOp 0x1D 1 d = true → byteAt d.img 41 < 2 → bytesAt d.img 42 45 < 8 → exec (.freezeReleaseCore t q i) s = .next (settle v)) ∧
      (Desc.isOp 0x1D 2 d = true → byteAt d.img 41 = 0 → bytesAt d.img 42 45 < 16384 → exec (.freezeReleaseQp t q i) s = .next (settle v)) ∧
      (Desc.isOp 0x1D 3 d = true → byteAt d.img 41 = 0 → bytesAt d.img 42 45 < 256 → exec (.freezeReleaseStream t q i) s = .next (settle v)))) ∧
  (∀ (s : State) (t path v : Nat), let a := s.advance t
    let f := a.releaseKind (bits v 25 24) (bits v 13 0) (bits v 16 16)
    Safety.takes a path FREEZE_RELEASE 0 0 v = true → bit v 31 = true →
    (∀ w, (∃ u, f = .yes u ∧ w = u.wr FREEZE_RELEASE_STATUS_RESULT 1) ∨ (f = .not ∧ w = a.wr FREEZE_RELEASE_STATUS_RESULT 2) ∨
        (f = .refused ∧ w = a.wr FREEZE_RELEASE_STATUS_RESULT 3) →
      (bits v 25 24 = 1 → exec (.freezeReleaseRegCore t path v) s = .next (settle w)) ∧
      (bits v 25 24 = 2 → exec (.freezeReleaseRegQp t path v) s = .next (settle w)) ∧
      (bits v 25 24 = 3 → exec (.freezeReleaseRegStream t path v) s = .next (settle w)))) ∧
  (∀ (s : State) (t path c v : Nat), let a := s.advance t
    (c < 8 → Safety.takes a path CORE_MPU_CTRL c 0 v = true →
      (bit v 0 = false → exec (.mpuUpdateHold t path c v) s = .next (settle (a.wr CORE_MPU_CTRL_ENABLE (bits v 0 0) c))) ∧
      (bit v 0 = true → exec (.mpuHoldRelease t path c v) s = .next (settle (a.wr CORE_MPU_CTRL_ENABLE (bits v 0 0) c)))) ∧
    (8 ≤ c → Safety.takes a path MOVER_MPU_HOLD 0 0 v = true →
      (bit v 31 = false → exec (.mpuUpdateHold t path c v) s = .next (settle
        ((((a.wr MOVER_MPU_HOLD_ENABLE (bits v 31 31)).wr MOVER_MPU_HOLD_ALL (bits v 15 15)).wr MOVER_MPU_HOLD_PD (bits v 11 0)).resumeMovers))) ∧
      (bit v 31 = true → exec (.mpuHoldRelease t path c v) s = .next (settle
        ((((a.wr MOVER_MPU_HOLD_ENABLE (bits v 31 31)).wr MOVER_MPU_HOLD_ALL (bits v 15 15)).wr MOVER_MPU_HOLD_PD (bits v 11 0)).resumeMovers)))))

/-- O43. SCRUB_READ reads the word under the scrub pointer, whose next word it then names; after the last word the pass
is counted and the first is next. MERGE_DRAIN of a partial entry empties it: its word, when it can be read, is
stored merged with fresh check bits, and when it cannot, merged with the marker. With ECC_TEST_CTRL.EN,
ECC_WRITE_RAW stores DATA and CHECK in the word; ECC_READ_RAW and ECC_TEST_READ return its data, check byte and
syndrome, the second corrected and after a functional read. -/
def Obligations.EccCommandsComplete : Prop :=
  (∀ (s : State) (t : Nat), let a := s.advance t
    let g := (eccWordAt a.ecc.scrub).1
    let w := (eccWordAt a.ecc.scrub).2
    let b := (a.eccRead g w true).2
    a.portsUp = true → a.on ECC_CTRL_SCRUB_EN = true → a.rd PWR_STATUS_STATE ≠ 2 → (g = gMEM → a.mergeOf w = none) →
    (a.ecc.scrub + 1 = eccTotal → exec (.scrubRead t) s = .next (settle
      (({ b with ecc := { b.ecc with scrub := 0 } } : State).inc ECC_STATUS_SCRUB_PASSES))) ∧
    (a.ecc.scrub + 1 ≠ eccTotal → exec (.scrubRead t) s = .next (settle { b with ecc := { b.ecc with scrub := a.ecc.scrub + 1 } }))) ∧
  (∀ (s : State) (t w : Nat) (e : MergeEnt), let a := s.advance t
    let k := eccKey gMEM e.word
    a.portsUp = true → a.mergeOf w = some e → e.mask ≠ 255 →
    (SMap.get a.ecc.words k none = none → exec (.mergeDrain t w) s = .next (settle
      { a with ecc := { a.ecc with merge := a.ecc.merge.filter (fun x => x.word != e.word) } })) ∧
    (∀ d c ok u, SMap.get a.ecc.words k none = some (d, c) → a.eccRead gMEM e.word = (ok, u) →
      let v : State := { u with ecc := { u.ecc with merge := u.ecc.merge.filter (fun x => x.word != e.word) } }
      let m := mergeBytes d e.data e.mask
      exec (.mergeDrain t w) s = .next (settle (if ok then v else v.setEcc k (some (m, Nat.xor (checkByte m) 3)))))) ∧
  (∀ (s : State) (t path v : Nat), let a := s.advance t
    let g := bits v 19 16
    let w := a.rd ECC_TEST_INDEX_INDEX
    let b := ((a.wr ECC_TEST_CTRL_EN 1).wr ECC_TEST_CTRL_GROUP g).wr ECC_STATUS_TEST_ACTIVE 1
    let c := if a.on ECC_TEST_CTRL_EN then b else b.raise 37
    Safety.takes a path ECC_TEST_CTRL 0 0 v = true → (if path < 3 then bit v 31 else a.on ECC_TEST_CTRL_EN) = true → w < eccSize g →
    (v % 4 = 1 → exec (.eccWriteRaw t path v) s = .next (settle
      (c.setEcc (eccKey g w) (some (c.rd64 ECC_TEST_DATA_LO_VALUE ECC_TEST_DATA_HI_VALUE, c.rd ECC_TEST_CHECK_CHECK))))) ∧
    (∀ d k u, c.eccRaw g w = ((d, k), u) →
      (v % 4 = 2 → exec (.eccReadRaw t path v) s = .next (settle (u.eccShow d k (eccSyndrome d k)))) ∧
      (v % 4 = 3 → (∀ y, eccDecode d k = .fixed y → exec (.eccTestRead t path v) s = .next (settle ((u.eccFunc g w).eccShow y k (eccSyndrome d k)))) ∧
        (eccDecode d k = .clean ∨ eccDecode d k = .bad → exec (.eccTestRead t path v) s = .next (settle
          ((u.eccFunc g w).eccShow d k (eccSyndrome d k)))))))

/-- O44. FAULT_EVENT puts the event before the collector, which takes it at the end of the command; FAULT_FORCE writes
the source's configuration and puts a forced event there. CLASSIFIER_WINDOW_CLOSE at the edge due closes the
window. A write of FAULT_FSW clears each FSW bit written 1 that is set, and its MAX_SEV. A legal FAULT_NOTICE
from a child joins the merge table, or when IMMEDIATE is logged at the root and passed on below it. The
CONTAIN_RELEASE rows end the containment of a port or a host domain. -/
def Obligations.FaultCommandsComplete : Prop :=
  (∀ (s : State) (t src : Nat) (x : Subj), let a := s.advance t
    exec (.faultEvent t src x) s = .next (settle { a with raised := a.raised ++ [{ src := src, subj := x }] })) ∧
  (∀ (s : State) (t path n v : Nat), let a := s.advance t
    let b : State := if n = 177 ∧ a.flt.perCluster = true ∧ bits v 29 27 ≠ sevFATAL then { a with flt := { a.flt with perCluster := false } } else a
    let c := (((((b.wr FAULT_SRC_CFG_MASK (bits v 30 30) n).wr FAULT_SRC_CFG_SEVERITY (bits v 29 27) n).wr
      FAULT_SRC_CFG_CONTAIN_ACTION (bits v 26 25) n).wr FAULT_SRC_CFG_SLOT_OFF (bits v 24 24) n).wr
      FAULT_SRC_CFG_COUNT_N (bits v 23 16) n).wr FAULT_SRC_CFG_WINDOW (bits v 15 0) n
    n < 256 → Safety.takes a path FAULT_SRC_CFG n 0 v = true → sourceUsed n = true → bit v 31 = true →
    exec (.faultForce t path n v) s = .next (settle { c with raised := c.raised ++ [{ src := n, forced := true }] })) ∧
  (∀ (s : State) (t n : Nat), let a := s.advance t
    a.loadedUp = true → a.on FAULT_SRC_STATUS_WINDOW_OPEN n = true → SMap.get a.flt.close n 0 ≤ a.time.tick →
    exec (.classifierWindowClose t n) s = .next (settle
      (((({ a with flt := { a.flt with close := SMap.set a.flt.close n 0 0 } } : State).wr FAULT_SRC_STATUS_WINDOW_OPEN 0 n).wr
        FAULT_SRC_STATUS_WIN_COUNT 0 n).wr FAULT_SRC_STATUS_SEVERE 0 n))) ∧
  (∀ (s : State) (t path i v : Nat), let a := s.advance t
    i < 8 → Safety.takes a path FAULT_FSW i 0 v = true →
    exec (.fswAcknowledge t path i v) s = .next (settle ((bitsSet v 32).foldl (fun (u : State) b =>
      if u.fsw (32 * i + b) = true then
        (u.wr FAULT_FSW_VALUE (setBit (u.rd FAULT_FSW_VALUE i) b false) i).wr FAULT_SRC_STATUS_MAX_SEV sevNOTE (32 * i + b)
      else u) a))) ∧
  (∀ (s : State) (t k subject src flags reporters tick first : Nat), let a := s.advance t
    let n : NoticeRec := { sev := flags % 8, src := src, remote := bit flags 3, reporters := reporters, tick := tick, first := first }
    a.portsUp = true → flags % 8 ≤ 4 → flags < 32 → a.children.contains k = true →
    (bit flags 4 = true → (a.isRoot = true → exec (.faultNotice t k subject src flags reporters tick first) s = .next (settle (a.noticeLog subject n true))) ∧
      (a.isRoot = false → a.joined = true → exec (.faultNotice t k subject src flags reporters tick first) s = .next (settle
        (a.toParent hmFAULT_NOTICE (noticeBody subject n true))))) ∧
    (bit flags 4 = false → a.isRoot = true ∨ a.joined = true →
      (∀ x, SMap.get a.flt.merge subject none = some x → exec (.faultNotice t k subject src flags reporters tick first) s = .next (settle
        { a with flt := { a.flt with merge := SMap.set a.flt.merge subject (some (x.merge n)) none } })) ∧
      (SMap.get a.flt.merge subject none = none → a.flt.merge.length < 64 →
        exec (.faultNotice t k subject src flags reporters tick first) s = .next (settle
          { a with flt := { a.flt with merge := SMap.set a.flt.merge subject (some n) none } })))) ∧
  (∀ (s : State) (t path v : Nat), let a := s.advance t
    let p := v % 1024
    let b := a.setPortContained p false
    Safety.takes a path FAULT_CONTAIN_RELEASE 0 0 v = true → bit v 31 = true →
    (bit v 24 = false → p < 96 → bit (a.rd FAULT_PORT_CONTAINED_VALUE (p / 32)) (p % 32) = true → exec (.containReleasePort t path v) s = .next (settle
      (if b.isFab p = true then (if b.portEn p = true then b.portOn p else b) else b.dpcRelease p))) ∧
    (bit v 24 = true → exec (.containReleaseDomain t path v) s = .next (settle
      (a.wr FAULT_HD_CONTAINED_VALUE (setBit (a.rd FAULT_HD_CONTAINED_VALUE (p / 32)) (p % 32) false) (p / 32)))))

/-- O45. Outside safe hold POWER_ON_RESET, RESET_N_ASSERT out of reset, THERMAL_TRIP and a write of RST_DEVICE with the
key trigger a device reset, cold or as COLD says, which takes place at the end of the command; warnings and
supply faults are raised once until they are re-armed. RESET_STRETCH_END releases RESET_N, RESET_RELEASE takes
the causes and starts the fuse load, or the SRAM initialisation after a warm reset. A fuse load whose rows are
all right gives the registers their fused values, one that fails holds the device in safe hold; SRAM
initialisation remaps failing words of a cold start and turns the enabled ports on; a good image starts core 0,
no good image leaves the device without firmware, and 1 s later its EARLY ports answer. -/
def Obligations.ResetAndStartUpCommandsComplete : Prop :=
  (∀ (s : State), s.rst.phase ≠ .safeHold →
    let r := s.rst
    exec .powerOnReset s = .next (settle { s with rst := { r with
      por := true, due := some true, sources := setBit r.sources rsPOR true, cold := true } }) ∧
    (r.phase ≠ .held → r.phase ≠ .released → exec .resetNAssert s = .next (settle { s with rst := { r with
      due := some true, sources := setBit r.sources rsRESET_N true, cold := true } })) ∧
    exec .thermalTrip s = .next (settle (let b := (s.raise 129).emit (.pin 11 0 0)
      { b with rst := { b.rst with thermal := true, due := some true, sources := setBit b.rst.sources rsTHERMAL true, cold := true } })) ∧
    (∀ t path v, let a := s.advance t
      Safety.takes a path RST_DEVICE 0 0 v = true → bits v 31 16 = 0x9192 → exec (.deviceReset t path v) s = .next (settle
        { a with rst := { a.rst with due := some (bit v 0 || a.rst.due.getD false), sources := setBit a.rst.sources rsDEVICE true,
                                     cold := a.rst.cold || bit v 0 } }))) ∧
  (∀ (s : State), let r := s.rst
    exec .porRelease s = .next (settle { s with rst := { r with por := false } }) ∧
    exec .thermalTripEnd s = .next (settle { s with rst := { r with thermal := false } }) ∧
    (r.hot = false → exec .thermalWarn s = .next (settle (({ s with rst := { r with hot := true } } : State).raise 128))) ∧
    exec .thermalWarnRearm s = .next (settle { s with rst := { r with hot := false } }) ∧
    (∀ n < 8, (bit r.supply n = false → (6 ≤ n → s.rd DRAM_CFG_CH_EN ≠ 0) →
        exec (.supplyFault n) s = .next (settle (({ s with rst := { r with supply := setBit r.supply n true } } : State).raise 130))) ∧
      exec (.supplyWindowReturn n) s = .next (settle { s with rst := { r with supply := setBit r.supply n false } }))) ∧
  (∀ (s : State), let r := s.rst
    (r.phase = .held → r.por = false → r.thermal = false → exec .resetStretchEnd s = .next (settle
      ((({ s with rst := { r with phase := .released } } : State).emit (.pin 10 0 1)).emit (.pin 11 0 1)))) ∧
    (r.phase = .released → let b := (s.wr RST_CAUSE_SOURCES r.sources).wr RST_CAUSE_COLD (b2n r.cold)
      (r.loaded = true → exec .resetRelease s = .next (settle (({ b with rst := { r with phase := .sram } } : State).wr RST_STATUS_STAGE 1))) ∧
      (r.loaded = false → exec .resetRelease s = .next (settle (({ b with rst := { r with phase := .loading } } : State).wr RST_STATUS_STAGE 0)))) ∧
    (r.phase = .loading → ∀ retried bad, let rows := retried.eraseDups.filter (· < 512)
      (s.failRow bad = none → exec (.fuseLoadDone retried bad) s = .next (settle
        ((((({ s with rst := { r with
            phase := .sram, loaded := true, retried := rows, sources := 0, cold := false
            shadow := (List.range 512).filterMap (fun n =>
              let d := if SMap.get r.fuses n 0 = 0 then rowDefault n else SMap.get r.fuses n 0 % 2 ^ 64
              if d = 0 then none else some (n, d)) } } : State).wr FUSE_STATUS_STATE 1).wr FUSE_STATUS_RETRIED rows.length).wr RST_STATUS_STAGE 1).loadFuses.fuseTime))) ∧
      (∀ row, s.failRow bad = some row → exec (.fuseLoadDone retried bad) s = .next (settle
        ((((({ s with rst := { r with phase := .safeHold, shadow := [] } } : State).wr FUSE_STATUS_STATE 2).wr FUSE_STATUS_FAIL_ROW row).wr
          FUSE_STATUS_RETRIED ((rows.filter (· < row)).length + 1)).markFsw 192 (s.rd FAULT_SRC_CFG_SEVERITY 192))))) ∧
    (r.phase = .sram → ∀ bad, let words := if r.thisCold then bad.filter (fun e => decide (e.1 < 16) && decide (e.2 < eccSize e.1)) else []
      let b := words.foldl (fun (u : State) e =>
        if u.mapped_ e.1 e.2 = true then u
        else match u.freeRemap e.1 with
          | some i => u.addRemap e.1 i e.2
          | none => u.raise 36 { arg := e.1 }) s
      exec (.sramInitDone bad) s = .next (settle
        ((List.range 96).foldl (fun (u : State) p => if (u.portExists p && u.portEn p) = true then u.portOn p else u)
          (({ b with rst := { b.rst with phase := .firmware } } : State).wr RST_STATUS_STAGE 3)).dramStart)) ∧
    (r.phase = .firmware → ∀ x y, let sel := bit (s.rowData 128) 16
      let run := fun (u : State) (img : List Nat) (n : Nat) =>
        let v := ((u.memPut 0x10000000 img).wr RST_STATUS_FW_IMAGE n).wr RST_STATUS_STAGE 4
        ((({ v with rst := { v.rst with phase := .running } } : State).coreRun (Nat.lor (v.rd CH_CTRL_RUN) 1)).herdStart).collectorStart
      (∀ img, stageOf (if sel then y else x) = some img → exec (.firmwareLoad x y) s = .next (settle (run s img (if sel then 2 else 1)))) ∧
      (stageOf (if sel then y else x) = none → (∀ img, stageOf (if sel then x else y) = some img →
          exec (.firmwareLoad x y) s = .next (settle (run (s.raise 179) img (if sel then 1 else 2)))) ∧
        (stageOf (if sel then x else y) = none → exec (.firmwareLoad x y) s = .next (settle
          ((({ s.raise 179 with rst := { r with phase := .noFirmware } } : State).wr RST_STATUS_STAGE 5).collectorStart))))) ∧
    (r.phase = .noFirmware → r.early = false → let b : State := { s with rst := { r with early := true } }
      exec .noFirmwareTimeout s = .next (settle
        (((b.upPorts.filter (fun p => bit (b.rowData (153 + p)) 32)).foldl (fun (u : State) p => u.hierReady p) b).raise 180))))

/-- O46. HOST_DOMAIN_RESET of a domain not in reset ends its containment, clears its configuration, holds its ports in
hot reset with PERST and slot power set as configured, and resets its PFs; HOST_DOMAIN_RESET_DONE once they are
reset and 2 ms have passed lets its ports detect again and raises 195. PORT_RESET of an enabled port forces its
link down, or the slot to start again. BLOCK_RESET of a block with none running starts it; BLOCK_IDLE_ACK of an
idle block, and BLOCK_RESET_TIMEOUT at the limit, end it, forced when the block is not idle. -/
def Obligations.PartialResetsComplete : Prop :=
  (∀ (s : State) (t d : Nat), let a := s.advance t
    Safety.linksUp a = true →
    (a.rst.hds.any (fun e => e.1 == d) = false →
      let b := ({ a with rst := { a.rst with hds := a.rst.hds ++ [(d, a.ns)] } } : State).setOn RST_HD_BUSY
      let c := (a.hdPorts d).foldl (fun (u : State) p => u.dpcRelease p) b
      let e := (c.wr FAULT_HD_CONTAINED_VALUE (setBit (c.rd FAULT_HD_CONTAINED_VALUE (d / 32)) (d % 32) false) (d / 32)).clearHdCfg d
      let f := (a.hdPorts d).foldl (fun (u : State) p =>
        let v := (u.hotReset p).assertPerst p
        match v.slotChan p with
        | some _ => ((v.setPower p (!v.on PORT_SLOT_CFG_AUTO_POWER p)).setInd p true 3).setInd p false 3
        | none => v) e
      exec (.hostDomainReset t d) s = .next (settle ((f.upPorts.filter (fun p => f.rd PORT_CFG_HD p == d)).foldl (fun (u : State) p =>
        match u.portPf p with
        | some n => (u.vfEnableClear n).fnReset (pfIndex n) false none
        | none => u) f))) ∧
    (∀ n at_, a.rst.hds.find? (fun e => e.1 == d) = some (n, at_) → at_ + 2000000 ≤ a.ns →
      (∀ m ∈ (a.upPorts.filter (fun p => a.rd PORT_CFG_HD p == d)).filterMap a.portPf, (a.fn (pfIndex m)).reset = none ∧
        ∀ i < a.rd RING_PF_VF_VF_LIMIT m, (a.fn (a.rd RING_PF_VF_VF_BASE m + i)).reset = none) →
      let rest := a.rst.hds.filter (fun e => e.1 != d)
      let b := ({ a with rst := { a.rst with hds := rest } } : State).wr RST_HD_BUSY (b2n (!rest.isEmpty))
      exec (.hostDomainResetDone t d) s = .next (settle (((b.hdPorts d).foldl (fun (u : State) p =>
        (u.setPport p { u.pport p with hot := false }).wr PORT_STATUS_LTSSM lsDETECT p) b).raise 195)))) ∧
  (∀ (s : State) (t path v : Nat), let a := s.advance t
    let p := v % 128
    let b : State := { a with rst := { a.rst with ports := a.rst.ports.filter (· != p) ++ [p] } }
    Safety.takes a path RST_PORT 0 0 v = true → bit v 31 = true → a.portExists p = true → a.portEn p = true →
    (a.isFab p = true → a.portContained p = false → exec (.portReset t path v) s = .next (settle
      ((if b.linkLive (p / 4) = true then b.linkDown (p / 4) ldPORT_DISABLED else (b.lanesIdle (p / 4)).trainTo (p / 4) trDETECT).syncPortBusy))) ∧
    (a.isFab p = false → exec (.portReset t path v) s = .next (settle ((((b.pcieOff p).releasePort p).claimPort p).syncPortBusy)))) ∧
  (∀ (s : State) (t path v : Nat), let a := s.advance t
    Safety.takes a path RST_BLOCK_CMD 0 0 v = true → bit v 31 = true → blockNamed (v % 256) = true → a.rst.block = none →
    exec (.blockReset t path v) s = .next (settle
      ((((({ a with rst := { a.rst with block := some (v % 256, a.ns) } } : State).setOn RST_BLOCK_STATUS_BUSY).wr RST_BLOCK_STATUS_DONE 0).wr
        RST_BLOCK_STATUS_FORCED 0).wr RST_BLOCK_STATUS_BLOCK (v % 256)))) ∧
  (∀ (s : State) (t n at_ : Nat), let a := s.advance t
    let b := (({ a with rst := { a.rst with block := none } } : State).wr RST_BLOCK_STATUS_BUSY 0).setOn RST_BLOCK_STATUS_DONE
    a.loadedUp = true → a.on FAULT_STATUS_HALTED = false → a.rst.block = some (n, at_) →
    (a.blockIdle n = true → exec (.blockIdleAck t) s = .next (settle (b.blockReset n false))) ∧
    (at_ + a.rd RST_BLOCK_TIMEOUT_TIMEOUT * 10000 ≤ a.ns →
      (a.blockIdle n = true → exec (.blockResetTimeout t) s = .next (settle (b.blockReset n false))) ∧
      (a.blockIdle n = false → exec (.blockResetTimeout t) s = .next (settle
        (((b.setOn RST_BLOCK_STATUS_FORCED).raise 194).blockReset n true)))))

/-- O47. QUIET_ENTRY enters Quiet when it is enabled and its conditions have held at QUIET_IDLE edges; QUIET_EXIT leaves
it. REST_ARM writes PWR_CTRL. REST_ENTRY when armed and its conditions hold enters Rest: the arming clears, DRAM
refreshes itself, and a device locked to the cell enters HOLDOVER. FUSE_PROGRAM of an unprogrammed row 128 to
288 with data that is not zero, through BAR0 or SMBus, starts; other rows, data or paths report RESULT 3;
FUSE_PROGRAM_DONE stores the row with its check. REST_WAKE by an enabled source (a channel of an enabled slot, a
selected input pin, SMBus or TICK_IN) ends Rest, records the source, ends DRAM self-refresh and starts every
octet's Hibernate exit. -/
def Obligations.PowerAndFuseCommandsComplete : Prop :=
  (∀ (s : State) (t : Nat), let a := s.advance t
    a.portsUp = true →
    (a.on PWR_CTRL_QUIET_EN = true → a.rd PWR_STATUS_STATE = pwACTIVE → a.quietOk = true → a.rd PWR_CTRL_QUIET_IDLE ≤ a.rst.idleEdges →
      exec (.quietEntry t) s = .next (settle (a.wr PWR_STATUS_STATE pwQUIET))) ∧
    (a.rd PWR_STATUS_STATE = pwQUIET → exec (.quietExit t) s = .next (settle
      (let b := a.wr PWR_STATUS_STATE pwACTIVE; { b with rst := { b.rst with idleEdges := 0 } }))) ∧
    (let b := (((a.wr PWR_STATUS_STATE pwREST).wr PWR_CTRL_REST_ARM 0).wr PWR_STATUS_REST_WAIT 0).enterSelfRefresh;
      a.on PWR_CTRL_REST_ARM = true → a.rd PWR_STATUS_STATE ≠ pwREST → a.restOk = true →
      (b.timeState = tsLOCKED → exec (.restEntry t) s = .next (settle (b.enterHoldover.raise 97))) ∧
      (b.timeState ≠ tsLOCKED → exec (.restEntry t) s = .next (settle b)))) ∧
  (∀ (s : State) (t path v : Nat), let a := s.advance t
    let b := (((a.wr PWR_CTRL_REST_ARM (bits v 31 31)).wr PWR_CTRL_QUIET_EN (bits v 30 30)).wr PWR_CTRL_QUIET_IDLE (bits v 15 0)).wr
      PWR_STATUS_REST_WAIT (bits v 31 31)
    Safety.takes a path PWR_CTRL 0 0 v = true →
    exec (.restArm t path v) s = .next (settle (if bit v 30 = true then b else b.quietExit))) ∧
  (∀ (s : State) (t path v : Nat), let a := s.advance t
    let row := v % 512
    let data := a.rd64 FUSE_PROG_DATA_LO_VALUE FUSE_PROG_DATA_HI_VALUE
    Safety.takes a path FUSE_PROG_CMD 0 0 v = true → bits v 31 16 = 0x9192 → a.rst.progBusy = none →
    ((path = 0 ∨ path = 2) → 128 ≤ row → row ≤ 288 → SMap.get a.rst.fuses row 0 = 0 → data ≠ 0 →
      exec (.fuseProgram t path v) s = .next (settle
        (({ a with rst := { a.rst with progBusy := some (row, data) } } : State).wr FUSE_PROG_STATUS_RESULT 1))) ∧
    (¬ ((path = 0 ∨ path = 2) ∧ 128 ≤ row ∧ row ≤ 288 ∧ SMap.get a.rst.fuses row 0 = 0 ∧ data ≠ 0) →
      exec (.fuseProgram t path v) s = .next (settle (a.wr FUSE_PROG_STATUS_RESULT 3)))) ∧
  (∀ (s : State) (t row data : Nat), let a := s.advance t
    a.rst.progBusy = some (row, data) → exec (.fuseProgramDone t) s = .next (settle
      (({ a with rst := { a.rst with progBusy := none, fuses := SMap.set a.rst.fuses row (fuseRow data) 0 } } : State).wr
        FUSE_PROG_STATUS_RESULT 2))) ∧
  (∀ (s : State) (t n arg : Nat), let a := s.advance t
    let b := ((a.wr PWR_STATUS_STATE pwACTIVE).wr PWR_STATUS_WAKE_SRC (2 ^ n)).wr DRAM_STATUS_SELF_REFRESH 0
    let c : State := { b with rst := { b.rst with idleEdges := 0 }, buf := { b.buf with idleTicks := 0 } }
    a.loadedUp = true → a.on FAULT_STATUS_HALTED = false → a.rd PWR_STATUS_STATE = pwREST → n < 5 → bit (a.rd PWR_WAKE_EN_EN) n = true →
    (n < 2 → ∃ p, a.chanPort arg = some p ∧ a.portEn p = true) →
    (n = 2 → (a.pin arg).mode = 0 ∧ bit (a.rd64 PWR_WAKE_CUE_LO_VALUE PWR_WAKE_CUE_HI_VALUE) arg = true) →
    exec (.restWake t n arg) s = .next (settle
      (c.fabOcts.foldl (fun (u : State) k => if u.trState k = trHIBERNATE then u.hibernateExit k else u) c)))

/-- O48. INSERT_DELAY_EXPIRE and RETRY_DELAY_EXPIRE inside the bank's window power a qualified channel up, to PRECHARGE
where it is enabled and else to RAMP; outside it a retry waits in QUALIFY. PRECHARGE_DONE goes to RAMP;
OUTPUT_GOOD drives GATE to full enhancement, after which GATE_RISE_OK goes to ON and GATE_FAIL 1 ms later to
LOCKED. A trip counts; the channel waits to retry, or latches off past RETRIES. A second in ON clears the count.
The limit events set and end IN_LIMIT. -/
def Obligations.ChannelSequenceCommandsComplete : Prop :=
  ∀ (s : State) (t n : Nat), let a := s.advance t
    let c := a.chan n
    let b := a.bank (bankOf n)
    let powered := fun (u : State) => u.chanTo n (if 20 ≤ n ∧ u.on IBX_CFG1_PRECHG_EN n = true then cPRECHARGE else cRAMP) (fun c => { c with startAt := u.ns })
    let tripped := fun (kind event src : Nat) => a.chanTo n (if a.rd IBX_CFG3_RETRIES n < c.count + 1 then cLATCHED else cRETRY_WAIT) (fun x =>
      let d := { (x.note event src) with count := c.count + 1, lastTrip := kind, trips := (x.trips + 1) % 2 ^ 32 }
      if a.rd IBX_CFG3_RETRIES n < c.count + 1 then d.note 2 114 else d)
    (c.st = cQUALIFY → c.retry = false → b.inside = true → max c.since b.since + a.rd IBX_CFG2_INSERT_DELAY n * 1000000 ≤ a.ns →
      exec (.insertDelayExpire t n) s = .next (settle (powered a))) ∧
    (c.st = cPRECHARGE → exec (.prechargeDone t n) s = .next (settle (a.chanTo n cRAMP)) ∧
      (c.startAt + a.rd IBX_CFG2_PRECHG_TIMEOUT n * 1000000 ≤ a.ns → exec (.prechargeTimeout t n) s = .next (settle (tripped 4 7 119)))) ∧
    (c.st = cRAMP →
      (c.goodAt = none → exec (.outputGood t n) s = .next (settle ((a.setChan n { c with goodAt := some a.ns }).emit (.pin 6 n 2)))) ∧
      (∀ g, c.goodAt = some g → exec (.gateRiseOk t n) s = .next (settle (a.chanTo n cON)) ∧
        (g + 1000000 ≤ a.ns → exec (.gateFail t n) s = .next (settle (a.chanTo n cLOCKED (fun x => { x.note 3 115 with lastTrip := 5 })))))) ∧
    (c.st = cPRECHARGE ∨ c.st = cRAMP ∨ c.st = cON →
      exec (.fastTrip t n) s = .next (settle (tripped 2 1 113)) ∧
      (c.inLimit = true → c.limitAt + a.rd IBX_CFG1_FAULT_TIMER n * 100000 ≤ a.ns → exec (.faultTimerTrip t n) s = .next (settle (tripped 1 0 112))) ∧
      (c.inLimit = false → exec (.currentLimitEnter t n) s = .next (settle (a.setChan n { c with inLimit := true, limitAt := a.ns })))) ∧
    (c.st = cPRECHARGE ∨ c.st = cRAMP → c.startAt + a.rd IBX_CFG1_START_TIMER n * 1000000 ≤ a.ns →
      exec (.startTimerTrip t n) s = .next (settle (tripped 3 0 112))) ∧
    (c.inLimit = true → exec (.currentLimitExit t n) s = .next (settle (a.setChan n { c with inLimit := false }))) ∧
    (c.st = cRETRY_WAIT → c.since + a.rd IBX_CFG3_RETRY_DELAY n * 100000000 ≤ a.ns →
      let u := a.chanTo n cQUALIFY (fun x => { x with retry := true })
      exec (.retryDelayExpire t n) s = .next (settle (if (u.bank (bankOf n)).inside = true then powered u else u))) ∧
    (c.st = cON → c.since + 1000000000 ≤ a.ns → exec (.onTimerExpire t n) s = .next (settle (a.setChan n { c with count := 0 })))

/-- O49. PRESENCE_QUALIFIED of an assigned channel without presence sets it and may start the sequence; PRESENCE_LOST
ends the sequence but for LOCKED. A BUTTON_PRESS is noted, told to the slot, and ends LATCHED. BANK_WINDOW_EXIT
sends the bank's powered channels to QUALIFY and raises 131; the RETURN powers its retries up. PFAIL_ASSERT and
PFAIL_RELEASE drive PFAIL_N of its channels. FET_SHORT of an assigned channel that should carry nothing locks
it; CLEAR_LOCK frees a locked one. The die-to-die link's loss raises 120; its return brings the registers up to
date. -/
def Obligations.SlotInputCommandsComplete : Prop :=
  (∀ (s : State) (t n : Nat), let a := (s.advance t).wakeBy 0 n
    let c := a.chan n
    a.assigned n = true →
    (c.present = false → exec (.presenceQualified t n) s = .next (settle
      ((a.setChan n { c with present := true, events := c.events ++ [8] }).tryStart n))) ∧
    (c.present = true → let b := a.setChan n { c with present := false, events := c.events ++ [8] }
      exec (.presenceLost t n) s = .next (settle (if c.st = cOFF ∨ c.st = cLOCKED then b else b.chanTo n cOFF)))) ∧
  (∀ (s : State) (t n p : Nat), let a := (s.advance t).wakeBy 1 n
    let c := a.chan n
    let b := (a.setChan n { c with button := true, events := c.events ++ [9] }).portVdsp p seBUTTON (fun v => { v with button := true })
    a.chanPort n = some p → c.button = false →
    exec (.buttonPress t n) s = .next (settle (if c.st = cLATCHED then b.chanOff n else b))) ∧
  (∀ (s : State) (t n : Nat), let a := s.advance t
    let c := a.chan n
    (c.button = true → exec (.buttonRelease t n) s = .next (settle (a.setChan n { c with button := false }))) ∧
    (a.assigned n = true → c.st = cOFF ∨ c.st = cQUALIFY ∨ c.st = cRETRY_WAIT ∨ c.st = cLATCHED → exec (.fetShort t n) s = .next (settle
      (a.chanTo n cLOCKED (fun x => { x.note 4 116 with lastTrip := 6 })))) ∧
    (∀ path v, n < 24 → Safety.takes a path IBX_CTRL n 0 v = true → bit v 31 = true → c.st = cLOCKED →
      exec (.clearLock t path n v) s = .next (settle (a.chanOff n)))) ∧
  (∀ (s : State) (t k : Nat), let a := s.advance t
    let x := a.bank k
    (x.inside = true → exec (.bankWindowExit t k) s = .next (settle ((chansOf k).foldl (fun (u : State) n =>
      if (u.chan n).st = cPRECHARGE ∨ (u.chan n).st = cRAMP ∨ (u.chan n).st = cON then
        u.chanTo n cQUALIFY (fun c => { c.note 6 118 with lastTrip := 7, count := 0 })
      else u) ((a.setBank k { x with inside := false }).raise 131)))) ∧
    (x.inside = false → exec (.bankWindowReturn t k) s = .next (settle ((chansOf k).foldl (fun (u : State) n =>
      if (u.chan n).st = cQUALIFY ∧ (u.chan n).retry = true then u.powerUp n else u) (a.setBank k { x with inside := true, since := a.ns })))) ∧
    (x.below = false → exec (.pfailAssert t k) s = .next (settle ((chansOf k).foldl (fun (u : State) n =>
      if (u.chan n).st = cRAMP ∨ (u.chan n).st = cON then (u.setChan n { ((u.chan n).note 5 117) with pfail := true }).emit (.pin 8 n 0) else u)
      (a.setBank k { x with below := true })))) ∧
    exec (.pfailRelease t k) s = .next (settle ((chansOf k).foldl (fun (u : State) n =>
      if (u.chan n).pfail = true then (u.setChan n { u.chan n with pfail := false }).emit (.pin 8 n 1) else u) (a.setBank k { x with below := false })))) ∧
  (∀ (s : State) (t : Nat), let a := s.advance t
    (a.on IBEX_STATUS_LINK_UP = true → exec (.ibexLinkDown t) s = .next (settle ((a.wr IBEX_STATUS_LINK_UP 0).raise 120))) ∧
    (a.on IBEX_STATUS_LINK_UP = false → exec (.ibexLinkRestore t) s = .next (settle ((List.range 24).foldl (fun (u : State) n =>
      match u.chanPort n with
      | some p => (u.syncChan n).powerReq n (!(u.pport p).off)
      | none => u.syncChan n) (a.setOn IBEX_STATUS_LINK_UP)))))

/-- O50. For every flow entry whose fields have the widths of R83, the entry read from its image is that entry; and for
every 128-bit image with VALID at bit 127 and zero reserved bits, the image of the entry read from it is that
image. No bit of the layout is dropped and no two fields overlap. -/
def Obligations.FlowImagesRoundTrip : Prop :=
  (∀ e : FlowEnt, e.src < 4096 → e.stream < 4294967296 → e.action < 4 → e.sub < 8192 → e.sl < 8 → e.meter < 262144 → e.hop < 4 → e.mirSess < 8 →
    FlowEnt.ofImage e.image = e ∧ e.image < 2 ^ 128 ∧ bit e.image 127 = true ∧ bits e.image 35 0 = 0) ∧
  ∀ v : Nat, v < 2 ^ 128 → bit v 127 = true → bits v 35 0 = 0 → (FlowEnt.ofImage v).image = v

/-- O51. With y the stored check byte XOR the check byte computed from the stored data: no error when y is 0; when y is
the column of data bit i, that bit is inverted and the word corrected; when y has weight 1, the check bit is in
error and the data stands corrected; any other value is uncorrectable. -/
def Obligations.EccReadIsDecidedByTheSyndrome : Prop :=
  ∀ data check : Nat, let y := Nat.xor check (checkByte data)
    eccSyndrome data check = y ∧
    (y = 0 → eccDecode data check = .clean) ∧
    (∀ i < 64, y = hsiaoCols.getD i 0 → eccDecode data check = .fixed (Nat.xor data (2 ^ i))) ∧
    (weight8 y = 1 → y < 256 → eccDecode data check = .fixed data) ∧
    (y ≠ 0 → (∀ i < 64, y ≠ hsiaoCols.getD i 0) → weight8 y ≠ 1 → eccDecode data check = .bad)

/-- O52. For every data word stored with its check byte: read unchanged it is found clean; with any one of its 72 bits
inverted, data or check, the read returns the data as written; with any two of them inverted, the word is
uncorrectable, never taken for good and never miscorrected. -/
def Obligations.EccCorrectsOneErrorAndDetectsTwo : Prop :=
  ∀ data : Nat, let flip := fun (w : Nat × Nat) (i : Nat) => if i < 64 then (Nat.xor w.1 (2 ^ i), w.2) else (w.1, Nat.xor w.2 (2 ^ (i - 64)))
    let w := (data, checkByte data)
    eccDecode w.1 w.2 = .clean ∧
    (∀ i < 72, eccDecode (flip w i).1 (flip w i).2 = .fixed data) ∧
    ∀ i < 72, ∀ j < 72, i ≠ j → eccDecode (flip (flip w i) j).1 (flip (flip w i) j).2 = .bad

/-- O53. colour_ok holds for green at all times, for yellow while the cells of the shared pool in use are below
YELLOW_PCT percent of the shared pool, and for red while they are below RED_PCT percent; the shared pool is what
headroom, staging and the queues' minima leave of the cells. -/
def Obligations.ColourLimitsOfTheSharedPool : Prop :=
  ∀ s : State, let shared := totalCells - s.rd BUF_HEADROOM_CELLS - s.rd OVF_CTRL_STAGE_CELLS - s.rd BUF_MIN_TOTAL_CELLS
    s.colourOk cGREEN = true ∧
    (s.colourOk cYELLOW = true ↔ s.buf.sharedUsed * 100 < s.rd BUF_SHARED_CFG_YELLOW_PCT * shared) ∧
    (s.colourOk cRED = true ↔ s.buf.sharedUsed * 100 < s.rd BUF_SHARED_CFG_RED_PCT * shared)

/-- O54. A write of BUF_HEADROOM or OVF_CTRL over a path that takes it, or of a queue's buffer configuration with legal
thresholds, that would leave the shared pool fewer than 4,096 of the 262,144 cells changes nothing but
BUF_STATUS.CFG_REJECTED, which it sets. -/
def Obligations.ShrinkingPoolWritesAreDiscarded : Prop :=
  (∀ (s : State) (t path v : Nat), let a := s.advance t
    path < 0x1000 →
    (Safety.takes a path BUF_HEADROOM 0 0 v = true → 262144 < v % 2 ^ 18 + a.rd OVF_CTRL_STAGE_CELLS + a.rd BUF_MIN_TOTAL_CELLS + 4096 →
      exec (.registerWrite t path BUF_HEADROOM.off v) s = .next (settle (a.wr BUF_STATUS_CFG_REJECTED 1))) ∧
    (Safety.takes a path OVF_CTRL 0 0 v = true → 33 ≤ v % 2 ^ 16 → 262144 < a.rd BUF_HEADROOM_CELLS + v % 2 ^ 16 + a.rd BUF_MIN_TOTAL_CELLS + 4096 →
      exec (.registerWrite t path OVF_CTRL.off v) s = .next (settle (a.wr BUF_STATUS_CFG_REJECTED 1)))) ∧
  (∀ (s : State) (q : Nat) (ws : List Nat), let w1 := ws.getD 1 0
    bits w1 31 16 < w1 % 2 ^ 16 → 33 ≤ w1 % 2 ^ 16 →
    262144 < s.rd BUF_HEADROOM_CELLS + s.rd OVF_CTRL_STAGE_CELLS + (s.rd BUF_MIN_TOTAL_CELLS - (s.queue q).minCells + ws.getD 0 0 % 2 ^ 16) + 4096 →
    ∃ r, s.tblPut 0x10 q ws = some (r, s.wr BUF_STATUS_CFG_REJECTED 1))

/-- O55. For every event in every state, the effective severity is the base severity raised by at most one step for the
window and one for the class, a raised severity is at most FAULT_CTRL.RAISE_CAP, a base severity of FATAL stays
FATAL, and with the window off and the class not enabled nothing is raised. -/
def Obligations.RaisesStopAtTheCap : Prop :=
  ∀ (s : State) (r : Raise), let base := s.baseSev r
    let v := (s.effective r).1
    base ≤ v ∧ v ≤ base + 2 ∧ (v ≠ base → v ≤ s.rd FAULT_CTRL_RAISE_CAP) ∧ (base = sevFATAL → v = sevFATAL) ∧
    (s.rd FAULT_SRC_CFG_COUNT_N r.src = 0 → bit (s.rd FAULT_ESC_EN_EN) (r.src / 16) = false → v = base)

/-- O56. The collector's step for an event of an assigned source whose MASK is 1 changes EVENTS of that source (which
saturates) and nothing else: no window, FSW bit, escalation, containment, log, interrupt or notice. The block's
own response is not the collector's: raising an event only puts it before the collector, whatever the MASK. -/
def Obligations.MaskedSourcesOnlyCount : Prop :=
  (∀ (s : State) (r : Raise), sourceUsed r.src = true → s.on FAULT_SRC_CFG_MASK r.src = true →
    s.takeEvent r = s.wr FAULT_SRC_STATUS_EVENTS (min (s.rd FAULT_SRC_STATUS_EVENTS r.src + 1) (FAULT_SRC_STATUS_EVENTS.size - 1)) r.src) ∧
  ∀ (s : State) (n : Nat) (x : Subj), s.raise n x = { s with raised := s.raised ++ [{ src := n, subj := x }] }

/-- O57. In every state at most 24 ports are fabric ports, so that limit is never exceeded. A write of PORT_CFG that
makes a disabled PCIe port upstream while 32 ports are upstream, and a mode write of an idle octet that would
leave more than 32, change nothing: the port keeps its previous role. -/
def Obligations.UpstreamAndFabricPortLimits : Prop :=
  (∀ s : State, ((List.range 96).filter s.isFab).length ≤ 24) ∧
  (∀ (s : State) (t path p v : Nat), let a := s.advance t
    path < 0x1000 → p < 96 → Safety.takes a path PORT_CFG p 0 v = true → a.portEn p = false → bits v 1 0 = 1 → a.rd PORT_CFG_ROLE p ≠ 1 → 32 ≤ a.upPorts.length →
    exec (.registerWrite t path (PORT_CFG.addr p) v) s = .next (settle a)) ∧
  (∀ (s : State) (t path k v : Nat), let a := s.advance t
    let b := ((a.wr OCT_MODE_MODE (v % 8) k).wr OCT_MODE_FABRIC (b2n (bit v 4)) k).wr OCT_MODE_PORT_EN 0 k
    k < 24 → Safety.takes a path OCT_MODE k 0 v = true → v % 8 ≤ 3 → (bit v 4 = true → v % 8 ≤ 1) → bits v 11 8 = 0 → a.rd OCT_MODE_PORT_EN k = 0 →
    a.octMode k ≠ 4 → v % 8 ≠ a.octMode k → 32 < b.upPorts.length → exec (.octModeWrite t path k v) s = .next (settle a))

/-- O58. Whatever merge entries it makes or drains, and whichever reservations it ends, a write of bytes to the core
memories, while no word of theirs stands raw or marked, leaves every byte outside them as it was, each byte
inside reads as written, and memory keeps its canonical form. With a word that stands raw or marked, a drain may
write that word back, which this does not cover. -/
def Obligations.CoreWritesChangeOnlyTheirBytes : Prop :=
  ∀ (s : State) (c a : Nat) (bytes : List Nat), (∀ w, SMap.get s.ecc.words (eccKey gMEM w) none = none) →
    let u := s.memWrite c a bytes
    (∀ x, x < a ∨ a + bytes.length ≤ x → u.mem.read x = s.mem.read x) ∧
    (∀ i (h : i < bytes.length), u.mem.read (a + i) = BitVec.ofNat 8 bytes[i]) ∧
    (s.mem.wf = true → u.mem.wf = true) ∧
    (∀ w, SMap.get u.ecc.words (eccKey gMEM w) none = none)

/-- O59. In a state for which the table of R607 lists no such event, INSERT_DELAY_EXPIRE, PRECHARGE_DONE,
PRECHARGE_TIMEOUT, OUTPUT_GOOD, GATE_RISE_OK, GATE_FAIL, the trips, RETRY_DELAY_EXPIRE, ON_TIMER_EXPIRE and
FET_SHORT move time and change nothing else before the collector ends the command; so none of them takes a
channel out of LOCKED. -/
def Obligations.EventsOutsideTheChannelTable : Prop :=
  ∀ (s : State) (t n : Nat), let a := s.advance t
    let st := (a.chan n).st
    (st ≠ cQUALIFY → exec (.insertDelayExpire t n) s = .next (settle a)) ∧
    (st ≠ cPRECHARGE → exec (.prechargeDone t n) s = .next (settle a) ∧ exec (.prechargeTimeout t n) s = .next (settle a)) ∧
    (st ≠ cRAMP → exec (.outputGood t n) s = .next (settle a) ∧ exec (.gateRiseOk t n) s = .next (settle a) ∧
      exec (.gateFail t n) s = .next (settle a)) ∧
    (st ≠ cPRECHARGE → st ≠ cRAMP → exec (.startTimerTrip t n) s = .next (settle a)) ∧
    (st ≠ cPRECHARGE → st ≠ cRAMP → st ≠ cON → exec (.fastTrip t n) s = .next (settle a) ∧ exec (.faultTimerTrip t n) s = .next (settle a)) ∧
    (st ≠ cRETRY_WAIT → exec (.retryDelayExpire t n) s = .next (settle a)) ∧
    (st ≠ cON → exec (.onTimerExpire t n) s = .next (settle a)) ∧
    (st ≠ cOFF → st ≠ cQUALIFY → st ≠ cRETRY_WAIT → st ≠ cLATCHED → exec (.fetShort t n) s = .next (settle a))

/-- O60. A warm device reset of a device that is not already in reset keeps cell time, the tick number, every Ibex
channel and bank, the fuse array and the run-time remap entries, and clears the memories, pipelines, buffers,
queues, gates, rings, Herd, bridge and complex. A cold one clears TIME, the channels and the remap entries too.
Registers are the matter of ResetState and of the sticky fields. -/
def Obligations.WarmResetKeepsAndClears : Prop :=
  (∀ s : State, s.rst.phase ≠ .held → s.rst.phase ≠ .released → let u := s.deviceReset false
    (u.time.ct = s.time.ct ∧ u.time.tick = s.time.tick ∧ u.time.edge = s.time.edge ∧ u.ibx = s.ibx ∧ u.rst.fuses = s.rst.fuses ∧
      (∀ g e, 8 ≤ e → e < 16 → SMap.get u.ecc.remap (g * 16 + e) 0 = SMap.get s.ecc.remap (g * 16 + e) 0)) ∧
    (u.mem = [] ∧ u.fwd = {} ∧ u.buf = {} ∧ u.sch = {} ∧ u.gate = {} ∧ u.ring = ringReset ∧ u.herd = {} ∧ u.brg = {} ∧ u.chm = {} ∧
      u.port = {} ∧ u.streams = [])) ∧
  (∀ s : State, let u := s.deviceReset true
    u.rst.fuses = s.rst.fuses ∧ u.rst.phase = .held ∧ u.time = {} ∧ u.ibx = {} ∧ u.ecc = {} ∧ u.mem = [] ∧ u.fwd = {} ∧ u.buf = {} ∧
    u.sch = {} ∧ u.gate = {} ∧ u.ring = ringReset ∧ u.herd = {} ∧ u.brg = {} ∧ u.chm = {} ∧ u.port = {} ∧ u.streams = [] ∧ u.flt = {})
end

