-- ==== Sys2Proof/Laws/Access.lean ====
section
/-! SUPPORT. What a register command over an access path does: the register it names takes the write. -/

namespace Sys2Proof.Laws
open Sys2Proof.Machine

/-- A write that a register takes is a write of that register. -/
theorem setupWr_of_takes {s : State} {path v i j : Nat} {d : RegDesc} (h : Safety.takes s path d i j v = true)
    (hr : regAt (d.addr i j) = some (d, i, j)) (hp : d.pair = .none) (hl : 0x10000 ≤ d.addr i j) (hu : d.addr i j < 0x800000) :
    s.setupWr path (d.addr i j) v = s.regWrite path d i j v := by
  simp only [Safety.takes, Safety.opens, Bool.and_eq_true, Bool.not_eq_true'] at h
  obtain ⟨⟨⟨_, hre⟩, _⟩, _⟩ := h
  have h1 : ¬ 0x800000 ≤ d.addr i j := by omega
  have h2 : ¬ (0x8000 ≤ d.addr i j ∧ d.addr i j < 0x10000) := by omega
  have h3 : ¬ (d.addr i j < 0x8000 ∧ 0x400 ≤ d.addr i j) := by omega
  simp [State.setupWr, hre, h1, h2, h3, hr, State.regStore, hp]

/-- A register command over a path that reaches the register writes it. -/
theorem regCmd_of_takes {s : State} {path v i j : Nat} {d : RegDesc} (h : Safety.takes s path d i j v = true)
    (hr : regAt (d.addr i j) = some (d, i, j)) (hp : d.pair = .none) (hl : 0x10000 ≤ d.addr i j) (hu : d.addr i j < 0x800000) :
    s.regCmd path (d.addr i j) v = s.regWrite path d i j v := by
  rw [State.regCmd, setupWr_of_takes h hr hp hl hu]
  simp only [Safety.takes, Safety.opens, Bool.and_eq_true] at h
  simp [h.1.1.1]

/-- A write that a register takes is not discarded. -/
theorem regWrite_of_takes {s : State} {path v i j : Nat} {d : RegDesc} (h : Safety.takes s path d i j v = true) :
    s.regWrite path d i j v =
      if d.off < 0x80000 then (s.hookSystem path d.off i v).getD (s.plainWrite d i j v)
      else if d.off < 0x280000 then (s.hookPorts d.off i j v).getD (s.plainWrite d i j v)
      else (s.hookFabric path d.off i j v).getD (s.plainWrite d i j v) := by
  simp only [Safety.takes, Bool.and_eq_true, Bool.not_eq_true'] at h
  simp [State.regWrite, h.1.2, h.2]

/-- A register of the system blocks with an effect of its own. -/
theorem regCmd_sys {a : State} {path v i : Nat} {d : RegDesc} {u : State} (h : Safety.takes a path d i 0 v = true)
    (hr : regAt (d.addr i) = some (d, i, 0)) (hp : d.pair = .none) (hl : 0x10000 ≤ d.addr i) (hu : d.addr i < 0x800000)
    (hd : d.off < 0x80000) (hk : a.hookSystem path d.off i v = some u) : a.regCmd path (d.addr i) v = u := by
  rw [regCmd_of_takes h hr hp hl hu, regWrite_of_takes h, if_pos hd, hk]; rfl

/-- A register of OBSERVE, OCTET or PORT with an effect of its own. -/
theorem regCmd_ports {a : State} {path v i j : Nat} {d : RegDesc} {u : State} (h : Safety.takes a path d i j v = true)
    (hr : regAt (d.addr i j) = some (d, i, j)) (hp : d.pair = .none) (hl : 0x10000 ≤ d.addr i j) (hu : d.addr i j < 0x800000)
    (hd : 0x80000 ≤ d.off ∧ d.off < 0x280000) (hk : a.hookPorts d.off i j v = some u) : a.regCmd path (d.addr i j) v = u := by
  rw [regCmd_of_takes h hr hp hl hu, regWrite_of_takes h, if_neg (by omega), if_pos hd.2, hk]; rfl

/-- A register of the other blocks with an effect of its own. -/
theorem regCmd_fab {a : State} {path v i j : Nat} {d : RegDesc} {u : State} (h : Safety.takes a path d i j v = true)
    (hr : regAt (d.addr i j) = some (d, i, j)) (hp : d.pair = .none) (hl : 0x10000 ≤ d.addr i j) (hu : d.addr i j < 0x800000)
    (hd : 0x280000 ≤ d.off) (hk : a.hookFabric path d.off i j v = some u) : a.regCmd path (d.addr i j) v = u := by
  rw [regCmd_of_takes h hr hp hl hu, regWrite_of_takes h, if_neg (by omega), if_neg (by omega), hk]; rfl

end Sys2Proof.Laws
end

