-- ==== Sys2Proof/Laws/Commands.lean ====
section
/-! SUPPORT. What the guards around the commands do when their conditions hold. -/

namespace Sys2Proof.Laws
open Sys2Proof.Machine

variable {s : State}

/-- A command for a descriptor that is ready acts on it. -/
theorem onOp_ready {q i : Nat} {d : Desc} {ok : Desc → Bool} {f : State → State} (h : Safety.ready s q i d = true)
    (k : ok d = true) : s.onOp q i ok f = f s := by
  simp only [Safety.ready, Bool.and_eq_true, beq_iff_eq] at h
  simp [State.onOp, h.1.1, h.1.2, h.2, k]

/-- The effect of a ready descriptor is that of its image. -/
theorem withDesc_ready {q i : Nat} {d : Desc} {f : Desc → State} (h : Safety.ready s q i d = true) : s.withDesc q i f = f d := by
  simp only [Safety.ready, Bool.and_eq_true, beq_iff_eq] at h
  have : d.outcome = none := by simpa using h.2
  simp [State.withDesc, h.1.1, h.1.2, this]

theorem guardDesc_true {q : Nat} {d : Desc} {u : State} {b : Bool} (h : b = true) : s.guardDesc q d b u = u := by
  simp [State.guardDesc, h]

theorem whenUp_of {f : State → State} (h : s.portsUp = true) : s.whenUp f = f s := by simp [State.whenUp, h]
theorem whenClock_of {f : State → State} (h : s.loadedUp = true) : s.whenClock f = f s := by simp [State.whenClock, h]
theorem whenRunning_of {f : State → State} (h : s.coresUp = true) : s.whenRunning f = f s := by simp [State.whenRunning, h]

theorem whenLinks_of {f : State → State} (h : Safety.linksUp s = true) : s.whenLinks f = f s := by
  simp only [Safety.linksUp] at h; simp only [State.whenLinks, h, if_true]

theorem whenLoaded_of {f : State → State} (h : s.loadedUp = true) (k : s.on FAULT_STATUS_HALTED = false) : s.whenLoaded f = f s := by
  simp [State.whenLoaded, h, k]

/-- The end of a command leaves a state as it is in which nothing waits. -/
theorem settle_of_still (h : s.still = true) : settle s = s := by rw [settle, if_pos h]

/-- An access that falls into one part is performed once; stated for any function, so that no effect is unfolded. -/
theorem foldl_one {α β : Type} (f : β → α → β) (u : β) (p : α) : [p].foldl f u = f u p := rfl

/-- Every meaning ends in the next state after the end of its command. -/
theorem done_eq (s : State) : done s = .next (settle s) := rfl

end Sys2Proof.Laws
end

