-- ==== Sys2Proof/Laws/Mem.lean ====
section
/-! SUPPORT. The laws of the byte memories: a read after a write, every other byte left alone, and the canonical form
kept by every operation on memory. -/

namespace Sys2Proof.Laws
open Sys2Proof.Machine

theorem read_cons (c : Host.Cell) (m : Memory) (a : Nat) : Memory.read (c :: m) a = if c.1 = a then c.2 else Memory.read m a := rfl

@[simp] theorem read_drop (m : Memory) (a : Nat) : (m.drop a).read a = Memory.blank := by
  induction m with
  | nil => rfl
  | cons c r ih =>
    unfold Memory.drop; split
    · exact ih
    · rename_i h; simp [read_cons, h, ih]

theorem read_drop_ne (m : Memory) {a x : Nat} (h : x ≠ a) : (m.drop a).read x = m.read x := by
  induction m with
  | nil => rfl
  | cons c r ih =>
    unfold Memory.drop; split
    · rename_i e; simp [read_cons, ih, e, h.symm]
    · simp [read_cons, ih]

@[simp] theorem read_put (m : Memory) (a : Nat) (b : BitVec 8) : (m.put a b).read a = b := by
  induction m with
  | nil => simp [Memory.put, read_cons]
  | cons c r ih =>
    unfold Memory.put; split
    · simp [read_cons]
    · split
      · simp [read_cons]
      · rename_i h; simp [read_cons, Ne.symm h, ih]

theorem read_put_ne (m : Memory) {a x : Nat} (b : BitVec 8) (h : x ≠ a) : (m.put a b).read x = m.read x := by
  induction m with
  | nil => simp [Memory.put, read_cons, h.symm]
  | cons c r ih =>
    unfold Memory.put; split
    · simp [read_cons, h.symm]
    · split
      · rename_i e; simp [read_cons, ← e, h.symm]
      · simp [read_cons, ih]

/-- A byte reads as it was written. -/
@[simp] theorem read_write (m : Memory) (a : Nat) (b : BitVec 8) : (m.write a b).read a = b := by
  unfold Memory.write; split
  · rename_i h; simp [h]
  · simp

/-- A write of one byte leaves every other byte alone. -/
theorem read_write_ne (m : Memory) {a x : Nat} (b : BitVec 8) (h : x ≠ a) : (m.write a b).read x = m.read x := by
  unfold Memory.write; split
  · exact read_drop_ne m h
  · exact read_put_ne m b h

/-- A write of bytes leaves every byte outside them alone. -/
theorem read_writes_out (bs : List Nat) (m : Memory) (a x : Nat) (h : x < a ∨ a + bs.length ≤ x) :
    (m.writes a bs).read x = m.read x := by
  induction bs generalizing m a with
  | nil => rfl
  | cons b bs ih =>
    simp only [List.length_cons] at h
    rw [Memory.writes, ih _ _ (by omega), read_write_ne _ _ (by omega)]

theorem rising_cons {c : Host.Cell} {m : Memory} :
    Memory.rising (c :: m) = true ↔ (∀ e ∈ m, c.1 < e.1) ∧ m.rising = true := by
  induction m generalizing c with
  | nil => simp [Memory.rising]
  | cons b r ih =>
    simp only [Memory.rising, Bool.and_eq_true, decide_eq_true_eq]
    constructor
    · rintro ⟨h1, h2⟩
      refine ⟨?_, h2⟩
      intro e he
      rcases List.mem_cons.mp he with rfl | he
      · exact h1
      · exact Nat.lt_trans h1 ((ih.mp h2).1 e he)
    · rintro ⟨h1, h2⟩; exact ⟨h1 b (by simp), h2⟩

theorem drop_sub (m : Memory) (a : Nat) : ∀ e ∈ m.drop a, e ∈ m := by
  induction m with
  | nil => simp [Memory.drop]
  | cons c r ih =>
    unfold Memory.drop; split
    · exact fun e h => List.mem_cons_of_mem _ (ih e h)
    · intro e h
      rcases List.mem_cons.mp h with rfl | h
      · simp
      · exact List.mem_cons_of_mem _ (ih e h)

theorem mem_put (m : Memory) (a : Nat) (b : BitVec 8) : ∀ e ∈ m.put a b, e = (a, b) ∨ e ∈ m := by
  induction m with
  | nil => simp [Memory.put]
  | cons c r ih =>
    unfold Memory.put; split
    · intro e h; simpa using h
    · split
      · intro e h
        rcases List.mem_cons.mp h with rfl | h
        · exact .inl rfl
        · exact .inr (List.mem_cons_of_mem _ h)
      · intro e h
        rcases List.mem_cons.mp h with rfl | h
        · simp
        · rcases ih e h with h | h
          · exact .inl h
          · exact .inr (List.mem_cons_of_mem _ h)

theorem rising_drop (m : Memory) (a : Nat) (h : m.rising = true) : (m.drop a).rising = true := by
  induction m with
  | nil => rfl
  | cons c r ih =>
    rw [rising_cons] at h
    unfold Memory.drop; split
    · exact ih h.2
    · exact rising_cons.mpr ⟨fun e he => h.1 e (drop_sub r a e he), ih h.2⟩

theorem rising_put (m : Memory) (a : Nat) (b : BitVec 8) (h : m.rising = true) : (m.put a b).rising = true := by
  induction m with
  | nil => rfl
  | cons c r ih =>
    have h' := rising_cons.mp h
    unfold Memory.put; split
    · rename_i hk
      refine rising_cons.mpr ⟨?_, h⟩
      intro e he
      rcases List.mem_cons.mp he with rfl | he
      · exact hk
      · exact Nat.lt_trans hk (h'.1 e he)
    · split
      · rename_i hk; subst hk; exact rising_cons.mpr h'
      · rename_i h1 h2
        refine rising_cons.mpr ⟨?_, ih h'.2⟩
        intro e he
        rcases mem_put r a b e he with rfl | he
        · show c.1 < a; omega
        · exact h'.1 e he

/-- A write of one byte keeps the canonical form. -/
theorem wf_write (m : Memory) (a : Nat) (b : BitVec 8) (h : m.wf = true) : (m.write a b).wf = true := by
  simp only [Memory.wf, Bool.and_eq_true, List.all_eq_true] at h ⊢
  unfold Memory.write; split
  · exact ⟨rising_drop m a h.1, fun e he => h.2 e (drop_sub m a e he)⟩
  · rename_i hb
    refine ⟨rising_put m a b h.1, fun e he => ?_⟩
    rcases mem_put m a b e he with rfl | he
    · simpa using hb
    · exact h.2 e he

/-- A write of bytes keeps the canonical form. -/
theorem wf_writes (bs : List Nat) (m : Memory) (a : Nat) (h : m.wf = true) : (m.writes a bs).wf = true := by
  induction bs generalizing m a with
  | nil => exact h
  | cons b bs ih => exact ih _ _ (wf_write m a _ h)

/-- Memory has the canonical form right after reset. -/
theorem reset_mem_wf : State.reset.mem.wf = true := by decide

end Sys2Proof.Laws
end

