-- ==== Sys2Proof/Laws/SMap.lean ====
section
/-! SUPPORT. The laws of sparse tables: a read after a write, and the canonical form kept. -/

namespace Sys2Proof.Laws
open Sys2Proof.Machine

variable {α : Type}

@[simp] theorem get_nil (k : Nat) (d : α) : SMap.get [] k d = d := rfl

theorem get_cons (a : Nat × α) (r : SMap α) (k : Nat) (d : α) :
    SMap.get (a :: r) k d = if a.1 = k then a.2 else SMap.get r k d := rfl

@[simp] theorem get_erase (m : SMap α) (k : Nat) (d : α) : SMap.get (SMap.erase m k) k d = d := by
  induction m with
  | nil => rfl
  | cons a r ih =>
    unfold SMap.erase
    split
    · exact ih
    · rename_i h; simp [get_cons, h, ih]

theorem get_erase_ne (m : SMap α) {k x : Nat} (d : α) (h : x ≠ k) : SMap.get (SMap.erase m k) x d = SMap.get m x d := by
  induction m with
  | nil => rfl
  | cons a r ih =>
    unfold SMap.erase
    split
    · rename_i e; simp [get_cons, ih, e, h.symm]
    · simp [get_cons, ih]

@[simp] theorem get_insert (m : SMap α) (k : Nat) (v d : α) : SMap.get (SMap.insert m k v) k d = v := by
  induction m with
  | nil => simp [SMap.insert, get_cons]
  | cons a r ih =>
    unfold SMap.insert
    split
    · simp [get_cons]
    · split
      · simp [get_cons]
      · rename_i h; simp [get_cons, Ne.symm h, ih]

theorem get_insert_ne (m : SMap α) {k x : Nat} (v d : α) (h : x ≠ k) :
    SMap.get (SMap.insert m k v) x d = SMap.get m x d := by
  induction m with
  | nil => simp [SMap.insert, get_cons, h.symm]
  | cons a r ih =>
    unfold SMap.insert
    split
    · simp [get_cons, h.symm]
    · split
      · rename_i e; simp [get_cons, ← e, h.symm]
      · simp [get_cons, ih]

/-- What a table reads after a write of the same key. -/
@[simp] theorem get_set [DecidableEq α] (m : SMap α) (k : Nat) (v d : α) : SMap.get (SMap.set m k v d) k d = v := by
  unfold SMap.set; split
  · rename_i h; simp [h]
  · simp

/-- A write leaves every other key alone. -/
theorem get_set_ne [DecidableEq α] (m : SMap α) {k x : Nat} (v d z : α) (h : x ≠ k) :
    SMap.get (SMap.set m k v d) x z = SMap.get m x z := by
  unfold SMap.set; split
  · exact get_erase_ne m z h
  · exact get_insert_ne m v z h

/-- Keys of a table that rise strictly and all lie above `k`. -/
theorem sorted_cons {a : Nat × α} {m : SMap α} :
    SMap.sorted (a :: m) = true ↔ (∀ e ∈ m, a.1 < e.1) ∧ SMap.sorted m = true := by
  induction m generalizing a with
  | nil => simp [SMap.sorted]
  | cons b r ih =>
    simp only [SMap.sorted, Bool.and_eq_true, decide_eq_true_eq]
    constructor
    · rintro ⟨h1, h2⟩
      refine ⟨?_, h2⟩
      intro e he
      rcases List.mem_cons.mp he with rfl | he
      · exact h1
      · exact Nat.lt_trans h1 ((ih.mp h2).1 e he)
    · rintro ⟨h1, h2⟩; exact ⟨h1 b (by simp), h2⟩

theorem erase_sub (m : SMap α) (k : Nat) : ∀ e ∈ SMap.erase m k, e ∈ m := by
  induction m with
  | nil => simp [SMap.erase]
  | cons a r ih =>
    unfold SMap.erase; split
    · exact fun e h => List.mem_cons_of_mem _ (ih e h)
    · intro e h
      rcases List.mem_cons.mp h with rfl | h
      · simp
      · exact List.mem_cons_of_mem _ (ih e h)

theorem mem_insert (m : SMap α) (k : Nat) (v : α) : ∀ e ∈ SMap.insert m k v, e = (k, v) ∨ e ∈ m := by
  induction m with
  | nil => simp [SMap.insert]
  | cons a r ih =>
    unfold SMap.insert; split
    · intro e h; simpa using h
    · split
      · intro e h
        rcases List.mem_cons.mp h with rfl | h
        · exact .inl rfl
        · exact .inr (List.mem_cons_of_mem _ h)
      · intro e h
        rcases List.mem_cons.mp h with rfl | h
        · simp
        · rcases ih e h with h | h
          · exact .inl h
          · exact .inr (List.mem_cons_of_mem _ h)

theorem sorted_erase (m : SMap α) (k : Nat) (h : SMap.sorted m = true) : SMap.sorted (SMap.erase m k) = true := by
  induction m with
  | nil => rfl
  | cons a r ih =>
    rw [sorted_cons] at h
    unfold SMap.erase; split
    · exact ih h.2
    · exact sorted_cons.mpr ⟨fun e he => h.1 e (erase_sub r k e he), ih h.2⟩

theorem sorted_insert (m : SMap α) (k : Nat) (v : α) (h : SMap.sorted m = true) : SMap.sorted (SMap.insert m k v) = true := by
  induction m with
  | nil => rfl
  | cons a r ih =>
    have h' := sorted_cons.mp h
    unfold SMap.insert; split
    · rename_i hk
      refine sorted_cons.mpr ⟨?_, h⟩
      intro e he
      rcases List.mem_cons.mp he with rfl | he
      · exact hk
      · exact Nat.lt_trans hk (h'.1 e he)
    · split
      · rename_i hk; subst hk; exact sorted_cons.mpr h'
      · rename_i h1 h2
        refine sorted_cons.mpr ⟨?_, ih h'.2⟩
        intro e he
        rcases mem_insert r k v e he with rfl | he
        · show a.1 < k; omega
        · exact h'.1 e he

/-- Every write keeps the canonical form. -/
theorem wf_set [DecidableEq α] (m : SMap α) (k : Nat) (v d : α) (h : SMap.wf m d = true) :
    SMap.wf (SMap.set m k v d) d = true := by
  simp only [SMap.wf, Bool.and_eq_true, List.all_eq_true, decide_eq_true_eq] at h ⊢
  unfold SMap.set; split
  · exact ⟨sorted_erase m k h.1, fun e he => h.2 e (erase_sub m k e he)⟩
  · rename_i hv
    refine ⟨sorted_insert m k v h.1, fun e he => ?_⟩
    rcases mem_insert m k v e he with rfl | he
    · exact hv
    · exact h.2 e he

end Sys2Proof.Laws
end

