-- ==== Sys2Proof/Laws/State.lean ====
section
/-! SUPPORT. One lemma per field of the state and per named update: what the update leaves alone. -/

namespace Sys2Proof.Laws
open Sys2Proof.Machine

variable (s : State)

/-! ### wr -/

@[simp] theorem wr_bus (f : Fld) (v i j : Nat) : (s.wr f v i j).bus = s.bus := rfl
@[simp] theorem wr_time (f : Fld) (v i j : Nat) : (s.wr f v i j).time = s.time := rfl
@[simp] theorem wr_cue (f : Fld) (v i j : Nat) : (s.wr f v i j).cue = s.cue := rfl
@[simp] theorem wr_fwd (f : Fld) (v i j : Nat) : (s.wr f v i j).fwd = s.fwd := rfl
@[simp] theorem wr_buf (f : Fld) (v i j : Nat) : (s.wr f v i j).buf = s.buf := rfl
@[simp] theorem wr_sch (f : Fld) (v i j : Nat) : (s.wr f v i j).sch = s.sch := rfl
@[simp] theorem wr_gate (f : Fld) (v i j : Nat) : (s.wr f v i j).gate = s.gate := rfl
@[simp] theorem wr_obs (f : Fld) (v i j : Nat) : (s.wr f v i j).obs = s.obs := rfl
@[simp] theorem wr_ring (f : Fld) (v i j : Nat) : (s.wr f v i j).ring = s.ring := rfl
@[simp] theorem wr_herd (f : Fld) (v i j : Nat) : (s.wr f v i j).herd = s.herd := rfl
@[simp] theorem wr_port (f : Fld) (v i j : Nat) : (s.wr f v i j).port = s.port := rfl
@[simp] theorem wr_brg (f : Fld) (v i j : Nat) : (s.wr f v i j).brg = s.brg := rfl
@[simp] theorem wr_loop (f : Fld) (v i j : Nat) : (s.wr f v i j).loop = s.loop := rfl
@[simp] theorem wr_streams (f : Fld) (v i j : Nat) : (s.wr f v i j).streams = s.streams := rfl
@[simp] theorem wr_chm (f : Fld) (v i j : Nat) : (s.wr f v i j).chm = s.chm := rfl
@[simp] theorem wr_rst (f : Fld) (v i j : Nat) : (s.wr f v i j).rst = s.rst := rfl
@[simp] theorem wr_gaz (f : Fld) (v i j : Nat) : (s.wr f v i j).gaz = s.gaz := rfl
@[simp] theorem wr_train (f : Fld) (v i j : Nat) : (s.wr f v i j).train = s.train := rfl
@[simp] theorem wr_tx (f : Fld) (v i j : Nat) : (s.wr f v i j).tx = s.tx := rfl
@[simp] theorem wr_ibx (f : Fld) (v i j : Nat) : (s.wr f v i j).ibx = s.ibx := rfl
@[simp] theorem wr_mem (f : Fld) (v i j : Nat) : (s.wr f v i j).mem = s.mem := rfl
@[simp] theorem wr_ecc (f : Fld) (v i j : Nat) : (s.wr f v i j).ecc = s.ecc := rfl
@[simp] theorem wr_flt (f : Fld) (v i j : Nat) : (s.wr f v i j).flt = s.flt := rfl
@[simp] theorem wr_ep (f : Fld) (v i j : Nat) : (s.wr f v i j).ep = s.ep := rfl
@[simp] theorem wr_raised (f : Fld) (v i j : Nat) : (s.wr f v i j).raised = s.raised := rfl
@[simp] theorem wr_out (f : Fld) (v i j : Nat) : (s.wr f v i j).out = s.out := rfl
@[simp] theorem wr_free (f : Fld) (v i j : Nat) : (s.wr f v i j).free = s.free := rfl
@[simp] theorem wr_pending (f : Fld) (v i j : Nat) : (s.wr f v i j).pending = s.pending := rfl

/-! ### emit -/

@[simp] theorem emit_reg (e : Emit) : (s.emit e).reg = s.reg := rfl
@[simp] theorem emit_bus (e : Emit) : (s.emit e).bus = s.bus := rfl
@[simp] theorem emit_time (e : Emit) : (s.emit e).time = s.time := rfl
@[simp] theorem emit_cue (e : Emit) : (s.emit e).cue = s.cue := rfl
@[simp] theorem emit_fwd (e : Emit) : (s.emit e).fwd = s.fwd := rfl
@[simp] theorem emit_buf (e : Emit) : (s.emit e).buf = s.buf := rfl
@[simp] theorem emit_sch (e : Emit) : (s.emit e).sch = s.sch := rfl
@[simp] theorem emit_gate (e : Emit) : (s.emit e).gate = s.gate := rfl
@[simp] theorem emit_obs (e : Emit) : (s.emit e).obs = s.obs := rfl
@[simp] theorem emit_ring (e : Emit) : (s.emit e).ring = s.ring := rfl
@[simp] theorem emit_herd (e : Emit) : (s.emit e).herd = s.herd := rfl
@[simp] theorem emit_port (e : Emit) : (s.emit e).port = s.port := rfl
@[simp] theorem emit_brg (e : Emit) : (s.emit e).brg = s.brg := rfl
@[simp] theorem emit_loop (e : Emit) : (s.emit e).loop = s.loop := rfl
@[simp] theorem emit_streams (e : Emit) : (s.emit e).streams = s.streams := rfl
@[simp] theorem emit_chm (e : Emit) : (s.emit e).chm = s.chm := rfl
@[simp] theorem emit_rst (e : Emit) : (s.emit e).rst = s.rst := rfl
@[simp] theorem emit_gaz (e : Emit) : (s.emit e).gaz = s.gaz := rfl
@[simp] theorem emit_train (e : Emit) : (s.emit e).train = s.train := rfl
@[simp] theorem emit_tx (e : Emit) : (s.emit e).tx = s.tx := rfl
@[simp] theorem emit_ibx (e : Emit) : (s.emit e).ibx = s.ibx := rfl
@[simp] theorem emit_mem (e : Emit) : (s.emit e).mem = s.mem := rfl
@[simp] theorem emit_ecc (e : Emit) : (s.emit e).ecc = s.ecc := rfl
@[simp] theorem emit_flt (e : Emit) : (s.emit e).flt = s.flt := rfl
@[simp] theorem emit_ep (e : Emit) : (s.emit e).ep = s.ep := rfl
@[simp] theorem emit_raised (e : Emit) : (s.emit e).raised = s.raised := rfl
@[simp] theorem emit_free (e : Emit) : (s.emit e).free = s.free := rfl
@[simp] theorem emit_pending (e : Emit) : (s.emit e).pending = s.pending := rfl

/-! ### emits -/

@[simp] theorem emits_reg (es : List Emit) : (s.emits es).reg = s.reg := rfl
@[simp] theorem emits_bus (es : List Emit) : (s.emits es).bus = s.bus := rfl
@[simp] theorem emits_time (es : List Emit) : (s.emits es).time = s.time := rfl
@[simp] theorem emits_cue (es : List Emit) : (s.emits es).cue = s.cue := rfl
@[simp] theorem emits_fwd (es : List Emit) : (s.emits es).fwd = s.fwd := rfl
@[simp] theorem emits_buf (es : List Emit) : (s.emits es).buf = s.buf := rfl
@[simp] theorem emits_sch (es : List Emit) : (s.emits es).sch = s.sch := rfl
@[simp] theorem emits_gate (es : List Emit) : (s.emits es).gate = s.gate := rfl
@[simp] theorem emits_obs (es : List Emit) : (s.emits es).obs = s.obs := rfl
@[simp] theorem emits_ring (es : List Emit) : (s.emits es).ring = s.ring := rfl
@[simp] theorem emits_herd (es : List Emit) : (s.emits es).herd = s.herd := rfl
@[simp] theorem emits_port (es : List Emit) : (s.emits es).port = s.port := rfl
@[simp] theorem emits_brg (es : List Emit) : (s.emits es).brg = s.brg := rfl
@[simp] theorem emits_loop (es : List Emit) : (s.emits es).loop = s.loop := rfl
@[simp] theorem emits_streams (es : List Emit) : (s.emits es).streams = s.streams := rfl
@[simp] theorem emits_chm (es : List Emit) : (s.emits es).chm = s.chm := rfl
@[simp] theorem emits_rst (es : List Emit) : (s.emits es).rst = s.rst := rfl
@[simp] theorem emits_gaz (es : List Emit) : (s.emits es).gaz = s.gaz := rfl
@[simp] theorem emits_train (es : List Emit) : (s.emits es).train = s.train := rfl
@[simp] theorem emits_tx (es : List Emit) : (s.emits es).tx = s.tx := rfl
@[simp] theorem emits_ibx (es : List Emit) : (s.emits es).ibx = s.ibx := rfl
@[simp] theorem emits_mem (es : List Emit) : (s.emits es).mem = s.mem := rfl
@[simp] theorem emits_ecc (es : List Emit) : (s.emits es).ecc = s.ecc := rfl
@[simp] theorem emits_flt (es : List Emit) : (s.emits es).flt = s.flt := rfl
@[simp] theorem emits_ep (es : List Emit) : (s.emits es).ep = s.ep := rfl
@[simp] theorem emits_raised (es : List Emit) : (s.emits es).raised = s.raised := rfl
@[simp] theorem emits_free (es : List Emit) : (s.emits es).free = s.free := rfl
@[simp] theorem emits_pending (es : List Emit) : (s.emits es).pending = s.pending := rfl

/-! ### raise -/

@[simp] theorem raise_reg (n : Nat) (x : Subj) : (s.raise n x).reg = s.reg := rfl
@[simp] theorem raise_bus (n : Nat) (x : Subj) : (s.raise n x).bus = s.bus := rfl
@[simp] theorem raise_time (n : Nat) (x : Subj) : (s.raise n x).time = s.time := rfl
@[simp] theorem raise_cue (n : Nat) (x : Subj) : (s.raise n x).cue = s.cue := rfl
@[simp] theorem raise_fwd (n : Nat) (x : Subj) : (s.raise n x).fwd = s.fwd := rfl
@[simp] theorem raise_buf (n : Nat) (x : Subj) : (s.raise n x).buf = s.buf := rfl
@[simp] theorem raise_sch (n : Nat) (x : Subj) : (s.raise n x).sch = s.sch := rfl
@[simp] theorem raise_gate (n : Nat) (x : Subj) : (s.raise n x).gate = s.gate := rfl
@[simp] theorem raise_obs (n : Nat) (x : Subj) : (s.raise n x).obs = s.obs := rfl
@[simp] theorem raise_ring (n : Nat) (x : Subj) : (s.raise n x).ring = s.ring := rfl
@[simp] theorem raise_herd (n : Nat) (x : Subj) : (s.raise n x).herd = s.herd := rfl
@[simp] theorem raise_port (n : Nat) (x : Subj) : (s.raise n x).port = s.port := rfl
@[simp] theorem raise_brg (n : Nat) (x : Subj) : (s.raise n x).brg = s.brg := rfl
@[simp] theorem raise_loop (n : Nat) (x : Subj) : (s.raise n x).loop = s.loop := rfl
@[simp] theorem raise_streams (n : Nat) (x : Subj) : (s.raise n x).streams = s.streams := rfl
@[simp] theorem raise_chm (n : Nat) (x : Subj) : (s.raise n x).chm = s.chm := rfl
@[simp] theorem raise_rst (n : Nat) (x : Subj) : (s.raise n x).rst = s.rst := rfl
@[simp] theorem raise_gaz (n : Nat) (x : Subj) : (s.raise n x).gaz = s.gaz := rfl
@[simp] theorem raise_train (n : Nat) (x : Subj) : (s.raise n x).train = s.train := rfl
@[simp] theorem raise_tx (n : Nat) (x : Subj) : (s.raise n x).tx = s.tx := rfl
@[simp] theorem raise_ibx (n : Nat) (x : Subj) : (s.raise n x).ibx = s.ibx := rfl
@[simp] theorem raise_mem (n : Nat) (x : Subj) : (s.raise n x).mem = s.mem := rfl
@[simp] theorem raise_ecc (n : Nat) (x : Subj) : (s.raise n x).ecc = s.ecc := rfl
@[simp] theorem raise_flt (n : Nat) (x : Subj) : (s.raise n x).flt = s.flt := rfl
@[simp] theorem raise_ep (n : Nat) (x : Subj) : (s.raise n x).ep = s.ep := rfl
@[simp] theorem raise_out (n : Nat) (x : Subj) : (s.raise n x).out = s.out := rfl
@[simp] theorem raise_free (n : Nat) (x : Subj) : (s.raise n x).free = s.free := rfl
@[simp] theorem raise_pending (n : Nat) (x : Subj) : (s.raise n x).pending = s.pending := rfl

/-! ### useFree -/

@[simp] theorem useFree_reg : (s.useFree).reg = s.reg := rfl
@[simp] theorem useFree_bus : (s.useFree).bus = s.bus := rfl
@[simp] theorem useFree_time : (s.useFree).time = s.time := rfl
@[simp] theorem useFree_cue : (s.useFree).cue = s.cue := rfl
@[simp] theorem useFree_fwd : (s.useFree).fwd = s.fwd := rfl
@[simp] theorem useFree_buf : (s.useFree).buf = s.buf := rfl
@[simp] theorem useFree_sch : (s.useFree).sch = s.sch := rfl
@[simp] theorem useFree_gate : (s.useFree).gate = s.gate := rfl
@[simp] theorem useFree_obs : (s.useFree).obs = s.obs := rfl
@[simp] theorem useFree_ring : (s.useFree).ring = s.ring := rfl
@[simp] theorem useFree_herd : (s.useFree).herd = s.herd := rfl
@[simp] theorem useFree_port : (s.useFree).port = s.port := rfl
@[simp] theorem useFree_brg : (s.useFree).brg = s.brg := rfl
@[simp] theorem useFree_loop : (s.useFree).loop = s.loop := rfl
@[simp] theorem useFree_streams : (s.useFree).streams = s.streams := rfl
@[simp] theorem useFree_chm : (s.useFree).chm = s.chm := rfl
@[simp] theorem useFree_rst : (s.useFree).rst = s.rst := rfl
@[simp] theorem useFree_gaz : (s.useFree).gaz = s.gaz := rfl
@[simp] theorem useFree_train : (s.useFree).train = s.train := rfl
@[simp] theorem useFree_tx : (s.useFree).tx = s.tx := rfl
@[simp] theorem useFree_ibx : (s.useFree).ibx = s.ibx := rfl
@[simp] theorem useFree_mem : (s.useFree).mem = s.mem := rfl
@[simp] theorem useFree_ecc : (s.useFree).ecc = s.ecc := rfl
@[simp] theorem useFree_flt : (s.useFree).flt = s.flt := rfl
@[simp] theorem useFree_ep : (s.useFree).ep = s.ep := rfl
@[simp] theorem useFree_raised : (s.useFree).raised = s.raised := rfl
@[simp] theorem useFree_out : (s.useFree).out = s.out := rfl
@[simp] theorem useFree_pending : (s.useFree).pending = s.pending := rfl

/-! ### advance -/

@[simp] theorem advance_reg (t : Nat) : (s.advance t).reg = s.reg := rfl
@[simp] theorem advance_bus (t : Nat) : (s.advance t).bus = s.bus := rfl
@[simp] theorem advance_cue (t : Nat) : (s.advance t).cue = s.cue := rfl
@[simp] theorem advance_fwd (t : Nat) : (s.advance t).fwd = s.fwd := rfl
@[simp] theorem advance_buf (t : Nat) : (s.advance t).buf = s.buf := rfl
@[simp] theorem advance_sch (t : Nat) : (s.advance t).sch = s.sch := rfl
@[simp] theorem advance_gate (t : Nat) : (s.advance t).gate = s.gate := rfl
@[simp] theorem advance_obs (t : Nat) : (s.advance t).obs = s.obs := rfl
@[simp] theorem advance_ring (t : Nat) : (s.advance t).ring = s.ring := rfl
@[simp] theorem advance_herd (t : Nat) : (s.advance t).herd = s.herd := rfl
@[simp] theorem advance_port (t : Nat) : (s.advance t).port = s.port := rfl
@[simp] theorem advance_brg (t : Nat) : (s.advance t).brg = s.brg := rfl
@[simp] theorem advance_loop (t : Nat) : (s.advance t).loop = s.loop := rfl
@[simp] theorem advance_streams (t : Nat) : (s.advance t).streams = s.streams := rfl
@[simp] theorem advance_chm (t : Nat) : (s.advance t).chm = s.chm := rfl
@[simp] theorem advance_rst (t : Nat) : (s.advance t).rst = s.rst := rfl
@[simp] theorem advance_gaz (t : Nat) : (s.advance t).gaz = s.gaz := rfl
@[simp] theorem advance_train (t : Nat) : (s.advance t).train = s.train := rfl
@[simp] theorem advance_tx (t : Nat) : (s.advance t).tx = s.tx := rfl
@[simp] theorem advance_ibx (t : Nat) : (s.advance t).ibx = s.ibx := rfl
@[simp] theorem advance_mem (t : Nat) : (s.advance t).mem = s.mem := rfl
@[simp] theorem advance_ecc (t : Nat) : (s.advance t).ecc = s.ecc := rfl
@[simp] theorem advance_flt (t : Nat) : (s.advance t).flt = s.flt := rfl
@[simp] theorem advance_ep (t : Nat) : (s.advance t).ep = s.ep := rfl
@[simp] theorem advance_raised (t : Nat) : (s.advance t).raised = s.raised := rfl
@[simp] theorem advance_out (t : Nat) : (s.advance t).out = s.out := rfl
@[simp] theorem advance_free (t : Nat) : (s.advance t).free = s.free := rfl
@[simp] theorem advance_pending (t : Nat) : (s.advance t).pending = s.pending := rfl

/-! ### advanceCt -/

@[simp] theorem advanceCt_reg (t : Nat) : (s.advanceCt t).reg = s.reg := rfl
@[simp] theorem advanceCt_bus (t : Nat) : (s.advanceCt t).bus = s.bus := rfl
@[simp] theorem advanceCt_cue (t : Nat) : (s.advanceCt t).cue = s.cue := rfl
@[simp] theorem advanceCt_fwd (t : Nat) : (s.advanceCt t).fwd = s.fwd := rfl
@[simp] theorem advanceCt_buf (t : Nat) : (s.advanceCt t).buf = s.buf := rfl
@[simp] theorem advanceCt_sch (t : Nat) : (s.advanceCt t).sch = s.sch := rfl
@[simp] theorem advanceCt_gate (t : Nat) : (s.advanceCt t).gate = s.gate := rfl
@[simp] theorem advanceCt_obs (t : Nat) : (s.advanceCt t).obs = s.obs := rfl
@[simp] theorem advanceCt_ring (t : Nat) : (s.advanceCt t).ring = s.ring := rfl
@[simp] theorem advanceCt_herd (t : Nat) : (s.advanceCt t).herd = s.herd := rfl
@[simp] theorem advanceCt_port (t : Nat) : (s.advanceCt t).port = s.port := rfl
@[simp] theorem advanceCt_brg (t : Nat) : (s.advanceCt t).brg = s.brg := rfl
@[simp] theorem advanceCt_loop (t : Nat) : (s.advanceCt t).loop = s.loop := rfl
@[simp] theorem advanceCt_streams (t : Nat) : (s.advanceCt t).streams = s.streams := rfl
@[simp] theorem advanceCt_chm (t : Nat) : (s.advanceCt t).chm = s.chm := rfl
@[simp] theorem advanceCt_rst (t : Nat) : (s.advanceCt t).rst = s.rst := rfl
@[simp] theorem advanceCt_gaz (t : Nat) : (s.advanceCt t).gaz = s.gaz := rfl
@[simp] theorem advanceCt_train (t : Nat) : (s.advanceCt t).train = s.train := rfl
@[simp] theorem advanceCt_tx (t : Nat) : (s.advanceCt t).tx = s.tx := rfl
@[simp] theorem advanceCt_ibx (t : Nat) : (s.advanceCt t).ibx = s.ibx := rfl
@[simp] theorem advanceCt_mem (t : Nat) : (s.advanceCt t).mem = s.mem := rfl
@[simp] theorem advanceCt_ecc (t : Nat) : (s.advanceCt t).ecc = s.ecc := rfl
@[simp] theorem advanceCt_flt (t : Nat) : (s.advanceCt t).flt = s.flt := rfl
@[simp] theorem advanceCt_ep (t : Nat) : (s.advanceCt t).ep = s.ep := rfl
@[simp] theorem advanceCt_raised (t : Nat) : (s.advanceCt t).raised = s.raised := rfl
@[simp] theorem advanceCt_out (t : Nat) : (s.advanceCt t).out = s.out := rfl
@[simp] theorem advanceCt_free (t : Nat) : (s.advanceCt t).free = s.free := rfl
@[simp] theorem advanceCt_pending (t : Nat) : (s.advanceCt t).pending = s.pending := rfl

/-! ### setTime -/

@[simp] theorem setTime_reg (f : TimeSt → TimeSt) : (s.setTime f).reg = s.reg := rfl
@[simp] theorem setTime_bus (f : TimeSt → TimeSt) : (s.setTime f).bus = s.bus := rfl
@[simp] theorem setTime_cue (f : TimeSt → TimeSt) : (s.setTime f).cue = s.cue := rfl
@[simp] theorem setTime_fwd (f : TimeSt → TimeSt) : (s.setTime f).fwd = s.fwd := rfl
@[simp] theorem setTime_buf (f : TimeSt → TimeSt) : (s.setTime f).buf = s.buf := rfl
@[simp] theorem setTime_sch (f : TimeSt → TimeSt) : (s.setTime f).sch = s.sch := rfl
@[simp] theorem setTime_gate (f : TimeSt → TimeSt) : (s.setTime f).gate = s.gate := rfl
@[simp] theorem setTime_obs (f : TimeSt → TimeSt) : (s.setTime f).obs = s.obs := rfl
@[simp] theorem setTime_ring (f : TimeSt → TimeSt) : (s.setTime f).ring = s.ring := rfl
@[simp] theorem setTime_herd (f : TimeSt → TimeSt) : (s.setTime f).herd = s.herd := rfl
@[simp] theorem setTime_port (f : TimeSt → TimeSt) : (s.setTime f).port = s.port := rfl
@[simp] theorem setTime_brg (f : TimeSt → TimeSt) : (s.setTime f).brg = s.brg := rfl
@[simp] theorem setTime_loop (f : TimeSt → TimeSt) : (s.setTime f).loop = s.loop := rfl
@[simp] theorem setTime_streams (f : TimeSt → TimeSt) : (s.setTime f).streams = s.streams := rfl
@[simp] theorem setTime_chm (f : TimeSt → TimeSt) : (s.setTime f).chm = s.chm := rfl
@[simp] theorem setTime_rst (f : TimeSt → TimeSt) : (s.setTime f).rst = s.rst := rfl
@[simp] theorem setTime_gaz (f : TimeSt → TimeSt) : (s.setTime f).gaz = s.gaz := rfl
@[simp] theorem setTime_train (f : TimeSt → TimeSt) : (s.setTime f).train = s.train := rfl
@[simp] theorem setTime_tx (f : TimeSt → TimeSt) : (s.setTime f).tx = s.tx := rfl
@[simp] theorem setTime_ibx (f : TimeSt → TimeSt) : (s.setTime f).ibx = s.ibx := rfl
@[simp] theorem setTime_mem (f : TimeSt → TimeSt) : (s.setTime f).mem = s.mem := rfl
@[simp] theorem setTime_ecc (f : TimeSt → TimeSt) : (s.setTime f).ecc = s.ecc := rfl
@[simp] theorem setTime_flt (f : TimeSt → TimeSt) : (s.setTime f).flt = s.flt := rfl
@[simp] theorem setTime_ep (f : TimeSt → TimeSt) : (s.setTime f).ep = s.ep := rfl
@[simp] theorem setTime_raised (f : TimeSt → TimeSt) : (s.setTime f).raised = s.raised := rfl
@[simp] theorem setTime_out (f : TimeSt → TimeSt) : (s.setTime f).out = s.out := rfl
@[simp] theorem setTime_free (f : TimeSt → TimeSt) : (s.setTime f).free = s.free := rfl
@[simp] theorem setTime_pending (f : TimeSt → TimeSt) : (s.setTime f).pending = s.pending := rfl

/-! ### setFn -/

@[simp] theorem setFn_reg (f : Nat) (x : Fn) : (s.setFn f x).reg = s.reg := rfl
@[simp] theorem setFn_bus (f : Nat) (x : Fn) : (s.setFn f x).bus = s.bus := rfl
@[simp] theorem setFn_time (f : Nat) (x : Fn) : (s.setFn f x).time = s.time := rfl
@[simp] theorem setFn_cue (f : Nat) (x : Fn) : (s.setFn f x).cue = s.cue := rfl
@[simp] theorem setFn_fwd (f : Nat) (x : Fn) : (s.setFn f x).fwd = s.fwd := rfl
@[simp] theorem setFn_buf (f : Nat) (x : Fn) : (s.setFn f x).buf = s.buf := rfl
@[simp] theorem setFn_sch (f : Nat) (x : Fn) : (s.setFn f x).sch = s.sch := rfl
@[simp] theorem setFn_gate (f : Nat) (x : Fn) : (s.setFn f x).gate = s.gate := rfl
@[simp] theorem setFn_obs (f : Nat) (x : Fn) : (s.setFn f x).obs = s.obs := rfl
@[simp] theorem setFn_herd (f : Nat) (x : Fn) : (s.setFn f x).herd = s.herd := rfl
@[simp] theorem setFn_port (f : Nat) (x : Fn) : (s.setFn f x).port = s.port := rfl
@[simp] theorem setFn_brg (f : Nat) (x : Fn) : (s.setFn f x).brg = s.brg := rfl
@[simp] theorem setFn_loop (f : Nat) (x : Fn) : (s.setFn f x).loop = s.loop := rfl
@[simp] theorem setFn_streams (f : Nat) (x : Fn) : (s.setFn f x).streams = s.streams := rfl
@[simp] theorem setFn_chm (f : Nat) (x : Fn) : (s.setFn f x).chm = s.chm := rfl
@[simp] theorem setFn_rst (f : Nat) (x : Fn) : (s.setFn f x).rst = s.rst := rfl
@[simp] theorem setFn_gaz (f : Nat) (x : Fn) : (s.setFn f x).gaz = s.gaz := rfl
@[simp] theorem setFn_train (f : Nat) (x : Fn) : (s.setFn f x).train = s.train := rfl
@[simp] theorem setFn_tx (f : Nat) (x : Fn) : (s.setFn f x).tx = s.tx := rfl
@[simp] theorem setFn_ibx (f : Nat) (x : Fn) : (s.setFn f x).ibx = s.ibx := rfl
@[simp] theorem setFn_mem (f : Nat) (x : Fn) : (s.setFn f x).mem = s.mem := rfl
@[simp] theorem setFn_ecc (f : Nat) (x : Fn) : (s.setFn f x).ecc = s.ecc := rfl
@[simp] theorem setFn_flt (f : Nat) (x : Fn) : (s.setFn f x).flt = s.flt := rfl
@[simp] theorem setFn_ep (f : Nat) (x : Fn) : (s.setFn f x).ep = s.ep := rfl
@[simp] theorem setFn_raised (f : Nat) (x : Fn) : (s.setFn f x).raised = s.raised := rfl
@[simp] theorem setFn_out (f : Nat) (x : Fn) : (s.setFn f x).out = s.out := rfl
@[simp] theorem setFn_free (f : Nat) (x : Fn) : (s.setFn f x).free = s.free := rfl
@[simp] theorem setFn_pending (f : Nat) (x : Fn) : (s.setFn f x).pending = s.pending := rfl

/-! ### setQp -/

@[simp] theorem setQp_reg (q : Nat) (x : Qp) : (s.setQp q x).reg = s.reg := rfl
@[simp] theorem setQp_bus (q : Nat) (x : Qp) : (s.setQp q x).bus = s.bus := rfl
@[simp] theorem setQp_time (q : Nat) (x : Qp) : (s.setQp q x).time = s.time := rfl
@[simp] theorem setQp_cue (q : Nat) (x : Qp) : (s.setQp q x).cue = s.cue := rfl
@[simp] theorem setQp_fwd (q : Nat) (x : Qp) : (s.setQp q x).fwd = s.fwd := rfl
@[simp] theorem setQp_buf (q : Nat) (x : Qp) : (s.setQp q x).buf = s.buf := rfl
@[simp] theorem setQp_sch (q : Nat) (x : Qp) : (s.setQp q x).sch = s.sch := rfl
@[simp] theorem setQp_gate (q : Nat) (x : Qp) : (s.setQp q x).gate = s.gate := rfl
@[simp] theorem setQp_obs (q : Nat) (x : Qp) : (s.setQp q x).obs = s.obs := rfl
@[simp] theorem setQp_herd (q : Nat) (x : Qp) : (s.setQp q x).herd = s.herd := rfl
@[simp] theorem setQp_port (q : Nat) (x : Qp) : (s.setQp q x).port = s.port := rfl
@[simp] theorem setQp_brg (q : Nat) (x : Qp) : (s.setQp q x).brg = s.brg := rfl
@[simp] theorem setQp_loop (q : Nat) (x : Qp) : (s.setQp q x).loop = s.loop := rfl
@[simp] theorem setQp_streams (q : Nat) (x : Qp) : (s.setQp q x).streams = s.streams := rfl
@[simp] theorem setQp_chm (q : Nat) (x : Qp) : (s.setQp q x).chm = s.chm := rfl
@[simp] theorem setQp_rst (q : Nat) (x : Qp) : (s.setQp q x).rst = s.rst := rfl
@[simp] theorem setQp_gaz (q : Nat) (x : Qp) : (s.setQp q x).gaz = s.gaz := rfl
@[simp] theorem setQp_train (q : Nat) (x : Qp) : (s.setQp q x).train = s.train := rfl
@[simp] theorem setQp_tx (q : Nat) (x : Qp) : (s.setQp q x).tx = s.tx := rfl
@[simp] theorem setQp_ibx (q : Nat) (x : Qp) : (s.setQp q x).ibx = s.ibx := rfl
@[simp] theorem setQp_mem (q : Nat) (x : Qp) : (s.setQp q x).mem = s.mem := rfl
@[simp] theorem setQp_ecc (q : Nat) (x : Qp) : (s.setQp q x).ecc = s.ecc := rfl
@[simp] theorem setQp_flt (q : Nat) (x : Qp) : (s.setQp q x).flt = s.flt := rfl
@[simp] theorem setQp_ep (q : Nat) (x : Qp) : (s.setQp q x).ep = s.ep := rfl
@[simp] theorem setQp_raised (q : Nat) (x : Qp) : (s.setQp q x).raised = s.raised := rfl
@[simp] theorem setQp_out (q : Nat) (x : Qp) : (s.setQp q x).out = s.out := rfl
@[simp] theorem setQp_free (q : Nat) (x : Qp) : (s.setQp q x).free = s.free := rfl
@[simp] theorem setQp_pending (q : Nat) (x : Qp) : (s.setQp q x).pending = s.pending := rfl

/-! ### setNp -/

@[simp] theorem setNp_reg (n : Nat) (e : Option NpEnt) : (s.setNp n e).reg = s.reg := rfl
@[simp] theorem setNp_bus (n : Nat) (e : Option NpEnt) : (s.setNp n e).bus = s.bus := rfl
@[simp] theorem setNp_time (n : Nat) (e : Option NpEnt) : (s.setNp n e).time = s.time := rfl
@[simp] theorem setNp_cue (n : Nat) (e : Option NpEnt) : (s.setNp n e).cue = s.cue := rfl
@[simp] theorem setNp_fwd (n : Nat) (e : Option NpEnt) : (s.setNp n e).fwd = s.fwd := rfl
@[simp] theorem setNp_buf (n : Nat) (e : Option NpEnt) : (s.setNp n e).buf = s.buf := rfl
@[simp] theorem setNp_sch (n : Nat) (e : Option NpEnt) : (s.setNp n e).sch = s.sch := rfl
@[simp] theorem setNp_gate (n : Nat) (e : Option NpEnt) : (s.setNp n e).gate = s.gate := rfl
@[simp] theorem setNp_obs (n : Nat) (e : Option NpEnt) : (s.setNp n e).obs = s.obs := rfl
@[simp] theorem setNp_herd (n : Nat) (e : Option NpEnt) : (s.setNp n e).herd = s.herd := rfl
@[simp] theorem setNp_port (n : Nat) (e : Option NpEnt) : (s.setNp n e).port = s.port := rfl
@[simp] theorem setNp_brg (n : Nat) (e : Option NpEnt) : (s.setNp n e).brg = s.brg := rfl
@[simp] theorem setNp_loop (n : Nat) (e : Option NpEnt) : (s.setNp n e).loop = s.loop := rfl
@[simp] theorem setNp_streams (n : Nat) (e : Option NpEnt) : (s.setNp n e).streams = s.streams := rfl
@[simp] theorem setNp_chm (n : Nat) (e : Option NpEnt) : (s.setNp n e).chm = s.chm := rfl
@[simp] theorem setNp_rst (n : Nat) (e : Option NpEnt) : (s.setNp n e).rst = s.rst := rfl
@[simp] theorem setNp_gaz (n : Nat) (e : Option NpEnt) : (s.setNp n e).gaz = s.gaz := rfl
@[simp] theorem setNp_train (n : Nat) (e : Option NpEnt) : (s.setNp n e).train = s.train := rfl
@[simp] theorem setNp_tx (n : Nat) (e : Option NpEnt) : (s.setNp n e).tx = s.tx := rfl
@[simp] theorem setNp_ibx (n : Nat) (e : Option NpEnt) : (s.setNp n e).ibx = s.ibx := rfl
@[simp] theorem setNp_mem (n : Nat) (e : Option NpEnt) : (s.setNp n e).mem = s.mem := rfl
@[simp] theorem setNp_ecc (n : Nat) (e : Option NpEnt) : (s.setNp n e).ecc = s.ecc := rfl
@[simp] theorem setNp_flt (n : Nat) (e : Option NpEnt) : (s.setNp n e).flt = s.flt := rfl
@[simp] theorem setNp_ep (n : Nat) (e : Option NpEnt) : (s.setNp n e).ep = s.ep := rfl
@[simp] theorem setNp_raised (n : Nat) (e : Option NpEnt) : (s.setNp n e).raised = s.raised := rfl
@[simp] theorem setNp_out (n : Nat) (e : Option NpEnt) : (s.setNp n e).out = s.out := rfl
@[simp] theorem setNp_free (n : Nat) (e : Option NpEnt) : (s.setNp n e).free = s.free := rfl
@[simp] theorem setNp_pending (n : Nat) (e : Option NpEnt) : (s.setNp n e).pending = s.pending := rfl

/-! ### setMirror -/

@[simp] theorem setMirror_reg (w : Nat) (m : Mirror) : (s.setMirror w m).reg = s.reg := rfl
@[simp] theorem setMirror_bus (w : Nat) (m : Mirror) : (s.setMirror w m).bus = s.bus := rfl
@[simp] theorem setMirror_time (w : Nat) (m : Mirror) : (s.setMirror w m).time = s.time := rfl
@[simp] theorem setMirror_fwd (w : Nat) (m : Mirror) : (s.setMirror w m).fwd = s.fwd := rfl
@[simp] theorem setMirror_buf (w : Nat) (m : Mirror) : (s.setMirror w m).buf = s.buf := rfl
@[simp] theorem setMirror_sch (w : Nat) (m : Mirror) : (s.setMirror w m).sch = s.sch := rfl
@[simp] theorem setMirror_gate (w : Nat) (m : Mirror) : (s.setMirror w m).gate = s.gate := rfl
@[simp] theorem setMirror_obs (w : Nat) (m : Mirror) : (s.setMirror w m).obs = s.obs := rfl
@[simp] theorem setMirror_ring (w : Nat) (m : Mirror) : (s.setMirror w m).ring = s.ring := rfl
@[simp] theorem setMirror_herd (w : Nat) (m : Mirror) : (s.setMirror w m).herd = s.herd := rfl
@[simp] theorem setMirror_port (w : Nat) (m : Mirror) : (s.setMirror w m).port = s.port := rfl
@[simp] theorem setMirror_brg (w : Nat) (m : Mirror) : (s.setMirror w m).brg = s.brg := rfl
@[simp] theorem setMirror_loop (w : Nat) (m : Mirror) : (s.setMirror w m).loop = s.loop := rfl
@[simp] theorem setMirror_streams (w : Nat) (m : Mirror) : (s.setMirror w m).streams = s.streams := rfl
@[simp] theorem setMirror_chm (w : Nat) (m : Mirror) : (s.setMirror w m).chm = s.chm := rfl
@[simp] theorem setMirror_rst (w : Nat) (m : Mirror) : (s.setMirror w m).rst = s.rst := rfl
@[simp] theorem setMirror_gaz (w : Nat) (m : Mirror) : (s.setMirror w m).gaz = s.gaz := rfl
@[simp] theorem setMirror_train (w : Nat) (m : Mirror) : (s.setMirror w m).train = s.train := rfl
@[simp] theorem setMirror_tx (w : Nat) (m : Mirror) : (s.setMirror w m).tx = s.tx := rfl
@[simp] theorem setMirror_ibx (w : Nat) (m : Mirror) : (s.setMirror w m).ibx = s.ibx := rfl
@[simp] theorem setMirror_mem (w : Nat) (m : Mirror) : (s.setMirror w m).mem = s.mem := rfl
@[simp] theorem setMirror_ecc (w : Nat) (m : Mirror) : (s.setMirror w m).ecc = s.ecc := rfl
@[simp] theorem setMirror_flt (w : Nat) (m : Mirror) : (s.setMirror w m).flt = s.flt := rfl
@[simp] theorem setMirror_ep (w : Nat) (m : Mirror) : (s.setMirror w m).ep = s.ep := rfl
@[simp] theorem setMirror_raised (w : Nat) (m : Mirror) : (s.setMirror w m).raised = s.raised := rfl
@[simp] theorem setMirror_out (w : Nat) (m : Mirror) : (s.setMirror w m).out = s.out := rfl
@[simp] theorem setMirror_free (w : Nat) (m : Mirror) : (s.setMirror w m).free = s.free := rfl
@[simp] theorem setMirror_pending (w : Nat) (m : Mirror) : (s.setMirror w m).pending = s.pending := rfl

/-! ### setPin -/

@[simp] theorem setPin_reg (n : Nat) (p : CuePin) : (s.setPin n p).reg = s.reg := rfl
@[simp] theorem setPin_bus (n : Nat) (p : CuePin) : (s.setPin n p).bus = s.bus := rfl
@[simp] theorem setPin_time (n : Nat) (p : CuePin) : (s.setPin n p).time = s.time := rfl
@[simp] theorem setPin_fwd (n : Nat) (p : CuePin) : (s.setPin n p).fwd = s.fwd := rfl
@[simp] theorem setPin_buf (n : Nat) (p : CuePin) : (s.setPin n p).buf = s.buf := rfl
@[simp] theorem setPin_sch (n : Nat) (p : CuePin) : (s.setPin n p).sch = s.sch := rfl
@[simp] theorem setPin_gate (n : Nat) (p : CuePin) : (s.setPin n p).gate = s.gate := rfl
@[simp] theorem setPin_obs (n : Nat) (p : CuePin) : (s.setPin n p).obs = s.obs := rfl
@[simp] theorem setPin_ring (n : Nat) (p : CuePin) : (s.setPin n p).ring = s.ring := rfl
@[simp] theorem setPin_herd (n : Nat) (p : CuePin) : (s.setPin n p).herd = s.herd := rfl
@[simp] theorem setPin_port (n : Nat) (p : CuePin) : (s.setPin n p).port = s.port := rfl
@[simp] theorem setPin_brg (n : Nat) (p : CuePin) : (s.setPin n p).brg = s.brg := rfl
@[simp] theorem setPin_loop (n : Nat) (p : CuePin) : (s.setPin n p).loop = s.loop := rfl
@[simp] theorem setPin_streams (n : Nat) (p : CuePin) : (s.setPin n p).streams = s.streams := rfl
@[simp] theorem setPin_chm (n : Nat) (p : CuePin) : (s.setPin n p).chm = s.chm := rfl
@[simp] theorem setPin_rst (n : Nat) (p : CuePin) : (s.setPin n p).rst = s.rst := rfl
@[simp] theorem setPin_gaz (n : Nat) (p : CuePin) : (s.setPin n p).gaz = s.gaz := rfl
@[simp] theorem setPin_train (n : Nat) (p : CuePin) : (s.setPin n p).train = s.train := rfl
@[simp] theorem setPin_tx (n : Nat) (p : CuePin) : (s.setPin n p).tx = s.tx := rfl
@[simp] theorem setPin_ibx (n : Nat) (p : CuePin) : (s.setPin n p).ibx = s.ibx := rfl
@[simp] theorem setPin_mem (n : Nat) (p : CuePin) : (s.setPin n p).mem = s.mem := rfl
@[simp] theorem setPin_ecc (n : Nat) (p : CuePin) : (s.setPin n p).ecc = s.ecc := rfl
@[simp] theorem setPin_flt (n : Nat) (p : CuePin) : (s.setPin n p).flt = s.flt := rfl
@[simp] theorem setPin_ep (n : Nat) (p : CuePin) : (s.setPin n p).ep = s.ep := rfl
@[simp] theorem setPin_raised (n : Nat) (p : CuePin) : (s.setPin n p).raised = s.raised := rfl
@[simp] theorem setPin_out (n : Nat) (p : CuePin) : (s.setPin n p).out = s.out := rfl
@[simp] theorem setPin_free (n : Nat) (p : CuePin) : (s.setPin n p).free = s.free := rfl
@[simp] theorem setPin_pending (n : Nat) (p : CuePin) : (s.setPin n p).pending = s.pending := rfl

/-! ### setCore -/

@[simp] theorem setCore_reg (c : Nat) (x : Core) : (s.setCore c x).reg = s.reg := rfl
@[simp] theorem setCore_bus (c : Nat) (x : Core) : (s.setCore c x).bus = s.bus := rfl
@[simp] theorem setCore_time (c : Nat) (x : Core) : (s.setCore c x).time = s.time := rfl
@[simp] theorem setCore_cue (c : Nat) (x : Core) : (s.setCore c x).cue = s.cue := rfl
@[simp] theorem setCore_fwd (c : Nat) (x : Core) : (s.setCore c x).fwd = s.fwd := rfl
@[simp] theorem setCore_buf (c : Nat) (x : Core) : (s.setCore c x).buf = s.buf := rfl
@[simp] theorem setCore_sch (c : Nat) (x : Core) : (s.setCore c x).sch = s.sch := rfl
@[simp] theorem setCore_gate (c : Nat) (x : Core) : (s.setCore c x).gate = s.gate := rfl
@[simp] theorem setCore_obs (c : Nat) (x : Core) : (s.setCore c x).obs = s.obs := rfl
@[simp] theorem setCore_ring (c : Nat) (x : Core) : (s.setCore c x).ring = s.ring := rfl
@[simp] theorem setCore_herd (c : Nat) (x : Core) : (s.setCore c x).herd = s.herd := rfl
@[simp] theorem setCore_port (c : Nat) (x : Core) : (s.setCore c x).port = s.port := rfl
@[simp] theorem setCore_brg (c : Nat) (x : Core) : (s.setCore c x).brg = s.brg := rfl
@[simp] theorem setCore_loop (c : Nat) (x : Core) : (s.setCore c x).loop = s.loop := rfl
@[simp] theorem setCore_streams (c : Nat) (x : Core) : (s.setCore c x).streams = s.streams := rfl
@[simp] theorem setCore_rst (c : Nat) (x : Core) : (s.setCore c x).rst = s.rst := rfl
@[simp] theorem setCore_gaz (c : Nat) (x : Core) : (s.setCore c x).gaz = s.gaz := rfl
@[simp] theorem setCore_train (c : Nat) (x : Core) : (s.setCore c x).train = s.train := rfl
@[simp] theorem setCore_tx (c : Nat) (x : Core) : (s.setCore c x).tx = s.tx := rfl
@[simp] theorem setCore_ibx (c : Nat) (x : Core) : (s.setCore c x).ibx = s.ibx := rfl
@[simp] theorem setCore_mem (c : Nat) (x : Core) : (s.setCore c x).mem = s.mem := rfl
@[simp] theorem setCore_ecc (c : Nat) (x : Core) : (s.setCore c x).ecc = s.ecc := rfl
@[simp] theorem setCore_flt (c : Nat) (x : Core) : (s.setCore c x).flt = s.flt := rfl
@[simp] theorem setCore_ep (c : Nat) (x : Core) : (s.setCore c x).ep = s.ep := rfl
@[simp] theorem setCore_raised (c : Nat) (x : Core) : (s.setCore c x).raised = s.raised := rfl
@[simp] theorem setCore_out (c : Nat) (x : Core) : (s.setCore c x).out = s.out := rfl
@[simp] theorem setCore_free (c : Nat) (x : Core) : (s.setCore c x).free = s.free := rfl
@[simp] theorem setCore_pending (c : Nat) (x : Core) : (s.setCore c x).pending = s.pending := rfl

/-! ### setGate -/

@[simp] theorem setGate_reg (p : Nat) (g : GatePort) : (s.setGate p g).reg = s.reg := rfl
@[simp] theorem setGate_bus (p : Nat) (g : GatePort) : (s.setGate p g).bus = s.bus := rfl
@[simp] theorem setGate_time (p : Nat) (g : GatePort) : (s.setGate p g).time = s.time := rfl
@[simp] theorem setGate_cue (p : Nat) (g : GatePort) : (s.setGate p g).cue = s.cue := rfl
@[simp] theorem setGate_fwd (p : Nat) (g : GatePort) : (s.setGate p g).fwd = s.fwd := rfl
@[simp] theorem setGate_buf (p : Nat) (g : GatePort) : (s.setGate p g).buf = s.buf := rfl
@[simp] theorem setGate_sch (p : Nat) (g : GatePort) : (s.setGate p g).sch = s.sch := rfl
@[simp] theorem setGate_obs (p : Nat) (g : GatePort) : (s.setGate p g).obs = s.obs := rfl
@[simp] theorem setGate_ring (p : Nat) (g : GatePort) : (s.setGate p g).ring = s.ring := rfl
@[simp] theorem setGate_herd (p : Nat) (g : GatePort) : (s.setGate p g).herd = s.herd := rfl
@[simp] theorem setGate_port (p : Nat) (g : GatePort) : (s.setGate p g).port = s.port := rfl
@[simp] theorem setGate_brg (p : Nat) (g : GatePort) : (s.setGate p g).brg = s.brg := rfl
@[simp] theorem setGate_loop (p : Nat) (g : GatePort) : (s.setGate p g).loop = s.loop := rfl
@[simp] theorem setGate_streams (p : Nat) (g : GatePort) : (s.setGate p g).streams = s.streams := rfl
@[simp] theorem setGate_chm (p : Nat) (g : GatePort) : (s.setGate p g).chm = s.chm := rfl
@[simp] theorem setGate_rst (p : Nat) (g : GatePort) : (s.setGate p g).rst = s.rst := rfl
@[simp] theorem setGate_gaz (p : Nat) (g : GatePort) : (s.setGate p g).gaz = s.gaz := rfl
@[simp] theorem setGate_train (p : Nat) (g : GatePort) : (s.setGate p g).train = s.train := rfl
@[simp] theorem setGate_tx (p : Nat) (g : GatePort) : (s.setGate p g).tx = s.tx := rfl
@[simp] theorem setGate_ibx (p : Nat) (g : GatePort) : (s.setGate p g).ibx = s.ibx := rfl
@[simp] theorem setGate_mem (p : Nat) (g : GatePort) : (s.setGate p g).mem = s.mem := rfl
@[simp] theorem setGate_ecc (p : Nat) (g : GatePort) : (s.setGate p g).ecc = s.ecc := rfl
@[simp] theorem setGate_flt (p : Nat) (g : GatePort) : (s.setGate p g).flt = s.flt := rfl
@[simp] theorem setGate_ep (p : Nat) (g : GatePort) : (s.setGate p g).ep = s.ep := rfl
@[simp] theorem setGate_raised (p : Nat) (g : GatePort) : (s.setGate p g).raised = s.raised := rfl
@[simp] theorem setGate_out (p : Nat) (g : GatePort) : (s.setGate p g).out = s.out := rfl
@[simp] theorem setGate_free (p : Nat) (g : GatePort) : (s.setGate p g).free = s.free := rfl
@[simp] theorem setGate_pending (p : Nat) (g : GatePort) : (s.setGate p g).pending = s.pending := rfl

/-! ### setTx -/

@[simp] theorem setTx_reg (p : Nat) (x : TxSt) : (s.setTx p x).reg = s.reg := rfl
@[simp] theorem setTx_bus (p : Nat) (x : TxSt) : (s.setTx p x).bus = s.bus := rfl
@[simp] theorem setTx_time (p : Nat) (x : TxSt) : (s.setTx p x).time = s.time := rfl
@[simp] theorem setTx_cue (p : Nat) (x : TxSt) : (s.setTx p x).cue = s.cue := rfl
@[simp] theorem setTx_fwd (p : Nat) (x : TxSt) : (s.setTx p x).fwd = s.fwd := rfl
@[simp] theorem setTx_buf (p : Nat) (x : TxSt) : (s.setTx p x).buf = s.buf := rfl
@[simp] theorem setTx_sch (p : Nat) (x : TxSt) : (s.setTx p x).sch = s.sch := rfl
@[simp] theorem setTx_gate (p : Nat) (x : TxSt) : (s.setTx p x).gate = s.gate := rfl
@[simp] theorem setTx_obs (p : Nat) (x : TxSt) : (s.setTx p x).obs = s.obs := rfl
@[simp] theorem setTx_ring (p : Nat) (x : TxSt) : (s.setTx p x).ring = s.ring := rfl
@[simp] theorem setTx_herd (p : Nat) (x : TxSt) : (s.setTx p x).herd = s.herd := rfl
@[simp] theorem setTx_port (p : Nat) (x : TxSt) : (s.setTx p x).port = s.port := rfl
@[simp] theorem setTx_brg (p : Nat) (x : TxSt) : (s.setTx p x).brg = s.brg := rfl
@[simp] theorem setTx_loop (p : Nat) (x : TxSt) : (s.setTx p x).loop = s.loop := rfl
@[simp] theorem setTx_streams (p : Nat) (x : TxSt) : (s.setTx p x).streams = s.streams := rfl
@[simp] theorem setTx_chm (p : Nat) (x : TxSt) : (s.setTx p x).chm = s.chm := rfl
@[simp] theorem setTx_rst (p : Nat) (x : TxSt) : (s.setTx p x).rst = s.rst := rfl
@[simp] theorem setTx_gaz (p : Nat) (x : TxSt) : (s.setTx p x).gaz = s.gaz := rfl
@[simp] theorem setTx_train (p : Nat) (x : TxSt) : (s.setTx p x).train = s.train := rfl
@[simp] theorem setTx_ibx (p : Nat) (x : TxSt) : (s.setTx p x).ibx = s.ibx := rfl
@[simp] theorem setTx_mem (p : Nat) (x : TxSt) : (s.setTx p x).mem = s.mem := rfl
@[simp] theorem setTx_ecc (p : Nat) (x : TxSt) : (s.setTx p x).ecc = s.ecc := rfl
@[simp] theorem setTx_flt (p : Nat) (x : TxSt) : (s.setTx p x).flt = s.flt := rfl
@[simp] theorem setTx_ep (p : Nat) (x : TxSt) : (s.setTx p x).ep = s.ep := rfl
@[simp] theorem setTx_raised (p : Nat) (x : TxSt) : (s.setTx p x).raised = s.raised := rfl
@[simp] theorem setTx_out (p : Nat) (x : TxSt) : (s.setTx p x).out = s.out := rfl
@[simp] theorem setTx_free (p : Nat) (x : TxSt) : (s.setTx p x).free = s.free := rfl
@[simp] theorem setTx_pending (p : Nat) (x : TxSt) : (s.setTx p x).pending = s.pending := rfl

/-! ### setHerd -/

@[simp] theorem setHerd_reg (f : HerdSt → HerdSt) : (s.setHerd f).reg = s.reg := rfl
@[simp] theorem setHerd_bus (f : HerdSt → HerdSt) : (s.setHerd f).bus = s.bus := rfl
@[simp] theorem setHerd_time (f : HerdSt → HerdSt) : (s.setHerd f).time = s.time := rfl
@[simp] theorem setHerd_cue (f : HerdSt → HerdSt) : (s.setHerd f).cue = s.cue := rfl
@[simp] theorem setHerd_fwd (f : HerdSt → HerdSt) : (s.setHerd f).fwd = s.fwd := rfl
@[simp] theorem setHerd_buf (f : HerdSt → HerdSt) : (s.setHerd f).buf = s.buf := rfl
@[simp] theorem setHerd_sch (f : HerdSt → HerdSt) : (s.setHerd f).sch = s.sch := rfl
@[simp] theorem setHerd_gate (f : HerdSt → HerdSt) : (s.setHerd f).gate = s.gate := rfl
@[simp] theorem setHerd_obs (f : HerdSt → HerdSt) : (s.setHerd f).obs = s.obs := rfl
@[simp] theorem setHerd_ring (f : HerdSt → HerdSt) : (s.setHerd f).ring = s.ring := rfl
@[simp] theorem setHerd_port (f : HerdSt → HerdSt) : (s.setHerd f).port = s.port := rfl
@[simp] theorem setHerd_brg (f : HerdSt → HerdSt) : (s.setHerd f).brg = s.brg := rfl
@[simp] theorem setHerd_loop (f : HerdSt → HerdSt) : (s.setHerd f).loop = s.loop := rfl
@[simp] theorem setHerd_streams (f : HerdSt → HerdSt) : (s.setHerd f).streams = s.streams := rfl
@[simp] theorem setHerd_chm (f : HerdSt → HerdSt) : (s.setHerd f).chm = s.chm := rfl
@[simp] theorem setHerd_rst (f : HerdSt → HerdSt) : (s.setHerd f).rst = s.rst := rfl
@[simp] theorem setHerd_gaz (f : HerdSt → HerdSt) : (s.setHerd f).gaz = s.gaz := rfl
@[simp] theorem setHerd_train (f : HerdSt → HerdSt) : (s.setHerd f).train = s.train := rfl
@[simp] theorem setHerd_tx (f : HerdSt → HerdSt) : (s.setHerd f).tx = s.tx := rfl
@[simp] theorem setHerd_ibx (f : HerdSt → HerdSt) : (s.setHerd f).ibx = s.ibx := rfl
@[simp] theorem setHerd_mem (f : HerdSt → HerdSt) : (s.setHerd f).mem = s.mem := rfl
@[simp] theorem setHerd_ecc (f : HerdSt → HerdSt) : (s.setHerd f).ecc = s.ecc := rfl
@[simp] theorem setHerd_flt (f : HerdSt → HerdSt) : (s.setHerd f).flt = s.flt := rfl
@[simp] theorem setHerd_ep (f : HerdSt → HerdSt) : (s.setHerd f).ep = s.ep := rfl
@[simp] theorem setHerd_raised (f : HerdSt → HerdSt) : (s.setHerd f).raised = s.raised := rfl
@[simp] theorem setHerd_out (f : HerdSt → HerdSt) : (s.setHerd f).out = s.out := rfl
@[simp] theorem setHerd_free (f : HerdSt → HerdSt) : (s.setHerd f).free = s.free := rfl
@[simp] theorem setHerd_pending (f : HerdSt → HerdSt) : (s.setHerd f).pending = s.pending := rfl

/-! ### setLnk -/

@[simp] theorem setLnk_reg (k : Nat) (x : LinkSt) : (s.setLnk k x).reg = s.reg := rfl
@[simp] theorem setLnk_bus (k : Nat) (x : LinkSt) : (s.setLnk k x).bus = s.bus := rfl
@[simp] theorem setLnk_time (k : Nat) (x : LinkSt) : (s.setLnk k x).time = s.time := rfl
@[simp] theorem setLnk_cue (k : Nat) (x : LinkSt) : (s.setLnk k x).cue = s.cue := rfl
@[simp] theorem setLnk_fwd (k : Nat) (x : LinkSt) : (s.setLnk k x).fwd = s.fwd := rfl
@[simp] theorem setLnk_buf (k : Nat) (x : LinkSt) : (s.setLnk k x).buf = s.buf := rfl
@[simp] theorem setLnk_sch (k : Nat) (x : LinkSt) : (s.setLnk k x).sch = s.sch := rfl
@[simp] theorem setLnk_gate (k : Nat) (x : LinkSt) : (s.setLnk k x).gate = s.gate := rfl
@[simp] theorem setLnk_obs (k : Nat) (x : LinkSt) : (s.setLnk k x).obs = s.obs := rfl
@[simp] theorem setLnk_ring (k : Nat) (x : LinkSt) : (s.setLnk k x).ring = s.ring := rfl
@[simp] theorem setLnk_herd (k : Nat) (x : LinkSt) : (s.setLnk k x).herd = s.herd := rfl
@[simp] theorem setLnk_port (k : Nat) (x : LinkSt) : (s.setLnk k x).port = s.port := rfl
@[simp] theorem setLnk_brg (k : Nat) (x : LinkSt) : (s.setLnk k x).brg = s.brg := rfl
@[simp] theorem setLnk_loop (k : Nat) (x : LinkSt) : (s.setLnk k x).loop = s.loop := rfl
@[simp] theorem setLnk_streams (k : Nat) (x : LinkSt) : (s.setLnk k x).streams = s.streams := rfl
@[simp] theorem setLnk_chm (k : Nat) (x : LinkSt) : (s.setLnk k x).chm = s.chm := rfl
@[simp] theorem setLnk_rst (k : Nat) (x : LinkSt) : (s.setLnk k x).rst = s.rst := rfl
@[simp] theorem setLnk_train (k : Nat) (x : LinkSt) : (s.setLnk k x).train = s.train := rfl
@[simp] theorem setLnk_tx (k : Nat) (x : LinkSt) : (s.setLnk k x).tx = s.tx := rfl
@[simp] theorem setLnk_ibx (k : Nat) (x : LinkSt) : (s.setLnk k x).ibx = s.ibx := rfl
@[simp] theorem setLnk_mem (k : Nat) (x : LinkSt) : (s.setLnk k x).mem = s.mem := rfl
@[simp] theorem setLnk_ecc (k : Nat) (x : LinkSt) : (s.setLnk k x).ecc = s.ecc := rfl
@[simp] theorem setLnk_flt (k : Nat) (x : LinkSt) : (s.setLnk k x).flt = s.flt := rfl
@[simp] theorem setLnk_ep (k : Nat) (x : LinkSt) : (s.setLnk k x).ep = s.ep := rfl
@[simp] theorem setLnk_raised (k : Nat) (x : LinkSt) : (s.setLnk k x).raised = s.raised := rfl
@[simp] theorem setLnk_out (k : Nat) (x : LinkSt) : (s.setLnk k x).out = s.out := rfl
@[simp] theorem setLnk_free (k : Nat) (x : LinkSt) : (s.setLnk k x).free = s.free := rfl
@[simp] theorem setLnk_pending (k : Nat) (x : LinkSt) : (s.setLnk k x).pending = s.pending := rfl

/-! ### setTrn -/

@[simp] theorem setTrn_reg (k : Nat) (x : TrainSt) : (s.setTrn k x).reg = s.reg := rfl
@[simp] theorem setTrn_bus (k : Nat) (x : TrainSt) : (s.setTrn k x).bus = s.bus := rfl
@[simp] theorem setTrn_time (k : Nat) (x : TrainSt) : (s.setTrn k x).time = s.time := rfl
@[simp] theorem setTrn_cue (k : Nat) (x : TrainSt) : (s.setTrn k x).cue = s.cue := rfl
@[simp] theorem setTrn_fwd (k : Nat) (x : TrainSt) : (s.setTrn k x).fwd = s.fwd := rfl
@[simp] theorem setTrn_buf (k : Nat) (x : TrainSt) : (s.setTrn k x).buf = s.buf := rfl
@[simp] theorem setTrn_sch (k : Nat) (x : TrainSt) : (s.setTrn k x).sch = s.sch := rfl
@[simp] theorem setTrn_gate (k : Nat) (x : TrainSt) : (s.setTrn k x).gate = s.gate := rfl
@[simp] theorem setTrn_obs (k : Nat) (x : TrainSt) : (s.setTrn k x).obs = s.obs := rfl
@[simp] theorem setTrn_ring (k : Nat) (x : TrainSt) : (s.setTrn k x).ring = s.ring := rfl
@[simp] theorem setTrn_herd (k : Nat) (x : TrainSt) : (s.setTrn k x).herd = s.herd := rfl
@[simp] theorem setTrn_port (k : Nat) (x : TrainSt) : (s.setTrn k x).port = s.port := rfl
@[simp] theorem setTrn_brg (k : Nat) (x : TrainSt) : (s.setTrn k x).brg = s.brg := rfl
@[simp] theorem setTrn_loop (k : Nat) (x : TrainSt) : (s.setTrn k x).loop = s.loop := rfl
@[simp] theorem setTrn_streams (k : Nat) (x : TrainSt) : (s.setTrn k x).streams = s.streams := rfl
@[simp] theorem setTrn_chm (k : Nat) (x : TrainSt) : (s.setTrn k x).chm = s.chm := rfl
@[simp] theorem setTrn_rst (k : Nat) (x : TrainSt) : (s.setTrn k x).rst = s.rst := rfl
@[simp] theorem setTrn_gaz (k : Nat) (x : TrainSt) : (s.setTrn k x).gaz = s.gaz := rfl
@[simp] theorem setTrn_tx (k : Nat) (x : TrainSt) : (s.setTrn k x).tx = s.tx := rfl
@[simp] theorem setTrn_ibx (k : Nat) (x : TrainSt) : (s.setTrn k x).ibx = s.ibx := rfl
@[simp] theorem setTrn_mem (k : Nat) (x : TrainSt) : (s.setTrn k x).mem = s.mem := rfl
@[simp] theorem setTrn_ecc (k : Nat) (x : TrainSt) : (s.setTrn k x).ecc = s.ecc := rfl
@[simp] theorem setTrn_flt (k : Nat) (x : TrainSt) : (s.setTrn k x).flt = s.flt := rfl
@[simp] theorem setTrn_ep (k : Nat) (x : TrainSt) : (s.setTrn k x).ep = s.ep := rfl
@[simp] theorem setTrn_raised (k : Nat) (x : TrainSt) : (s.setTrn k x).raised = s.raised := rfl
@[simp] theorem setTrn_out (k : Nat) (x : TrainSt) : (s.setTrn k x).out = s.out := rfl
@[simp] theorem setTrn_free (k : Nat) (x : TrainSt) : (s.setTrn k x).free = s.free := rfl
@[simp] theorem setTrn_pending (k : Nat) (x : TrainSt) : (s.setTrn k x).pending = s.pending := rfl

/-! ### setPkt -/

@[simp] theorem setPkt_reg (k : Pkt) : (s.setPkt k).reg = s.reg := rfl
@[simp] theorem setPkt_bus (k : Pkt) : (s.setPkt k).bus = s.bus := rfl
@[simp] theorem setPkt_time (k : Pkt) : (s.setPkt k).time = s.time := rfl
@[simp] theorem setPkt_cue (k : Pkt) : (s.setPkt k).cue = s.cue := rfl
@[simp] theorem setPkt_buf (k : Pkt) : (s.setPkt k).buf = s.buf := rfl
@[simp] theorem setPkt_sch (k : Pkt) : (s.setPkt k).sch = s.sch := rfl
@[simp] theorem setPkt_gate (k : Pkt) : (s.setPkt k).gate = s.gate := rfl
@[simp] theorem setPkt_obs (k : Pkt) : (s.setPkt k).obs = s.obs := rfl
@[simp] theorem setPkt_ring (k : Pkt) : (s.setPkt k).ring = s.ring := rfl
@[simp] theorem setPkt_herd (k : Pkt) : (s.setPkt k).herd = s.herd := rfl
@[simp] theorem setPkt_port (k : Pkt) : (s.setPkt k).port = s.port := rfl
@[simp] theorem setPkt_brg (k : Pkt) : (s.setPkt k).brg = s.brg := rfl
@[simp] theorem setPkt_loop (k : Pkt) : (s.setPkt k).loop = s.loop := rfl
@[simp] theorem setPkt_streams (k : Pkt) : (s.setPkt k).streams = s.streams := rfl
@[simp] theorem setPkt_chm (k : Pkt) : (s.setPkt k).chm = s.chm := rfl
@[simp] theorem setPkt_rst (k : Pkt) : (s.setPkt k).rst = s.rst := rfl
@[simp] theorem setPkt_gaz (k : Pkt) : (s.setPkt k).gaz = s.gaz := rfl
@[simp] theorem setPkt_train (k : Pkt) : (s.setPkt k).train = s.train := rfl
@[simp] theorem setPkt_tx (k : Pkt) : (s.setPkt k).tx = s.tx := rfl
@[simp] theorem setPkt_ibx (k : Pkt) : (s.setPkt k).ibx = s.ibx := rfl
@[simp] theorem setPkt_mem (k : Pkt) : (s.setPkt k).mem = s.mem := rfl
@[simp] theorem setPkt_ecc (k : Pkt) : (s.setPkt k).ecc = s.ecc := rfl
@[simp] theorem setPkt_flt (k : Pkt) : (s.setPkt k).flt = s.flt := rfl
@[simp] theorem setPkt_ep (k : Pkt) : (s.setPkt k).ep = s.ep := rfl
@[simp] theorem setPkt_raised (k : Pkt) : (s.setPkt k).raised = s.raised := rfl
@[simp] theorem setPkt_out (k : Pkt) : (s.setPkt k).out = s.out := rfl
@[simp] theorem setPkt_free (k : Pkt) : (s.setPkt k).free = s.free := rfl
@[simp] theorem setPkt_pending (k : Pkt) : (s.setPkt k).pending = s.pending := rfl

/-! ### setQueue -/

@[simp] theorem setQueue_reg (q : Nat) (x : Queue) : (s.setQueue q x).reg = s.reg := rfl
@[simp] theorem setQueue_bus (q : Nat) (x : Queue) : (s.setQueue q x).bus = s.bus := rfl
@[simp] theorem setQueue_time (q : Nat) (x : Queue) : (s.setQueue q x).time = s.time := rfl
@[simp] theorem setQueue_cue (q : Nat) (x : Queue) : (s.setQueue q x).cue = s.cue := rfl
@[simp] theorem setQueue_fwd (q : Nat) (x : Queue) : (s.setQueue q x).fwd = s.fwd := rfl
@[simp] theorem setQueue_buf (q : Nat) (x : Queue) : (s.setQueue q x).buf = s.buf := rfl
@[simp] theorem setQueue_gate (q : Nat) (x : Queue) : (s.setQueue q x).gate = s.gate := rfl
@[simp] theorem setQueue_obs (q : Nat) (x : Queue) : (s.setQueue q x).obs = s.obs := rfl
@[simp] theorem setQueue_ring (q : Nat) (x : Queue) : (s.setQueue q x).ring = s.ring := rfl
@[simp] theorem setQueue_herd (q : Nat) (x : Queue) : (s.setQueue q x).herd = s.herd := rfl
@[simp] theorem setQueue_port (q : Nat) (x : Queue) : (s.setQueue q x).port = s.port := rfl
@[simp] theorem setQueue_brg (q : Nat) (x : Queue) : (s.setQueue q x).brg = s.brg := rfl
@[simp] theorem setQueue_loop (q : Nat) (x : Queue) : (s.setQueue q x).loop = s.loop := rfl
@[simp] theorem setQueue_streams (q : Nat) (x : Queue) : (s.setQueue q x).streams = s.streams := rfl
@[simp] theorem setQueue_chm (q : Nat) (x : Queue) : (s.setQueue q x).chm = s.chm := rfl
@[simp] theorem setQueue_rst (q : Nat) (x : Queue) : (s.setQueue q x).rst = s.rst := rfl
@[simp] theorem setQueue_gaz (q : Nat) (x : Queue) : (s.setQueue q x).gaz = s.gaz := rfl
@[simp] theorem setQueue_train (q : Nat) (x : Queue) : (s.setQueue q x).train = s.train := rfl
@[simp] theorem setQueue_tx (q : Nat) (x : Queue) : (s.setQueue q x).tx = s.tx := rfl
@[simp] theorem setQueue_ibx (q : Nat) (x : Queue) : (s.setQueue q x).ibx = s.ibx := rfl
@[simp] theorem setQueue_mem (q : Nat) (x : Queue) : (s.setQueue q x).mem = s.mem := rfl
@[simp] theorem setQueue_ecc (q : Nat) (x : Queue) : (s.setQueue q x).ecc = s.ecc := rfl
@[simp] theorem setQueue_flt (q : Nat) (x : Queue) : (s.setQueue q x).flt = s.flt := rfl
@[simp] theorem setQueue_ep (q : Nat) (x : Queue) : (s.setQueue q x).ep = s.ep := rfl
@[simp] theorem setQueue_raised (q : Nat) (x : Queue) : (s.setQueue q x).raised = s.raised := rfl
@[simp] theorem setQueue_out (q : Nat) (x : Queue) : (s.setQueue q x).out = s.out := rfl
@[simp] theorem setQueue_free (q : Nat) (x : Queue) : (s.setQueue q x).free = s.free := rfl
@[simp] theorem setQueue_pending (q : Nat) (x : Queue) : (s.setQueue q x).pending = s.pending := rfl

/-! ### setRst -/

@[simp] theorem setRst_reg (f : RstSt → RstSt) : (s.setRst f).reg = s.reg := rfl
@[simp] theorem setRst_bus (f : RstSt → RstSt) : (s.setRst f).bus = s.bus := rfl
@[simp] theorem setRst_time (f : RstSt → RstSt) : (s.setRst f).time = s.time := rfl
@[simp] theorem setRst_cue (f : RstSt → RstSt) : (s.setRst f).cue = s.cue := rfl
@[simp] theorem setRst_fwd (f : RstSt → RstSt) : (s.setRst f).fwd = s.fwd := rfl
@[simp] theorem setRst_buf (f : RstSt → RstSt) : (s.setRst f).buf = s.buf := rfl
@[simp] theorem setRst_sch (f : RstSt → RstSt) : (s.setRst f).sch = s.sch := rfl
@[simp] theorem setRst_gate (f : RstSt → RstSt) : (s.setRst f).gate = s.gate := rfl
@[simp] theorem setRst_obs (f : RstSt → RstSt) : (s.setRst f).obs = s.obs := rfl
@[simp] theorem setRst_ring (f : RstSt → RstSt) : (s.setRst f).ring = s.ring := rfl
@[simp] theorem setRst_herd (f : RstSt → RstSt) : (s.setRst f).herd = s.herd := rfl
@[simp] theorem setRst_port (f : RstSt → RstSt) : (s.setRst f).port = s.port := rfl
@[simp] theorem setRst_brg (f : RstSt → RstSt) : (s.setRst f).brg = s.brg := rfl
@[simp] theorem setRst_loop (f : RstSt → RstSt) : (s.setRst f).loop = s.loop := rfl
@[simp] theorem setRst_streams (f : RstSt → RstSt) : (s.setRst f).streams = s.streams := rfl
@[simp] theorem setRst_chm (f : RstSt → RstSt) : (s.setRst f).chm = s.chm := rfl
@[simp] theorem setRst_gaz (f : RstSt → RstSt) : (s.setRst f).gaz = s.gaz := rfl
@[simp] theorem setRst_train (f : RstSt → RstSt) : (s.setRst f).train = s.train := rfl
@[simp] theorem setRst_tx (f : RstSt → RstSt) : (s.setRst f).tx = s.tx := rfl
@[simp] theorem setRst_ibx (f : RstSt → RstSt) : (s.setRst f).ibx = s.ibx := rfl
@[simp] theorem setRst_mem (f : RstSt → RstSt) : (s.setRst f).mem = s.mem := rfl
@[simp] theorem setRst_ecc (f : RstSt → RstSt) : (s.setRst f).ecc = s.ecc := rfl
@[simp] theorem setRst_flt (f : RstSt → RstSt) : (s.setRst f).flt = s.flt := rfl
@[simp] theorem setRst_ep (f : RstSt → RstSt) : (s.setRst f).ep = s.ep := rfl
@[simp] theorem setRst_raised (f : RstSt → RstSt) : (s.setRst f).raised = s.raised := rfl
@[simp] theorem setRst_out (f : RstSt → RstSt) : (s.setRst f).out = s.out := rfl
@[simp] theorem setRst_free (f : RstSt → RstSt) : (s.setRst f).free = s.free := rfl
@[simp] theorem setRst_pending (f : RstSt → RstSt) : (s.setRst f).pending = s.pending := rfl

/-! ### setFlow -/

@[simp] theorem setFlow_reg (k : Nat) (e : Option FlowEnt) : (s.setFlow k e).reg = s.reg := rfl
@[simp] theorem setFlow_bus (k : Nat) (e : Option FlowEnt) : (s.setFlow k e).bus = s.bus := rfl
@[simp] theorem setFlow_time (k : Nat) (e : Option FlowEnt) : (s.setFlow k e).time = s.time := rfl
@[simp] theorem setFlow_cue (k : Nat) (e : Option FlowEnt) : (s.setFlow k e).cue = s.cue := rfl
@[simp] theorem setFlow_buf (k : Nat) (e : Option FlowEnt) : (s.setFlow k e).buf = s.buf := rfl
@[simp] theorem setFlow_sch (k : Nat) (e : Option FlowEnt) : (s.setFlow k e).sch = s.sch := rfl
@[simp] theorem setFlow_gate (k : Nat) (e : Option FlowEnt) : (s.setFlow k e).gate = s.gate := rfl
@[simp] theorem setFlow_obs (k : Nat) (e : Option FlowEnt) : (s.setFlow k e).obs = s.obs := rfl
@[simp] theorem setFlow_ring (k : Nat) (e : Option FlowEnt) : (s.setFlow k e).ring = s.ring := rfl
@[simp] theorem setFlow_herd (k : Nat) (e : Option FlowEnt) : (s.setFlow k e).herd = s.herd := rfl
@[simp] theorem setFlow_port (k : Nat) (e : Option FlowEnt) : (s.setFlow k e).port = s.port := rfl
@[simp] theorem setFlow_brg (k : Nat) (e : Option FlowEnt) : (s.setFlow k e).brg = s.brg := rfl
@[simp] theorem setFlow_loop (k : Nat) (e : Option FlowEnt) : (s.setFlow k e).loop = s.loop := rfl
@[simp] theorem setFlow_streams (k : Nat) (e : Option FlowEnt) : (s.setFlow k e).streams = s.streams := rfl
@[simp] theorem setFlow_chm (k : Nat) (e : Option FlowEnt) : (s.setFlow k e).chm = s.chm := rfl
@[simp] theorem setFlow_rst (k : Nat) (e : Option FlowEnt) : (s.setFlow k e).rst = s.rst := rfl
@[simp] theorem setFlow_gaz (k : Nat) (e : Option FlowEnt) : (s.setFlow k e).gaz = s.gaz := rfl
@[simp] theorem setFlow_train (k : Nat) (e : Option FlowEnt) : (s.setFlow k e).train = s.train := rfl
@[simp] theorem setFlow_tx (k : Nat) (e : Option FlowEnt) : (s.setFlow k e).tx = s.tx := rfl
@[simp] theorem setFlow_ibx (k : Nat) (e : Option FlowEnt) : (s.setFlow k e).ibx = s.ibx := rfl
@[simp] theorem setFlow_mem (k : Nat) (e : Option FlowEnt) : (s.setFlow k e).mem = s.mem := rfl
@[simp] theorem setFlow_ecc (k : Nat) (e : Option FlowEnt) : (s.setFlow k e).ecc = s.ecc := rfl
@[simp] theorem setFlow_flt (k : Nat) (e : Option FlowEnt) : (s.setFlow k e).flt = s.flt := rfl
@[simp] theorem setFlow_ep (k : Nat) (e : Option FlowEnt) : (s.setFlow k e).ep = s.ep := rfl
@[simp] theorem setFlow_raised (k : Nat) (e : Option FlowEnt) : (s.setFlow k e).raised = s.raised := rfl
@[simp] theorem setFlow_out (k : Nat) (e : Option FlowEnt) : (s.setFlow k e).out = s.out := rfl
@[simp] theorem setFlow_free (k : Nat) (e : Option FlowEnt) : (s.setFlow k e).free = s.free := rfl
@[simp] theorem setFlow_pending (k : Nat) (e : Option FlowEnt) : (s.setFlow k e).pending = s.pending := rfl

/-! ### setEcc -/

@[simp] theorem setEcc_reg (k : Nat) (x : Option (Nat × Nat)) : (s.setEcc k x).reg = s.reg := rfl
@[simp] theorem setEcc_bus (k : Nat) (x : Option (Nat × Nat)) : (s.setEcc k x).bus = s.bus := rfl
@[simp] theorem setEcc_time (k : Nat) (x : Option (Nat × Nat)) : (s.setEcc k x).time = s.time := rfl
@[simp] theorem setEcc_cue (k : Nat) (x : Option (Nat × Nat)) : (s.setEcc k x).cue = s.cue := rfl
@[simp] theorem setEcc_fwd (k : Nat) (x : Option (Nat × Nat)) : (s.setEcc k x).fwd = s.fwd := rfl
@[simp] theorem setEcc_buf (k : Nat) (x : Option (Nat × Nat)) : (s.setEcc k x).buf = s.buf := rfl
@[simp] theorem setEcc_sch (k : Nat) (x : Option (Nat × Nat)) : (s.setEcc k x).sch = s.sch := rfl
@[simp] theorem setEcc_gate (k : Nat) (x : Option (Nat × Nat)) : (s.setEcc k x).gate = s.gate := rfl
@[simp] theorem setEcc_obs (k : Nat) (x : Option (Nat × Nat)) : (s.setEcc k x).obs = s.obs := rfl
@[simp] theorem setEcc_ring (k : Nat) (x : Option (Nat × Nat)) : (s.setEcc k x).ring = s.ring := rfl
@[simp] theorem setEcc_herd (k : Nat) (x : Option (Nat × Nat)) : (s.setEcc k x).herd = s.herd := rfl
@[simp] theorem setEcc_port (k : Nat) (x : Option (Nat × Nat)) : (s.setEcc k x).port = s.port := rfl
@[simp] theorem setEcc_brg (k : Nat) (x : Option (Nat × Nat)) : (s.setEcc k x).brg = s.brg := rfl
@[simp] theorem setEcc_loop (k : Nat) (x : Option (Nat × Nat)) : (s.setEcc k x).loop = s.loop := rfl
@[simp] theorem setEcc_streams (k : Nat) (x : Option (Nat × Nat)) : (s.setEcc k x).streams = s.streams := rfl
@[simp] theorem setEcc_chm (k : Nat) (x : Option (Nat × Nat)) : (s.setEcc k x).chm = s.chm := rfl
@[simp] theorem setEcc_rst (k : Nat) (x : Option (Nat × Nat)) : (s.setEcc k x).rst = s.rst := rfl
@[simp] theorem setEcc_gaz (k : Nat) (x : Option (Nat × Nat)) : (s.setEcc k x).gaz = s.gaz := rfl
@[simp] theorem setEcc_train (k : Nat) (x : Option (Nat × Nat)) : (s.setEcc k x).train = s.train := rfl
@[simp] theorem setEcc_tx (k : Nat) (x : Option (Nat × Nat)) : (s.setEcc k x).tx = s.tx := rfl
@[simp] theorem setEcc_ibx (k : Nat) (x : Option (Nat × Nat)) : (s.setEcc k x).ibx = s.ibx := rfl
@[simp] theorem setEcc_mem (k : Nat) (x : Option (Nat × Nat)) : (s.setEcc k x).mem = s.mem := rfl
@[simp] theorem setEcc_flt (k : Nat) (x : Option (Nat × Nat)) : (s.setEcc k x).flt = s.flt := rfl
@[simp] theorem setEcc_ep (k : Nat) (x : Option (Nat × Nat)) : (s.setEcc k x).ep = s.ep := rfl
@[simp] theorem setEcc_raised (k : Nat) (x : Option (Nat × Nat)) : (s.setEcc k x).raised = s.raised := rfl
@[simp] theorem setEcc_out (k : Nat) (x : Option (Nat × Nat)) : (s.setEcc k x).out = s.out := rfl
@[simp] theorem setEcc_free (k : Nat) (x : Option (Nat × Nat)) : (s.setEcc k x).free = s.free := rfl
@[simp] theorem setEcc_pending (k : Nat) (x : Option (Nat × Nat)) : (s.setEcc k x).pending = s.pending := rfl

/-! ### What the updates change -/

@[simp] theorem emit_out (e : Emit) : (s.emit e).out = e :: s.out := rfl
@[simp] theorem emits_out (es : List Emit) : (s.emits es).out = es.reverse ++ s.out := rfl
@[simp] theorem raise_raised (n : Nat) (x : Subj) : (s.raise n x).raised = s.raised ++ [{ src := n, subj := x }] := rfl
@[simp] theorem useFree_free : s.useFree.free = s.free + 1 := rfl
@[simp] theorem setTime_time (f : TimeSt → TimeSt) : (s.setTime f).time = f s.time := rfl
@[simp] theorem setRst_rst (f : RstSt → RstSt) : (s.setRst f).rst = f s.rst := rfl
@[simp] theorem setHerd_herd (f : HerdSt → HerdSt) : (s.setHerd f).herd = f s.herd := rfl
@[simp] theorem advance_ct (t : Nat) : (s.advance t).time.ct = max s.time.ct (t * 65536) := rfl
@[simp] theorem advance_tick (t : Nat) : (s.advance t).time.tick = s.time.tick := rfl
@[simp] theorem advanceCt_ct (t : Nat) : (s.advanceCt t).time.ct = max s.time.ct t := rfl

end Sys2Proof.Laws
end

