-- ==== Sys2Proof/Laws/Regs.lean ====
section
/-! SUPPORT. The laws of the register fields: what a field reads after a write of it, and of another. -/

namespace Sys2Proof.Laws
open Sys2Proof.Machine

variable (s : State)

/-- A field reads as it was written, narrowed to its width. -/
@[simp] theorem rd_wr (f : Fld) (v i j : Nat) : (s.wr f v i j).rd f i j = v % f.size := by
  simp [State.rd, State.wr, Regs.rd, Regs.wr]

/-- A write of a field leaves a field that stands elsewhere alone. -/
theorem rd_wr_ne {s : State} {f g : Fld} {v i j x y : Nat} (h : g.key x y ≠ f.key i j) : (s.wr f v i j).rd g x y = s.rd g x y := by
  simp [State.rd, State.wr, Regs.rd, Regs.wr, get_set_ne _ _ _ _ h]

/-- A write of a field keeps the canonical form of the store. -/
theorem wf_wr {s : State} (f : Fld) (v i j : Nat) (h : SMap.wf s.reg f.rst = true) : SMap.wf (s.wr f v i j).reg f.rst = true :=
  wf_set _ _ _ _ h

@[simp] theorem rd_emit (e : Emit) (f : Fld) (i j : Nat) : (s.emit e).rd f i j = s.rd f i j := rfl
@[simp] theorem rd_emits (es : List Emit) (f : Fld) (i j : Nat) : (s.emits es).rd f i j = s.rd f i j := rfl
@[simp] theorem rd_raise (n : Nat) (x : Subj) (f : Fld) (i j : Nat) : (s.raise n x).rd f i j = s.rd f i j := rfl
@[simp] theorem rd_useFree (f : Fld) (i j : Nat) : s.useFree.rd f i j = s.rd f i j := rfl
@[simp] theorem rd_advance (t : Nat) (f : Fld) (i j : Nat) : (s.advance t).rd f i j = s.rd f i j := rfl
@[simp] theorem rd_advanceCt (t : Nat) (f : Fld) (i j : Nat) : (s.advanceCt t).rd f i j = s.rd f i j := rfl
@[simp] theorem rd_setTime (g : TimeSt → TimeSt) (f : Fld) (i j : Nat) : (s.setTime g).rd f i j = s.rd f i j := rfl
@[simp] theorem rd_setRst (g : RstSt → RstSt) (f : Fld) (i j : Nat) : (s.setRst g).rd f i j = s.rd f i j := rfl
@[simp] theorem rd_setHerd (g : HerdSt → HerdSt) (f : Fld) (i j : Nat) : (s.setHerd g).rd f i j = s.rd f i j := rfl
@[simp] theorem rd_setFn (n : Nat) (x : Fn) (f : Fld) (i j : Nat) : (s.setFn n x).rd f i j = s.rd f i j := rfl
@[simp] theorem rd_setQp (n : Nat) (x : Qp) (f : Fld) (i j : Nat) : (s.setQp n x).rd f i j = s.rd f i j := rfl
@[simp] theorem on_raise (n : Nat) (x : Subj) (f : Fld) (i j : Nat) : (s.raise n x).on f i j = s.on f i j := rfl
@[simp] theorem on_emit (e : Emit) (f : Fld) (i j : Nat) : (s.emit e).on f i j = s.on f i j := rfl
@[simp] theorem on_advance (t : Nat) (f : Fld) (i j : Nat) : (s.advance t).on f i j = s.on f i j := rfl

/-! ### Functions, QPs and the other tables -/

@[simp] theorem fn_setFn (n : Nat) (x : Fn) : (s.setFn n x).fn n = x := by simp [State.fn, State.setFn]

theorem fn_setFn_ne {s : State} {n m : Nat} (x : Fn) (h : m ≠ n) : (s.setFn n x).fn m = s.fn m := by
  simp [State.fn, State.setFn, get_set_ne _ _ _ _ h]

@[simp] theorem qp_setQp (n : Nat) (x : Qp) : (s.setQp n x).qp n = x := by simp [State.qp, State.setQp]

theorem qp_setQp_ne {s : State} {n m : Nat} (x : Qp) (h : m ≠ n) : (s.setQp n x).qp m = s.qp m := by
  simp [State.qp, State.setQp, get_set_ne _ _ _ _ h]

@[simp] theorem core_setCore (n : Nat) (x : Core) : (s.setCore n x).core n = x := by simp [State.core, State.setCore]

theorem core_setCore_ne {s : State} {n m : Nat} (x : Core) (h : m ≠ n) : (s.setCore n x).core m = s.core m := by
  simp [State.core, State.setCore, get_set_ne _ _ _ _ h]

@[simp] theorem lnk_setLnk (n : Nat) (x : LinkSt) : (s.setLnk n x).lnk n = x := by simp [State.lnk, State.setLnk]

theorem lnk_setLnk_ne {s : State} {n m : Nat} (x : LinkSt) (h : m ≠ n) : (s.setLnk n x).lnk m = s.lnk m := by
  simp [State.lnk, State.setLnk, get_set_ne _ _ _ _ h]

@[simp] theorem gatePort_setGate (p : Nat) (g : GatePort) : (s.setGate p g).gatePort p = g := by
  simp [State.gatePort, State.setGate]

theorem gatePort_setGate_ne {s : State} {p r : Nat} (g : GatePort) (h : r ≠ p) : (s.setGate p g).gatePort r = s.gatePort r := by
  simp [State.gatePort, State.setGate, get_set_ne _ _ _ _ h]

end Sys2Proof.Laws
end

