-- ==== Sys2Proof/Tests/Slice0.lean ====
section
/-! SUPPORT. The model's own small tests: the well-formedness checks, a witness for the conditions of every statement of
Certificates/Slice0/Obligations.lean, and single effects read off the spec. -/

namespace Sys2Proof.Tests
open Sys2Proof.Machine

set_option Elab.async false

/-! ## Small states -/

/-- A device whose firmware runs, every register at its reset value but for the severities of the fault sources, which
are all NOTE. -/
def up : State := { State.reset with reg := [], rst := { State.reset.rst with phase := .running } }

/-- The same as time root. -/
def root : State := (up.timeTo tsROOT).setTime (fun t => { t with root := true })

/-- A downstream port P0 with its link up, bound to device 1 of host domain 0. -/
def slot0 : State :=
  let s := ((up.wr OCT_MODE_MODE 1 0).wr PORT_CFG_ROLE 0 0).setOn PORT_STATUS_LINK_UP 0
  { s with port := { s.port with vhier := [(1, some { did := s.did, port := 0 })] } }

/-- A started descriptor of opcode `op` with operand byte 40 at `sub`, and bytes after that. -/
def desc (op sub : Nat) (rest : List Nat := []) : Desc :=
  { idx := 0, started := true, img := [op % 256, op / 256] ++ List.replicate 38 0 ++ [sub] ++ rest ++ List.replicate (23 - rest.length) 0 }

/-- A device whose admin ring (QP 0 of PF 0) runs the descriptor. -/
def withDesc (s : State) (d : Desc) : State :=
  s.setQp 0 { s.qp 0 with state := .active, dataBase := 0x1000, dataLog := 12, cqLog := 4, inProg := [d] }

/-! ## Witnesses of the statements' conditions -/

theorem wit_EmptyQueueIdles : State.reset.pending = [] := by decide

theorem wit_SettleLeavesRest : State.reset.raised = [] ∧ State.reset.loop = [] ∧ State.reset.rst.due = none ∧
    State.reset.flt.fatalDue = false ∧ State.reset.chm.held = [] ∧ State.reset.chm.cores = [] ∧ State.reset.rst.ports = [] ∧
    State.reset.port.ports = [] ∧ State.reset.rd PWR_STATUS_STATE ≠ pwQUIET ∧ State.reset.pinStill = true := by decide +kernel

theorem wit_AtRestIsKept : Safety.atRest State.reset = true ∧ (∃ t, step State.reset = .next t) := ⟨by decide +kernel, _, rfl⟩

theorem wit_RegisterWriteStoresItsFields : let a := up.advance 0;
    regAt PTM_CTRL.off = some (PTM_CTRL, 0, 0) ∧ PTM_CTRL.pair = .none ∧ Safety.opens a 3 PTM_CTRL.off = true ∧
    PTM_CTRL.reserved 5 = false ∧ a.absent PTM_CTRL.off 0 = false ∧ a.hookSystem 3 PTM_CTRL.off 0 5 = none ∧
    a.hookPorts PTM_CTRL.off 0 0 5 = none ∧ a.hookFabric 3 PTM_CTRL.off 0 0 5 = none := by decide +kernel

theorem wit_ReservedEncodingIsDiscarded : regAt (OCT_MODE.addr 0) = some (OCT_MODE, 0, 0) ∧ OCT_MODE.pair = .none ∧
    OCT_MODE.reserved 7 = true := by decide +kernel

theorem wit_PairsAreReadAndWrittenWhole :
    (Safety.opens (up.advance 0) 3 CELL_TIME_LO.off = true ∧ regAt CELL_TIME_LO.off = some (CELL_TIME_LO, 0, 0) ∧
      CELL_TIME_LO.pair = .low ∧ regAt (CELL_TIME_LO.off + 4) = some (CELL_TIME_HI, 0, 0)) ∧
    (CELL_TIME_HI.pair = .high ∧ SMap.get (up.setHold CELL_TIME_HI.off (some 5)).bus.hold CELL_TIME_HI.off none = some 5) ∧
    (Safety.opens ((up.setLow CELL_TIME_LOAD_LO.off (some 8)).advance 0) 3 CELL_TIME_LOAD_HI.off = true ∧
      regAt CELL_TIME_LOAD_HI.off = some (CELL_TIME_LOAD_HI, 0, 0) ∧ CELL_TIME_LOAD_HI.pair = .high ∧
      regAt (CELL_TIME_LOAD_HI.off - 4) = some (CELL_TIME_LOAD_LO, 0, 0) ∧
      SMap.get ((up.setLow CELL_TIME_LOAD_LO.off (some 8)).advance 0).bus.low (CELL_TIME_LOAD_HI.off - 4) none = some 8) := by
  decide +kernel

theorem wit_SetupBusCommandsComplete :
    (let w := (up.advance 0).restWake 3;
      w.busyAt OCT_MODE.off = false ∧ w.defined 2 OCT_MODE.off = true ∧ (w.setupRd 2 OCT_MODE.off).1.isSome = true ∧ w.rst.phase ≠ .safeHold) ∧
    (let a := (up.setBank_ 2 { sel := 0x10, index := 0 }).advance 0;
      Safety.opens a 3 tblCmdOff = true ∧ (a.bank_ (busBank 3)).sel ≠ 0x60 ∧
      ((a.tblImage (a.bank_ (busBank 3)).sel (a.bank_ (busBank 3)).index).getD none).isSome = true) ∧
    (let a := (up.setBank_ 2 { sel := 0x40, index := 0 }).advance 0;
      Safety.opens a 3 tblCmdOff = true ∧ ((a.tblImage (a.bank_ (busBank 3)).sel (a.bank_ (busBank 3)).index).getD none).isSome = true ∧
      (a.tblPut (a.bank_ (busBank 3)).sel (a.bank_ (busBank 3)).index (a.bank_ (busBank 3)).data).isSome = true) ∧
    (let a := up.advance 0;
      Safety.opens a 3 0xC00000 = true ∧ a.debugAt 3 0xC00000 = some (0x10000000, 98) ∧
      ({ a with rst := { a.rst with cores := 1 } } : State).domainOn 98 = true) := by decide +kernel

theorem wit_TickEdgeMovesTime :
    (root.loadedUp = true ∧ root.ticking = true ∧ root.portsUp = true) ∧
    (let s : State := { root with rst := { root.rst with phase := .sram } };
      let m := (((s.edgeTime.tickOutRise).overrunJobs s.time.overruns).setTime (fun x => { x with overruns := 0 })).takeStep.periodChange;
      s.loadedUp = true ∧ s.ticking = true ∧ s.portsUp = false ∧ m.on FAULT_STATUS_HALTED = false) ∧
    (let s := root.setOn FAULT_STATUS_HALTED;
      let m := (((s.edgeTime.tickOutRise).overrunJobs s.time.overruns).setTime (fun x => { x with overruns := 0 })).takeStep.periodChange;
      s.loadedUp = true ∧ s.ticking = true ∧ s.portsUp = false ∧ m.on FAULT_STATUS_HALTED = true) ∧
    (let a := up.advance 5;
      a.portsUp = true ∧ a.loadedUp = true ∧ a.ticking = false ∧ a.timeStep.herdStep.on PWR_CTRL_REST_ARM = false) := by
  decide +kernel

theorem wit_TimeRegisterCommandsComplete :
    (let a := ((root.wr TICK_PERIOD_NEXT_QUANTA 500).wr TICK_PERIOD_NEXT_SPLIT 0).advance 0;
      a.pathOpen 3 TICK_CHANGE_AT_HI.off = true ∧ a.time.root = true ∧ a.time.pend = none ∧ a.time.tick + a.lead ≤ 16 ∧
      periodOk (a.rd TICK_PERIOD_NEXT_QUANTA) (a.rd TICK_PERIOD_NEXT_SPLIT) = true ∧
      (a.time.edge + (16 - a.time.tick) * a.tTick) % periodOf (a.rd TICK_PERIOD_NEXT_QUANTA) (a.rd TICK_PERIOD_NEXT_SPLIT) = 0 ∧
      a.treeDepth ≤ a.dMaxFor (periodOf (a.rd TICK_PERIOD_NEXT_QUANTA) (a.rd TICK_PERIOD_NEXT_SPLIT))) ∧
    (Safety.takes (up.advance 0) 3 TIME_CTRL 0 0 1 = true ∧ bit 1 7 = false ∧ bit 1 0 = true ∧ (up.advance 0).on TIME_CTRL_ENABLE = false) ∧
    (Safety.takes ((up.setOn TIME_CTRL_ENABLE).advance 0) 3 TIME_CTRL 0 0 0 = true ∧ ((up.setOn TIME_CTRL_ENABLE).advance 0).on TIME_CTRL_ENABLE = true) ∧
    ((up.advance 0).pathOpen 3 TICK_NUM_LOAD_HI.off = true ∧ (up.advance 0).pathOpen 3 CELL_TIME_LOAD_HI.off = true ∧ 62500 % (up.advance 0).tTick = 0) ∧
    ((up.setOn TIME_CTRL_ENABLE).advance 0).pathOpen 3 CELL_TIME_LOAD_HI.off = true ∧
    (Safety.takes ((up.setOn TIME_CTRL_ENABLE).advance 0) 3 TIME_CTRL 0 0 0x81 = true ∧ bit 0x81 7 = true ∧
      ((up.setOn TIME_CTRL_ENABLE).advance 0).on TIME_CTRL_ENABLE = bit 0x81 0) := by decide +kernel

theorem wit_TimeEventsComplete :
    (let a := (root.setTime (fun x => { x with pend := some (0, 500, 0) })).advance 0;
      a.loadedUp = true ∧ a.time.pend = some (0, 500, 0) ∧ 0 ≤ a.time.tick) ∧
    (let a := (root.setTime (fun x => { x with onCellref := true })).advance 0;
      a.loadedUp = true ∧ (a.time.root && a.timeState == tsROOT && a.time.onCellref) = true) ∧
    (let a := up.advance 0;
      a.loadedUp = true ∧ (a.time.root && a.timeState == tsROOT && a.time.onCellref) = false ∧ a.time.root = false) ∧
    (let w := ((up.setTime (fun x => { x with tickInLast := some 0 })).advance 31250).restWake 4;
      w.time.tickInLast = some 0 ∧ (w.on TIME_CTRL_TICK_IN_EN && w.time.root) = false) ∧
    (let a := ((up.timeTo tsLOCKED).setTport 2 { slot := some {}, markDue := true }).advanceCt 0;
      Safety.linksUp a = true ∧ (a.tport 2).slot = some {} ∧ (a.tport 2).markDue = true ∧ a.timeState = tsLOCKED ∧
      a.rd TIME_STATUS_SOURCE_OCTET ≠ 2) ∧
    (let a := ((((up.wr OCT_MODE_MODE 1 2).setOn OCT_MODE_FABRIC 2).setOn LINK_STATUS_UP 2).timeTo tsACQUIRING).setTport 2 { slot := some { state := tsROOT }, markDue := true, calOk := true };
      Safety.linksUp (a.advanceCt 0) = true ∧ (a.advanceCt 0).timeState = tsACQUIRING ∧
      ((a.advanceCt 0).setTport 2 { (a.advanceCt 0).tport 2 with markDue := false, missed := 0 }).bestSource none = some 2) ∧
    (let a := ((up.timeTo tsLOCKED).wr TIME_STATUS_SOURCE_OCTET 2).advance 0;
      a.loadedUp = true ∧ a.fabUp 2 = false ∧ a.timeState = tsLOCKED ∧ a.rd TIME_STATUS_SOURCE_OCTET = 2 ∧ a.bestSource (some 2) = none) ∧
    (let b := (((((up.wr OCT_MODE_MODE 1 3).setOn OCT_MODE_FABRIC 3).setOn LINK_STATUS_UP 3).timeTo tsLOCKED).setTport 3
        { slot := some { state := tsROOT }, calOk := true }).wr TIME_STATUS_SOURCE_OCTET 2;
      (b.advance 0).fabUp 2 = false ∧ (b.advance 0).bestSource (some 2) = some 3) ∧
    (let b := (((((up.wr OCT_MODE_MODE 1 3).setOn OCT_MODE_FABRIC 3).setOn LINK_STATUS_UP 3).timeTo tsHOLDOVER).setTport 3
        { slot := some { state := tsROOT, quanta := 15625, split := 2 }, calOk := true });
      Safety.linksUp (b.advance 0) = true ∧ (b.advance 0).timeState = tsHOLDOVER ∧ (b.advance 0).time.root = false ∧
      (b.advance 0).timeCand 3 = true ∧ periodOf 15625 2 = (b.advance 0).tTick) ∧
    (let a := ((up.timeTo tsHOLDOVER).setTime (fun x => { x with slew := .source, cand := some (2, 0, 0, 0) })).advance 0;
      a.loadedUp = true ∧ a.timeState = tsHOLDOVER ∧ a.time.slew = .source ∧ a.time.cand = some (2, 0, 0, 0)) ∧
    (let a := (up.setTime (fun x => { x with tickOut := true })).advance 100000;
      a.time.tickOut = true ∧ a.time.edge + min (a.rd TICK_OUT_CTRL_WIDTH) (a.tTick / 2) ≤ a.ns) := by decide +kernel

theorem wit_TimeMessagesComplete :
    (let a := (((root.wr OCT_MODE_MODE 1 2).setOn OCT_MODE_FABRIC 2).setOn LINK_STATUS_UP 2).advance 0;
      Safety.linksUp a = true ∧ a.ticking = true ∧ a.fabUp 2 = true ∧ a.time.pend = none) ∧
    (let a := ((((root.wr OCT_MODE_MODE 1 0).wr PORT_CFG_ROLE 1 0).setOn PORT_STATUS_LINK_UP 0).wr PTM_CTRL_INTERVAL 1).advance 0;
      a.portsUp = true ∧ a.pfPort 0 = some 0 ∧ a.rd PTM_CTRL_INTERVAL ≠ 0 ∧ a.time.tick % a.rd PTM_CTRL_INTERVAL = 0 ∧ a.ticking = true ∧
      a.on PORT_STATUS_LINK_UP 0 = true) ∧
    (let a := (slot0.setVc (vfKey 0 1 vfPtmEn) 1).advance 0;
      a.portsUp = true ∧ a.isDown 0 = true ∧ a.on PORT_STATUS_LINK_UP 0 = true ∧ a.portVc 0 vfPtmEn = 1) ∧
    (let a := (up.setPin 3 { queue := [{ at_ := 0, last := false }] }).advance 0;
      a.portsUp = true ∧ (a.pin 3).queue = [{ at_ := 0, last := false }] ∧ 0 ≤ a.ns) ∧
    (let a := (up.setPin 3 { queue := [{ at_ := 0 }] }).advance 0;
      (a.pin 3).queue = [{ at_ := 0 }]) ∧
    (let a := (up.setPin 3 { queue := [{ at_ := 0, qp := some (0, 0) }] }).advance 0;
      (a.pin 3).queue = [{ at_ := 0, qp := some (0, 0) }]) := by decide +kernel

/-- A device with a packet of a stage in its pipeline. -/
def packet (st : Stage) : State :=
  { up with fwd := { up.fwd with nextId := 1, pkts := [{ id := 0, ing := 0, stage := st }] } }

theorem wit_PipelineCommandsComplete :
    (let a := ((up.wr OCT_MODE_MODE 1 0).setOn OCT_MODE_FABRIC 0).advance 0;
      a.portsUp = true ∧ a.portExists 0 = true ∧ a.isFab 0 = true) ∧
    (let a := (packet .parsed).advance 0;
      (a.pkt 0).isSome = true ∧ (a.records 0).2 < (a.records 0).1) ∧
    (((((packet .recorded).advance 0).eccLookup 0).pkt 0).map (·.stage)) = some .recorded ∧
    (let a := (packet .looked).advance 0;
      a.portsUp = true ∧ (a.pkt 0).map (·.stage) = some .looked ∧ a.buf.headroomUsed ≤ a.rd BUF_HEADROOM_CELLS) ∧
    (let a := (packet .reserved).advance 0;
      (a.pkt 0).map (·.stage) = some .reserved ∧ (a.dropPkt 0).pfRead ((a.pkt 0).getD {}) = none ∧
      ((a.dropPkt 0).decidePkt ((a.pkt 0).getD {}) true []).isSome = true) ∧
    (Safety.takes (up.advance 0) 3 FWD_CTRL 0 0 2 = true ∧ bit 2 1 = true) ∧
    (Safety.takes (up.advance 0) 3 SESS_CTRL 3 0 0x80000000 = true ∧ (up.advance 0).on SESS_CTRL_EN 3 = false) := by decide +kernel

/-- A FLOW_SET of operation `op`. -/
def flowSet (op : Nat) : Desc := desc 0x10 0 (List.replicate 14 0 ++ [if op < 3 then 0x80 else 0, op])

/-- The same with an entry of key 0 at the slot its key names. -/
def flowAt0 (op : Nat) : State :=
  let s := withDesc up (flowSet op);
  s.setFlow (4 * s.bucketA 0 0) (some {})

theorem wit_FlowSetCompletes :
    (let a := (withDesc up (flowSet 1)).advance 0;
      a.portsUp = true ∧ Safety.ready a 0 0 (flowSet 1) = true ∧ (flowSet 1).opcode = 0x10 ∧ byteAt (flowSet 1).img 56 = 1 ∧
      (flowSet 1).flowOk true = true ∧ a.findFlow 0 0 = none ∧ (a.placeFor 0 0).isSome = true) ∧
    (let a := (flowAt0 2).advance 0;
      Safety.ready a 0 0 (flowSet 2) = true ∧ (flowSet 2).flowOk true = true ∧ (a.findFlow 0 0).isSome = true ∧
      a.flowBegun 0 0 = false ∧ a.moving 0 0 = false ∧
      a.needsMove (4 * a.bucketA 0 0) ((a.flowAt (4 * a.bucketA 0 0)).getD {}) (FlowEnt.ofImage (flowSet 2).flowImg).hopSel = none) ∧
    (let a := (flowAt0 3).advance 0;
      Safety.ready a 0 0 (flowSet 3) = true ∧ (flowSet 3).flowOk false = true ∧ a.findFlow 0 0 = some (4 * a.bucketA 0 0) ∧
      a.needsMove (4 * a.bucketA 0 0) ((a.flowAt (4 * a.bucketA 0 0)).getD {}) none = none) ∧
    (let a := (flowAt0 4).advance 0;
      Safety.ready a 0 0 (flowSet 4) = true ∧ (flowSet 4).flowOk false = true ∧ (a.qp 0).dataBase ≠ 0) := by decide +kernel

theorem wit_BufferCommandsComplete :
    (let a := (up.setQueue 5 { staged := [{}] }).advance 0;
      a.portsUp = true ∧ (a.queue 5).staged = [{}]) ∧
    (let a := (up.setQueue 5 { spill := true, tail := [{}], refillThr := 9 }).advance 0;
      (a.queue 5).spill = true ∧ (a.queue 5).behind ≠ 0 ∧ (a.queue 5).onchip < (a.queue 5).refillThr) ∧
    (let a := (up.setQueue 5 { refill := [{}] }).advance 0;
      (a.queue 5).late = 0 ∧ (a.queue 5).refill = [{}] ∧ ((a.joinHead 5 {}).queue 5).refilling = false) ∧
    (let a := ({ (up.setOn DRAM_STATUS_READY).wr DRAM_CTRL_SR_IDLE_TICKS 1 with buf := { up.buf with idleTicks := 2 } } : State).advance 0;
      a.portsUp = true ∧ a.on DRAM_STATUS_READY = true ∧ a.rd DRAM_CTRL_SR_IDLE_TICKS ≠ 0 ∧ a.dramIdle = true ∧
      a.rd DRAM_CTRL_SR_IDLE_TICKS ≤ a.buf.idleTicks) ∧
    (let a := ({ up.wr DRAM_CFG_CH_EN 1 with buf := { up.buf with initRun := true } } : State).advance 0;
      a.portsUp = true ∧ a.buf.initRun = true ∧ a.rd DRAM_CFG_CH_EN ≠ 0) ∧
    (Safety.takes (up.advance 0) 3 DRAM_CTRL 0 0 0x80000000 = true ∧ bit 0x80000000 31 = true) ∧
    (Safety.takes (up.advance 0) 3 DRAM_CFG 0 0 0x100 = true ∧ (up.advance 0).on DRAM_STATUS_READY = false ∧ bits 0x100 7 6 ≠ 3 ∧
      bits 0x100 4 3 ≠ 3 ∧ bits 0x100 2 0 < 4) := by decide +kernel

/-- METER_SET of operation `op` on meter 0 and profile 0; a profile has bursts of one byte. -/
def meterSet (op : Nat) : Desc :=
  let d := desc 0x11 op (if op = 1 then List.replicate 11 0 ++ [1] else []);
  if op = 2 then { d with img := (d.img.set 8 1).set 11 1 } else d

theorem wit_MeterSetCompletes :
    (let a := (withDesc up (meterSet 1)).advance 0;
      a.portsUp = true ∧ Safety.ready a 0 0 (meterSet 1) = true ∧ Desc.isOp 0x11 1 (meterSet 1) = true ∧ (meterSet 1).flagsOk = true ∧
      (meterSet 1).zero 8 39 = true ∧ (meterSet 1).zero 41 41 = true ∧ (meterSet 1).zero 51 51 = true ∧ (meterSet 1).zero 54 63 = true ∧
      bytesAt (meterSet 1).img 52 53 = 1) ∧
    (let d := meterSet 2;
      let a := (withDesc up d).advance 0;
      Safety.ready a 0 0 d = true ∧ Desc.isOp 0x11 2 d = true ∧
      (d.flagsOk && d.zero 14 39 && d.zero 41 45 && decide (bytesAt d.img 46 47 < 4096) && d.zero 48 53 && d.zero 62 63
        && !bit (bytesAt d.img 54 57) 31 && decide (bytesAt d.img 58 61 < 2 ^ 28) && d.profile.cbs != 0
        && (if d.profile.sr then d.profile.pir == 0 else d.profile.pbs != 0 && decide (d.profile.cir ≤ d.profile.pir))) = true) ∧
    (let d := meterSet 3;
      let a := (withDesc up d).advance 0;
      Safety.ready a 0 0 d = true ∧ Desc.isOp 0x11 3 d = true ∧ (a.qp 0).dataBase ≠ 0 ∧
      (d.flagsOk && d.zero 8 39 && d.zero 41 41 && d.zero 46 63) = true) ∧
    (let d := meterSet 4;
      let a := (withDesc up d).advance 0;
      Safety.ready a 0 0 d = true ∧ Desc.isOp 0x11 4 d = true ∧
      (d.flagsOk && d.zero 8 39 && d.zero 41 45 && d.zero 48 63) = true) := by decide +kernel

/-- SHAPER_SET of a target, as a read when `rd`; quantum 1 but for a port. -/
def shaperDesc (tg : Nat) (rd : Bool) : Desc :=
  desc 0x12 tg ([if rd then 2 else 0] ++ List.replicate 16 0 ++ [if rd || tg == 3 then 0 else 1])

/-- ADAPT_BOUNDS: shaped bounds of 1 and a sojourn of 1, or bulk bounds. -/
def boundsDesc (op : Nat) : Desc :=
  desc 0x1E op (if op = 1 then [0, 0, 0, 1, 0, 0, 0, 1, 0, 0, 0, 1, 0, 0, 1, 0, 0, 1] else List.replicate 17 0 ++ [if op = 2 then 1 else 0])

/-- Queue 0 mapped to port 0, whose service level 0 is of class `c`. -/
def queued (c : Nat) : State :=
  ((up.wr OCT_MODE_MODE 1 0).wr SCHED_PORT_CFG_SL_CLASS c 0).setQueue 0 { valid := true }

theorem wit_QueueAdminCompletes :
    (let u := up.wr OCT_MODE_MODE 1 0;
      ∀ tg ∈ [1, 2, 3], let d := shaperDesc tg false
        let a := (withDesc u d).advance 0;
        a.portsUp = true ∧ Safety.ready a 0 0 d = true ∧ d.opcode = 0x12 ∧ d.op40 = tg ∧
        (a.shaperOk d && !bit (byteAt d.img 41) 1 && decide (bytesAt d.img 44 47 < 2 ^ 28) && decide (bytesAt d.img 48 51 < 2 ^ 28)
          && (if d.op40 = 3 then bytesAt d.img 44 47 == 0 && d.zero 52 54 && bytesAt d.img 58 59 == 0
              else decide (1 ≤ bytesAt d.img 58 59) && decide (bytesAt d.img 58 59 ≤ 4095))
          && (bytesAt d.img 48 51 == 0 || decide (bytesAt d.img 44 47 ≤ bytesAt d.img 48 51))) = true) ∧
    (let u := up.wr OCT_MODE_MODE 1 0;
      ∀ tg ∈ [1, 2, 3], let d := shaperDesc tg true
        let a := (withDesc u d).advance 0;
        Safety.ready a 0 0 d = true ∧ (a.qp 0).dataBase ≠ 0 ∧ a.shaperOk d = true ∧ byteAt d.img 41 = 2 ∧ d.zero 44 59 = true ∧ d.op40 = tg) ∧
    (let d := desc 0x13 1;
      let a := (withDesc (up.wr OCT_MODE_MODE 1 0) d).advance 0;
      Safety.ready a 0 0 d = true ∧ Desc.isOp 0x13 1 d = true ∧ (d.flagsOk && d.zero 8 39 && a.portExists 0 && d.zero 41 63 && !(a.queue 0).valid
        && !(a.mapped.any (fun e => e.2.port == 0 && e.2.sl == 0 && !e.2.dflt && e.2.sub == 0))) = true) ∧
    (let d := desc 0x13 2;
      let a := (withDesc (queued 0) d).advance 0;
      Safety.ready a 0 0 d = true ∧ Desc.isOp 0x13 2 d = true ∧ (d.flagsOk && d.zero 8 39 && d.zero 41 41 && d.zero 44 63 && (a.queue 0).valid) = true ∧
      ((a.queue 0).dflt && a.on SCHED_PORT_CFG_EN (a.queue 0).port) = false) ∧
    (let d := desc 0x13 3;
      let a := (withDesc up d).advance 0;
      Safety.ready a 0 0 d = true ∧ Desc.isOp 0x13 3 d = true ∧ (d.flagsOk && d.zero 8 39 && d.zero 41 41 && d.zero 44 63) = true) ∧
    (let d := boundsDesc 1;
      let a := (withDesc (queued 2) d).advance 0;
      Safety.ready a 0 0 d = true ∧ Desc.isOp 0x1E 1 d = true ∧ a.qClass (a.queue 0) = 2 ∧ (a.queue 0).sh.cir ≤ 1 ∧
      bytesAt d.img 44 47 = 1 ∧ bytesAt d.img 48 51 = 1 ∧ bytesAt d.img 52 54 = 1 ∧ bytesAt d.img 55 57 = 1 ∧
      (d.flagsOk && d.zero 8 39 && d.zero 41 41 && d.zero 60 63 && bytesAt d.img 58 59 != 0) = true) ∧
    (let d := boundsDesc 2;
      let a := (withDesc (queued 3) d).advance 0;
      Safety.ready a 0 0 d = true ∧ Desc.isOp 0x1E 2 d = true ∧ a.qClass (a.queue 0) = 3 ∧
      (d.flagsOk && d.zero 8 39 && d.zero 41 41 && d.zero 44 57 && d.zero 60 63 && bytesAt d.img 58 59 != 0) = true) ∧
    (let d := boundsDesc 3;
      let a := (withDesc (queued 3) d).advance 0;
      Safety.ready a 0 0 d = true ∧ Desc.isOp 0x1E 3 d = true ∧ 2 ≤ a.qClass (a.queue 0) ∧
      (d.flagsOk && d.zero 8 39 && d.zero 41 41 && d.zero 44 63) = true) := by decide +kernel

/-- A fabric port P0 whose link is up and active, its scheduler on, with a packet in queue 0. -/
def sending : State :=
  let s := (((((up.wr OCT_MODE_MODE 1 0).setOn OCT_MODE_FABRIC 0).setOn LINK_STATUS_UP 0).wr OCT_FAB_STATUS_TRAIN_STATE trACTIVE 0).setOn
    SCHED_PORT_CFG_EN 0);
  ((s.setLnk 0 { s.lnk 0 with creditIn := true }).wr LINK_TX_CREDIT_AVAILABLE 9 0 0).setQueue 0
    { valid := true, dflt := true, head := [{ fab := true, le := 32 }] }

theorem wit_EgressSlotCompletes :
    (let a := (sending.advance 0).eccEgress 0;
      let b := a.obsAdd 0 0 1;
      (sending.advance 0).portsUp = true ∧ a.slotting 0 = true ∧ a.isFab 0 = true ∧ (b.lnk 0).resend = [] ∧ (b.txOf 0).left = 0 ∧
      b.mayStart 0 = true ∧ b.blockAsked 0 = false ∧ (b.select 0 7).map (·.queue) = some 0 ∧
      (b.headOf (b.queue 0) 7).isSome = true ∧ b.bufferRead.1 = 0) ∧
    (((((sending.setQueue 0 {}).advance 0).eccEgress 0).obsAdd 0 0 1).select 0 7 = none) := by decide +kernel

/-- GATE_LIST_LOAD or, with flags 1, READ of one entry on port 0. -/
def listDesc (fl : Nat) : Desc :=
  let d := desc 0x14 0 ([fl, 0, 0] ++ (if fl = 0 then [1] else [0]));
  { d with img := d.img.set 24 4 }

/-- GATE_SWAP of port 0 to open gates at the third tick edge. -/
def swapDesc : Desc :=
  let d := desc 0x15 0 [1];
  { d with img := ((d.img.set 32 0x36).set 33 0x6E).set 34 1 }

theorem wit_GateCommandsComplete :
    (let d := listDesc 0;
      let a := (withDesc (up.wr OCT_MODE_MODE 1 0) d).advance 0;
      a.portsUp = true ∧ Safety.ready a 0 0 d = true ∧ d.opcode = 0x14 ∧ d.asked = 0 ∧
      (d.listOk && byteAt d.img 41 == 0 && bytesAt d.img 44 45 == 1 && d.length == 4 && a.portExists 0) = true ∧
      (a.gatePort 0).swap = none ∧ a.qpHeld 0 = false ∧ a.moverBad (a.qp 0) spHost false d.source d.length = none) ∧
    (let d := listDesc 1;
      let a := (withDesc (up.wr OCT_MODE_MODE 1 0) d).advance 0;
      Safety.ready a 0 0 d = true ∧ byteAt d.img 41 = 1 ∧ (d.listOk && d.zero 44 45 && a.portExists 0) = true ∧ a.qpHeld 0 = false ∧
      a.moverBad (a.qp 0) spHost true d.source d.length = none) ∧
    (let d := listDesc 0;
      let x : ListLoad := { qp := 0, idx := 0, port := 0, first := 0, len := 1, bytes := 4 };
      let s := withDesc up d;
      let a := ({ s with gate := { s.gate with loads := [x] } } : State).advance 0;
      let m := putWords (a.gatePort 0).admin 0 (wordsOf 1 [0xFF, 1, 0, 0]);
      Safety.ready a 0 0 d = true ∧ a.gate.loads.find? (fun y => y.qp == 0 && y.idx == 0) = some x ∧
      (a.gatePort 0).swap = none ∧ (gateList m 1).any (fun e => e.1 == 0) = false ∧ cycleOf (gateList m 1) < 2 ^ 32) ∧
    (let d := swapDesc;
      let a := (withDesc (root.wr OCT_MODE_MODE 1 0) d).advance 0;
      a.portsUp = true ∧ Safety.ready a 0 0 d = true ∧ d.opcode = 0x15 ∧ (a.gatePort 0).swap = none ∧ a.ticking = true ∧
      (d.flagsOk && d.zero 8 31 && d.zero 42 63 && a.portExists 0) = true ∧
      (decide (d.launch % a.periodAt d.launch = 0) && decide (a.edgeNum (a.time.tick + 2) ≤ d.launch)
        && decide (d.launch ≤ a.edgeNum (a.time.tick + 65536)) && (a.gatePort 0).state != 1 && byteAt d.img 41 == 1) = true) ∧
    (let a := (root.setGate 0 { root.gatePort 0 with swap := some { toOpen := true } }).advance 0;
      a.portsUp = true ∧ (a.gatePort 0).swap = some { toOpen := true } ∧ a.edgeBefore 0 ≤ a.ns) ∧
    (let a := (root.setGate 0 { root.gatePort 0 with swap := some { armed := true, toOpen := true } }).advance 0;
      (a.gatePort 0).swap = some { armed := true, toOpen := true }) ∧
    (let a := (root.setGate 0 { root.gatePort 0 with swap := some { armed := true }, adminLen := 1, admin := [(0, 31250 * 256 + 0xFF)] }).advance 0;
      (a.gatePort 0).swap = some { armed := true } ∧ legalFor (cycleOf (a.gatePort 0).adminList) a.tTick = true) := by decide +kernel

/-- A timed descriptor at 1 µs: a write of one byte to fabric address 0, or a cue on pin 0. -/
def timedDesc (op : Nat) : Desc :=
  let d := desc op 0;
  { d with timed := true, img := if op = 4 then (d.img.set 24 1).set 33 4 else d.img.set 33 4 }

/-- The descriptor with launch entry 0. -/
def launched (k : LaunchKind) (rel arr : Bool) (op : Nat) : State :=
  (withDesc root (timedDesc op)).setLaunch 0 (some { kind := k, lt := 1024, released := rel, arrived := arr })

/-- A device with a route to DID 1 by port 0. -/
def routed : State :=
  { up with herd := { up.herd with routes := [(1, { valid := true, hv := 1 })] } }

theorem wit_TimedCommandsComplete :
    (∀ op ∈ [4, 5], let d := timedDesc op
      let a := (withDesc root d).advance 0;
      a.portsUp = true ∧ Safety.ready a 0 0 d = true ∧ (a.qpLaunches 0).any (fun e => e.2.2 == 0) = false ∧ a.launchFree = some 0 ∧
      a.ns < d.launch ∧ d.launch ≤ a.edgeNum (a.time.tick + 65536) + (a.ns - a.time.edge) ∧ d.flagsOk = true ∧ d.opcode = op) ∧
    (let d := timedDesc 4;
      (decide (1 ≤ d.length) && decide (d.length ≤ 4096) && decide (byteAt d.img 28 < 32)
        && decide (d.ordSel < 3) && (d.ordSel == 2 || d.reqId == 0) && d.zero 29 29 && d.zero 40 63) = true) ∧
    (let d := timedDesc 5;
      (d.zero 8 15 && d.zero 24 31 && d.zero 46 63 && decide (d.dest % 2 ^ 52 = 0) && decide (byteAt d.img 40 < 48)
        && d.zero 41 45) = true) ∧
    (let a := (launched (.write 0 0) false false 4).advance 0;
      SMap.get a.gate.launch 0 none = some { kind := .write 0 0, lt := 1024 } ∧ (a.qp 0).desc 0 = some (timedDesc 4) ∧
      a.releaseEdge 1024 ≤ a.ns ∧ a.ns < 1024) ∧
    (let a := (launched (.cue 0 0) false false 5).advance 0;
      SMap.get a.gate.launch 0 none = some { kind := .cue 0 0, lt := 1024 } ∧ (a.qp 0).desc 0 = some (timedDesc 5)) ∧
    (let a := (launched (.write 0 0) true false 4).advance 1024;
      SMap.get a.gate.launch 0 none = some { kind := .write 0 0, lt := 1024, released := true } ∧ 1024 ≤ a.ns) ∧
    (let a := (launched (.write 0 0) true true 4).advance 1024;
      SMap.get a.gate.launch 0 none = some { kind := .write 0 0, lt := 1024, released := true, arrived := true }) ∧
    (let l : Launch := { lt := 0, outs := [{ fab := true, le := 32, hdr := { dst := 1 } }], cells := 1, queue := 0, src := { hd := some 0 } };
      let a := (routed.setLaunch 0 (some l)).advance 0;
      a.portsUp = true ∧ SMap.get a.gate.launch 0 none = some l ∧ l.kind = .window ∧
      (a.setLaunch 0 none).launchTest l.src.ing (streamReq l.src.keyStream) l.src.hd 1 0 none = none ∧
      ((a.setLaunch 0 none).commitRunAhead 0 1 (l.outs.map (fun x => { x with hdr := { x.hdr with timed := true, ts := 0 } }))).isSome = true) := by
  decide +kernel

theorem wit_ObservingCommandsComplete :
    (let a := (up.wr OCT_MODE_MODE 1 0).advance 0;
      Safety.takes a 3 OBS_PORT_CTRL 0 0 3 = true ∧ bit 3 1 = true) ∧
    (let a := root.advance 0;
      a.portsUp = true ∧ a.ticking = true ∧ 0 < 2 ^ a.rd OBS_RING_CFG_SUBDIV ∧ a.sampleTime 0 (a.rd OBS_RING_CFG_SUBDIV) ≤ a.ns ∧
      a.on OBS_RING_CFG_EN = false) ∧
    (let v := 0x80060000 + (up.advance 0).rd OBS_RING_CFG_SUBDIV;
      Safety.takes (up.advance 0) 3 OBS_RING_CFG 0 0 v = true ∧ bit v 31 = true ∧ 6 ≤ bits v 19 16 ∧
      bits v 2 0 = (up.advance 0).rd OBS_RING_CFG_SUBDIV) ∧
    (∀ op ∈ [1, 2], let d := desc 0x1B op [1]
      let a := (withDesc root d).advance 0;
      Safety.ready a 0 0 d = true ∧ d.snapOk = true ∧ a.herd.snaps.any (fun w => w.qp == 0 && w.idx == 0) = false ∧
      a.on OBS_SNAP_STATUS_PENDING = false ∧ Desc.isOp 0x1B op d = true) ∧
    (∀ op ∈ [1, 2, 3, 4], let d := desc 0x1A op
      let a := (withDesc (up.wr OCT_MODE_MODE 1 0) d).advance 0;
      Safety.ready a 0 0 d = true ∧ d.obsOk = true ∧ Desc.isOp 0x1A op d = true ∧ d.zero 41 47 = true ∧ a.portExists 0 = true) := by decide +kernel

/-- A running device with Herd enabled and a two-way adjacency on octet 2. -/
def herded : State :=
  (((((up.wr OCT_MODE_MODE 1 2).setOn OCT_MODE_FABRIC 2).setOn LINK_STATUS_UP 2).setOn HERD_CTRL_ENABLE).setAdj 2
    { uid := 7, heard := true, twoWay := true, age := 3 })

theorem wit_HerdMessagesComplete :
    (let a := herded.advance 0;
      a.portsUp = true ∧ a.herdOn = true ∧ a.fabUp 2 = true ∧ (a.adj 2).heard = true ∧ (a.adj 2).uid = 7 ∧ (a.adj 2).twoWay = true ∧
      3 ≤ (a.adj 2).age ∧ (SMap.get a.herd.dids 9 {}).assigned = false ∧ a.didOf 5 ≠ some 9 ∧ a.isRoot = false ∧
      a.lsuAt 9 2 = none ∧ (a.on HERD_STATUS_DID_VALID && 9 == a.did) = false ∧ newer 1 a.herd.domSeq = true ∧
      a.herd.ops.contains { op := 2, arg := 0, value := 0, tick := fillTick a.time.tick 4 } = false ∧ a.time.tick < fillTick a.time.tick 4) ∧
    (let a := (herded.setAdj 2 { (herded.adj 2) with twoWay := false }).advance 0;
      (bit 1 0 && !(a.adj 2).twoWay) = true) ∧
    (let a := herded.advance 0;
      let f (prio : Nat) := (a.setTime (fun y => { y with claims := SMap.set y.claims 2 (if prio = 0xFF then none else some { prio := prio, cls := 0, uid := 7, hops := 1 }) none, claimSeen := y.claimSeen || prio != 0xFF })).bestTime;
      f 0xFF = a.bestTime ∧ (f 1).isSome = true ∧ f 1 ≠ a.bestTime) ∧
    (let a := herded.advance 0;
      let l : Lsu := { nbr := 8, oport := 8, nport := 8, seq := 1 };
      let b := (a.putLsu 9 l).flood (some 2) hmLSU (lsuBody 9 l);
      (b.on HERD_STATUS_DID_VALID && 8 == b.did && (b.adj 2).twoWay && (b.didOf (b.adj 2).uid).isNone) = false) ∧
    (let a := (herded.setHerd (fun h => { h with known := true, best := { uid := herded.uid, est := true }, parent := some 2 })).advance 0;
      a.isRoot = true ∧ a.herd.parent = some 2) := by decide +kernel

theorem wit_HerdStepsComplete :
    (let a := (herded.setHerd (fun h => { h with known := true, best := { uid := herded.uid }, since := 3 })).advance 0;
      let x := a.setHerd (fun h => { h with best := { h.best with est := true } });
      a.portsUp = true ∧ a.herdOn = true ∧ a.herd.known = true ∧ a.herd.best.uid = a.uid ∧ a.herd.best.est = false ∧ 3 ≤ a.herd.since ∧
      x.rebuildHomes.uid = x.uid ∧ x.rebuildHomes.didReq = x.didReq) ∧
    (let a := (herded.setHerd (fun h => { h with known := true, best := { uid := 9 }, since := 3, parent := some 2 })).advance 0;
      a.herd.best.uid ≠ a.uid ∧ a.herd.joinSent = false ∧ a.herd.best.dist ≤ a.dMaxFor a.tTick) ∧
    (let a := (herded.setHerd (fun h => { h with mergeDue := true, epochs := [0], moves := [(0, some { ticks := 0xFFFFFFFF })], ops := [{ op := goRESET_DEVICE }] })).advance 0;
      a.portsUp = true ∧ a.herd.mergeDue = true ∧ a.herd.epochs.any (fun n => decide (n ≤ a.time.tick)) = true ∧
      (a.herd.ops.filter (fun o => decide (o.tick ≤ a.time.tick))).any (fun o => o.op == goRESET_DEVICE) = true ∧
      (a.move 0).isSome = true ∧ a.rd HERD_MOVE_CFG_TIMEOUT ≤ 0xFFFFFFFF) ∧
    (Safety.takes (up.advance 0) 3 HERD_CTRL 0 0 8 = true ∧ Safety.takes (up.advance 0) 3 HERD_CTRL 0 0 16 = true ∧
      bit 8 0 = (((up.advance 0).wr HERD_CTRL_JOIN_HOLD (bits 8 2 2)).wr HERD_CTRL_REMOTE_ADMIN (bits 8 1 1)).herdOn) ∧
    (let a := (root.setOn HERD_STATUS_DID_VALID).advance 0;
      a.on HERD_STATUS_DID_VALID = true ∧ a.ticking = true ∧ ∀ k ∈ [1, 2, 3, 4], Safety.takes a 3 HERD_GLOBAL_CMD 0 0 (k + 5 * 2 ^ 16) = true) := by
  decide +kernel

theorem wit_RoutePinsComplete :
    (∀ op ∈ [1, 2, 3, 4, 5], let d := desc 0x17 op (if op = 3 then List.replicate 11 0 ++ [8, 0xFF, 0xFF, 0xFF] else [])
      let a := (withDesc ((up.wr OCT_MODE_MODE 1 2).setOn OCT_MODE_FABRIC 2) d).advance 0;
      a.portsUp = true ∧ Safety.ready a 0 0 d = true ∧ d.pinOk = true ∧ Desc.isOp 0x17 op d = true ∧ (a.qp 0).dataBase ≠ 0 ∧
      (op = 3 → d.pinPorts ≠ [] ∧ (d.pinPorts.map (·.2)).Nodup ∧ ∀ e ∈ d.pinPorts, a.isFab e.2 = true)) := by decide +kernel

/-- A running device of DID 0 with the Gazelle link of octet 2 up. -/
def fabricUp : State := ((up.wr OCT_MODE_MODE 1 2).setOn OCT_MODE_FABRIC 2).setOn LINK_STATUS_UP 2

theorem wit_DeliveredPacketsComplete :
    (∀ x ∈ [(tCUE, 0, 1, false, 0), (tADMIN, 0, 1, false, 0), (tMIRROR, 0, 1, false, 0), (tCOMPLETION, 0xFFC0, 1, false, 0),
        (tMESSAGE, 0, 1, true, 0), (tMESSAGE, 0, 1, false, 0x10), (tMESSAGE, 0, 1, false, 0x11), (tMESSAGE, 0, 1, false, 0x12), (tMESSAGE, 0, 1, false, 0x13),
        (tMESSAGE, 0, 1, false, 0x20), (tMESSAGE, 0, 1, false, 0x21), (tMESSAGE, 0, 1, false, 0x22)],
      let a := fabricUp.advance 0;
      let h : FabHdr := { type := x.1, tag := x.2.1, length := x.2.2.1, drain := x.2.2.2.1, ts := if x.1 = tCOMPLETION then stREMOTE_UNREACHABLE else 0 };
      let data : List Nat := if x.1 = tCOMPLETION then [] else [x.2.2.2.2, 0, 0, 0];
      a.portsUp = true ∧ a.isFab 8 = true ∧ a.fabUp 2 = true ∧ h.dst = a.did ∧ fabMalformed h data true = false ∧
      a.portContained 8 = false ∧ a.streamFrozen 8 (streamReq h.stream) = false ∧ a.actionOf (a.arrived 8 h data) = 0 ∧
      (h.drain = false → h.type = tMESSAGE → msgCodeOf data = x.2.2.2.2)) := by decide +kernel

/-- The same with port P0 local and its aperture open to any domain, with one queue. -/
def aptUp : State :=
  (((((fabricUp.wr OCT_MODE_MODE 1 0).wr PORT_CFG_ROLE 0 0).setOn PORT_STATUS_LINK_UP 0).setOn BRG_APT_CFG_APT_EN 0).setOn BRG_APT_CFG_ANY_HD 0).setQueue 0
    { valid := true, dflt := true, minCells := 8 }

theorem wit_FabricRequestsComplete :
    ((let a := aptUp.advance 0
      ∀ x ∈ [({ type := tWRITE, addr := 0x8000000000000, length := 1 }, [0, 0, 0, 0]), ({ type := tREAD, addr := 0x8000000000000, length := 1 }, []),
        ({ type := tINTERRUPT, addr := 0x8000000000000, length := 1 }, [0, 0, 0, 0]), ({ type := tMESSAGE, addr := 0x8000000000000, length := 2 }, [1, 15, 0, 0, 0, 0, 0, 0]),
        ({ type := tMESSAGE, addr := 0x8000000000000, length := 1 }, [2, 15, 1, 0])],
      let h : FabHdr := x.1;
      let k := a.arrived 8 h x.2;
      fabMalformed h x.2 true = false ∧ a.portContained 8 = false ∧ a.streamFrozen 8 (streamReq h.stream) = false ∧ a.actionOf k = 0 ∧
      (match a.localForm k x.2 with
        | .queue q outs held => q == 0 && !a.egressContained q && !a.isFab q && (a.portHd q).isNone && !outs.any (a.tooLarge q) &&
            ((a.freeHeadroom 0).linkAll q cGREEN held outs).isSome
        | _ => false) = true)) ∧
    (let c := aptUp.wr PORT_CFG_ROLE 1 0;
      let b : State := { c with port := { c.port with vhier := [(1, some { did := 5, port := 1 })] } };
      let a := ((((b.setVc (vfKey 0 1 vfSecBus) 1).setVc (vfKey 0 1 vfSubBus) 1).setVc (vfKey 0 0 vfMemEn) 1).setVc (vfKey 0 0 vfMemLimit) 0xFFFF).advance 0;
      let h : FabHdr := { type := tREAD, addr := 0x1000, src := 5, stream := mkStream 0x100 0 0, length := 1 };
      let k := a.arrived 8 h [];
      fabMalformed h [] true = false ∧ a.streamFrozen 8 (streamReq h.stream) = false ∧ a.actionOf k = 0 ∧
      (match a.localForm k [] with
        | .endpoint _ _ _ => true
        | _ => false) = true) := by decide +kernel

/-- A fabric octet 2 in a bring-up state since time 0. -/
def training (st : Nat) (x : TrainSt := {}) : State :=
  ((((up.wr OCT_MODE_MODE 1 2).setOn OCT_MODE_FABRIC 2).wr OCT_MODE_PORT_EN 1 2).wr OCT_FAB_STATUS_TRAIN_STATE st 2).setTrn 2 x

/-- A training block of a kind with its CRC. -/
def block (kind : Nat) : List Nat :=
  let b := [0x5A, 0xA5, kind] ++ List.replicate 27 0;
  b ++ [crc16 b % 256, crc16 b / 256]

theorem wit_BringupCommandsComplete :
    (let a := up.advance 0;
      Safety.takes a 3 OCT_MODE 2 0 0x11 = true ∧ a.rd OCT_MODE_PORT_EN 2 = 0 ∧ a.octMode 2 ≠ 4 ∧
      ((((a.wr OCT_MODE_MODE 1 2).wr OCT_MODE_FABRIC 1 2).wr OCT_MODE_PORT_EN 0 2).upPorts = [])) ∧
    (let a := (up.wr OCT_MODE_MODE 1 2).advance 0;
      Safety.takes a 3 OCT_MODE 2 0 0x101 = true ∧ a.octMode 2 = 1 ∧ bit 0x101 4 = a.on OCT_MODE_FABRIC 2 ∧ bits 0x101 11 8 = 1 ∧
      a.rd OCT_MODE_PORT_EN 2 = 0 ∧ a.octPaired 2 = false ∧ a.on OCT_TEST_EN 2 = false) ∧
    (let a := (training trDETECT).advance 0;
      Safety.linksUp a = true ∧ a.bringing 2 = true ∧ a.trState 2 = trDETECT ∧ 0 < a.fabWidth 2) ∧
    (∀ x ∈ [(trALIGN, 1), (trCONFIG, 2), (trSTEP, 4)], let a := (training x.1).advance 0
      a.trState 2 = x.1 ∧ polarity (a.laneRd LANE_CTRL_RX_POLARITY 2 0) (block x.2) = some (false, block x.2) ∧
      crc16 ((block x.2).take 30) = bytesAt (block x.2) 30 31 ∧ (block x.2).length = 32 ∧ byteAt (block x.2) 2 = x.2 ∧ byteAt (block x.2) 16 ≤ 10) ∧
    (let a := ((training trSTEP { prevRate := 2 }).wr OCT_FAB_STATUS_RATE 4 2).advance 0;
      (a.trn 2).done = false ∧ (a.trn 2).verify = false ∧ (a.trn 2).prevRate < a.rd OCT_FAB_STATUS_RATE 2) ∧
    (∀ st ∈ [trALIGN, trCONFIG, trSTEP], let a := (training st).advance 4000000
      Safety.linksUp a = true ∧ a.bringing 2 = true ∧ a.trState 2 = st ∧ (a.trn 2).since + 4000000 ≤ a.ns) ∧
    (let a := (training trFAILED).advance 100000000;
      a.bringing 2 = true ∧ a.trState 2 = trFAILED ∧ (a.trn 2).since + 100000000 ≤ a.ns) ∧
    (let a := (training trACTIVE).advance 0;
      a.on CK_STATUS_RX_LOCK 2 = false ∧ a.fabOct 2 = true ∧ a.trState 2 ≠ trOFF ∧ a.trState 2 ≠ trDETECT ∧
      (a.setOn CK_STATUS_RX_LOCK 2).on CK_STATUS_RX_LOCK 2 = true) := by decide +kernel

/-- An active link on octet 2 with Doze enabled, idle since time 0. -/
def linked : State :=
  (((((((training trACTIVE).setOn LINK_STATUS_UP 2).wr OCT_FAB_STATUS_WIDTH 3 2).wr OCT_FAB_STATUS_RATE 6 2).wr OCT_FAB_STATUS_RATE 6 2).setOn
    OCT_POWER_DOZE_EN 2).wr OCT_POWER_DOZE_IDLE_NS 100 2).wr TIME_STATUS_SOURCE_OCTET 31

theorem wit_LanePowerAndTestsComplete :
    (let a := linked.advance 100;
      a.portsUp = true ∧ a.on OCT_POWER_DOZE_EN 2 = true ∧ a.fabUp 2 = true ∧ a.trState 2 = trACTIVE ∧ (a.lnk 2).change = none ∧
      (a.lnk 2).doze = false ∧ a.txReady 2 = false ∧ (a.lnk 2).busyAt + a.rd OCT_POWER_DOZE_IDLE_NS 2 ≤ a.ns ∧ a.slotPs 8 ≤ 40000) ∧
    (let a := ((linked.setLnk 2 { resend := [1], doze := true }).timeTo tsROOT).advance 31000;
      (a.lnk 2).doze = true ∧ a.txReady 2 = true ∧ a.ticking = true ∧ (a.time.edge / a.tTick + 1) * a.tTick ≤ a.ns + 250) ∧
    (let a := linked.advance 0;
      let b := (a.wr OCT_POWER_DOZE_EN 0 2).wr OCT_POWER_DOZE_IDLE_NS 0x64 2;
      Safety.takes a 3 OCT_POWER 2 0 0x80000064 = true ∧ a.on OCT_POWER_HIBERNATE_REQ 2 = false ∧ b.trState 2 = trACTIVE ∧ (b.lnk 2).change = none ∧
      b.rd TIME_STATUS_SOURCE_OCTET ≠ 2 ∧ b.fabOcts.filter b.timeCand ≠ [2]) ∧
    (let a := ((training trHIBERNATE { leaving := true }).setOn OCT_POWER_HIBERNATE_REQ 2).advance 0;
      Safety.takes a 3 OCT_POWER 2 0 0x64 = true ∧ a.on OCT_POWER_HIBERNATE_REQ 2 = true ∧ Safety.linksUp a = true ∧
      ((a.wr OCT_POWER_DOZE_EN 0 2).wr OCT_POWER_DOZE_IDLE_NS 0x64 2).trState 2 = trHIBERNATE ∧ a.trState 2 = trHIBERNATE ∧ (a.trn 2).leaving = true) ∧
    (let a := (up.setOn OCT_TEST_EN 2).advance 0;
      Safety.takes a 3 LANE_PRBS_CTRL 2 1 0xE0000000 = true ∧ Safety.takes a 3 LANE_PRBS_CTRL 2 1 0x50000000 = true ∧
      patternOk (a.rd OCT_TEST_RATE 2) 0 = true ∧ ((a.wr LANE_PRBS_CTRL_GEN_EN 1 2 1).wr LANE_PRBS_CTRL_CHK_EN 1 2 1).on OCT_TEST_EN 2 = true ∧
      ((a.wr LANE_PRBS_CTRL_GEN_EN 1 2 1).wr LANE_PRBS_CTRL_CHK_EN 1 2 1).on LANE_PRBS_CTRL_GEN_EN 2 1 = true) ∧
    (let a := (((up.setOn OCT_TEST_EN 2).setOn LANE_PRBS_CTRL_CHK_EN 2 1).setOn LANE_PRBS_ERR_CHK_LOCK 2 1).advance 0;
      Safety.linksUp a = true ∧ a.on OCT_TEST_EN 2 = true ∧ a.on LANE_PRBS_CTRL_CHK_EN 2 1 = true ∧ a.on LANE_PRBS_ERR_CHK_LOCK 2 1 = true) := by
  decide +kernel

/-- The check bytes of a codeword whose data bytes are `l`. -/
def checkBytes (l : List Nat) : List Nat :=
  let a := l.foldl Nat.xor 0;
  let b := gfTimes2 (gfTimes2 (l.foldl (fun x c => Nat.xor (gfTimes2 x) c) 0));
  let p := ((List.range 256).find? (fun p => Nat.xor (gfTimes2 p) p == Nat.xor a b)).getD 0;
  [p, Nat.xor a p]

/-- A flit of a header word, its payload zeros, with its CRC and check bytes, for 8 lanes and sequence value 0. -/
def sealed (h : List Nat) : List Nat :=
  let d := h ++ List.replicate 236 0;
  let b := d ++ (leBytes 8 (flitCrc 0 d)).reverse;
  b ++ (List.range 4).flatMap (fun j => checkBytes ((codeBytes 8 j).take 62 |>.map (byteAt b)))

/-- A link in ACTIVE whose partner's credits are known. -/
def flitting : State := linked.setLnk 2 { creditIn := true }

theorem wit_LinkCommandsComplete :
    (∀ x ∈ [3, 7], let a := flitting.advanceCt 0
      let f := sealed [x * 16, 0, 0, 0];
      let r := fecFlit (lanesOf (a.rd OCT_FAB_STATUS_WIDTH 2)) (f.map (· % 256));
      let b := (a.flitSlotIn 2).fecNote 2 r.2.1 r.2.2;
      let c := b.setLnk 2 { b.lnk 2 with failRun := 0 };
      Safety.linksUp a = true ∧ a.linkTakes 2 = true ∧ f.length = 256 ∧ r.2.2 = false ∧ b.flitSeq 2 r.1 = some 0 ∧ headBad (flitHead r.1) = false ∧
      c.linkTakes 2 = true ∧ (c.lnk 2).creditIn = true ∧ fhType (flitHead r.1) = x ∧ (c.linkSlots 2 r.1).linkTakes 2 = true) ∧
    (let a := flitting.advanceCt 0;
      let f := List.replicate 255 0 ++ [1];
      let r := fecFlit (lanesOf (a.rd OCT_FAB_STATUS_WIDTH 2)) (f.map (· % 256));
      f.length = 256 ∧ (r.2.2 = true ∨ ((a.flitSlotIn 2).fecNote 2 r.2.1 r.2.2).flitSeq 2 r.1 = none)) ∧
    (∀ n ∈ [1, 4], let a := (linked.setLnk 2 { missing := [{ seq := 5, attempt := n, at_ := 0 }] }).advance 70000
      Safety.linksUp a = true ∧ ((a.lnk 2).missing.filter (fun m => decide (m.at_ + a.rd LINK_REPLAY_CFG_NAK_RETRY_NS 2 ≤ a.ns))).any
        (fun m => decide (4 ≤ m.attempt)) = (n == 4) ∧ (a.lnk 2).wait = [] ∧ a.fabUp 2 = true) ∧
    (let a := linked.advance 0;
      ∀ v ∈ [0x96600000, 0x56600000], Safety.takes a 3 LINK_CTRL 2 0 v = true ∧
        (let b := ((a.wr LINK_CTRL_CHANGE_KIND (bits v 29 28) 2).wr LINK_CTRL_TARGET_RATE (bits v 27 24) 2).wr LINK_CTRL_TARGET_WIDTH (bits v 23 21) 2;
         b.linkLive 2 = true ∧ b.fabUp 2 = true ∧ (b.lnk 2).change = none)) ∧
    (let a := (linked.setLnk 2 { change := some { acked := true, nowSeen := true } }).advance 100000000;
      a.linkLive 2 = true ∧ (a.lnk 2).rxDoze = false ∧ (a.lnk 2).failRun = 0 ∧ (a.drained 2 && false) = false ∧
      a.rd LINK_REPLAY_CFG_DRAIN_TIMEOUT 2 * 100 ≤ a.ns) := by decide +kernel

/-- An upstream port P0 and a downstream port P4 that is device 1 of its domain, both enabled with their links up. -/
def switched : State :=
  let s := ((((((((up.wr OCT_MODE_MODE 1 0).wr OCT_MODE_PORT_EN 1 0).wr OCT_MODE_MODE 1 1).wr OCT_MODE_PORT_EN 1 1).wr PORT_CFG_ROLE 1 0).setOn
    PORT_STATUS_LINK_UP 0).wr PORT_CFG_ROLE 0 4).setOn PORT_STATUS_LINK_UP 4).setOn PORT_HIER_CTRL_HIER_READY 0;
  { s with port := { s.port with vhier := [(1, some { did := s.did, port := 4 })] } }

theorem wit_PcieLinkCommandsComplete :
    (let a := (switched.wr PORT_STATUS_LINK_UP 0 4).advance 0;
      Safety.linksUp a = true ∧ a.mayTrain 4 = true ∧ a.on PORT_STATUS_LINK_UP 4 = false) ∧
    (let a := switched.advance 0;
      a.on PORT_STATUS_LINK_UP 0 = true ∧ a.isUp 0 = true ∧ a.on PORT_STATUS_LINK_UP 4 = true ∧ a.isDown 4 = true ∧ a.isPcie 4 = true ∧
      Safety.takes a 3 PORT_HIER_CTRL 0 0 1 = true ∧ a.localPort 0 1 = some 4 ∧ a.on PORT_HIER_CTRL_HIER_READY 0 = true ∧
      TlpKind.cfgRd0.isCfg = true ∧ TlpKind.cfgWr0.isCfg = true ∧ (a.wr PORT_HIER_CTRL_HIER_READY 0 0).on PORT_HIER_CTRL_HIER_READY 0 = false) := by
  decide +kernel

theorem wit_ContainmentAndSlotCommandsComplete :
    (let a := ((switched.setVc (vfKey 0 1 vfDpcEnable) 2).setVc (vfKey 0 1 vfUncSeverity) 0xFFFFFFFF).advance 0;
      Safety.linksUp a = true ∧ a.isDown 4 = true ∧ a.on PORT_STATUS_DPC_ACTIVE 4 = false ∧ a.dpcSelects 4 4 = true ∧
      a.localPort 0 1 = some 4 ∧ (a.portKey 4).map (fun f => a.vc (f vfDpcEnable)) = some 2 ∧
      Safety.takes a 3 PORT_DPC 4 0 0x40000000 = true ∧ Safety.takes a 3 PORT_DPC 4 0 0x80000000 = true) ∧
    (let a := (switched.setVdsp 0 1 { dpc := true }).advance 0;
      a.vent 0 1 = some { did := a.did, port := 4 } ∧ (a.vdsp 0 1).dpc = true) ∧
    (let b := (((switched.setOn PORT_SLOT_CFG_SLOT_EN 4).setOn PORT_SLOT_STATUS_POWER_ON 4).setOn PORT_SLOT_STATUS_PERST 4).wr REFOUT_EN_LO_VALUE 1;
      let a := (b.setPport 4 { onAt := some 0 }).advance 100000000;
      a.loadedUp = true ∧ a.on FAULT_STATUS_HALTED = false ∧ a.slotChan 4 = some 0 ∧ (a.pport 4).off ≠ false ∧ a.vc (vfKey 0 1 vfAttnInd) ≠ 2 ∧
      a.vc (vfKey 0 1 vfPwrInd) ≠ 2 ∧ (a.pport 4).onAt = some 0 ∧ 99000000 ≤ a.ns ∧ a.on PORT_SLOT_STATUS_POWER_ON 4 = true ∧
      a.on PORT_SLOT_CTRL_PERST_FORCE 4 = false ∧ a.inHdReset 4 = false ∧ a.on PORT_SLOT_STATUS_PERST 4 = true ∧ bit (a.rd REFOUT_EN_LO_VALUE) 0 = true) := by
  decide +kernel

/-- A device with non-posted entry 0 of an owner. -/
def asked (o : Owner) (p : Option Nat) : State := (up.setNp 0 (some { owner := o, port := p })).setLine 3 (some {})

theorem wit_BridgeEventsComplete :
    (let a := (asked (.host {}) none).advance 10000000000000;
      a.portsUp = true ∧ (a.np 0).map (·.port) = some none ∧ 0 + a.npTimeout ≤ a.ns ∧ a.brg.waits = [] ∧ (a.np 0).map (·.owner) = some (.host {})) ∧
    (let a := (asked (.fabric 0 0 0 0 false 15 0) none).advance 10000000000000;
      0 + a.npTimeout ≤ a.ns ∧ (a.np 0).map (·.owner) = some (.fabric 0 0 0 0 false 15 0)) ∧
    (let a := (asked (.fabric 0 0 0 0 false 15 0) (some 4)).advance 0;
      (a.np 0).map (·.port) = some (some 4) ∧ (a.np 0).map (·.owner) = some (.fabric 0 0 0 0 false 15 0)) ∧
    (let a := (asked (.line 3) none).advance 0;
      (a.np 0).map (·.owner) = some (.line 3) ∧ SMap.get (a.setNp 0 none).brg.lines 3 none = some {} ∧ stREMOTE_ERROR ≠ stOK) ∧
    (Safety.takes (up.advance 0) 3 CUE_SCHED_CMD 0 0 0x80000000 = true) ∧
    (let a := ((up.setMirror 5 { role := 2, bound := true }).setMirror 6 { role := 1, bound := true, peerWord := 5 }).advance 0;
      (a.mirror 5).role = 2 ∧ (a.mirror 5).bound = true ∧ (a.mirror 5).stale = false ∧
      (a.cue.mirrors.filter (fun e => e.2.role == 1 && e.2.bound && (a.time.tick % max 1 e.2.effP == 0 || e.2.due))).map (·.1) = [6] ∧ a.did = 0) ∧
    (let a := ({ (up.setMirror 5 { role := 2, bound := true }) with time := { up.time with tick := 262144 } } : State).advance 0;
      (a.mirror 5).since + 4 * (a.mirror 5).effP ≤ a.time.tick) := by decide +kernel

theorem wit_WindowAndMirrorAdminCompletes :
    (∀ op ∈ [1, 2, 3], let d := desc 0x16 op (if op = 1 then [0, 0, 0, 12] else [])
      let a := (withDesc up d).advance 0;
      a.portsUp = true ∧ Safety.ready a 0 0 d = true ∧ d.windowOk = true ∧ Desc.isOp 0x16 op d = true ∧ (op = 1 → a.windowFits d.window = true) ∧
      a.windowAt 0 0 = none ∧ lowestFree a.brg.windows 0 < 65536 ∧ ((a.setWindow 0 (some d.window)).windowAt d.window.hd d.window.slot).isSome = true ∧
      (op = 1 ∨ (d.zero 8 23 = true ∧ d.zero 44 47 = true)) ∧ (a.qp 0).dataBase ≠ 0) ∧
    (∀ op ∈ [1, 2], let d := { desc 0x06 op with img := [6, 0] ++ List.replicate 14 0 ++ [7] ++ List.replicate 23 0 ++ [op] ++ List.replicate 23 0 }
      let b := (withDesc up d).setQp 0 { (withDesc up d).qp 0 with fn := some 0 };
      let a := ((b.setMirror 0 { role := 1, bound := op == 2, peerWord := 7 }).setMirror 7 { role := 2 }).advance 0;
      Safety.ready a 0 0 d = true ∧ d.mirOk = true ∧ d.outstanding = 0 ∧ (a.mirror d.mirWord).role = 1 ∧ d.dest / 2 ^ 52 % 4096 = a.did ∧
      (a.qp 0).fn = some (ownerFn (a.mirror d.mirWord).owner) ∧ Desc.isOp 0x06 op d = true ∧ d.dest % 4096 = 7 ∧ (a.mirror 7).role = 2) ∧
    (let d := desc 0x1F 1 [0, 0, 0, 2, 0, 1, 0, 0, 0];
      let a := (withDesc up d).advance 0;
      Safety.ready a 0 0 d = true ∧ d.opcode = 0x1F ∧ d.flagsOk = true ∧ d.zero 8 39 = true ∧ d.zero 50 63 = true ∧ d.op40 = 1 ∧
      byteAt d.img 41 = 0 ∧ bytesAt d.img 44 45 = 2 ∧ bytesAt d.img 46 47 = 1 ∧ bytesAt d.img 48 49 < 2048 ∧ a.cue.mirrors = []) := by
  decide +kernel

/-- Function 2048 holding QP 0 in a state. -/
def ringed (x : Qp) : State := (up.setFn 2048 { qps := [0] }).setQp 0 { x with fn := some 2048, sqBase := 64, cqBase := 64 }

theorem wit_RingCommandsComplete :
    (let a := (ringed {}).advance 0;
      a.portsUp = true ∧ (a.fn 2048).reset = none ∧ a.localQp 2048 (a.fn 2048).qpSel = some 0 ∧ (a.qp 0).state = .disabled ∧
      (a.qp 0).sqLog ≤ (a.qp 0).cqLog ∧ (a.qp 0).sqBase ≠ 0 ∧ (a.qp 0).cqBase ≠ 0 ∧ (a.qp 0).freeze = none) ∧
    (let a := (ringed { state := .active }).advance 0;
      a.localQp 2048 (a.fn 2048).qpSel = some 0 ∧ (a.qp 0).state = .active) ∧
    (let a := (ringed { state := .draining }).advance 0;
      (a.qp 0).state = .draining ∧ ((a.qp 0).fn.bind (fun f => (a.fn f).reset)) = none ∧ a.qpBusy 0 = false) ∧
    (let a := ((ringed { state := .active }).advance 0).doorbellWake 2048 0;
      a.doorbellQp 2048 0 = some 0 ∧ 5 < 2 ^ (a.qp 0).sqLog ∧ 0 < 2 ^ (a.qp 0).cqLog ∧ (a.qp 0).tail = 0 ∧ (a.qp 0).head = 0 ∧ (a.qp 0).cqHead = 0) ∧
    (let a := ((ringed { state := .active, fetching := 2 }).advance 0).eccQp 0;
      (a.qp 0).fetching ≠ 0 ∧ (a.qp 0).state ≠ .draining ∧ (List.replicate 128 0).length = 64 * (a.qp 0).fetching) := by decide +kernel

/-- A mover's descriptor of 8 bytes from byte 64 of host memory, which names QP 0 of function 2048. -/
def moving (op : Nat) : Desc :=
  { idx := 0, started := true, img := [op, 0] ++ List.replicate 6 0 ++ [64, 0, 0, 0, 0, 0, 0, 0] ++ [0, 0, 0, 8, 0, 0, 0, 0] ++ [8] ++ List.replicate 39 0 }

/-- That descriptor on QP 0 of function 2048. -/
def mover (d : Desc) : State := ringed { state := .active, dataBase := 64, inProg := [d] }

theorem wit_DataMoversComplete :
    (∀ op ∈ [1, 2, 3], let d := moving op
      let a := (mover d).advance 0;
      a.portsUp = true ∧ Safety.ready a 0 0 d = true ∧ d.idx = 0 ∧ d.asked = 0 ∧ d.hostReads = 0 ∧ a.qpHeld 0 = false ∧
      a.moverBad (a.qp 0) spHost false d.source (min d.length (4096 - d.source % 4096)) = none ∧ d.opcode = op ∧ d.moveOk false 4096 = true ∧
      a.sendShape d = true ∧ d.target = 2048 ∧ a.maySend ((a.qp 0).fn.getD 0) d.target = true ∧ a.localQp d.target (bits d.dest 8 0) = some 0 ∧
      (a.qp 0).state = .active ∧ (a.qp 0).dataBase ≠ 0 ∧ (a.qp 0).cqFull = false ∧ d.length ≤ 2 ^ (a.qp 0).dataLog) ∧
    (∀ op ∈ [1, 3], let d := { moving op with asked := 8, hostReads := 1 }
      let a := (mover d).advance 0;
      Safety.ready a 0 0 d = true ∧ d.hostReads ≠ 0 ∧ (List.replicate 8 0).length = d.awaited ∧ d.length ≤ 8) ∧
    (let d := { moving 1 with asked := 8, hostReads := 1 };
      let b := ((mover d).advance 0).setDesc 0 { d with buf := List.replicate 8 0, hostReads := 0 };
      (((b.pumpWrites 0 64).qp 0).desc 0).all (fun e => e.outcome.isSome) = true) ∧
    (∀ tag ∈ [0, npTotal], let d := moving 1
      let a := ((mover d).setNp tag (some { owner := .desc 0 0 })).advance 10000000000000;
      (a.np tag).map (·.owner) = some (.desc 0 0) ∧ 0 + a.npTimeout ≤ a.ns ∧ ((a.freeNpOf (· == .desc 0 0)).qp 0).desc 0 = some d ∧ d.outcome = none) := by
  decide +kernel

/-- A VF_RESOURCES descriptor for VF 0 with a value. -/
def vfDesc (op val : Nat) : Desc :=
  desc 0x18 op ([0, 0, 0] ++ leBytes 4 val ++ List.replicate 8 0 ++ [if op = 6 then 27 else 0])

theorem wit_VfResourcesComplete :
    (∀ x ∈ [(1, 2), (2, 3), (3, 16), (4, 5), (5, 7), (6, 0), (7, 0), (8, 0), (9, 0)], let d := vfDesc x.1 x.2
      let a := (withDesc (up.setFn 0 { log := { logging := x.1 == 7 || x.1 == 8 } }) d).advance 0;
      a.portsUp = true ∧ Safety.ready a 0 0 d = true ∧ d.vfOk = true ∧ (a.fn 0).reset = none ∧ bytesAt d.img 42 43 = 0 ∧ Desc.isOp 0x18 x.1 d = true ∧
      d.vfValue = x.2 ∧ (x.1 = 1 → (a.setQps 0 2).1 = stOK) ∧ (a.fn 0).qps = [] ∧ (x.1 = 2 → 3 ≤ a.rd RING_POOL_FREE_VECTORS) ∧
      (x.1 = 3 → 1 ≤ d.regCount ∧ d.regFirst + d.regCount ≤ 16 ∧ d.asked = 0 ∧ a.qpHeld 0 = false ∧
        a.moverBad (a.qp 0) spHost false d.source (16 * d.regCount) = none) ∧
      (x.1 = 6 → byteAt d.img 56 = 27 ∧ bytesAt d.img 48 55 = 0 ∧ d.source = 0 ∧ d.dest = 0 ∧ (a.fn 0).log.logging = false) ∧
      ((x.1 = 7 ∨ x.1 = 8) → (a.fn 0).log.waiter = none ∧ (a.fn 0).log.logging = true ∧ (a.fn 0).log.syncing = none) ∧ (a.qp 0).dataBase ≠ 0) ∧
    (∀ b ∈ [false, true], ∀ n ∈ [1, 2], let a := (up.setFn 0 { log := { logging := true, syncing := some b, written := [(4, n)] } }).advance 0
      a.portsUp = true ∧ (a.fn 0).log.syncing = some b ∧ SMap.get (a.fn 0).log.written 4 0 = n) := by decide +kernel

theorem wit_VfEnablesAndResetsComplete :
    (∀ on ∈ [false, true], let a := ((up.setFn 2048 { numVfs := 2, vfEnable := on }).wr RING_PF_VF_VF_LIMIT 4 0).advance 0
      a.portsUp = true ∧ (a.fn (pfIndex 0)).vfEnable = on ∧ (a.fn (pfIndex 0)).numVfs = 2 ∧ 2 ≤ a.rd RING_PF_VF_VF_LIMIT 0) ∧
    (let d := desc 0x19 0;
      let a := (withDesc (up.setFn 0 { present := true }) d).advance 0;
      (a.fn 0).reset = none ∧ (a.fn 0).present = true ∧ Safety.ready a 0 0 d = true ∧ d.opcode = 0x19 ∧ bytesAt d.img 42 43 = 0 ∧ d.flagsOk = true ∧
      d.zero 8 41 = true ∧ d.zero 44 63 = true) ∧
    (∀ n ∈ [0, 1], let a := ((up.setFn 0 { qps := [3], reset := some {} }).setQp 3 { fetching := n }).advance 1000000000
      (a.fn 0).reset = some {} ∧ a.fnBusy 0 = (n == 1) ∧ a.fnPosted 0 = false ∧ 0 + a.rd RING_RESET_CFG_NP_TIMEOUT * 10000 ≤ a.ns) := by decide +kernel

/-- A device whose core 0 runs. -/
def cored : State := (up.wr CH_CTRL_RUN 1).setCoreState 0 1

theorem wit_CoreAccessesComplete :
    (∀ x ∈ ([{ kind := 0, addr := 0x100 }, { kind := 1, addr := 0x100, data := [1, 2, 3, 4] }, { kind := 2, addr := 0x40000000, n := 8 },
        { kind := 3, addr := 0x40400000, data := [1, 0, 0, 0] }, { kind := 0, addr := 0x100600000 }, { kind := 1, addr := 0x100601004, data := [0, 0, 0, 0] },
        { kind := 0, addr := 0x80000000000000 }, { kind := 1, addr := 0x80000000000000, data := [1, 2, 3, 4] }] : List CoreAcc),
      let a := cored.advance 0;
      a.coresUp = true ∧ a.coreFree 0 = true ∧ coreExempt 0 x = false ∧ a.on CORE_MPU_CTRL_ENABLE 0 = true ∧ (a.core 0).held = [] ∧
      a.coreBad 0 x = none) ∧
    (let a := cored.advance 0;
      coreTgt 0 0x100 = .mem 0x10000100 ∧ (∀ k < 4, coreTgt 0 (0x100 + k) = .mem (0x10000100 + k)) ∧ (a.eccMem 0x10000100 4).1 = true ∧
      (∀ k < 8, coreTgt 0 (0x40000000 + k) = .mem (0x40000000 + k)) ∧ (a.eccMem 0x40000000 8).1 = true ∧
      (∀ k < 4, coreTgt 0 (0x40400000 + k) = .mem (0x40400000 + k)) ∧ (a.eccMem 0x40400000 4).1 = true ∧
      coreTgt 0 0x100600000 = .setup 0x600000 ∧ coreTgt 0 0x100601004 = .setup 0x601004 ∧ coreTgt 0 0x80000000000000 = .fabric 0 0 ∧
      (a.core 0).stores.length < 64 ∧ a.npFree = some 0 ∧
      (let k : QPkt := { readPkt { dst := a.rd CORE_FAB_DID_DID 0 0, src := a.did, stream := a.coreStream 0 } 0 (spanReq 0 4 false) with
        owner := .coreLoad 0 0 };
       (((a.coreCount 0 6 3).takeNp 255 k).sendOwn k).1 = 0) ∧
      (a.coreBad 0 { kind := 2, addr := 0x10000 }).isSome = true) ∧
    (let a := (((cored.setNp 7 (some { tag := 7 })).setCore 0 { load := some (7, {}), stores := [{ tag := 9, ticks := 65535 }] })).advance 1000000000;
      a.coresUp = true ∧ (a.core 0).load = some (7, {}) ∧ a.np 7 = some { tag := 7 } ∧ a.npTimeout ≤ a.ns ∧
      (a.core 0).stores.find? (fun e => e.tag == 9) = some { tag := 9, ticks := 65535 } ∧ a.rd CH_CFG_STORE_ACK_TICKS ≤ 65535) ∧
    (let a := cored.advance 0;
      a.coresUp = true ∧ a.coreFree 0 = true ∧ a.coreState 0 = 1 ∧ bit (SMap.get (a.core 0).hpmEvent 3 0) 63 = false) := by
  decide +kernel

/-- An APPLET_LOAD descriptor for slot 0: a 64-byte image at host address 0. -/
def appletDesc (op : Nat) : Desc :=
  let b := desc 0x1C op (if op = 2 then [0, 4] else []);
  if op = 1 then { b with img := (b.img.take 24) ++ [64] ++ b.img.drop 25 } else b

theorem wit_AppletsAndRunComplete :
    (∀ x ∈ [(1, 0), (2, 1), (3, 2), (3, 3), (4, 1), (5, 0)], let d := appletDesc x.1
      let a := (withDesc (up.wr APPLET_STATUS_STATE x.2 0) d).advance 0;
      a.portsUp = true ∧ Safety.ready a 0 0 d = true ∧ Desc.isOp 0x1C x.1 d = true ∧ d.applet = 0 ∧ d.appletOk (x.1 == 1) (x.1 == 2) = true ∧
      a.rd APPLET_STATUS_STATE 0 = x.2 ∧ (a.qp 0).dataBase ≠ 0 ∧
      (x.1 = 1 → d.asked = 0 ∧ d.hostReads = 0 ∧ d.length = 64 ∧ d.source = 0 ∧ a.qpHeld 0 = false ∧
        a.moverBad (a.qp 0) spHost false d.source 64 = none)) ∧
    (let a := (cored.setTime (fun t => { t with hookOpen := 1 })).advance 0;
      a.coresUp = true ∧ bit a.time.hookOpen 0 = true) ∧
    (let a := cored.advance 0;
      Safety.takes a 3 CH_CTRL 0 0 3 = true ∧ (∀ c < 8, a.on CORE_FREEZE_INFO_VALID c = false) ∧ Safety.takes a 3 CORE_WDT 7 0 0xC0000001 = true) ∧
    (∀ c ∈ [3, 4], let a := (((cored.wr CORE_WDT_EN 1 c).wr CORE_WDT_TICKS 5 c).setCore c { wdt := 5 }).advance 0
      a.coresUp = true ∧ a.on CORE_WDT_EN c = true ∧ a.rd CORE_WDT_TICKS c ≤ (a.core c).wdt) := by
  decide +kernel

theorem wit_FreezeAndHoldComplete :
    (let a := (((cored.wr CORE_FREEZE_INFO_VALID 1 0).setQp 5 { up.qp 5 with state := .frozen, freeze := some { at_ := 1 } })).advance 100;
      a.on CORE_FREEZE_INFO_VALID 0 = true ∧ (a.core 0).frozenAt ≠ a.ns ∧ bit (a.rd CH_CTRL_RUN) 0 = true ∧
      (a.qp 5).freeze = some { at_ := 1 } ∧ 1 ≠ a.ns ∧ (a.qp 5).state = .frozen) ∧
    (let a : State := { up with streams := [(3, some { at_ := 1 })] };
      SMap.get a.streams 3 none = some { at_ := 1 } ∧ 1 ≠ a.ns) ∧
    (∀ k ∈ [1, 2, 3], let d := desc 0x1D k
      let a := (withDesc up d).advance 0;
      a.portsUp = true ∧ Safety.ready a 0 0 d = true ∧ d.flagsOk = true ∧ d.zero 8 39 = true ∧ d.zero 46 63 = true ∧ Desc.isOp 0x1D k d = true ∧
      byteAt d.img 41 = 0 ∧ bytesAt d.img 42 45 = 0 ∧ (a.releaseKind k 0 0 matches .not) = true) ∧
    (∀ v ∈ [0x81000000, 0x82000000, 0x83000000], Safety.takes (up.advance 0) 3 FREEZE_RELEASE 0 0 v = true ∧ bit v 31 = true) ∧
    (let a := up.advance 0;
      Safety.takes a 3 CORE_MPU_CTRL 7 0 0 = true ∧ Safety.takes a 3 CORE_MPU_CTRL 7 0 1 = true ∧
      Safety.takes a 3 MOVER_MPU_HOLD 0 0 0 = true ∧ Safety.takes a 3 MOVER_MPU_HOLD 0 0 0x80000000 = true) := by
  decide +kernel

theorem wit_EccCommandsComplete :
    (∀ n ∈ [0, eccTotal - 1], let a := { up with ecc := { up.ecc with scrub := n } }.advance 0
      a.portsUp = true ∧ a.on ECC_CTRL_SCRUB_EN = true ∧ a.rd PWR_STATUS_STATE ≠ 2 ∧ (eccWordAt a.ecc.scrub).1 ≠ gMEM ∧ a.ecc.scrub = n) ∧
    (∀ x ∈ ([[], [(eccKey gMEM 5, some (7, 0))]] : List (SMap (Option (Nat × Nat)))),
      let a := { up with ecc := { up.ecc with merge := [{ word := 5, data := 1, mask := 1 }], words := x } }.advance 0;
      a.portsUp = true ∧ a.mergeOf 5 = some { word := 5, data := 1, mask := 1 } ∧
      SMap.get a.ecc.words (eccKey gMEM 5) none = (if x.isEmpty then none else some (7, 0))) ∧
    (∀ v ∈ [0x800C0001, 0x800C0002, 0x800C0003], let a := up.advance 0
      Safety.takes a 2 ECC_TEST_CTRL 0 0 v = true ∧ bit v 31 = true ∧ a.rd ECC_TEST_INDEX_INDEX < eccSize (bits v 19 16) ∧
      (let b := (((a.wr ECC_TEST_CTRL_EN 1).wr ECC_TEST_CTRL_GROUP (bits v 19 16)).wr ECC_STATUS_TEST_ACTIVE 1).raise 37;
        eccDecode (b.eccRaw (bits v 19 16) 0).1.1 (b.eccRaw (bits v 19 16) 0).1.2 = .clean)) ∧
    eccDecode 1 (checkByte 0) = .fixed 0 ∧ eccDecode 3 (checkByte 0) = .bad := by decide +kernel

theorem wit_FaultCommandsComplete :
    (let a := up.advance 0;
      Safety.takes a 3 FAULT_SRC_CFG 177 0 0x80000001 = true ∧ sourceUsed 177 = true ∧ Safety.takes a 3 FAULT_FSW 7 0 0xFFFFFFFF = true) ∧
    (let a := (up.setOn FAULT_SRC_STATUS_WINDOW_OPEN 3).advance 0;
      a.loadedUp = true ∧ a.on FAULT_SRC_STATUS_WINDOW_OPEN 3 = true ∧ SMap.get a.flt.close 3 0 ≤ a.time.tick) ∧
    (∀ r ∈ [true, false], ∀ m ∈ ([[], [(9, some {})]] : List (SMap (Option NoticeRec))),
      let b := herded.setHerd (fun h => { h with adj := [(5, { twoWay := true, child := true })] });
      let a := { b with flt := { b.flt with merge := m } }.advance 0;
      let c := if r then a.setHerd (fun h => { h with known := true, best := { h.best with uid := a.uid, est := true } }) else (a.setHerd (fun h => { h with known := false })).wr HERD_STATUS_STATE hsJOINED;
      c.portsUp = true ∧ c.children.contains 5 = true ∧ c.isRoot = r ∧ (r = false → c.joined = true) ∧ SMap.get c.flt.merge 9 none = (if m.isEmpty then none else some {})) ∧
    (let a := ((up.wr FAULT_PORT_CONTAINED_VALUE 1 2).wr FAULT_HD_CONTAINED_VALUE 1 0).advance 0;
      Safety.takes a 3 FAULT_CONTAIN_RELEASE 0 0 0x80000040 = true ∧ Safety.takes a 3 FAULT_CONTAIN_RELEASE 0 0 0x810003FF = true ∧
      bit (a.rd FAULT_PORT_CONTAINED_VALUE 2) 0 = true) := by decide +kernel

/-- A device in a phase of its start-up. -/
def phased (p : Phase) : State := { State.reset with rst := { State.reset.rst with phase := p, por := false } }

theorem wit_ResetAndStartUpCommandsComplete :
    (let a := up.advance 0;
      up.rst.phase ≠ .safeHold ∧ up.rst.phase ≠ .held ∧ up.rst.phase ≠ .released ∧ Safety.takes a 3 RST_DEVICE 0 0 0x91920001 = true ∧
      Safety.takes a 3 RST_DEVICE 0 0 0x91920000 = true ∧ up.rst.hot = false ∧ (∀ n < 8, bit up.rst.supply n = false) ∧
      (up.wr DRAM_CFG_CH_EN 1).rd DRAM_CFG_CH_EN ≠ 0) ∧
    (∀ p ∈ [Phase.held, .released, .loading, .sram, .firmware, .noFirmware], let a := phased p
      a.rst.phase = p ∧ a.rst.por = false ∧ a.rst.thermal = false ∧ a.rst.loaded = false ∧ a.rst.early = false ∧ a.failRow [5] = some 5) ∧
    (phased .loading).failRow [] = none ∧ stageOf [] = none ∧ (stageOf ([0x55, 0x4C, 0x46, 0x57, 64, 0, 0, 0] ++
      leBytes 4 (crc32c 0xFFFFFFFF (List.replicate 64 0)) ++ List.replicate 68 0)).isSome = true := by decide +kernel

theorem wit_PartialResetsComplete :
    (let a := switched.advance 0;
      Safety.linksUp a = true ∧ a.rst.hds.any (fun e => e.1 == 0) = false ∧
      Safety.takes a 3 RST_PORT 0 0 0x80000004 = true ∧ a.portExists 4 = true ∧ a.isFab 4 = false ∧ (a.wr OCT_MODE_PORT_EN 15 1).portEn 4 = true ∧
      Safety.takes a 3 RST_BLOCK_CMD 0 0 0x80000042 = true ∧ blockNamed 0x42 = true ∧ a.rst.block = none) ∧
    (let a := { switched with rst := { switched.rst with hds := [(0, 0)], block := some (0x42, 0) } }.advance 1000000000000;
      Safety.linksUp a = true ∧ a.rst.hds.find? (fun e => e.1 == 0) = some (0, 0) ∧ 2000000 ≤ a.ns ∧
      (∀ m ∈ (a.upPorts.filter (fun p => a.rd PORT_CFG_HD p == 0)).filterMap a.portPf, (a.fn (pfIndex m)).reset = none ∧
        ∀ i < a.rd RING_PF_VF_VF_LIMIT m, (a.fn (a.rd RING_PF_VF_VF_BASE m + i)).reset = none) ∧
      a.loadedUp = true ∧ a.on FAULT_STATUS_HALTED = false ∧ a.blockIdle 0x42 = true ∧ a.rd RST_BLOCK_TIMEOUT_TIMEOUT * 10000 ≤ a.ns) ∧
    (let a := (fabricUp.wr OCT_MODE_PORT_EN 1 2).advance 0;
      Safety.takes a 3 RST_PORT 0 0 0x80000008 = true ∧ a.portExists 8 = true ∧ a.portEn 8 = true ∧ a.isFab 8 = true ∧ a.portContained 8 = false) ∧
    (let a := { switched with fwd := { switched.fwd with pkts := [{ ing := 4 }] } }.advance 0;
      a.blockIdle 1 = false) := by decide +kernel

theorem wit_PowerAndFuseCommandsComplete :
    (let a := { (up.wr PWR_CTRL_QUIET_EN 1).wr PWR_CTRL_REST_ARM 1 with rst := { up.rst with idleEdges := 65535 } }.advance 0;
      a.portsUp = true ∧ a.on PWR_CTRL_QUIET_EN = true ∧ a.rd PWR_STATUS_STATE = pwACTIVE ∧ a.quietOk = true ∧
      a.rd PWR_CTRL_QUIET_IDLE ≤ a.rst.idleEdges ∧ a.on PWR_CTRL_REST_ARM = true ∧ a.restOk = true ∧
      (a.wr PWR_STATUS_STATE pwQUIET).rd PWR_STATUS_STATE = pwQUIET ∧
      ((((a.wr PWR_STATUS_STATE pwREST).wr PWR_CTRL_REST_ARM 0).wr PWR_STATUS_REST_WAIT 0).enterSelfRefresh).timeState ≠ tsLOCKED) ∧
    (let a := ((up.wr PWR_CTRL_REST_ARM 1).timeTo tsLOCKED).advance 0;
      a.portsUp = true ∧ a.on PWR_CTRL_REST_ARM = true ∧ a.rd PWR_STATUS_STATE ≠ pwREST ∧ a.restOk = true ∧
      ((((a.wr PWR_STATUS_STATE pwREST).wr PWR_CTRL_REST_ARM 0).wr PWR_STATUS_REST_WAIT 0).enterSelfRefresh).timeState = tsLOCKED) ∧
    (let a := (up.wr FUSE_PROG_DATA_LO_VALUE 5).advance 0;
      Safety.takes a 2 PWR_CTRL 0 0 0xC0000001 = true ∧ Safety.takes a 2 FUSE_PROG_CMD 0 0 0x91920120 = true ∧ bits 0x91920120 31 16 = 0x9192 ∧
      0x91920120 % 512 = 288 ∧ a.rst.progBusy = none ∧ SMap.get a.rst.fuses 288 0 = 0 ∧ a.rd64 FUSE_PROG_DATA_LO_VALUE FUSE_PROG_DATA_HI_VALUE ≠ 0) ∧
    (let a := { up with rst := { up.rst with progBusy := some (288, 5) } }.advance 0;
      a.rst.progBusy = some (288, 5)) ∧
    (let a := (((((slot0.wr OCT_MODE_PORT_EN 1 0).wr PORT_SLOT_CFG_SLOT_EN 1 0).wr PORT_SLOT_CFG_IBEX_CH 5 0).wr PWR_STATUS_STATE pwREST).wr
        PWR_WAKE_EN_EN 31).wr PWR_WAKE_CUE_LO_VALUE 1 |>.setPin 0 { mode := 0 } |>.advance 0;
      a.loadedUp = true ∧ a.on FAULT_STATUS_HALTED = false ∧ a.rd PWR_STATUS_STATE = pwREST ∧ bit (a.rd PWR_WAKE_EN_EN) 0 = true ∧
      bit (a.rd PWR_WAKE_EN_EN) 4 = true ∧ (a.pin 0).mode = 0 ∧ bit (a.rd64 PWR_WAKE_CUE_LO_VALUE PWR_WAKE_CUE_HI_VALUE) 0 = true ∧
      a.chanPort 5 = some 0 ∧ a.portEn 0 = true) := by decide +kernel

/-- A device whose Ibex link is up, port 4 a slot on channel 0, the channel and its bank as given, at cell time 10 s. -/
def slotted (c : Chan) (x : Bank := { inside := true }) : State :=
  let s := (switched.setOn PORT_SLOT_CFG_SLOT_EN 4).setOn IBEX_STATUS_LINK_UP;
  { s with ibx := { s.ibx with chans := [(0, c)], banks := [(0, x)] } }.advance 10000000000

theorem wit_ChannelSequenceCommandsComplete :
    (∀ c ∈ ([{ st := cQUALIFY }, { st := cPRECHARGE, inLimit := true }, { st := cRAMP }, { st := cRAMP, goodAt := some 0 }, { st := cON },
        { st := cON, inLimit := true }, { st := cRETRY_WAIT }, { st := cRETRY_WAIT, count := 7 }] : List Chan), let a := (slotted c).advance 0
      a.chan 0 = c ∧ (a.bank (bankOf 0)).inside = true ∧ (a.bank (bankOf 0)).since = 0 ∧ c.since = 0 ∧ c.startAt = 0 ∧ c.limitAt = 0 ∧ c.retry = false ∧
      a.rd IBX_CFG2_INSERT_DELAY 0 * 1000000 ≤ a.ns ∧ a.rd IBX_CFG2_PRECHG_TIMEOUT 0 * 1000000 ≤ a.ns ∧
      a.rd IBX_CFG1_FAULT_TIMER 0 * 100000 ≤ a.ns ∧ a.rd IBX_CFG1_START_TIMER 0 * 1000000 ≤ a.ns ∧ 1000000000 ≤ a.ns ∧
      a.rd IBX_CFG3_RETRY_DELAY 0 * 100000000 ≤ a.ns) := by decide +kernel

theorem wit_SlotInputCommandsComplete :
    (∀ b ∈ [false, true], let a := ((slotted { present := b }).advance 0).wakeBy 0 0
      a.assigned 0 = true ∧ (a.chan 0).present = b) ∧
    (∀ z ∈ [cOFF, cLATCHED], let a := ((slotted { st := z }).advance 0).wakeBy 1 0
      a.chanPort 0 = some 4 ∧ (a.chan 0).button = false) ∧
    (let a := (slotted { st := cLOCKED, button := true }).advance 0;
      (a.chan 0).button = true ∧ (a.chan 0).st = cLOCKED ∧ Safety.takes a 3 IBX_CTRL 0 0 0x80000000 = true ∧ (a.bank 0).inside = true ∧
      (a.bank 0).below = false ∧ a.on IBEX_STATUS_LINK_UP = true) ∧
    (let a := (slotted { st := cLATCHED } {}).advance 0;
      a.assigned 0 = true ∧ (a.chan 0).st = cLATCHED ∧ (a.bank 0).inside = false) ∧
    (up.advance 0).on IBEX_STATUS_LINK_UP = false := by decide +kernel

theorem wit_FlowImagesRoundTrip :
    (let e : FlowEnt := { src := 4095, stream := 4294967295, action := 3, subEn := true, sub := 8191, slEn := true, sl := 7, meterEn := true, meter := 262143, reroutable := true, hopEn := true, hop := 3, mirEn := true, mirSess := 7 };
     e.src < 4096 ∧ e.stream < 4294967296 ∧ e.sub < 8192 ∧ e.meter < 262144 ∧ e.image = 2 ^ 128 - 2 ^ 36) ∧
    (let v := 2 ^ 128 - 2 ^ 36;
     v < 2 ^ 128 ∧ bit v 127 = true ∧ bits v 35 0 = 0) := by decide +kernel

theorem wit_EccReadIsDecidedByTheSyndrome :
    Nat.xor (checkByte 5) (checkByte 5) = 0 ∧ Nat.xor 0 (checkByte 1) = hsiaoCols.getD 0 0 ∧ hsiaoCols.getD 63 0 = 0x57 ∧
    weight8 (Nat.xor 128 (checkByte 0)) = 1 ∧ Nat.xor 3 (checkByte 0) ≠ 0 ∧ (∀ i < 64, Nat.xor 3 (checkByte 0) ≠ hsiaoCols.getD i 0) ∧
    weight8 (Nat.xor 3 (checkByte 0)) ≠ 1 := by decide +kernel

theorem wit_EccCorrectsOneErrorAndDetectsTwo : eccDecode (Nat.xor 5 (2 ^ 63)) (checkByte 5) = .fixed 5 ∧ eccDecode 5 (Nat.xor (checkByte 5) 128) = .fixed 5 ∧
    eccDecode (Nat.xor 5 (2 ^ 63)) (Nat.xor (checkByte 5) 128) = .bad := by decide +kernel

theorem wit_ShrinkingPoolWritesAreDiscarded :
    (let a := up.advance 0;
      Safety.takes a 3 BUF_HEADROOM 0 0 0x3FFFF = true ∧ 262144 < 0x3FFFF % 2 ^ 18 + a.rd OVF_CTRL_STAGE_CELLS + a.rd BUF_MIN_TOTAL_CELLS + 4096 ∧
      (let b := a.wr BUF_HEADROOM_CELLS 200000;
       Safety.takes b 3 OVF_CTRL 0 0 65535 = true ∧ 262144 < b.rd BUF_HEADROOM_CELLS + 65535 % 2 ^ 16 + b.rd BUF_MIN_TOTAL_CELLS + 4096) ∧
      (let b := a.wr BUF_HEADROOM_CELLS 240000;
       262144 < b.rd BUF_HEADROOM_CELLS + b.rd OVF_CTRL_STAGE_CELLS + (b.rd BUF_MIN_TOTAL_CELLS - (b.queue 9).minCells + [65535, 0x04000800].getD 0 0 % 2 ^ 16) + 4096)) := by
  decide +kernel

theorem wit_RaisesStopAtTheCap : (let s := up.wr FAULT_ESC_EN_EN 0
      s.rd FAULT_SRC_CFG_COUNT_N 3 = 0 ∧ bit (s.rd FAULT_ESC_EN_EN) 0 = false) ∧
    (∃ s : State, (s.effective { src := 3 }).1 ≠ s.baseSev { src := 3 } ∧ s.baseSev { src := 3 } ≠ sevFATAL) ∧ up.baseSev { src := 177 } = sevFATAL := by
  refine ⟨by decide +kernel, ⟨(((up.wr FAULT_CTRL_RAISE_CAP 4).wr FAULT_SRC_CFG_COUNT_N 1 3).wr FAULT_SRC_STATUS_WIN_COUNT 1 3), by decide +kernel⟩, by decide +kernel⟩

theorem wit_MaskedSourcesOnlyCount : let s := up.wr FAULT_SRC_CFG_MASK 1 65
    sourceUsed 65 = true ∧ s.on FAULT_SRC_CFG_MASK 65 = true := by decide +kernel

/-- A running device whose octets 0 to 7 make 32 upstream ports, port 32 a downstream port and octet 9 off with ports 36 to 39 upstream. -/
def crowded : State :=
  { up with reg := (List.range 9).map (fun k => (OCT_MODE_MODE.key k 0, 3)) ++ (List.range 32 ++ [36, 37, 38, 39]).map (fun p => (PORT_CFG_ROLE.key p 0, 1)) }

theorem wit_UpstreamAndFabricPortLimits :
    (let a := crowded;
      Safety.takes a 3 PORT_CFG 32 0 1 = true ∧ a.portEn 32 = false ∧ bits 1 1 0 = 1 ∧ a.rd PORT_CFG_ROLE 32 ≠ 1 ∧ a.upPorts = List.range 32 ∧
      Safety.takes a 3 OCT_MODE 9 0 3 = true ∧ a.rd OCT_MODE_PORT_EN 9 = 0 ∧ a.octMode 9 = 0 ∧
      (((a.wr OCT_MODE_MODE 3 9).wr OCT_MODE_FABRIC 0 9).wr OCT_MODE_PORT_EN 0 9).upPorts = List.range 32 ++ [36, 37, 38, 39]) := by decide +kernel

theorem wit_CoreWritesChangeOnlyTheirBytes : (∀ w, SMap.get up.ecc.words (eccKey gMEM w) none = none) ∧ up.mem.wf = true ∧
    (up.memWrite 0 0x40000006 [1, 2, 3]).mem = [(0x40000006, 1), (0x40000007, 2), (0x40000008, 3)] := ⟨fun _ => rfl, by decide +kernel, by decide +kernel⟩

theorem wit_EventsOutsideTheChannelTable :
    (let a := { up with ibx := { up.ibx with chans := [(5, { st := cLOCKED })] } }.advance 0;
      (a.chan 5).st ≠ cQUALIFY ∧ (a.chan 5).st ≠ cPRECHARGE ∧ (a.chan 5).st ≠ cRAMP ∧ (a.chan 5).st ≠ cON ∧ (a.chan 5).st ≠ cRETRY_WAIT ∧
      (a.chan 5).st ≠ cOFF ∧ (a.chan 5).st ≠ cLATCHED) := by decide +kernel

theorem wit_WarmResetKeepsAndClears : up.rst.phase ≠ .held ∧ up.rst.phase ≠ .released := by decide +kernel

/-! ## What well-formedness refuses: one ill-formed term for each check -/

theorem test_wf_accepts : (Instr.registerWrite 5 2 0x10 0xFFFFFFFF).wf = true ∧ (Instr.tickEdge 15 1).wf = true ∧
    (Instr.flitReceive 5 23 [0, 255]).wf = true ∧ (Instr.cueEdgeDue 5 47).wf = true := by decide +kernel
theorem test_wf_time : (Instr.periodChangeEdge (2 ^ 64)).wf = false := by decide
theorem test_wf_word : (Instr.registerWrite 5 2 0x10 (2 ^ 32)).wf = false := by decide
theorem test_wf_path : (Instr.registerWrite 5 12 0x10 0).wf = false ∧ (Instr.registerWrite 5 48 0x10 0).wf = false ∧
    (Instr.registerWrite 5 (4096 + 2080) 0x10 0).wf = false := by decide
theorem test_wf_offset : (Instr.lowWordRead 5 2 0x11).wf = false ∧ (Instr.lowWordRead 5 2 (2 ^ 32)).wf = false := by decide
theorem test_wf_jobMask : (Instr.tickEdge 16 0).wf = false := by decide
theorem test_wf_cueLevels : (Instr.tickEdge 0 (2 ^ 48)).wf = false := by decide
theorem test_wf_octet : (Instr.timeSlotSend 5 24).wf = false := by decide
theorem test_wf_port : (Instr.ptmRequest 5 96).wf = false := by decide
theorem test_wf_cuePin : (Instr.cueEdgeDue 5 48).wf = false := by decide
theorem test_wf_qp : (Instr.flowSetAdd 5 16384 0).wf = false := by decide
theorem test_wf_submissionIndex : (Instr.flowSetAdd 5 0 4096).wf = false := by decide
theorem test_wf_queue : (Instr.refillStart 5 65536).wf = false := by decide
theorem test_wf_channel : (Instr.currentLimitEnter 5 24).wf = false := by decide
theorem test_wf_core : (Instr.coreCounterOverflow 5 8 0).wf = false ∧ (Instr.coreCounterOverflow 5 0 9).wf = false := by decide
theorem test_wf_bytes : (Instr.flitReceive 5 0 [256]).wf = false := by decide
theorem test_wf_header : (Instr.packetParse 5 0 { type := 16 } {}).wf = false ∧ (Instr.packetParse 5 0 { addr := 2 ^ 52 } {}).wf = false := by decide
theorem test_wf_tlp : (Instr.packetParse 5 0 {} { tc := 8 }).wf = false ∧ (Instr.packetParse 5 0 {} { dw := 1025 }).wf = false := by decide
theorem test_wf_coreAccess : coreAccOk { n := 9 } = false ∧ coreAccOk { mode := 4 } = false := by decide
theorem test_wf_fuseRows : rowsOk [511] = true ∧ rowsOk [512] = false := by decide
theorem test_wf_eccWords : wordsOk [(15, 7)] = true ∧ wordsOk [(16, 0)] = false := by decide
theorem test_wf_function : fnOk 2079 = true ∧ fnOk 2080 = false := by decide
theorem test_wf_sourceLossCause : (Instr.sourceLoss 5 0 3).wf = false := by decide
theorem test_wf_refillResult : (Instr.refillComplete 5 0 0 5).wf = false ∧ (Instr.refillComplete 5 0 8 0).wf = false := by decide

/-- No row of the table has bits, so no word spells a command. -/
theorem test_no_word_spells_a_command : decodeTableWord 16 0 = none ∧ decodeTableWord 32 0xFFFFFFFF = none := ⟨rfl, rfl⟩

/-! ## The manual's worked examples -/

/-- The code on one word (after R523). -/
theorem test_ecc_worked_example : checkByte 0x0F = 0x0F ∧ eccDecode 0x0B 0x0F = .fixed 0x0F ∧ eccDecode 0x0C 0x0F = .bad := by decide +kernel

/-- The profile and the packet length of *trTCM under a burst* (after R148). -/
def burst : Profile := { cir := 300000, pir := 400000, cbs := 16384, pbs := 32768 }

/-- Packets 1, 5 and 9 of *trTCM under a burst*: green, yellow and red, with what each takes from the buckets. -/
theorem test_trtcm_under_a_burst :
    burst.colour { visC := uB 16384, visP := uB 32768 } 4112 false = (cGREEN, 4112, 4112) ∧
    burst.colour { visC := uB 560, visP := uB 17152 } 4112 false = (cYELLOW, 0, 4112) ∧
    burst.colour { visC := uB 1184, visP := uB 1536 } 4112 false = (cRED, 0, 0) := by decide +kernel

/-- Between packets 1 and 2 the buckets gain 156 and 208 B. -/
theorem test_trtcm_refill : burst.refill (uB 12272) (uB 28656) 520 = (uB 12428, uB 28864) := by decide +kernel

/-- *One register block, both orders*: 0xBEEF on lanes 2 and 3 (after R399). -/
theorem test_both_byte_orders :
    let en := fun a : Nat => a == 0x102 || a == 0x103
    swapAddr 1 4 en 0x102 = 0x103 ∧ swapAddr 1 4 en 0x103 = 0x102 ∧ swapAddr 2 4 en 0x102 = 0x101 ∧ swapAddr 2 4 en 0x103 = 0x100 := by
  decide +kernel

/-! ## Single effects -/

/-- A field of the state after one step with the command in front. -/
def after (s : State) (c : Instr) (f : State → Nat) : Option Nat :=
  match step { s with pending := [c] } with
  | .next u => some (f u)
  | .fault _ => none
  | .refused _ => none

/-- A root that follows CELLREF and loses it runs on XO_IN (R36). -/
theorem test_cellref_loss : (root.setTime (fun t => { t with onCellref := true })).cellrefLoss.timeState = tsHOLDOVER := by decide +kernel

/-- A tick edge increments the tick number, and cell time stands at the next multiple of T_TICK (R29). -/
theorem test_tick_edge : after root (.tickEdge 0 0) (fun u => u.time.tick) = some 1 ∧
    after root (.tickEdge 0 0) (fun u => u.ns) = some 31250 := by decide +kernel

/-- A write of a read-only register changes nothing (R5). -/
theorem test_read_only_write : after up (.registerWrite 0 3 TIME_STATUS.off 0xFFFFFFFF) (fun u => u.timeState) = some up.timeState := by
  decide +kernel

/-- A register write sets the fields it names (R5). -/
theorem test_register_write : after up (.registerWrite 0 3 BUF_HEADROOM.off 1000) (fun u => u.rd BUF_HEADROOM_CELLS) = some 1000 := by
  decide +kernel

end Sys2Proof.Tests
end

section
/-! PROOFS of the statements of 00_scope: the register access codes (R5), reserved encodings (R8) and 64-bit pairs (R9). -/

namespace Sys2Proof.Proofs
open Sys2Proof.Machine Sys2Proof.Laws

/-! ### The register commands -/

theorem exec_registerWrite (s : State) (t path off v : Nat) :
    exec (.registerWrite t path off v) s = .next (settle ((s.advance t).registerWrite path off v)) := rfl

theorem exec_lowWordRead (s : State) (t path off : Nat) :
    exec (.lowWordRead t path off) s = .next (settle ((s.advance t).lowWordRead path off)) := rfl

theorem exec_highWordWrite (s : State) (t path off v : Nat) :
    exec (.highWordWrite t path off v) s = .next (settle ((s.advance t).highWordWrite path off v)) := rfl

theorem opens_iff {s : State} {path off : Nat} :
    Safety.opens s path off = true ↔ s.pathOpen path off = true ∧ reaches path off = true := by
  simp [Safety.opens]

/-- Below the function pages, REGISTER_WRITE is the register command of its path. -/
theorem registerWrite_eq_regCmd {s : State} {path off v : Nat} (h : path < 0x1000) :
    s.registerWrite path off v = s.regCmd path off v := if_neg (by omega)

theorem regCmd_of_opens {s : State} {path off v : Nat} (h : Safety.opens s path off = true) :
    s.regCmd path off v = s.setupWr path off v := if_pos (opens_iff.mp h).1

theorem regCmd_of_setupWr_same {s : State} {path off v : Nat} (h : s.setupWr path off v = s) :
    s.regCmd path off v = s := by
  rw [State.regCmd, h, ite_self]

theorem lowWordRead_of_opens {s : State} {path off i j : Nat} {d : RegDesc} (ho : Safety.opens s path off = true)
    (hr : regAt off = some (d, i, j)) (hp : d.pair = .low) : s.lowWordRead path off = s.setup path off none := by
  simp [State.lowWordRead, lowWordAt, hr, hp, (opens_iff.mp ho).1]

theorem highWordWrite_of_opens {s : State} {path off v i j : Nat} {d : RegDesc} (ho : Safety.opens s path off = true)
    (hr : regAt off = some (d, i, j)) (hp : d.pair = .high) : s.highWordWrite path off v = s.setupWr path off v := by
  simp [State.highWordWrite, highWordAt, hr, hp, (opens_iff.mp ho).1]

/-! ### The setup space between the ROM and the debug window -/

section
variable {s : State} {path off v i j : Nat} {d : RegDesc}
variable (hl : 0x10000 ≤ off) (hu : off < 0x800000) (hr : regAt off = some (d, i, j))
include hl hu hr

theorem setupWr_reg (h : reaches path off = true) : s.setupWr path off v = s.regStore path off d i j v := by
  have hdebug : ¬ 0x800000 ≤ off := by omega
  have hrom : ¬ (0x8000 ≤ off ∧ off < 0x10000) := by omega
  have hwindow : ¬ (off < 0x8000 ∧ 0x400 ≤ off) := by omega
  simp [State.setupWr, h, hdebug, hrom, hwindow, hr]

theorem setupRd_reg (h : reaches path off = true) :
    s.setupRd path off = (some (s.regRead off d i j).1, (s.regRead off d i j).2) := by
  have hdebug : ¬ 0x800000 ≤ off := by omega
  have hrom : ¬ (0x8000 ≤ off ∧ off < 0x10000) := by omega
  have hwindow : ¬ (off < 0x8000 ∧ 0x400 ≤ off) := by omega
  have hident : off ≠ 0 := by omega
  simp [State.setupRd, h, hdebug, hrom, hwindow, hident, hr]

/-- A read over a path answers the word of the register and leaves what reading it leaves. -/
theorem setup_read_reg (h : reaches path off = true) :
    s.setup path off none = (s.regRead off d i j).2.emit (.read path (s.regRead off d i j).1) := by
  rw [State.setup, setupRd_reg hl hu hr h]

end

/-! ### Writes of one register -/

theorem regStore_none {s : State} {path off v i j : Nat} {d : RegDesc} (hp : d.pair = .none) :
    s.regStore path off d i j v = s.regWrite path d i j v := by
  simp [State.regStore, hp]

theorem regWrite_of_reserved {s : State} {path v i j : Nat} {d : RegDesc} (h : d.reserved v = true) :
    s.regWrite path d i j v = s := by
  simp [State.regWrite, h]

/-- A register that no hook knows takes a write field by field, in whichever block it stands. -/
theorem regWrite_of_unhooked {s : State} {path v i j : Nat} {d : RegDesc} (hv : d.reserved v = false)
    (ha : s.absent d.off i = false) (hs : s.hookSystem path d.off i v = none) (hp : s.hookPorts d.off i j v = none)
    (hf : s.hookFabric path d.off i j v = none) : s.regWrite path d i j v = s.plainWrite d i j v := by
  simp [State.regWrite, hv, ha, hs, hp, hf]

/-! ### Where the fields of a register stand -/

/-- All fields of a register stand at its offset and with its strides, and start at different bits. -/
def fieldsApart (d : RegDesc) : Bool :=
  d.flds.all (fun f => f.off == d.off && f.s1 == d.s1 && f.s2 == d.s2) && decide (d.flds.map Fld.lo).Nodup

theorem findReg_mem {l : List RegDesc} {o i j : Nat} {d : RegDesc} (h : findReg l o = some (d, i, j)) : d ∈ l := by
  induction l with
  | nil => simp [findReg] at h
  | cons r rs ih =>
    unfold findReg at h
    split at h
    · cases h; exact List.mem_cons_self
    · exact List.mem_cons_of_mem _ (ih h)

/-- The register tables of the blocks in the order of their offsets, and the empty one past them. -/
def regBlocks : List (List RegDesc) :=
  [regsIDENT, regsTIME, regsRESET, regsFAULT, regsIBEX, regsFUSE, regsCUE, regsOBS, regsOCT, regsPORT, regsFWD, regsBUF, regsSCHED,
   regsGATE, regsHERD, regsBRG, regsRING, regsCH, regsECC, []]

theorem blockAt_mem_regBlocks (off : Nat) : blockAt off ∈ regBlocks := by
  unfold blockAt
  repeat' refine iteInduction (motive := (· ∈ regBlocks)) (fun _ => ?_) (fun _ => ?_)
  all_goals simp only [regBlocks, List.mem_cons, true_or, or_true]

/-- No register of the tables has two fields that start at one bit, or a field that stands elsewhere. -/
theorem regBlocks_fieldsApart : ∀ l ∈ regBlocks, ∀ d ∈ l, fieldsApart d = true := by
  decide +kernel

theorem regAt_fieldsApart {off i j : Nat} {d : RegDesc} (h : regAt off = some (d, i, j)) : fieldsApart d = true :=
  regBlocks_fieldsApart _ (blockAt_mem_regBlocks off) d (findReg_mem h)

/-- Fields that start at different bits of one word have different keys. -/
theorem keys_pairwise_ne {d : RegDesc} (h : fieldsApart d = true) (i j : Nat) :
    d.flds.Pairwise (fun f g => f.key i j ≠ g.key i j) := by
  simp only [fieldsApart, Bool.and_eq_true, List.all_eq_true, beq_iff_eq, decide_eq_true_eq] at h
  obtain ⟨hplace, hlo⟩ := h
  refine (List.pairwise_map.mp hlo).imp_of_mem fun {f g} hf hg hne hkey => hne ?_
  obtain ⟨⟨hfo, hf1⟩, hf2⟩ := hplace f hf
  obtain ⟨⟨hgo, hg1⟩, hg2⟩ := hplace g hg
  simpa [Fld.key, hfo, hf1, hf2, hgo, hg1, hg2] using hkey

/-! ### Field by field -/

/-- What a field that holds `old` holds after word `v` is written to its register, by its access code (R5). -/
def fieldAfter (f : Fld) (old v : Nat) : Nat :=
  match f.acc with
  | .rw => bits v f.hi f.lo
  | .rw1c => (old - Nat.land old (bits v f.hi f.lo)) % f.size
  | .rw1s => Nat.lor old (bits v f.hi f.lo) % f.size
  | .ro => old
  | .wo => old

/-- The bits of a word at a field's place fit the field. -/
theorem bits_mod_size (f : Fld) (v : Nat) : bits v f.hi f.lo % f.size = bits v f.hi f.lo :=
  Nat.mod_mod _ _

theorem fldWrite_frame (s : State) (f : Fld) (i j v : Nat) :
    s.fldWrite f i j v = { s with reg := (s.fldWrite f i j v).reg } := by
  unfold State.fldWrite
  cases f.acc <;> rfl

theorem rd_fldWrite (s : State) (f : Fld) (i j v : Nat) :
    (s.fldWrite f i j v).rd f i j = fieldAfter f (s.rd f i j) v := by
  unfold State.fldWrite fieldAfter
  cases f.acc <;> simp [bits_mod_size]

theorem rd_fldWrite_ne {s : State} {f g : Fld} {i j v x y : Nat} (h : g.key x y ≠ f.key i j) :
    (s.fldWrite f i j v).rd g x y = s.rd g x y := by
  unfold State.fldWrite
  cases f.acc <;> simp [rd_wr_ne h]

/-- Several fields of one element written in order, each with its bits of the word. -/
def writeFields (s : State) (l : List Fld) (i j v : Nat) : State := l.foldl (fun (t : State) f => t.fldWrite f i j v) s

theorem plainWrite_eq (s : State) (d : RegDesc) (i j v : Nat) : s.plainWrite d i j v = writeFields s d.flds i j v := rfl

theorem writeFields_cons (s : State) (f : Fld) (l : List Fld) (i j v : Nat) :
    writeFields s (f :: l) i j v = writeFields (s.fldWrite f i j v) l i j v := rfl

theorem writeFields_frame (s : State) (l : List Fld) (i j v : Nat) :
    writeFields s l i j v = { s with reg := (writeFields s l i j v).reg } := by
  induction l generalizing s with
  | nil => rfl
  | cons f l ih =>
    rw [writeFields_cons, ih, fldWrite_frame]

theorem rd_writeFields_ne {s : State} {l : List Fld} {i j v x y : Nat} {g : Fld}
    (h : ∀ f ∈ l, g.key x y ≠ f.key i j) : (writeFields s l i j v).rd g x y = s.rd g x y := by
  induction l generalizing s with
  | nil => rfl
  | cons f l ih =>
    rw [List.forall_mem_cons] at h
    rw [writeFields_cons, ih h.2, rd_fldWrite_ne h.1]

/-- Each of the fields written takes its bits by its access code, for no other write of the list reaches its key. -/
theorem rd_writeFields {s : State} {l : List Fld} {i j v : Nat} (hl : l.Pairwise (fun f g => f.key i j ≠ g.key i j)) :
    ∀ f ∈ l, (writeFields s l i j v).rd f i j = fieldAfter f (s.rd f i j) v := by
  induction l generalizing s with
  | nil => simp
  | cons g l ih =>
    obtain ⟨hg, hl⟩ := List.pairwise_cons.mp hl
    rw [List.forall_mem_cons, writeFields_cons]
    refine ⟨?_, fun f hf => ?_⟩
    · rw [rd_writeFields_ne hg, rd_fldWrite]
    · rw [ih hl f hf, rd_fldWrite_ne (hg f hf).symm]

/-! ### The words of a 64-bit pair -/

/-- A read of a low word captures the high word as it is after that read (R9). -/
theorem regRead_low {s : State} {off i j x y : Nat} {d e : RegDesc} (hp : d.pair = .low)
    (he : regAt (off + 4) = some (e, x, y)) :
    s.regRead off d i j =
      ((s.regWord d i j).1, (s.regWord d i j).2.setHold (off + 4) (some ((s.regWord d i j).2.regWord e x y).1)) := by
  simp [State.regRead, hp, he]

/-- A read of a high word uses up the word that its low word's read captured (R9). -/
theorem regRead_high_held {s : State} {off w i j : Nat} {d : RegDesc} (hp : d.pair = .high)
    (hh : SMap.get s.bus.hold off none = some w) : s.regRead off d i j = (w, s.setHold off none) := by
  simp [State.regRead, hp, hh]

theorem regStore_low {s : State} {path off v i j : Nat} {d : RegDesc} (hp : d.pair = .low) :
    s.regStore path off d i j v = s.setLow off (some v) := by
  simp [State.regStore, hp]

/-- A write of a high word takes effect with the low word that is held for it (R9). -/
theorem regStore_high_held {s : State} {path off v w i j x y : Nat} {d e : RegDesc} (hp : e.pair = .high)
    (hd : regAt (off - 4) = some (d, x, y)) (hw : SMap.get s.bus.low (off - 4) none = some w) :
    s.regStore path off e i j v = (s.setLow (off - 4) none).pairWrite d e i j w v := by
  simp [State.regStore, hp, hd, hw]

/-! ### The statements -/

/-- Settles O7: the write reaches the fields one by one (`plainWrite`), and the fields of a register have keys of their own,
so that none disturbs another. -/
theorem registerWriteStoresItsFields : Obligations.RegisterWriteStoresItsFields := by
  unfold Obligations.RegisterWriteStoresItsFields
  intro s t path off v d i j a hpath hl hu hr hp ho hv ha hsys hports hfab
  have hwrite : a.registerWrite path off v = writeFields a d.flds i j v := by
    rw [registerWrite_eq_regCmd hpath, regCmd_of_opens ho, setupWr_reg hl hu hr (opens_iff.mp ho).2, regStore_none hp,
      regWrite_of_unhooked hv ha hsys hports hfab, plainWrite_eq]
  refine ⟨writeFields a d.flds i j v, ?_, writeFields_frame .., ?_, fun g x y hg => rd_writeFields_ne hg⟩
  · rw [exec_registerWrite, ← hwrite]
  · exact rd_writeFields (keys_pairwise_ne (regAt_fieldsApart hr) i j)

/-- Settles O8: whether or not the path reaches the register, the write leaves every state as it is. -/
theorem reservedEncodingIsDiscarded : Obligations.ReservedEncodingIsDiscarded := by
  unfold Obligations.ReservedEncodingIsDiscarded
  intro s t path off v d i j hpath hl hu hr hp hv
  have hsame (u : State) : u.setupWr path off v = u := by
    by_cases h : reaches path off = true
    · rw [setupWr_reg hl hu hr h, regStore_none hp, regWrite_of_reserved hv]
    · simp [State.setupWr, h]
  refine ⟨hsame s, ?_⟩
  rw [exec_registerWrite, registerWrite_eq_regCmd hpath, regCmd_of_setupWr_same (hsame _)]

/-- Settles O9: the four accesses of a pair, each by the lemma on its word. -/
theorem pairsAreReadAndWrittenWhole : Obligations.PairsAreReadAndWrittenWhole := by
  unfold Obligations.PairsAreReadAndWrittenWhole
  refine ⟨?lowRead, fun s off w d i j hp hh => regRead_high_held hp hh, fun s path off v d i j hp => regStore_low hp, ?highWrite⟩
  case lowRead =>
    intro s t path off d e i j x y a ho hl hu hr hp he
    rw [exec_lowWordRead, lowWordRead_of_opens ho hr hp, setup_read_reg hl hu hr (opens_iff.mp ho).2, regRead_low hp he]
  case highWrite =>
    intro s t path off v w d e i j x y a ho hl hu hr hp hd hw
    rw [exec_highWordWrite, highWordWrite_of_opens ho hr hp, setupWr_reg hl hu hr (opens_iff.mp ho).2,
      regStore_high_held hp hd hw]

end Sys2Proof.Proofs
end

section
/-! PROOFS of the statements of 01_device_in_the_cell: the limits on upstream and fabric ports (R26). -/

namespace Sys2Proof.Proofs
open Sys2Proof.Machine Sys2Proof.Laws

/-! ### Writes of the hooked registers of OCTET and PORT -/

theorem exec_octModeWrite (s : State) (t path k v : Nat) :
    exec (.octModeWrite t path k v) s = .next (settle ((s.advance t).regCmd path (OCT_MODE.addr k) v)) := rfl

theorem takes_iff {s : State} {path i j v : Nat} {d : RegDesc} :
    Safety.takes s path d i j v = true ↔
      Safety.opens s path (d.addr i j) = true ∧ d.reserved v = false ∧ s.absent d.off i = false := by
  simp [Safety.takes, and_assoc]

/-- A write that reaches a 32-bit register between the ROM and the debug window is the write of that register. -/
theorem regCmd_of_takes {s : State} {path i j v : Nat} {d : RegDesc} (ht : Safety.takes s path d i j v = true)
    (hl : 0x10000 ≤ d.addr i j) (hu : d.addr i j < 0x800000) (hr : regAt (d.addr i j) = some (d, i, j))
    (hp : d.pair = .none) : s.regCmd path (d.addr i j) v = s.regWrite path d i j v := by
  obtain ⟨ho, -, -⟩ := takes_iff.mp ht
  rw [regCmd_of_opens ho, setupWr_reg hl hu hr (opens_iff.mp ho).2, regStore_none hp]

/-- A register of OBSERVE, OCTET or PORT with an effect of its own takes a write by that effect. -/
theorem regWrite_of_hookPorts {s u : State} {path v i j : Nat} {d : RegDesc} (hv : d.reserved v = false)
    (ha : s.absent d.off i = false) (hl : 0x80000 ≤ d.off) (hu : d.off < 0x280000)
    (hh : s.hookPorts d.off i j v = some u) : s.regWrite path d i j v = u := by
  simp [State.regWrite, hv, ha, Nat.not_lt.mpr hl, hu, hh]

theorem regAt_octMode : ∀ k < 24, regAt (OCT_MODE.addr k) = some (OCT_MODE, k, 0) := by decide +kernel

theorem regAt_portCfg : ∀ p < 96, regAt (PORT_CFG.addr p) = some (PORT_CFG, p, 0) := by decide +kernel

theorem octMode_addr (k : Nat) : OCT_MODE.addr k = 0x100000 + k * 0x8000 := by simp [RegDesc.addr, OCT_MODE]

theorem portCfg_addr (p : Nat) : PORT_CFG.addr p = 0x200000 + p * 0x1000 := by simp [RegDesc.addr, PORT_CFG]

theorem regCmd_octMode {s : State} {path k v : Nat} (hk : k < 24) (ht : Safety.takes s path OCT_MODE k 0 v = true) :
    s.regCmd path (OCT_MODE.addr k) v = s.octModeWrite k v := by
  obtain ⟨-, hv, ha⟩ := takes_iff.mp ht
  have haddr := octMode_addr k
  rw [regCmd_of_takes ht (by omega) (by omega) (regAt_octMode k hk) rfl,
    regWrite_of_hookPorts hv ha (by decide) (by decide) rfl]

theorem regCmd_portCfg {s : State} {path p v : Nat} (hp : p < 96) (ht : Safety.takes s path PORT_CFG p 0 v = true) :
    s.regCmd path (PORT_CFG.addr p) v = s.portCfgWrite p v := by
  obtain ⟨-, hv, ha⟩ := takes_iff.mp ht
  have haddr := portCfg_addr p
  rw [regCmd_of_takes ht (by omega) (by omega) (regAt_portCfg p hp) rfl,
    regWrite_of_hookPorts hv ha (by decide) (by decide) rfl]

/-! ### The limits of R26 -/

/-- Only the first port of an octet can be a fabric port (R21). -/
theorem mod_four_of_isFab {s : State} {p : Nat} (h : s.isFab p = true) : p % 4 = 0 := by
  simp only [State.isFab, Bool.and_eq_true, Bool.or_eq_true, beq_iff_eq] at h
  obtain ⟨⟨hexists, -⟩, hmode | hmode⟩ := h
  · simp only [State.portExists, hmode, Bool.and_eq_true, beq_iff_eq] at hexists
    exact hexists.2
  · simp only [State.portExists, hmode, Bool.and_eq_true, beq_iff_eq] at hexists
    exact hexists.2.1

/-- A device has at most as many fabric ports as octets. -/
theorem length_fabricPorts_le (s : State) : ((List.range 96).filter s.isFab).length ≤ 24 := by
  have hfirst (p : Nat) (h : s.isFab p = true) : (p % 4 == 0) = true := beq_iff_eq.mpr (mod_four_of_isFab h)
  calc ((List.range 96).filter s.isFab).length
      = (List.range 96).countP s.isFab := List.countP_eq_length_filter.symm
    _ ≤ (List.range 96).countP (· % 4 == 0) := List.countP_mono_left fun p _ => hfirst p
    _ = 24 := by decide

/-- The role of a 33rd upstream port is rejected with its write (R26, log entry 70). -/
theorem portCfgWrite_of_full {s : State} {p v : Nat} (hen : s.portEn p = false) (hup : bits v 1 0 = 1)
    (hrole : s.rd PORT_CFG_ROLE p ≠ 1) (hfull : 32 ≤ s.upPorts.length) : s.portCfgWrite p v = s := by
  have hroleFull : s.roleFull p v = true := by simp [State.roleFull, hup, hrole, hfull]
  simp [State.portCfgWrite, hroleFull, hen]

/-- The mode of an idle octet that would leave more than 32 upstream ports is discarded: no check before that of the
limit rejects it (R26, log entry 70). -/
theorem octModeWrite_of_full {s : State} {k v : Nat} (hmode : v % 8 ≤ 3) (hfab : bit v 4 = true → v % 8 ≤ 1)
    (hen : bits v 11 8 = 0) (hcur : s.rd OCT_MODE_PORT_EN k = 0) (hpair : s.octMode k ≠ 4) (hchange : v % 8 ≠ s.octMode k)
    (hfull : 32 < (((s.wr OCT_MODE_MODE (v % 8) k).wr OCT_MODE_FABRIC (b2n (bit v 4)) k).wr OCT_MODE_PORT_EN 0 k).upPorts.length) :
    s.octModeWrite k v = s := by
  have hmode4 : v % 8 ≠ 4 := by omega
  have hdefined : ¬ 4 < v % 8 := by omega
  have hrole : (bit v 4 && (v % 8 == 2 || v % 8 == 3)) = false := by
    cases hb : bit v 4 with
    | false => rfl
    | true => have := hfab hb; simp; omega
  have hnone : bitsSet 0 4 = [] := by decide
  simp [State.octModeWrite, hen, hcur, hpair, hchange, hmode4, hdefined, hrole, hnone, hfull]

/-! ### The statement -/

/-- Settles O57: an octet makes one fabric port at most, and each write over its limit of upstream ports is discarded
(R26, log entry 70). -/
theorem upstreamAndFabricPortLimits : Obligations.UpstreamAndFabricPortLimits := by
  unfold Obligations.UpstreamAndFabricPortLimits
  refine ⟨length_fabricPorts_le, ?portCfg, ?octMode⟩
  case portCfg =>
    intro s t path p v a hpath hp ht hen hup hrole hfull
    rw [exec_registerWrite, registerWrite_eq_regCmd hpath, regCmd_portCfg hp ht, portCfgWrite_of_full hen hup hrole hfull]
  case octMode =>
    intro s t path k v a b hk ht hmode hfab hen hcur hpair hchange hfull
    rw [exec_octModeWrite, regCmd_octMode hk ht, octModeWrite_of_full hmode hfab hen hcur hpair hchange hfull]

end Sys2Proof.Proofs
end

section
/-! PROOFS of the statements of 02_cell_time_and_tick: tick edges, the time registers, the events of cell time, what carries
time to other devices, and the Herd messages. -/

namespace Sys2Proof.Proofs
open Sys2Proof.Machine Sys2Proof.Laws

/-! ### The guards around a command's effect -/

section
variable {s : State} {f : State → State}

theorem done_whenClock (h : s.loadedUp = true) : done (s.whenClock f) = .next (settle (f s)) := by
  rw [done_eq, whenClock_of h]

theorem done_whenLinks (h : Safety.linksUp s = true) : done (s.whenLinks f) = .next (settle (f s)) := by
  rw [done_eq, whenLinks_of h]

theorem done_whenUp (h : s.portsUp = true) : done (s.whenUp f) = .next (settle (f s)) := by
  rw [done_eq, whenUp_of h]

end

theorem halted_of_portsUp {s : State} (h : s.portsUp = true) : s.on FAULT_STATUS_HALTED = false := by
  simp only [State.portsUp, Bool.and_eq_true, Bool.not_eq_true'] at h
  obtain ⟨⟨-, hhalt⟩, -⟩ := h
  exact hhalt

/-! ### The tick edge (R29, R53) -/

theorem exec_tickEdge {s : State} (mask cues : Nat) (h : s.loadedUp = true) :
    exec (.tickEdge mask cues) s = .next (settle (s.tickEdge s.portsUp mask cues)) := done_whenClock h

theorem exec_acquiringInterval {s : State} {t : Nat} (hup : (s.advance t).portsUp = true) (hload : (s.advance t).loadedUp = true) :
    exec (.acquiringInterval t) s = .next (settle ((s.advance t).acquiringInterval (s.advance t).portsUp)) :=
  (done_eq _).trans (by rw [whenLoaded_of hload (halted_of_portsUp hup)])

/-- The state at a tick edge before the jobs of the edge: time has moved, the jobs that the last edge found unfinished are
reported, and a step and a period change that are due have taken effect. -/
def edgeReached (s : State) (mask : Nat) : State :=
  (((s.edgeTime.tickOutRise).overrunJobs s.time.overruns).setTime (fun x => { x with overruns := mask % 16 })).takeStep.periodChange

section
variable {s : State} (mask cues : Nat) (ht : s.ticking = true)
include ht

theorem tickEdge_of_running : s.tickEdge true mask cues =
    ((edgeReached s mask).tickJobs s.time.overruns mask cues).faultTick (bit mask 0) := by
  simp only [State.tickEdge, ht, Bool.not_true, Bool.false_eq_true, if_false, if_true]; rfl

/-- The edge of a halted device is the collector's alone (log entry 66). -/
theorem tickEdge_of_halted (hh : (edgeReached s mask).on FAULT_STATUS_HALTED = true) :
    s.tickEdge false mask cues = (edgeReached s mask).faultTick (bit mask 0) := by
  rw [State.tickEdge, ht]; exact if_pos hh

theorem tickEdge_of_stopped (hh : (edgeReached s mask).on FAULT_STATUS_HALTED = false) :
    s.tickEdge false mask cues = edgeReached s mask := by
  rw [State.tickEdge, ht]; exact if_neg (Bool.eq_false_iff.mp hh)

end

theorem acquiringInterval_of_not_ticking {s : State} (ht : s.ticking = false)
    (hrest : s.timeStep.herdStep.on PWR_CTRL_REST_ARM = false) : s.acquiringInterval true = s.timeStep.herdStep := by
  simp [State.acquiringInterval, ht, hrest]

/-- Settles O11: the edge by whether the device runs, is halted or neither (log entries 22, 66, 73), and the interval
that stands in for it. -/
theorem tickEdgeMovesTime : Obligations.TickEdgeMovesTime := by
  unfold Obligations.TickEdgeMovesTime
  refine ⟨fun s => rfl, ?edge, ?interval⟩
  case edge =>
    intro s mask cues m hload htick
    rw [exec_tickEdge mask cues hload]
    refine ⟨fun hup => ?_, fun hup hhalt => ?_, fun hup hhalt => ?_⟩
    · rw [hup, tickEdge_of_running mask cues htick]; rfl
    · rw [hup, tickEdge_of_stopped mask cues htick hhalt]; rfl
    · rw [hup, tickEdge_of_halted mask cues htick hhalt]; rfl
  case interval =>
    intro s t a hup hload htick hrest
    rw [exec_acquiringInterval hup hload, hup, acquiringInterval_of_not_ticking htick hrest]

/-! ### The time registers (R32, R33, R39, R52) -/

theorem exec_tickChangeAtWrite (s : State) (t path v : Nat) : exec (.tickChangeAtWrite t path v) s =
    .next (settle ((s.advance t).pairCmd path TICK_CHANGE_AT_LO TICK_CHANGE_AT_HI v)) := rfl

theorem exec_cellTimeLoad_tick (s : State) (t path v : Nat) : exec (.cellTimeLoad t path true v) s =
    .next (settle ((s.advance t).pairCmd path TICK_NUM_LOAD_LO TICK_NUM_LOAD_HI v)) := rfl

theorem exec_cellTimeLoad_time (s : State) (t path v : Nat) : exec (.cellTimeLoad t path false v) s =
    .next (settle ((s.advance t).pairCmd path CELL_TIME_LOAD_LO CELL_TIME_LOAD_HI v)) := rfl

theorem exec_timeEnableWrite (s : State) (t path v : Nat) : exec (.timeEnableWrite t path v) s =
    .next (settle ((s.advance t).regCmd path TIME_CTRL.off v)) := rfl

theorem exec_stepNow (s : State) (t path v : Nat) : exec (.stepNow t path v) s =
    .next (settle ((s.advance t).regCmd path TIME_CTRL.off v)) := rfl

section
variable {s : State} {path v : Nat}

/-- The words of a 64-bit value make it up again. -/
theorem words_of_lt (h : v < 2 ^ 64) :
    v % 2 ^ 32 % 2 ^ 32 + v / 2 ^ 32 % 2 ^ 32 % 2 ^ 32 * 2 ^ 32 = v := by omega

/-- A register below those of the ports belongs to no port. -/
theorem absent_of_lt {o i : Nat} (h : o < 0x80000) : s.absent o i = false := by
  have hport : ¬ 0x200000 ≤ o := by omega
  have hobserve : ¬ 0x81000 ≤ o := by omega
  simp [State.absent, hport, hobserve]

theorem pairCmd_tickChangeAt (ho : s.pathOpen path TICK_CHANGE_AT_HI.off = true) (hv : v < 2 ^ 64) :
    s.pairCmd path TICK_CHANGE_AT_LO TICK_CHANGE_AT_HI v = s.tickChangeAt v := by
  have habsent : s.absent TICK_CHANGE_AT_LO.off 0 = false := absent_of_lt (by decide)
  simp only [State.pairCmd, ho, if_true, State.pairWrite, habsent, Bool.false_eq_true, if_false, words_of_lt hv]

theorem pairCmd_cellTimeLoad (ho : s.pathOpen path CELL_TIME_LOAD_HI.off = true) (hv : v < 2 ^ 64) :
    s.pairCmd path CELL_TIME_LOAD_LO CELL_TIME_LOAD_HI v = s.cellTimeLoad false v := by
  have habsent : s.absent CELL_TIME_LOAD_LO.off 0 = false := absent_of_lt (by decide)
  have hother : CELL_TIME_LOAD_LO.off ≠ TICK_CHANGE_AT_LO.off := by decide
  simp only [State.pairCmd, ho, if_true, State.pairWrite, habsent, Bool.false_eq_true, if_false, hother, words_of_lt hv]

theorem pairCmd_tickNumLoad (ho : s.pathOpen path TICK_NUM_LOAD_HI.off = true) (hv : v < 2 ^ 64) :
    s.pairCmd path TICK_NUM_LOAD_LO TICK_NUM_LOAD_HI v = s.cellTimeLoad true v := by
  have habsent : s.absent TICK_NUM_LOAD_LO.off 0 = false := absent_of_lt (by decide)
  have hother : TICK_NUM_LOAD_LO.off ≠ TICK_CHANGE_AT_LO.off := by decide
  have htime : TICK_NUM_LOAD_LO.off ≠ CELL_TIME_LOAD_LO.off := by decide
  simp only [State.pairCmd, ho, if_true, State.pairWrite, habsent, Bool.false_eq_true, if_false, hother, htime, words_of_lt hv]

theorem regCmd_timeCtrl (h : Safety.takes s path TIME_CTRL 0 0 v = true) :
    s.regCmd path TIME_CTRL.off v = s.timeCtrlWrite v :=
  regCmd_sys h (by decide +kernel) rfl (by decide) (by decide) (by decide) rfl

/-- A change that meets every condition of R32 and R33 is made pending. -/
theorem tickChangeAt_of_legal (hroot : s.time.root = true) (hpend : s.time.pend = none) (hv : v ≠ 0)
    (hlead : s.time.tick + s.lead ≤ v) (hok : periodOk (s.rd TICK_PERIOD_NEXT_QUANTA) (s.rd TICK_PERIOD_NEXT_SPLIT) = true)
    (hdiv : (s.time.edge + (v - s.time.tick) * s.tTick) %
      periodOf (s.rd TICK_PERIOD_NEXT_QUANTA) (s.rd TICK_PERIOD_NEXT_SPLIT) = 0)
    (hdepth : s.treeDepth ≤ s.dMaxFor (periodOf (s.rd TICK_PERIOD_NEXT_QUANTA) (s.rd TICK_PERIOD_NEXT_SPLIT))) :
    s.tickChangeAt v = s.setTime (fun x =>
      { x with pend := some (v, s.rd TICK_PERIOD_NEXT_QUANTA, s.rd TICK_PERIOD_NEXT_SPLIT) }) := by
  have hahead : ¬ v < s.time.tick + s.lead := by omega
  have hsuits : ¬ s.dMaxFor (periodOf (s.rd TICK_PERIOD_NEXT_QUANTA) (s.rd TICK_PERIOD_NEXT_SPLIT)) < s.treeDepth := by omega
  simp [State.tickChangeAt, hroot, hpend, hv, hahead, hok, hdiv, hsuits]

theorem cellTimeLoad_of_enabled (tickNum : Bool) (h : s.on TIME_CTRL_ENABLE = true) :
    s.cellTimeLoad tickNum v = s.setOn TIME_EVENTS_LOAD_REJECTED := by
  simp [State.cellTimeLoad, h]

theorem cellTimeLoad_tickNum (h : s.on TIME_CTRL_ENABLE = false) :
    s.cellTimeLoad true v = s.wr64 TICK_NUM_LOAD_LO_VALUE TICK_NUM_LOAD_HI_VALUE v := by
  simp [State.cellTimeLoad, h]

theorem cellTimeLoad_multiple (h : s.on TIME_CTRL_ENABLE = false) (hv : v % s.tTick = 0) :
    s.cellTimeLoad false v = s.wr64 CELL_TIME_LOAD_LO_VALUE CELL_TIME_LOAD_HI_VALUE v := by
  simp [State.cellTimeLoad, h, hv]

/-- TIME_CTRL with the fields stored that a write only stores. -/
def timeCtrlFields (s : State) (v : Nat) : State :=
  (((s.wr TIME_CTRL_CELLREF_OUT_EN (bits v 6 6)).wr TIME_CTRL_TICK_OUT_EN (bits v 5 5)).wr TIME_CTRL_TICK_IN_EN (bits v 4 4)).wr
    TIME_CTRL_SOURCE (bits v 3 3)

theorem timeCtrlWrite_of_no_step (h : bit v 7 = false) :
    s.timeCtrlWrite v = (timeCtrlFields s v).timeEnable (bit v 0) := by
  simp only [State.timeCtrlWrite, h, timeCtrlFields]; rfl

theorem timeCtrlWrite_of_step (h : bit v 7 = true) :
    s.timeCtrlWrite v = ((timeCtrlFields s v).timeEnable (bit v 0)).stepNow := by
  simp only [State.timeCtrlWrite, h, timeCtrlFields]; rfl

theorem timeEnable_same {b : Bool} (h : s.on TIME_CTRL_ENABLE = b) : s.timeEnable b = s := by
  simp [State.timeEnable, h]

theorem timeEnable_on (h : s.on TIME_CTRL_ENABLE = false) :
    s.timeEnable true = ((s.setOn TIME_CTRL_ENABLE).timeTo tsACQUIRING).setTime (fun x =>
      { x with epoch := some (s.rd64 CELL_TIME_LOAD_LO_VALUE CELL_TIME_LOAD_HI_VALUE,
                              s.rd64 TICK_NUM_LOAD_LO_VALUE TICK_NUM_LOAD_HI_VALUE),
               winSteps := 0, quietSteps := 0, quietDone := false, lastView := s.rootView }) := by
  simp only [State.timeEnable, h]; rfl

theorem timeEnable_off (h : s.on TIME_CTRL_ENABLE = true) :
    s.timeEnable false = ((((s.wr TIME_CTRL_ENABLE 0).timeTo tsDISABLED).wr TIME_STATUS_SOURCE_OCTET 0x1F).timeRoot 0 0xFF).setTime
      (fun x => { x with root := false, pend := none, slew := .none, cand := none, stepReq := false, epoch := none, winSteps := 0 }) := by
  simp only [State.timeEnable, h]; rfl

end

/-- Settles O12: each register command by the operation that its register's write is. -/
theorem timeRegisterCommandsComplete : Obligations.TimeRegisterCommandsComplete := by
  unfold Obligations.TimeRegisterCommandsComplete
  refine ⟨?changeAt, ?enable, ?load, ?step⟩
  case changeAt =>
    intro s t path v a q sp hopen hv hroot hpend hne hlead hok hdiv hdepth
    rw [exec_tickChangeAtWrite, pairCmd_tickChangeAt hopen hv, tickChangeAt_of_legal hroot hpend hne hlead hok hdiv hdepth]
  case enable =>
    intro s t path v a b htakes hstep
    rw [exec_timeEnableWrite, regCmd_timeCtrl htakes, timeCtrlWrite_of_no_step hstep]
    refine ⟨fun hv hoff => ?_, fun hv hon => ?_⟩
    · rw [hv, timeEnable_on (s := timeCtrlFields a v) hoff]; rfl
    · rw [hv, timeEnable_off (s := timeCtrlFields a v) hon]; rfl
  case load =>
    intro s t path v a hv
    refine ⟨fun hopen hoff => ?_, fun hopen hoff hmul => ?_, fun hopen hon => ?_⟩
    · rw [exec_cellTimeLoad_tick, pairCmd_tickNumLoad hopen hv, cellTimeLoad_tickNum hoff]
    · rw [exec_cellTimeLoad_time, pairCmd_cellTimeLoad hopen hv, cellTimeLoad_multiple hoff hmul]
    · rw [exec_cellTimeLoad_time, pairCmd_cellTimeLoad hopen hv, cellTimeLoad_of_enabled false hon]
  case step =>
    intro s t path v a b htakes hstep hsame
    rw [exec_stepNow, regCmd_timeCtrl htakes, timeCtrlWrite_of_step hstep, timeEnable_same (s := timeCtrlFields a v) hsame]
    rfl

/-! ### The events of cell time (R33, R34, R36, R38, R42, R43, R49, R51, R54, R56) -/

section
variable {s : State} {t : Nat}

theorem exec_periodChangeEdge (h : (s.advance t).loadedUp = true) :
    exec (.periodChangeEdge t) s = .next (settle (s.advance t).periodChange) := done_whenClock h

theorem exec_cellrefLoss (h : (s.advance t).loadedUp = true) :
    exec (.cellrefLoss t) s = .next (settle (s.advance t).cellrefLoss) := done_whenClock h

theorem exec_cellrefReturn (h : (s.advance t).loadedUp = true) :
    exec (.cellrefReturn t) s = .next (settle (s.advance t).cellrefReturn) := done_whenClock h

theorem exec_tickInLoss (h : (s.advance t).loadedUp = true) :
    exec (.tickInLoss t) s = .next (settle (s.advance t).tickInLoss) := done_whenClock h

theorem exec_tickInEdge (h : (s.advance t).loadedUp = true) :
    exec (.tickInEdge t) s = .next (settle ((s.advance t).restWake 4).tickInEdge) := done_whenClock h

theorem exec_tickMark (k freq : Nat) (h : Safety.linksUp (s.advanceCt t) = true) :
    exec (.tickMark t k freq) s = .next (settle ((s.advanceCt t).tickMark k freq)) := done_whenLinks h

theorem exec_sourceLoss (k cause : Nat) (h : (s.advance t).loadedUp = true) :
    exec (.sourceLoss t k cause) s = .next (settle ((s.advance t).sourceLossEvent k cause)) := done_whenClock h

theorem exec_candidateValid (k : Nat) (off : Int) (n : Nat) (h : Safety.linksUp (s.advance t) = true) :
    exec (.candidateValid t k off n) s = .next (settle ((s.advance t).candidateValid k off n)) := done_whenLinks h

theorem exec_slewLocked (h : (s.advance t).loadedUp = true) :
    exec (.slewLocked t) s = .next (settle (s.advance t).slewLocked) := done_whenClock h

theorem exec_tickOutPulseEnd (h : (s.advance t).loadedUp = true) :
    exec (.tickOutPulseEnd t) s = .next (settle (s.advance t).tickOutEnd) := done_whenClock h

end

/-- The period of a change in force, with no change pending any more. -/
def periodInForce (s : State) (quanta split : Nat) : State :=
  ((s.setPeriod quanta split).setTime (fun x => { x with pend := none })).syncDiameter

section
variable {s : State}

theorem periodChange_of_due {n q sp : Nat} (hp : s.time.pend = some (n, q, sp)) (hn : n ≤ s.time.tick) :
    s.periodChange = ((periodInForce s q sp).gate.ports.map (·.1)).foldl (fun (x : State) p => x.changeEdgeGate p)
      (periodInForce s q sp) := by
  simp only [State.periodChange, hp, if_pos hn]; rfl

theorem cellrefLoss_of_elected (h : (s.time.root && s.timeState == tsROOT && s.time.onCellref) = true) :
    s.cellrefLoss = (s.wr TIME_STATUS_CELLREF_OK 0).enterHoldover.raise 101 := if_pos h

theorem cellrefLoss_of_other (h : (s.time.root && s.timeState == tsROOT && s.time.onCellref) = false) :
    s.cellrefLoss = s.wr TIME_STATUS_CELLREF_OK 0 := if_neg (Bool.eq_false_iff.mp h)

theorem cellrefReturn_of_not_root (h : s.time.root = false) : s.cellrefReturn = s.setOn TIME_STATUS_CELLREF_OK := by
  simp [State.cellrefReturn, h]

/-- An edge of TICK_IN that the root does not follow only tells whether it is regular (R38, log entry 35). -/
theorem tickInEdge_of_last {l : Nat} (hl : s.time.tickInLast = some l)
    (hroot : (s.on TIME_CTRL_TICK_IN_EN && s.time.root) = false) :
    s.tickInEdge = (s.wr TIME_STATUS_TICK_IN_OK (b2n (decide (s.tTick ≤ s.ns - l + 3) &&
      (decide ((s.ns - l) % s.tTick ≤ 3) || decide (s.tTick ≤ (s.ns - l) % s.tTick + 3))))).setTime
      (fun x => { x with tickInLast := some s.ns }) := by
  simp only [State.tickInEdge, hl, hroot]; rfl

/-- The port of octet `k` once the mark that its slot announced has come. -/
def markTaken (s : State) (k : Nat) : State := s.setTport k { s.tport k with markDue := false, missed := 0 }

/-- A mark of a follower's source is accepted when its number agrees; one of any other port is. -/
theorem tickMark_of_agreeing {k freq : Nat} {x : TimeSlot} (hslot : (s.tport k).slot = some x) (hdue : (s.tport k).markDue = true)
    (h : s.timeState = tsLOCKED → s.rd TIME_STATUS_SOURCE_OCTET = k → s.markNumber k = x.tick) :
    s.tickMark k freq = if s.timeState = tsACQUIRING ∧ (markTaken s k).bestSource none = some k then
      (markTaken s k).lockTo k x.tick freq else markTaken s k := by
  have hagree : ¬ (s.timeState = tsLOCKED ∧ s.rd TIME_STATUS_SOURCE_OCTET = k ∧ s.markNumber k ≠ x.tick) :=
    fun ⟨hlocked, hsource, hne⟩ => hne (h hlocked hsource)
  simp only [State.tickMark, hslot, hdue, Bool.not_true, Bool.false_eq_true, if_false, if_neg hagree, markTaken]; rfl

theorem sourceLossEvent_of_linkDown {k : Nat} (h : s.fabUp k = false) : s.sourceLossEvent k 2 = s.sourceLost k := by
  simp [State.sourceLossEvent, h]

section
variable {k : Nat} (hlocked : s.timeState = tsLOCKED) (hsource : s.rd TIME_STATUS_SOURCE_OCTET = k)
include hlocked hsource

theorem sourceLost_of_none (h : s.bestSource (some k) = none) : s.sourceLost k = s.enterHoldover.raise 97 := by
  simp only [State.sourceLost, if_pos (And.intro hlocked hsource), h]

theorem sourceLost_of_next {m : Nat} (h : s.bestSource (some k) = some m) :
    s.sourceLost k = ((s.follow m).setOn TIME_EVENTS_SOURCE_SWITCH).raise 98 { port := some (4 * m) } := by
  simp only [State.sourceLost, if_pos (And.intro hlocked hsource), h]

end

/-- The tick period that the slot of octet `k` says. -/
def slotPeriod (s : State) (k : Nat) : Nat := periodOf ((s.tport k).slot.getD {}).quanta ((s.tport k).slot.getD {}).split

/-- A small offset of a source of the same period and numbering is slewed away (R51). -/
theorem candidateValid_of_small {k n : Nat} {off : Int} (hstate : s.timeState = tsHOLDOVER) (hroot : s.time.root = false)
    (hcand : s.timeCand k = true) (hoff : off.natAbs ≤ s.rd HOLDOVER_CTRL_STEP_THRESHOLD * 65536)
    (hperiod : slotPeriod s k = s.tTick)
    (hnumber : n + s.ns / max (slotPeriod s k) 1 =
      s.time.tick + ((s.time.ct : Int) + off).toNat / 65536 / max (slotPeriod s k) 1) :
    s.candidateValid k off n = s.setTime (fun y => { y with cand := some (k, off, s.ns, n), slew := .source }) := by
  have hacts : ¬ (s.timeState ≠ tsHOLDOVER ∨ s.time.root = true ∨ (!s.timeCand k) = true) := by
    simp [hstate, hroot, hcand]
  have hsmall : (decide (off.natAbs ≤ s.rd HOLDOVER_CTRL_STEP_THRESHOLD * 65536) && (slotPeriod s k == s.tTick &&
      n + s.ns / max (slotPeriod s k) 1 == s.time.tick + ((s.time.ct : Int) + off).toNat / 65536 / max (slotPeriod s k) 1)) = true := by
    simp only [decide_eq_true hoff, beq_iff_eq.mpr hperiod, beq_iff_eq.mpr hnumber, Bool.and_self]
  unfold slotPeriod at hsmall
  simp only [State.candidateValid, if_neg hacts, hsmall]; rfl

theorem slewLocked_of_source {k m n : Nat} {off : Int} (hstate : s.timeState = tsHOLDOVER) (hslew : s.time.slew = .source)
    (hcand : s.time.cand = some (k, off, m, n)) :
    s.slewLocked = ((((s.setTime (fun x => { x with slew := .none })).setTime (fun x => { x with cand := none, stepReq := false })).timeTo
      tsLOCKED).setOn TIME_EVENTS_HOLDOVER_EXIT).follow k := by
  simp only [State.slewLocked, hslew, hcand, if_pos hstate]

theorem tickOutEnd_of_due (hout : s.time.tickOut = true) (h : s.time.edge + min (s.rd TICK_OUT_CTRL_WIDTH) (s.tTick / 2) ≤ s.ns) :
    s.tickOutEnd = (s.setTime (fun x => { x with tickOut := false })).emit (.pin 1 0 0) := by
  simp only [State.tickOutEnd, hout, decide_eq_true h, Bool.and_self, if_true]

end

/-- Settles O13: each event by the operation of its rule, on the case that its conditions single out. -/
theorem timeEventsComplete : Obligations.TimeEventsComplete := by
  unfold Obligations.TimeEventsComplete
  refine ⟨?periodChange, ?reference, ?tickIn, ?mark, ?sourceLoss, ?candidate, ?slewLocked, ?pulseEnd⟩
  case periodChange =>
    intro s t n q sp a hload hpend hdue
    rw [exec_periodChangeEdge hload, periodChange_of_due hpend hdue]
    rfl
  case reference =>
    intro s t a hload
    refine ⟨fun helected => ?_, fun hother => ?_, fun hroot => ?_, exec_tickInLoss hload⟩
    · rw [exec_cellrefLoss hload, cellrefLoss_of_elected helected]
    · rw [exec_cellrefLoss hload, cellrefLoss_of_other hother]
    · rw [exec_cellrefReturn hload, cellrefReturn_of_not_root hroot]
  case tickIn =>
    intro s t l w hload hlast hroot
    rw [exec_tickInEdge hload, tickInEdge_of_last hlast hroot]
  case mark =>
    intro s t k freq x a hlinks hslot hdue
    refine ⟨fun hlocked hnumber => ?_, fun hacquiring hbest => ?_⟩
    · have hother : ¬ (a.timeState = tsACQUIRING ∧ (markTaken a k).bestSource none = some k) :=
        fun ⟨hacquiring, _⟩ => absurd (hlocked.symm.trans hacquiring) (by decide)
      rw [exec_tickMark k freq hlinks, tickMark_of_agreeing hslot hdue fun _ => hnumber, if_neg hother]
      rfl
    · have hother : a.timeState ≠ tsLOCKED := by rw [hacquiring]; decide
      rw [exec_tickMark k freq hlinks, tickMark_of_agreeing hslot hdue fun hlocked => absurd hlocked hother,
        if_pos ⟨hacquiring, hbest⟩]
      rfl
  case sourceLoss =>
    intro s t k a hload hdown hlocked hsource
    refine ⟨fun hnone => ?_, fun m hnext => ?_⟩
    · rw [exec_sourceLoss k 2 hload, sourceLossEvent_of_linkDown hdown, sourceLost_of_none hlocked hsource hnone]
    · rw [exec_sourceLoss k 2 hload, sourceLossEvent_of_linkDown hdown, sourceLost_of_next hlocked hsource hnext]
  case candidate =>
    intro s t k off n a x p hlinks hstate hroot hcand hoff hperiod hnumber
    rw [exec_candidateValid k off n hlinks, candidateValid_of_small hstate hroot hcand hoff hperiod hnumber]
  case slewLocked =>
    intro s t k m n off a hload hstate hslew hcand
    rw [exec_slewLocked hload, slewLocked_of_source hstate hslew hcand]
  case pulseEnd =>
    intro s t a hload hout hdue
    rw [exec_tickOutPulseEnd hload, tickOutEnd_of_due hout hdue]

/-! ### What carries time to partners, hosts and cue pins (R43, R57 to R59, R320, R361) -/

section
variable {s : State} {t : Nat}

theorem exec_timeSlotSend (k : Nat) (h : Safety.linksUp (s.advance t) = true) :
    exec (.timeSlotSend t k) s = .next (settle ((s.advance t).timeSlotSend k)) := done_whenLinks h

theorem exec_ptmRequester (n host : Nat) (h : (s.advance t).portsUp = true) :
    exec (.ptmRequester t n host) s = .next (settle ((s.advance t).ptmRequester n host)) := done_whenUp h

theorem exec_ptmRequest (p : Nat) (h : (s.advance t).portsUp = true) :
    exec (.ptmRequest t p) s = .next (settle ((s.advance t).ptmRequest p)) := done_whenUp h

theorem exec_cueEdgeDue (n : Nat) (h : (s.advance t).portsUp = true) :
    exec (.cueEdgeDue t n) s = .next (settle ((s.advance t).cueEdgeDue n)) := done_whenUp h

end

section
variable {s : State}

theorem timeSlotSend_of_no_change {k : Nat} (htick : s.ticking = true) (hlink : s.fabUp k = true) (hpend : s.time.pend = none) :
    s.timeSlotSend k = s.emit (.slot k 5
      ([s.timeState] ++ leBytes 6 (s.time.tick + 1) ++ leBytes 3 (s.rd TICK_PERIOD_SPLIT * 2 ^ 20 + s.rd TICK_PERIOD_QUANTA)
        ++ [s.rd TIME_STATUS_HOPS_TO_ROOT] ++ leBytes 8 (s.rd64 ROOT_UID_LO_VALUE ROOT_UID_HI_VALUE) ++ leBytes 3 0 ++ leBytes 3 0)) := by
  simp only [State.timeSlotSend, htick, hlink, hpend, Bool.not_true, Bool.or_self, Bool.false_eq_true, if_false]; rfl

theorem ptmRequester_of_interval {n host p : Nat} (hport : s.pfPort n = some p) (hinterval : s.rd PTM_CTRL_INTERVAL ≠ 0)
    (hdue : s.time.tick % s.rd PTM_CTRL_INTERVAL = 0) (htick : s.ticking = true) (hlink : s.on PORT_STATUS_LINK_UP p = true) :
    s.ptmRequester n host = (s.wr HOST_OFFSET_LO_VALUE (ofSigned 64 ((host : Int) - (s.time.edge : Int))) n).wr HOST_OFFSET_HI_VALUE
      (ofSigned 64 ((host : Int) - (s.time.edge : Int)) / 2 ^ 32) n := by
  have hmax : max (s.rd PTM_CTRL_INTERVAL) 1 = s.rd PTM_CTRL_INTERVAL := by omega
  simp [State.ptmRequester, hport, hmax, hinterval, hdue, htick, hlink]

/-- PTM is answered with message code 0x53 (log entry 25). -/
theorem ptmRequest_of_enabled {p : Nat} (hdown : s.isDown p = true) (hlink : s.on PORT_STATUS_LINK_UP p = true)
    (hen : s.portVc p vfPtmEn = 1) : s.ptmRequest p = s.emit (.message p 0x53 (leBytes 8 s.ns)) := by
  simp [State.ptmRequest, hdown, hlink, hen]

/-- Pin `n` driven by edge `e`, with the edges `r` left in its queue. -/
def pinDriven (s : State) (n : Nat) (e : CueEdge) (r : List CueEdge) : State :=
  (s.setPin n { s.pin n with level := e.level, before := (s.pin n).level, edgeAt := e.at_, queue := r }).emit (.pin 9 n (b2n e.level))

/-- An edge that is due is driven; a descriptor's edge counts as a launch, and the last of its owner's ends the owner. -/
theorem cueEdgeDue_of_due {n : Nat} {e : CueEdge} {r : List CueEdge} (hq : (s.pin n).queue = e :: r) (hdue : e.at_ ≤ s.ns) :
    s.cueEdgeDue n =
      let driven := if e.qp.isSome then (pinDriven s n e r).inc GATE_LAUNCHED_VALUE else pinDriven s n e r
      if e.last then driven.endEdge e stOK e.at_ else driven := by
  simp only [State.cueEdgeDue, hq, if_neg (Nat.not_lt.mpr hdue)]; rfl

end

/-- Settles O14: each sender by its rule's operation; the cue edge by whether it is its owner's last and whose it is. -/
theorem timeMessagesComplete : Obligations.TimeMessagesComplete := by
  unfold Obligations.TimeMessagesComplete
  refine ⟨?slot, ?requester, ?request, ?cue⟩
  case slot =>
    intro s t k a hlinks htick hlink hpend
    rw [exec_timeSlotSend k hlinks, timeSlotSend_of_no_change htick hlink hpend]
  case requester =>
    intro s t n host p a d hup hport hinterval hdue htick hlink
    rw [exec_ptmRequester n host hup, ptmRequester_of_interval hport hinterval hdue htick hlink]
  case request =>
    intro s t p a hup hdown hlink hen
    rw [exec_ptmRequest p hup, ptmRequest_of_enabled hdown hlink hen]
  case cue =>
    intro s t n e r a b hup hq hdue
    rw [exec_cueEdgeDue n hup, cueEdgeDue_of_due hq hdue]
    refine ⟨fun hlast hqp => ?_, fun hlast hqp => ?_, fun hlast hqp => ?_⟩
    · simp only [hlast, hqp, Option.isSome_none, Bool.false_eq_true, if_false]; rfl
    · simp only [hlast, hqp, Option.isSome_none, Bool.false_eq_true, if_false, if_true]; rfl
    · simp only [hlast, hqp, if_true]; rfl

/-! ### The Herd messages as they arrive: the guard, and the reserved values of each (R35, R241, R566) -/

section
variable {s : State} {t : Nat} (hup : (s.advance t).portsUp = true)
include hup

theorem exec_hello (k uid prio port flags depth : Nat) : exec (.hello t k uid prio port flags depth) s =
    .next (settle ((s.advance t).helloIn k uid prio port flags depth)) := done_whenUp hup

theorem exec_adjacencyTimeout (k : Nat) : exec (.adjacencyTimeout t k) s =
    .next (settle ((s.advance t).adjTimeout k)) := done_whenUp hup

theorem exec_claim (k prio uid dist flags : Nat) : exec (.claim t k prio uid dist flags) s =
    .next (settle ((s.advance t).claimIn k prio uid dist flags)) := done_whenUp hup

theorem exec_timeClaim (k prio cls uid hops : Nat) : exec (.timeClaim t k prio cls uid hops) s =
    .next (settle ((s.advance t).timeClaimIn k prio cls uid hops)) := done_whenUp hup

theorem exec_join (k uid req dist : Nat) : exec (.join t k uid req dist) s =
    .next (settle ((s.advance t).joinIn k uid req dist)) := done_whenUp hup

theorem exec_assign (k uid did seq : Nat) : exec (.assign t k uid did seq) s =
    .next (settle ((s.advance t).assignIn k uid did seq)) := done_whenUp hup

theorem exec_lsu (k origin seq nbr oport nport cost delay flags : Nat) :
    exec (.lsu t k origin seq nbr oport nport cost delay flags) s =
      .next (settle ((s.advance t).lsuIn k origin seq nbr oport nport cost delay flags)) := done_whenUp hup

theorem exec_domainClaim (k uid hd port flags : Nat) : exec (.domainClaim t k uid hd port flags) s =
    .next (settle ((s.advance t).domainClaimIn k uid hd port flags)) := done_whenUp hup

theorem exec_domain (k hd did port flags claimant seq : Nat) : exec (.domain t k hd did port flags claimant seq) s =
    .next (settle ((s.advance t).domainIn k hd did port flags claimant seq)) := done_whenUp hup

theorem exec_globalUp (k op n count status value : Nat) : exec (.globalUp t k op n count status value) s =
    .next (settle ((s.advance t).globalUpIn k op n count status value)) := done_whenUp hup

theorem exec_global (k op arg value tick : Nat) : exec (.global t k op arg value tick) s =
    .next (settle ((s.advance t).globalIn k op arg value tick)) := done_whenUp hup

end

section
variable {s : State} {k : Nat}

theorem helloIn_of_legal {flags port : Nat} (uid prio depth : Nat) (hf : flags < 16) (hp : port < 96) :
    s.helloIn k uid prio port flags depth = s.hello k uid prio port flags depth := if_neg (by omega)

theorem claimIn_of_legal {flags : Nat} (prio uid dist : Nat) (hf : flags < 2) :
    s.claimIn k prio uid dist flags = s.claim k prio uid dist (bit flags 0) := if_neg (by omega)

theorem timeClaimIn_of_legal {cls : Nat} (prio uid hops : Nat) (hc : cls ≤ 2) :
    s.timeClaimIn k prio cls uid hops = s.timeClaim k { prio := prio, cls := cls, uid := uid, hops := hops } := if_neg (by omega)

theorem joinIn_of_legal {req : Nat} (uid dist : Nat) (hr : bits req 14 12 = 0) :
    s.joinIn k uid req dist = s.join uid (if bit req 15 then some (req % 4096) else none) dist := if_neg fun h => h hr

/-- An ASSIGN of a DID that no UID holds here is no violation (log entry 63). -/
theorem assignIn_of_unassigned {did : Nat} (uid seq : Nat) (hd : did < 4096) (hfree : (SMap.get s.herd.dids did {}).assigned = false) :
    s.assignIn k uid did seq = s.assign k uid did seq := by
  have hlegal : ¬ 4096 ≤ did := by omega
  simp [State.assignIn, hlegal, hfree]

theorem lsuIn_of_legal {flags origin nbr oport nport : Nat} (seq cost delay : Nat) (hf : flags < 2) (ho : origin < 4096)
    (hn : nbr < 4096) (hop : oport < 96) (hnp : nport < 96) :
    s.lsuIn k origin seq nbr oport nport cost delay flags = s.lsu k origin
      { nbr := nbr, oport := oport, nport := nport, cost := cost, delay := delay, seq := seq, up := bit flags 0 } := if_neg (by omega)

theorem domainClaimIn_of_legal {flags hd port : Nat} (uid : Nat) (hf : flags < 2) (hh : hd < 1024) (hp : port < 96) :
    s.domainClaimIn k uid hd port flags = s.domainClaimMsg uid hd port (bit flags 0) := if_neg (by omega)

theorem domainIn_of_legal {flags hd did claimant : Nat} (port seq : Nat) (hf : flags < 4) (hh : hd < 1024) (hd' : did < 4096)
    (hc : claimant < 4096) :
    s.domainIn k hd did port flags claimant seq = s.domainMsg k hd did port flags claimant seq := if_neg (by omega)

/-- The codes of arrivals, of requests and of a snapshot's report (log entry 31). -/
theorem globalUpIn_of_legal {op : Nat} (n count status value : Nat) (h : (1 ≤ op ∧ op ≤ 5) ∨ op = goSNAPSHOT + 32) :
    s.globalUpIn k op n count status value = s.globalUp k op n count status value := if_pos h

/-- The codes of announcements and of their completion (log entry 31). -/
theorem globalIn_of_legal {op : Nat} (arg value tick : Nat) (h : (1 ≤ op ∧ op ≤ 6) ∨ (17 ≤ op ∧ op ≤ 21)) :
    s.globalIn k op arg value tick = s.globalMsg k op arg value tick := if_pos h

end

/-! ### What each Herd message does (R35, R243 to R246, R250, R265 to R267) -/

/-- What a HELLO makes known of the partner of octet `k`. -/
def heardAdj (s : State) (k uid prio port flags depth : Nat) : Adj :=
  { s.adj k with uid := uid, prio := prio, port := port, heard := true, age := 0, heardYou := bit flags 0,
                 child := bit flags 1, joined := bit flags 2, depth := depth, did := (s.didOf uid).getD 0 }

/-- The time vector that octet `k` offers once a TIME_CLAIM has been heard there: one hop further on, or none when it is
withdrawn or has come too far (log entry 69). -/
def claimHeard (s : State) (k : Nat) (v : TimeVec) : State :=
  s.setTime (fun y => { y with
    claims := SMap.set y.claims k (if v.prio = 0xFF ∨ 254 ≤ v.hops then none else some { v with hops := v.hops + 1 }) none,
    claimSeen := y.claimSeen || v.prio != 0xFF })

section
variable {s : State} {k : Nat}

/-- HELLO of the partner that is known, or of the first one. -/
theorem hello_of_known {uid : Nat} (prio port flags depth : Nat) (hon : s.herdOn = true) (hlink : s.fabUp k = true)
    (hknown : (s.adj k).heard = true → (s.adj k).uid = uid) :
    s.hello k uid prio port flags depth =
      if bit flags 0 && !(s.adj k).twoWay then (s.setAdj k (heardAdj s k uid prio port flags depth)).adjUp k
      else s.setAdj k (heardAdj s k uid prio port flags depth) := by
  have hsame : ((s.adj k).heard && (s.adj k).uid != uid) = false := by
    cases hheard : (s.adj k).heard with
    | false => rfl
    | true => simp [hknown hheard]
  simp only [State.hello, hon, hlink, Bool.not_true, Bool.or_self, hsame, Bool.false_eq_true, if_false]; rfl

theorem adjTimeout_of_silent (hheard : (s.adj k).heard = true) (hage : 3 ≤ (s.adj k).age) : s.adjTimeout k = s.adjDown k := by
  simp [State.adjTimeout, hheard, hage]

theorem claim_of_twoWay (prio uid dist : Nat) (est : Bool) (hon : s.herdOn = true) (htwo : (s.adj k).twoWay = true) :
    s.claim k prio uid dist est =
      (s.setAdj k { s.adj k with claim := some { prio := prio, uid := uid, dist := dist, est := est } }).elect (some k) := by
  simp only [State.claim, hon, htwo, Bool.not_true, Bool.or_self, Bool.false_eq_true, if_false]

theorem timeClaim_of_same (v : TimeVec) (hlink : s.fabUp k = true) (h : (claimHeard s k v).bestTime = s.bestTime) :
    s.timeClaim k v = claimHeard s k v := by
  unfold claimHeard at h ⊢
  simp only [State.timeClaim, hlink, Bool.not_true, Bool.false_eq_true, if_false, h, beq_self_eq_true, if_true]

/-- A change of the best vector is passed on to the other ports (R35). -/
theorem timeClaim_of_change (v : TimeVec) {b : TimeVec} (hlink : s.fabUp k = true) (hbest : (claimHeard s k v).bestTime = some b)
    (hne : s.bestTime ≠ some b) : s.timeClaim k v = (claimHeard s k v).flood (some k) hmTIME_CLAIM b.body := by
  have hchange : (some b == s.bestTime) = false := beq_eq_false_iff_ne.mpr hne.symm
  unfold claimHeard at hbest ⊢
  simp only [State.timeClaim, hlink, Bool.not_true, Bool.false_eq_true, if_false, hbest, hchange]

theorem join_of_on (uid : Nat) (req : Option Nat) (dist : Nat) (hon : s.herdOn = true) :
    s.join uid req dist = if s.isRoot then s.rootAssign uid req dist else s.toParent hmJOIN (joinBody uid req) := by
  simp only [State.join, hon, Bool.not_true, Bool.false_eq_true, if_false]

theorem assign_of_unknown {uid did : Nat} (seq : Nat) (hon : s.herdOn = true) (hnew : s.didOf uid ≠ some did) :
    s.assign k uid did seq = (s.flood (some k) hmASSIGN (assignBody uid did seq)).assignEffect uid did := by
  have hunknown : (s.didOf uid == some did) = false := beq_eq_false_iff_ne.mpr hnew
  simp only [State.assign, hon, hunknown, Bool.not_true, Bool.false_and, Bool.or_self, Bool.false_eq_true, if_false]

/-- An LSU stored and passed on to the other ports. -/
def lsuSpread (s : State) (k origin : Nat) (l : Lsu) : State := (s.putLsu origin l).flood (some k) hmLSU (lsuBody origin l)

/-- A newer LSU that teaches no device ID behind a port of this device. -/
theorem lsu_of_newer {origin : Nat} {l : Lsu} (hon : s.herdOn = true)
    (hnew : ∀ o, s.lsuAt origin (l.oport / 4) = some o → newer l.seq o.seq = true)
    (hown : (s.on HERD_STATUS_DID_VALID && origin == s.did) = false)
    (hlearn : ((lsuSpread s k origin l).on HERD_STATUS_DID_VALID && l.nbr == (lsuSpread s k origin l).did
      && ((lsuSpread s k origin l).adj (l.nport / 4)).twoWay
      && ((lsuSpread s k origin l).didOf ((lsuSpread s k origin l).adj (l.nport / 4)).uid).isNone) = false) :
    s.lsu k origin l = (lsuSpread s k origin l).announceEpoch := by
  unfold lsuSpread at hlearn ⊢
  cases hold : s.lsuAt origin (l.oport / 4) with
  | none => simp only [State.lsu, hold, hon, hown, hlearn, Bool.not_true, Bool.or_self, Bool.false_eq_true, if_false]
  | some o => simp only [State.lsu, hold, hon, hown, hlearn, hnew o hold, Bool.not_true, Bool.or_self, Bool.false_eq_true, if_false]

theorem domainClaimMsg_of_on (uid hd port : Nat) (claim : Bool) (hon : s.herdOn = true) :
    s.domainClaimMsg uid hd port claim = s.domainClaim uid hd port claim := if_pos hon

theorem domainClaim_of_root (uid hd port : Nat) (claim : Bool) (hroot : s.isRoot = true) :
    s.domainClaim uid hd port claim = s.setHerd (fun h => { h with claims := h.claims ++
      [{ uid := uid, did := (s.didOf uid).getD 0, hd := hd, port := port, claim := claim }] }) := if_pos hroot

theorem domainClaim_of_not_root (uid hd port : Nat) (claim : Bool) (hroot : s.isRoot = false) :
    s.domainClaim uid hd port claim = s.toParent hmDOMAIN_CLAIM (claimBody uid hd port claim) :=
  if_neg (Bool.eq_false_iff.mp hroot)

theorem domainMsg_of_newer {seq : Nat} (hd did port flags claimant : Nat) (hon : s.herdOn = true) (hroot : s.isRoot = false)
    (hnew : newer seq s.herd.domSeq = true) :
    s.domainMsg k hd did port flags claimant seq =
      ((s.setHerd (fun h => { h with domSeq := seq })).flood (some k) hmDOMAIN
        (domainBody hd did port flags claimant seq)).domainEffect hd did port flags claimant := by
  simp only [State.domainMsg, hon, hroot, hnew, Bool.not_true, Bool.or_self, Bool.false_eq_true, if_false]

theorem globalUp_of_arrival (n count status value : Nat) (hon : s.herdOn = true) :
    s.globalUp k goBARRIER n count status value = s.arrive (some k) n count (bit status 0) := by
  simp only [State.globalUp, hon, Bool.not_true, Bool.false_eq_true, if_false, if_true]

theorem globalUp_of_report (n count status value : Nat) (hon : s.herdOn = true) :
    s.globalUp k (goSNAPSHOT + 32) n count status value = s.report (some k) n count (bit status 0) := by
  have hother : goSNAPSHOT + 32 ≠ goBARRIER := by decide
  simp only [State.globalUp, hon, Bool.not_true, Bool.false_eq_true, if_false, hother, if_true]

theorem globalUp_of_request {op : Nat} (n count status value : Nat) (hon : s.herdOn = true) (hl : 2 ≤ op) (hu : op ≤ 5) :
    s.globalUp k op n count status value =
      if s.isRoot then s.rootRequest op n status value else s.toParent hmGLOBAL_UP (globalUpBody op n count status value) := by
  have harrival : op ≠ goBARRIER := fun h => absurd (h ▸ hl) (by decide)
  have hreport : op ≠ goSNAPSHOT + 32 := fun h => absurd (h ▸ hu) (by decide)
  simp only [State.globalUp, hon, Bool.not_true, Bool.false_eq_true, if_false, harrival, hreport, hu, if_true]

/-- An announcement of an operation that is new here and lies ahead. -/
theorem globalMsg_of_ahead {op arg value tick : Nat} (hon : s.herdOn = true) (hroot : s.isRoot = false) (hop : op ≤ 5)
    (hepoch : op ≠ goEPOCH)
    (hnew : s.herd.ops.contains { op := op, arg := arg, value := value, tick := fillTick s.time.tick tick } = false)
    (hahead : s.time.tick < fillTick s.time.tick tick) :
    s.globalMsg k op arg value tick =
      (s.announced { op := op, arg := arg, value := value, tick := fillTick s.time.tick tick }).flood (some k) hmGLOBAL
        (globalBody op arg value tick) := by
  have hannounces : op < 16 := by omega
  have hnotPast : decide (fillTick s.time.tick tick ≤ s.time.tick) = false := decide_eq_false (Nat.not_le.mpr hahead)
  simp only [State.globalMsg, hon, hroot, hannounces, hepoch, hnew, hnotPast, Bool.not_true, Bool.or_self, Bool.false_eq_true,
    if_false, if_true]

/-- COMPLETE is taken from the parent only. -/
theorem globalMsg_of_complete {op : Nat} (arg value tick : Nat) (hon : s.herdOn = true) (hroot : s.isRoot = false) (hop : 17 ≤ op)
    (hparent : s.herd.parent = some k) :
    s.globalMsg k op arg value tick =
      (s.flood (some k) hmGLOBAL (globalBody op arg value tick)).completed (op - 16) arg value := by
  have hcompletes : ¬ op < 16 := by omega
  simp only [State.globalMsg, hon, hroot, hcompletes, hparent, Bool.not_true, Bool.or_self, Bool.false_eq_true, if_false,
    beq_self_eq_true, if_true]

end

/-- Settles O24: each message, legal as it is, by the operation of its rule (operation numbers of log entry 31). -/
theorem herdMessagesComplete : Obligations.HerdMessagesComplete := by
  unfold Obligations.HerdMessagesComplete
  refine ⟨?hello, ?timeout, ?claim, ?timeClaim, ?join, ?assign, ?lsu, ?domainClaim, ?domain, ?globalUp, ?global⟩
  case hello =>
    intro s t k uid prio port flags depth a x hup hon hlink hflags hport hknown
    rw [exec_hello hup, helloIn_of_legal uid prio depth hflags hport, hello_of_known prio port flags depth hon hlink hknown]
    exact ⟨fun hno => by rw [if_neg (Bool.eq_false_iff.mp hno)]; rfl, fun hyes => by rw [if_pos hyes]; rfl⟩
  case timeout =>
    intro s t k a hup hheard hage
    rw [exec_adjacencyTimeout hup, adjTimeout_of_silent hheard hage]
  case claim =>
    intro s t k prio uid dist flags a hup hon htwo hflags
    rw [exec_claim hup, claimIn_of_legal prio uid dist hflags, claim_of_twoWay prio uid dist _ hon htwo]
  case timeClaim =>
    intro s t k prio cls uid hops a x b hup hlink hcls
    rw [exec_timeClaim hup, timeClaimIn_of_legal prio uid hops hcls]
    refine ⟨fun hsame => ?_, fun v hbest hne => ?_⟩
    · rw [timeClaim_of_same ⟨prio, cls, uid, hops⟩ hlink hsame]; rfl
    · rw [timeClaim_of_change ⟨prio, cls, uid, hops⟩ hlink hbest hne]; rfl
  case join =>
    intro s t k uid req dist a r hup hon hreq
    rw [exec_join hup, joinIn_of_legal uid dist hreq, join_of_on uid _ dist hon]
  case assign =>
    intro s t k uid did seq a hup hon hdid hfree hnew
    rw [exec_assign hup, assignIn_of_unassigned uid seq hdid hfree, assign_of_unknown seq hon hnew]
  case lsu =>
    intro s t k origin seq nbr oport nport cost delay flags a l b hup hon hflags horigin hnbr hoport hnport hnew hown hlearn
    rw [exec_lsu hup, lsuIn_of_legal seq cost delay hflags horigin hnbr hoport hnport, lsu_of_newer hon hnew hown hlearn]
    rfl
  case domainClaim =>
    intro s t k uid hd port flags a hup hon hflags hhd hport
    rw [exec_domainClaim hup, domainClaimIn_of_legal uid hflags hhd hport, domainClaimMsg_of_on uid hd port _ hon]
    exact ⟨fun hroot => by rw [domainClaim_of_root uid hd port _ hroot],
      fun hroot => by rw [domainClaim_of_not_root uid hd port _ hroot]⟩
  case domain =>
    intro s t k hd did port flags claimant seq a hup hon hroot hnew hflags hhd hdid hclaimant
    rw [exec_domain hup, domainIn_of_legal port seq hflags hhd hdid hclaimant,
      domainMsg_of_newer hd did port flags claimant hon hroot hnew]
  case globalUp =>
    intro s t k op n count status value a hup hon
    rw [exec_globalUp hup]
    refine ⟨fun hop => ?_, fun hop => ?_, fun hl hu => ?_⟩
    · subst hop
      rw [globalUpIn_of_legal n count status value (by decide), globalUp_of_arrival n count status value hon]
    · subst hop
      rw [globalUpIn_of_legal n count status value (by decide), globalUp_of_report n count status value hon]
    · rw [globalUpIn_of_legal n count status value (Or.inl ⟨by omega, hu⟩), globalUp_of_request n count status value hon hl hu]
  case global =>
    intro s t k op arg value tick a n hup hon hroot
    rw [exec_global hup]
    refine ⟨fun hl hu hepoch hnew hahead => ?_, fun hl hu hparent => ?_⟩
    · rw [globalIn_of_legal arg value tick (Or.inl ⟨hl, by omega⟩), globalMsg_of_ahead hon hroot hu hepoch hnew hahead]
    · rw [globalIn_of_legal arg value tick (Or.inr ⟨hl, hu⟩), globalMsg_of_complete arg value tick hon hroot hl hparent]

end Sys2Proof.Proofs
end

section
/-! PROOFS of the statements of 03_forwarding_pipeline: the image of a flow entry (R83). -/

namespace Sys2Proof.Proofs
open Sys2Proof.Machine Sys2Proof.Laws

/-! ### Words cut into fields that stand side by side -/

/-- A word made of fields, lowest first, of the given widths. -/
def packFields : List Nat → List Nat → Nat
  | w :: ws, x :: xs => x + 2 ^ w * packFields ws xs
  | _, _ => 0

/-- The fields of a word from bit `lo` on, lowest first, of the given widths. -/
def cutFields : Nat → List Nat → Nat → List Nat
  | _, [], _ => []
  | lo, w :: ws, v => v / 2 ^ lo % 2 ^ w :: cutFields (lo + w) ws v

/-- Each field fits its width. -/
def FieldsFit : List Nat → List Nat → Prop
  | [], [] => True
  | w :: ws, x :: xs => x < 2 ^ w ∧ FieldsFit ws xs
  | _, _ => False

/-- An induction over widths together with the fields that fit them. -/
theorem fieldsFit_induction {motive : List Nat → List Nat → Prop} (nil : motive [] [])
    (cons : ∀ w x ws xs, x < 2 ^ w → FieldsFit ws xs → motive ws xs → motive (w :: ws) (x :: xs)) :
    ∀ ws xs, FieldsFit ws xs → motive ws xs
  | [], [], _ => nil
  | w :: ws, x :: xs, ⟨hx, h⟩ => cons w x ws xs hx h (fieldsFit_induction nil cons ws xs h)

theorem packFields_lt {ws xs : List Nat} (h : FieldsFit ws xs) : packFields ws xs < 2 ^ ws.sum := by
  refine fieldsFit_induction (motive := fun ws xs => packFields ws xs < 2 ^ ws.sum) (Nat.two_pow_pos 0) ?_ ws xs h
  intro w x ws xs hx _ ih
  rw [packFields, List.sum_cons, Nat.pow_add]
  calc x + 2 ^ w * packFields ws xs < 2 ^ w + 2 ^ w * packFields ws xs := Nat.add_lt_add_right hx _
    _ = 2 ^ w * (packFields ws xs + 1) := by rw [Nat.mul_add_one, Nat.add_comm]
    _ ≤ 2 ^ w * 2 ^ ws.sum := Nat.mul_le_mul_left _ ih

/-- Fields that fit their widths are read back from the word that they make, wherever it stands in a larger one. -/
theorem cutFields_packFields {ws xs : List Nat} (h : FieldsFit ws xs) :
    ∀ lo v, v / 2 ^ lo = packFields ws xs → cutFields lo ws v = xs := by
  refine fieldsFit_induction (motive := fun ws xs => ∀ lo v, v / 2 ^ lo = packFields ws xs → cutFields lo ws v = xs)
    (fun _ _ _ => rfl) ?_ ws xs h
  intro w x ws xs hx _ ih lo v hv
  rw [packFields] at hv
  have hfield : v / 2 ^ lo % 2 ^ w = x := by rw [hv, Nat.add_mul_mod_self_left, Nat.mod_eq_of_lt hx]
  have hrest : v / 2 ^ (lo + w) = packFields ws xs := by
    rw [Nat.pow_add, ← Nat.div_div_eq_div_mul, hv, Nat.add_mul_div_left _ _ (Nat.two_pow_pos w), Nat.div_eq_of_lt hx, Nat.zero_add]
  rw [cutFields, hfield, ih _ _ hrest]

/-- The fields of a word make it up again: its bits from `lo` on, as many as the widths cover. -/
theorem packFields_cutFields (ws : List Nat) : ∀ lo v, packFields ws (cutFields lo ws v) = v / 2 ^ lo % 2 ^ ws.sum := by
  induction ws with
  | nil => intro lo v; rw [List.sum_nil, Nat.pow_zero, Nat.mod_one, packFields]; exact fun _ _ _ _ h => nomatch h
  | cons w ws ih =>
    intro lo v
    rw [cutFields, packFields, ih, List.sum_cons, Nat.pow_add, Nat.pow_add, ← Nat.div_div_eq_div_mul, ← Nat.mod_mul]

/-! ### The image of a flow entry as such a word -/

theorem b2n_lt_two (b : Bool) : b2n b < 2 := by cases b <;> decide

/-- A bit of a word is a flag as it stands in a register. -/
theorem mod_two_eq_b2n {x : Nat} {b : Bool} : x % 2 = b2n b ↔ (x % 2 == 1) = b := by
  obtain h | h := Nat.mod_two_eq_zero_or_one x <;> cases b <;> simp [b2n, h]

/-- The widths of the fields of a flow entry's image from bit 0 up, the reserved bits and VALID among them (R83). -/
def flowWidths : List Nat := [36, 3, 1, 2, 1, 1, 18, 1, 3, 1, 13, 1, 2, 32, 12, 1]

/-- What stands in the fields of the image of a valid entry. -/
def flowFields (e : FlowEnt) : List Nat :=
  [0, e.mirSess, b2n e.mirEn, e.hop, b2n e.hopEn, b2n e.reroutable, e.meter, b2n e.meterEn, e.sl, b2n e.slEn, e.sub, b2n e.subEn,
   e.action, e.stream, e.src, 1]

/-- An entry whose fields have the widths of R83. -/
def FlowFits (e : FlowEnt) : Prop := FieldsFit flowWidths (flowFields e)

theorem flowFits_iff {e : FlowEnt} : FlowFits e ↔ e.mirSess < 8 ∧ e.hop < 4 ∧ e.meter < 262144 ∧ e.sl < 8 ∧ e.sub < 8192 ∧
    e.action < 4 ∧ e.stream < 4294967296 ∧ e.src < 4096 := by
  simp only [FlowFits, FieldsFit, flowWidths, flowFields, Nat.reducePow, Nat.reduceLT, b2n_lt_two, true_and, and_true]

theorem image_eq_packFields {e : FlowEnt} (h : FlowFits e) : e.image = packFields flowWidths (flowFields e) := by
  obtain ⟨hsess, hhop, hmeter, hsl, hsub, haction, hstream, hsrc⟩ := flowFits_iff.mp h
  simp only [FlowEnt.image, flowWidths, flowFields, packFields]
  omega

/-- A word is cut into the fields of an entry exactly when that entry is read from it, VALID is set and the reserved bits
are 0: the fields that reading takes, with these, are the whole layout. -/
theorem cutFields_eq_flowFields {v : Nat} {e : FlowEnt} :
    cutFields 0 flowWidths v = flowFields e ↔ FlowEnt.ofImage v = e ∧ bit v 127 = true ∧ bits v 35 0 = 0 := by
  cases e
  simp only [cutFields, flowWidths, flowFields, FlowEnt.ofImage, bits, bit, List.cons.injEq, FlowEnt.mk.injEq, mod_two_eq_b2n,
    Nat.reduceAdd, Nat.reduceSub, Nat.reducePow, beq_iff_eq, true_and, and_assoc, and_comm, and_left_comm]

theorem cutFields_image {e : FlowEnt} (h : FlowFits e) : cutFields 0 flowWidths e.image = flowFields e :=
  cutFields_packFields h 0 e.image (by rw [Nat.pow_zero, Nat.div_one, image_eq_packFields h])

theorem image_lt {e : FlowEnt} (h : FlowFits e) : e.image < 2 ^ 128 := by
  rw [image_eq_packFields h]; exact packFields_lt h

theorem flowFits_ofImage (v : Nat) : FlowFits (FlowEnt.ofImage v) := by
  simp only [flowFits_iff, FlowEnt.ofImage, bits]
  omega

theorem image_ofImage {v : Nat} (hlt : v < 2 ^ 128) (hvalid : bit v 127 = true) (hres : bits v 35 0 = 0) :
    (FlowEnt.ofImage v).image = v := by
  rw [image_eq_packFields (flowFits_ofImage v), ← cutFields_eq_flowFields.mpr ⟨rfl, hvalid, hres⟩, packFields_cutFields,
    Nat.pow_zero, Nat.div_one]
  exact Nat.mod_eq_of_lt hlt

/-- Settles O50: an image is the word made of its entry's fields, and cutting that word gives the fields back. -/
theorem flowImagesRoundTrip : Obligations.FlowImagesRoundTrip := by
  unfold Obligations.FlowImagesRoundTrip
  refine ⟨fun e hsrc hstream haction hsub hsl hmeter hhop hsess => ?_, fun v => image_ofImage⟩
  have hfits : FlowFits e := flowFits_iff.mpr ⟨hsess, hhop, hmeter, hsl, hsub, haction, hstream, hsrc⟩
  obtain ⟨hread, hvalid, hres⟩ := cutFields_eq_flowFields.mp (cutFields_image hfits)
  exact ⟨hread, image_lt hfits, hvalid, hres⟩

end Sys2Proof.Proofs
end

section
/-! PROOFS of the statements of 03_forwarding_pipeline: fabric packets for this device that no test discards, by what
becomes of them (R97), and the delivery of those that it takes itself. -/

namespace Sys2Proof.Proofs
open Sys2Proof.Machine Sys2Proof.Laws

/-! ### The row of a packet -/

section
variable {s : State} {p : Nat} {h : FabHdr} {data : List Nat}

/-- The row of a packet kind is the arrival of a packet of that kind. -/
theorem done_packetRow {kind : Bool} (hk : kind = true) :
    done (s.whenUp (fun u => u.packetRow kind p h data)) = done (s.whenUp (fun u => u.arrivePkt p h data)) := by
  simp only [State.packetRow, hk, if_true]

theorem msgKind_iff {c : Nat} : msgKind c h data = true ↔ h.type = tMESSAGE ∧ h.drain = false ∧ msgCodeOf data = c := by
  simp [msgKind, and_assoc]

theorem done_arrivePkt {u : State} (hup : s.portsUp = true) (hfab : s.isFab p = true) (hlink : s.fabUp (p / 4) = true)
    (hdst : h.dst = s.did) (hdecide : s.decidePkt (s.arrived p h data) true data = some u) :
    done (s.whenUp (fun u => u.arrivePkt p h data)) = .next (settle u) := by
  rw [done_whenUp hup, State.arrivePkt, hfab, hlink, hdst, beq_self_eq_true, hdecide]; rfl

end

/-! ### The decision order for a packet that no test discards (R97) -/

section
variable {s : State} {k : Pkt} {data : List Nat} {ecrcOk : Bool}

theorem decidePkt_of_done {u : State} (h : s.verdict k ecrcOk data = .done u) : s.decidePkt k ecrcOk data = some u := by
  simp only [State.decidePkt, h]

/-- Only a metered packet is counted by its colour (R147). -/
theorem countColour_unmetered (h : k.metered = false) : s.countColour k = s := by
  simp [State.countColour, h]

section
variable (hmal : s.malformed k ecrcOk data = false) (hport : s.portContained k.ing = false) (hhd : k.hd = none)
  (hfroz : s.streamFrozen k.ing (streamReq k.keyStream) = false) (hact : s.actionOf k = 0)
include hmal hport hhd hfroz hact

/-- A packet bound for a port that takes it comes to the late tests with that port as its egress. -/
theorem verdict_of_queue {q : Nat} {outs : List QPkt} {held : Bool} (hform : s.formOf k data = .queue q outs held)
    (hq : s.egressContained q = false) (hfab : s.isFab q = false) (hhdq : ∀ d, s.portHd q = some d → s.hdContained d = false)
    (hsize : outs.any (s.tooLarge q) = false) :
    s.verdict k ecrcOk data = s.verdictLate { k with egress := q } data (.queue q outs held) 0 := by
  cases hd : s.portHd q with
  | none => simp [State.verdict, hmal, hport, hhd, hfroz, hact, hform, hq, hsize, State.destHd, hfab, hd]
  | some d => simp [State.verdict, hmal, hport, hhd, hfroz, hact, hform, hq, hsize, State.destHd, hfab, hd, hhdq d hd]

theorem verdict_of_inside {outs : List QPkt} (hform : s.formOf k data = .inside outs) :
    s.verdict k ecrcOk data = s.verdictLate k data (.inside outs) 0 := by
  simp [State.verdict, hmal, hport, hhd, hfroz, hact, hform]

theorem verdict_of_endpoint {f : Nat} {x : Tlp} {body : List Nat} (hform : s.formOf k data = .endpoint f x body) :
    s.verdict k ecrcOk data = s.verdictLate k data (.endpoint f x body) 0 := by
  simp [State.verdict, hmal, hport, hhd, hfroz, hact, hform]

end

/-- A fabric request as it waits for the management function, the answer owed to its source (R383). -/
def endpointRequest (k : Pkt) (f : Nat) (x : Tlp) (body : List Nat) : QPkt :=
  { id := f, ing := k.ing, fab := false, hdr := k.hdr, tlp := x, data := body,
    owner := .fabric k.hdr.src k.hdr.stream k.hdr.tag k.hdr.addr false x.fbe x.lbe }

section
variable (hmeter : k.metered = false)
include hmeter

theorem verdictLate_inside_one (o : QPkt) (hown : o.owner = .none) : s.verdictLate k data (.inside [o]) 0 =
    .done ((({ s with loop := s.loop ++ [o] } : State).touchLines o).settleCommit k) := by
  unfold State.verdictLate
  simp [hmeter, countColour_unmetered, State.takeNp, hown]

theorem verdictLate_endpoint (hfab : k.fab = true) (f : Nat) (x : Tlp) (body : List Nat) :
    s.verdictLate k data (.endpoint f x body) 0 =
      .done (({ s with loop := s.loop ++ [endpointRequest k f x body] } : State).settleCommit k) := by
  unfold State.verdictLate
  simp [hmeter, countColour_unmetered, hfab, endpointRequest]

/-- A packet that admission takes at a PCIe port leaves its entries, its debit and its copies behind. -/
theorem verdictLate_queue {q : Nat} {outs : List QPkt} {held : Bool} {u : State} (htimed : k.timedDelay = none)
    (hfab : s.isFab q = false) (hlink : (s.freeHeadroom k.cells).linkAll q k.colour held outs = some u) :
    s.verdictLate k data (.queue q outs held) 0 = .done (((u.endAsked k).commitDebit k).ingressCopies k q data) := by
  unfold State.verdictLate
  cases outs <;> simp [hmeter, countColour_unmetered, htimed, hfab, hlink]

end

end

/-! ### The forms of fabric packets for this device (R236, R374 to R377) -/

/-- The packets that address local fabric space: WRITE, READ, INTERRUPT and the masked accesses. -/
def LocalRequest (h : FabHdr) (data : List Nat) : Prop :=
  h.type = tWRITE ∨ h.type = tREAD ∨ h.type = tINTERRUPT ∨
    (h.type = tMESSAGE ∧ h.drain = false ∧ (msgCodeOf data = 1 ∨ msgCodeOf data = 2))

section
variable {h : FabHdr} {data : List Nat}

theorem not_localRequest_of_type (ht : h.type ≠ tWRITE ∧ h.type ≠ tREAD ∧ h.type ≠ tINTERRUPT ∧ h.type ≠ tMESSAGE) :
    ¬ LocalRequest h data := by
  simp [LocalRequest, ht]

/-- Of the messages, the masked accesses alone are local requests. -/
theorem localRequest_iff_of_message (ht : h.type = tMESSAGE) :
    LocalRequest h data ↔ h.drain = false ∧ (msgCodeOf data = 1 ∨ msgCodeOf data = 2) := by
  simp [LocalRequest, ht, tWRITE, tREAD, tINTERRUPT, tMESSAGE]

theorem not_localRequest_of_drain (ht : h.type = tMESSAGE) (hd : h.drain = true) : ¬ LocalRequest h data := by
  simp [localRequest_iff_of_message ht, hd]

theorem not_localRequest_of_code {c : Nat} (ht : h.type = tMESSAGE) (hc : msgCodeOf data = c) (hmask : c ≠ 1 ∧ c ≠ 2) :
    ¬ LocalRequest h data := by
  simp [localRequest_iff_of_message ht, hc, hmask]

end

section
variable {s : State} {k : Pkt} {data : List Nat} (hfab : k.fab = true) (hdst : k.hdr.dst = s.did)
include hfab hdst

theorem formOf_of_localRequest (h : LocalRequest k.hdr data) : s.formOf k data = s.localForm k data := by
  unfold LocalRequest at h
  simp only [State.formOf, hfab, hdst, if_true, if_pos h]

theorem formOf_of_not_localRequest (h : ¬ LocalRequest k.hdr data) :
    s.formOf k data = .inside [k.mark { fab := true, hdr := k.hdr, data := data, le := k.len }] := by
  unfold LocalRequest at h
  simp only [State.formOf, hfab, hdst, if_true, if_neg h]

end

theorem malformed_of_fab {s : State} {k : Pkt} {ecrcOk : Bool} {data : List Nat} (hfab : k.fab = true) (hdst : k.hdr.dst = s.did)
    (h : fabMalformed k.hdr data true = false) : s.malformed k ecrcOk data = false := by
  simp only [State.malformed, hfab, hdst, beq_self_eq_true, if_true, h]

/-! ### Requests to local fabric space (R374 to R377) -/

/-- Settles O28: each of the five kinds is a request to local fabric space, and its form decides which of the two ends it
comes to. -/
theorem fabricRequestsComplete : Obligations.FabricRequestsComplete := by
  unfold Obligations.FabricRequestsComplete
  intro s t p h data i a k hup hfab hlink hdst hmal hport hfroz hact hrow
  have hkind : exec i s = done (a.whenUp (fun u => u.arrivePkt p h data)) ∧ LocalRequest h data := by
    rcases hrow with ⟨rfl, ht⟩ | ⟨rfl, ht⟩ | ⟨rfl, ht⟩ | ⟨ht, hd, ⟨rfl, hc⟩ | ⟨rfl, hc⟩⟩
    · exact ⟨done_packetRow (beq_iff_eq.mpr ht), Or.inl ht⟩
    · exact ⟨done_packetRow (beq_iff_eq.mpr ht), Or.inr (Or.inl ht)⟩
    · exact ⟨done_packetRow (beq_iff_eq.mpr ht), Or.inr (Or.inr (Or.inl ht))⟩
    · exact ⟨done_packetRow (msgKind_iff.mpr ⟨ht, hd, hc⟩), Or.inr (Or.inr (Or.inr ⟨ht, hd, Or.inl hc⟩))⟩
    · exact ⟨done_packetRow (msgKind_iff.mpr ⟨ht, hd, hc⟩), Or.inr (Or.inr (Or.inr ⟨ht, hd, Or.inr hc⟩))⟩
  obtain ⟨hexec, hlocal⟩ := hkind
  have hform : a.formOf k data = a.localForm k data := formOf_of_localRequest rfl hdst hlocal
  have hmal' : a.malformed k true data = false := malformed_of_fab rfl hdst hmal
  rw [hexec]
  refine ⟨fun q outs held u hq hcont hpcie hhd hsize hall => ?queue, fun f x body hend => ?endpoint⟩
  case queue =>
    refine done_arrivePkt hup hfab hlink hdst (decidePkt_of_done ?_)
    rw [verdict_of_queue hmal' hport rfl hfroz hact (hform.trans hq) hcont hpcie hhd hsize]
    exact verdictLate_queue (k := { k with egress := q }) rfl rfl hpcie hall
  case endpoint =>
    refine done_arrivePkt hup hfab hlink hdst (decidePkt_of_done ?_)
    rw [verdict_of_endpoint hmal' hport rfl hfroz hact (hform.trans hend)]
    exact verdictLate_endpoint rfl rfl f x body

/-! ### Packets that the device itself takes (R238, R240, R259, R260, R263, R380, R406 to R408) -/

section
variable {s : State} {o : QPkt} (hfab : o.fab = true)
include hfab

theorem deliver_completion (ht : o.hdr.type = tCOMPLETION) : s.deliver o = s.deliverCompletion o := by
  simp [State.deliver, hfab, ht]

theorem deliver_mirror (ht : o.hdr.type = tMIRROR) : s.deliver o = s.mirrorIn o.hdr.src o.data := by
  simp [State.deliver, hfab, ht, tMIRROR, tCOMPLETION]

theorem deliver_cue (ht : o.hdr.type = tCUE) : s.deliver o = s.cuePacket o.hdr o.data := by
  simp [State.deliver, hfab, ht, tCUE, tMIRROR, tCOMPLETION]

theorem deliver_admin (ht : o.hdr.type = tADMIN) : s.deliver o = s.deliverAdmin o := by
  simp [State.deliver, hfab, ht, tADMIN, tCUE, tMIRROR, tCOMPLETION]

theorem deliver_message {c : Nat} (ht : o.hdr.type = tMESSAGE) (hc : msgCodeOf o.data = c) (hmask : c ≠ 1 ∧ c ≠ 2) :
    s.deliver o = s.deliverMessage o := by
  simp [State.deliver, hfab, ht, hc, hmask, tMESSAGE, tADMIN, tCUE, tMIRROR, tCOMPLETION]

end

/-- Settles O27: every row of a delivered kind brings the packet to the queue of deliveries, from which each kind is
delivered by its own operation. -/
theorem deliveredPacketsComplete : Obligations.DeliveredPacketsComplete := by
  unfold Obligations.DeliveredPacketsComplete
  refine ⟨?arrival, ?delivery⟩
  case arrival =>
    intro s t p h data i a k o hup hfab hlink hdst hmal hport hfroz hact hrow
    have hkind : exec i s = done (a.whenUp (fun u => u.arrivePkt p h data)) ∧ ¬ LocalRequest h data := by
      rcases hrow with ⟨rfl, ht⟩ | ⟨rfl, ht⟩ | ⟨rfl, ht⟩ | ⟨rfl, ht⟩ | ⟨rfl, ht, htag⟩ | ⟨rfl, ht, hloss⟩ | ⟨rfl, ht, hdrain⟩ |
        ⟨ht, hd, hcode⟩
      · exact ⟨done_packetRow (beq_iff_eq.mpr ht), not_localRequest_of_type (by rw [ht]; decide)⟩
      · exact ⟨done_packetRow (beq_iff_eq.mpr ht), not_localRequest_of_type (by rw [ht]; decide)⟩
      · exact ⟨done_packetRow (beq_iff_eq.mpr ht), not_localRequest_of_type (by rw [ht]; decide)⟩
      · exact ⟨done_packetRow (beq_iff_eq.mpr ht), not_localRequest_of_type (by rw [ht]; decide)⟩
      · exact ⟨done_packetRow (by simp [ht, htag]), not_localRequest_of_type (by rw [ht]; decide)⟩
      · exact ⟨done_packetRow (by simp [ht, hloss]), not_localRequest_of_type (by rw [ht]; decide)⟩
      · exact ⟨done_packetRow (by simp [ht, hdrain]), not_localRequest_of_drain ht hdrain⟩
      · rcases hcode with ⟨rfl, hc⟩ | ⟨rfl, hc⟩ | ⟨rfl, hc⟩ | ⟨rfl, hc⟩ | ⟨rfl, hc⟩ | ⟨rfl, hc⟩ | ⟨rfl, hc⟩ <;>
          exact ⟨done_packetRow (msgKind_iff.mpr ⟨ht, hd, hc⟩), not_localRequest_of_code ht hc (by decide)⟩
    obtain ⟨hexec, hinside⟩ := hkind
    rw [hexec]
    refine done_arrivePkt hup hfab hlink hdst (decidePkt_of_done ?_)
    have hmal' : a.malformed k true data = false := malformed_of_fab rfl hdst hmal
    have hform : a.formOf k data = .inside [o] := formOf_of_not_localRequest rfl hdst hinside
    rw [verdict_of_inside hmal' hport rfl hfroz hact hform]
    exact verdictLate_inside_one rfl o rfl
  case delivery =>
    intro s o hfab
    refine ⟨deliver_cue hfab, deliver_mirror hfab, deliver_admin hfab, deliver_completion hfab, fun ht hd => ?_⟩
    refine ⟨fun hc => ?_, fun hc => ?_, fun hc => ?_, fun hc => ?_, fun hc => ?_, fun hc => ?_, fun hc => ?_⟩ <;>
      simp [deliver_message hfab ht hc (by decide), State.deliverMessage, hd, hc]

end Sys2Proof.Proofs
end

section
/-! PROOFS of the statements of 03_forwarding_pipeline: the stages of the pipeline (R69 to R111), its registers (R104, R107)
and the FLOW_SET descriptors (R85 to R91). -/

namespace Sys2Proof.Proofs
open Sys2Proof.Machine Sys2Proof.Laws

/-! ### The rows of the pipeline -/

section
variable {s : State} {t : Nat}

theorem exec_packetParse (p : Nat) (h : FabHdr) (x : Tlp) (hup : (s.advance t).portsUp = true) :
    exec (.packetParse t p h x) s = .next (settle ((s.advance t).packetParse p h x)) := done_whenUp hup

theorem exec_specRecordGrant (n : Nat) (hup : (s.advance t).portsUp = true) :
    exec (.specRecordGrant t n) s = .next (settle ((s.advance t).specRecordGrant n)) := done_whenUp hup

theorem exec_lookupSlotGrant (n : Nat) (hup : (s.advance t).portsUp = true) :
    exec (.lookupSlotGrant t n) s = .next (settle (((s.advance t).eccLookup n).lookupSlotGrant n)) := done_whenUp hup

theorem exec_headroomReserve (n : Nat) (hup : (s.advance t).portsUp = true) :
    exec (.headroomReserve t n) s = .next (settle ((s.advance t).headroomRow n)) := done_whenUp hup

theorem exec_packetCommit (n : Nat) (ok ecrcOk : Bool) (data : List Nat) (hup : (s.advance t).portsUp = true) :
    exec (.packetCommit t n ok ecrcOk data) s = .next (settle ((s.advance t).commitRow n ok ecrcOk data)) := done_whenUp hup

end

theorem exec_captureArm (s : State) (t path v : Nat) :
    exec (.captureArm t path v) s = .next (settle ((s.advance t).regCmd path FWD_CTRL.off v)) := rfl

theorem exec_sessionEnable (s : State) (t path n v : Nat) :
    exec (.sessionEnable t path n v) s = .next (settle ((s.advance t).regCmd path (SESS_CTRL.addr n) v)) := rfl

/-! ### The stages of a packet (R69, R70, R92, R97, R111) -/

section
variable {s : State} {n : Nat} {k : Pkt}

/-- A header that arrives at a fabric port is a packet of its stream (R81). -/
theorem packetParse_of_fab {p : Nat} (h : FabHdr) (x : Tlp) (hex : s.portExists p = true) (hfab : s.isFab p = true) :
    s.packetParse p h x = { s with fwd := { s.fwd with nextId := s.fwd.nextId + 1, pkts := s.fwd.pkts ++
      [{ id := s.fwd.nextId, ing := p, pipe := p / 4, fab := true, hdr := h, tlp := {}, tc := streamTc h.stream,
         sl := s.slOf p (streamTc h.stream), keyDid := (s.keyOf p h x).1, keyStream := (s.keyOf p h x).2, hd := s.portHd p,
         len := 32 + h.payload }] } } := by
  simp only [State.packetParse, hex, hfab, if_true]

section
variable (hk : s.pkt n = some k)
include hk

theorem specRecordGrant_of_free (hstage : k.stage = .parsed) (hfree : (s.records k.ing).2 < (s.records k.ing).1) :
    s.specRecordGrant n = s.setPkt { k with stage := .recorded } := by
  simp only [State.specRecordGrant, hk, if_pos (And.intro hstage hfree)]

theorem lookupSlotGrant_of_recorded (hstage : k.stage = .recorded) :
    s.lookupSlotGrant n =
      let c := s.classify { k with cells := 0 } none none
      let r := s.debit { c with cells := 0, stage := .looked }
      r.1.setPkt { r.2 with out := { r.2.out with le := c.cells } } := by
  simp only [State.lookupSlotGrant, hk, if_pos hstage]

theorem headroomReserve_of_room (hstage : k.stage = .looked)
    (hroom : s.buf.headroomUsed + k.out.le ≤ s.rd BUF_HEADROOM_CELLS) (htimed : k.timedDelay = none) :
    s.headroomReserve n = (s.takeHeadroom k.out.le).setPkt { k with stage := .reserved, cells := k.out.le } := by
  simp only [State.headroomReserve, hk, if_pos (And.intro hstage (And.intro hroom (Or.inl htimed)))]

theorem packetCommit_of_bad (ecrcOk : Bool) (data : List Nat) :
    s.packetCommit n false ecrcOk data = (s.dropPkt n).undo k := by
  simp only [State.packetCommit, hk, Bool.not_false, if_true]

/-- A good packet that no prefetch line may answer is decided. -/
theorem packetCommit_of_good {ecrcOk : Bool} {data : List Nat} {u : State} (hstage : k.stage = .reserved)
    (hread : (s.dropPkt n).pfRead k = none) (hdecide : (s.dropPkt n).decidePkt k ecrcOk data = some u) :
    s.packetCommit n true ecrcOk data = u := by
  simp [State.packetCommit, hk, hstage, hread, hdecide]

section
variable (hpcie : k.fab = false)
include hpcie

/-- No flit waits for the pipeline behind a packet from a PCIe port. -/
theorem headroomRow_of_pcie : s.headroomRow n = s.headroomReserve n := by
  simp [State.headroomRow, hk, hpcie]

theorem commitRow_of_pcie (ok ecrcOk : Bool) (data : List Nat) :
    s.commitRow n ok ecrcOk data = s.packetCommit n ok ecrcOk data := by
  simp [State.commitRow, hk, hpcie]

end

end

end

/-! ### The registers of FORWARD with an effect of their own (R104, R107) -/

theorem regAt_sessCtrl : ∀ n < 8, regAt (SESS_CTRL.addr n) = some (SESS_CTRL, n, 0) := by decide +kernel

theorem sessCtrl_addr (n : Nat) : SESS_CTRL.addr n = 0x280800 + n * 0x20 := by simp [RegDesc.addr, SESS_CTRL]

section
variable {s : State} {path n v : Nat}

theorem regCmd_fwdCtrl (h : Safety.takes s path FWD_CTRL 0 0 v = true) :
    s.regCmd path FWD_CTRL.off v = s.fwdCtrlWrite v :=
  regCmd_fab h (by decide +kernel) rfl (by decide) (by decide) (by decide) rfl

theorem regCmd_sessCtrl (hn : n < 8) (h : Safety.takes s path SESS_CTRL n 0 v = true) :
    s.regCmd path (SESS_CTRL.addr n) v = s.sessCtrlWrite n v := by
  have haddr := sessCtrl_addr n
  exact regCmd_fab h (regAt_sessCtrl n hn) rfl (by omega) (by omega) (by decide) rfl

theorem fwdCtrlWrite_of_arm (h : bit v 1 = true) :
    s.fwdCtrlWrite v = (s.wr FWD_CTRL_FLOW_EN (bits v 0 0)).setOn FWD_CTRL_CAPTURE_ARM := by
  simp only [State.fwdCtrlWrite, h, if_true]

/-- SESS_CTRL with its fields stored. -/
def sessCtrlFields (s : State) (n v : Nat) : State :=
  (((s.wr SESS_CTRL_EN (bits v 31 31) n).wr SESS_CTRL_SL (bits v 30 28) n).wr SESS_CTRL_SLOT_SIZE (bits v 27 26) n).wr
    SESS_CTRL_SAMPLE_N (bits v 25 10) n

/-- A session that the write enables starts at sequence 0, with no packet sampled. -/
theorem sessCtrlWrite_of_enable (hen : bit v 31 = true) (hoff : s.on SESS_CTRL_EN n = false) :
    s.sessCtrlWrite n v =
      { (sessCtrlFields s n v).wr SESS_SEQ_VALUE 0 n with
        fwd := { (sessCtrlFields s n v).fwd with sessSeen := SMap.set (sessCtrlFields s n v).fwd.sessSeen n 0 0 } } := by
  simp only [State.sessCtrlWrite, hen, hoff, Bool.not_false, Bool.and_self, if_true]; rfl

end

/-- Settles O15: each stage of the pipeline, and each register, by the case of its operation that the conditions name. -/
theorem pipelineCommandsComplete : Obligations.PipelineCommandsComplete := by
  unfold Obligations.PipelineCommandsComplete
  refine ⟨?parse, ?record, ?lookup, ?headroom, ?commit, ?capture, ?session⟩
  case parse =>
    intro s t p h x a hup hex hfab
    rw [exec_packetParse p h x hup, packetParse_of_fab h x hex hfab]
  case record =>
    intro s t n k a hup hk hstage hfree
    rw [exec_specRecordGrant n hup, specRecordGrant_of_free hk hstage hfree]
  case lookup =>
    intro s t n k a c r hup hk hstage
    rw [exec_lookupSlotGrant n hup, lookupSlotGrant_of_recorded hk hstage]
  case headroom =>
    intro s t n k a hup hk hpcie hstage hroom htimed
    rw [exec_headroomReserve n hup, headroomRow_of_pcie hk hpcie, headroomReserve_of_room hk hstage hroom htimed]
  case commit =>
    intro s t n ecrcOk data k a hup hk hpcie
    refine ⟨?bad, fun hstage hread u hdecide => ?good⟩
    case bad => rw [exec_packetCommit n _ _ _ hup, commitRow_of_pcie hk hpcie, packetCommit_of_bad hk]
    case good => rw [exec_packetCommit n _ _ _ hup, commitRow_of_pcie hk hpcie, packetCommit_of_good hk hstage hread hdecide]
  case capture =>
    intro s t path v a htakes harm
    rw [exec_captureArm, regCmd_fwdCtrl htakes, fwdCtrlWrite_of_arm harm]
  case session =>
    intro s t path n v a b hn htakes hen hoff
    rw [exec_sessionEnable, regCmd_sessCtrl hn htakes, sessCtrlWrite_of_enable hen hoff]
    rfl

/-! ### FLOW_SET (R85, R86, R90, R91) -/

/-- A row of a started descriptor of its operation is that operation. -/
theorem done_whenUp_onOp {s : State} {q i : Nat} {d : Desc} {ok : Desc → Bool} {f : State → State} (hup : s.portsUp = true)
    (hready : Safety.ready s q i d = true) (hok : ok d = true) :
    done (s.whenUp (fun u => u.onOp q i ok f)) = .next (settle (f s)) := by
  rw [done_whenUp hup, onOp_ready hready hok]

section
variable {s : State} {t q i : Nat} {d : Desc} (hup : (s.advance t).portsUp = true)
  (hready : Safety.ready (s.advance t) q i d = true) (hop : d.opcode = 0x10)
include hup hready hop

theorem exec_flowSetAdd (hsub : byteAt d.img 56 = 1) :
    exec (.flowSetAdd t q i) s = .next (settle ((s.advance t).flowAdd q i)) :=
  done_whenUp_onOp hup hready (by simp [hop, hsub])

theorem exec_flowSetReplace (hsub : byteAt d.img 56 = 2) :
    exec (.flowSetReplace t q i) s = .next (settle ((s.advance t).flowReplace q i)) :=
  done_whenUp_onOp hup hready (by simp [hop, hsub])

theorem exec_flowSetDelete (hsub : byteAt d.img 56 = 3) :
    exec (.flowSetDelete t q i) s = .next (settle ((s.advance t).flowDelete q i)) :=
  done_whenUp_onOp hup hready (by simp [hop, hsub])

theorem exec_flowSetRead (hsub : byteAt d.img 56 = 4) :
    exec (.flowSetRead t q i) s = .next (settle ((s.advance t).flowRead q i)) :=
  done_whenUp_onOp hup hready (by simp [hop, hsub])

end

/-- The image of the entry of a key; 0 where the key has none (R90). -/
def imageOfKey (s : State) (did stream : Nat) : Nat :=
  match s.findFlow did stream with
  | some n => s.flowImage n
  | none => 0

section
variable {s : State} {q i : Nat} {d : Desc} (hready : Safety.ready s q i d = true)
include hready

/-- A new key takes the place that is found for it, without a record (R86). -/
theorem flowAdd_of_placed {u : State} {n : Nat} (hok : d.flowOk true = true)
    (hnew : s.findFlow (FlowEnt.ofImage d.flowImg).src (FlowEnt.ofImage d.flowImg).stream = none)
    (hplace : s.placeFor (FlowEnt.ofImage d.flowImg).src (FlowEnt.ofImage d.flowImg).stream = some (u, n)) :
    s.flowAdd q i = (((u.setFlow n (some (FlowEnt.ofImage d.flowImg))).setRec n none).syncFlows).finish q d stOK := by
  rw [State.flowAdd, withDesc_ready hready]
  simp only [hnew, hplace, Option.isNone_none, hok, Bool.and_self, guardDesc_true]

theorem flowRead_of_data (hok : d.flowOk false = true) (hdata : (s.qp q).dataBase ≠ 0) :
    s.flowRead q i = s.finish q d stOK 0
      (some (leBytes 16 (imageOfKey s (FlowEnt.ofImage d.flowImg).src (FlowEnt.ofImage d.flowImg).stream))) := by
  rw [State.flowRead, withDesc_ready hready, guardDesc_true hok, State.finishData, if_neg hdata]
  rfl

section
variable {n : Nat} (hfind : s.findFlow (FlowEnt.ofImage d.flowImg).src (FlowEnt.ofImage d.flowImg).stream = some n)
  (hbegun : s.flowBegun q i = false)
  (hmoving : s.moving (FlowEnt.ofImage d.flowImg).src (FlowEnt.ofImage d.flowImg).stream = false)
include hfind hbegun hmoving

/-- An entry whose packets keep their hop is replaced at once (R91). -/
theorem flowReplace_of_unmoved (hok : d.flowOk true = true)
    (hmove : s.needsMove n ((s.flowAt n).getD {}) (FlowEnt.ofImage d.flowImg).hopSel = none) :
    s.flowReplace q i = (s.setFlow n (some (FlowEnt.ofImage d.flowImg))).finish q d stOK := by
  rw [State.flowReplace, withDesc_ready hready]
  simp only [hfind, guardDesc_true hok, hbegun, hmoving, hmove, Bool.false_eq_true, if_false]

theorem flowDelete_of_unmoved (hok : d.flowOk false = true) (hmove : s.needsMove n ((s.flowAt n).getD {}) none = none) :
    s.flowDelete q i = (((s.setFlow n none).setRec n none).syncFlows).finish q d stOK := by
  rw [State.flowDelete, withDesc_ready hready]
  simp only [hfind, guardDesc_true hok, hbegun, hmoving, hmove, Bool.false_eq_true, if_false]

end

end

/-- Settles O16: each operation of the ready descriptor, on the case that its conditions single out. -/
theorem flowSetCompletes : Obligations.FlowSetCompletes := by
  unfold Obligations.FlowSetCompletes
  refine ⟨?add, ?replace, ?delete, ?read⟩
  case add =>
    intro s u t q i n d a e hup hready hop hsub hok hnew hplace
    rw [exec_flowSetAdd hup hready hop hsub, flowAdd_of_placed hready hok hnew hplace]
  case replace =>
    intro s t q i n d a e hup hready hop hsub hok hfind hbegun hmoving hmove
    rw [exec_flowSetReplace hup hready hop hsub, flowReplace_of_unmoved hready hfind hbegun hmoving hok hmove]
  case delete =>
    intro s t q i n d a e hup hready hop hsub hok hfind hbegun hmoving hmove
    rw [exec_flowSetDelete hup hready hop hsub, flowDelete_of_unmoved hready hfind hbegun hmoving hok hmove]
  case read =>
    intro s t q i d a e hup hready hop hsub hok hdata
    rw [exec_flowSetRead hup hready hop hsub, flowRead_of_data hready hok hdata]
    rfl

end Sys2Proof.Proofs
end

section
/-! PROOFS of the statements of 04_buffers_and_overflow: spilling, refilling and the memory channels (R119 to R136), the colour
limits of the shared pool (R115) and the writes that would make it too small (R110). -/

namespace Sys2Proof.Proofs
open Sys2Proof.Machine Sys2Proof.Laws

/-! ### The rows of the buffers and of the memory channels -/

section
variable {s : State} {t : Nat} (hup : (s.advance t).portsUp = true)
include hup

theorem exec_spillWriteDone (n : Nat) :
    exec (.spillWriteDone t n) s = .next (settle ((s.advance t).spillWriteDone n)) := done_whenUp hup

theorem exec_refillStart (n : Nat) :
    exec (.refillStart t n) s = .next (settle ((s.advance t).refillStart n)) := done_whenUp hup

theorem exec_refillComplete (n ch result : Nat) : exec (.refillComplete t n ch result) s =
    .next (settle ((s.advance t).refillComplete n ch (refillResult result))) := done_whenUp hup

theorem exec_mr4Poll (hot : Nat) :
    exec (.mr4Poll t hot) s = .next (settle ((s.advance t).mr4Poll hot)) := done_whenUp hup

theorem exec_dramSelfRefresh :
    exec (.dramSelfRefresh t) s = .next (settle (s.advance t).dramSelfRefresh) := done_whenUp hup

theorem exec_dramTrainingDone (fail : Nat) :
    exec (.dramTrainingDone t fail) s = .next (settle ((s.advance t).dramTrainingDone fail)) := done_whenUp hup

end

theorem exec_dramInit (s : State) (t path v : Nat) :
    exec (.dramInit t path v) s = .next (settle ((s.advance t).regCmd path DRAM_CTRL.off v)) := rfl

theorem exec_dramCfgWrite (s : State) (t path v : Nat) :
    exec (.dramCfgWrite t path v) s = .next (settle ((s.advance t).regCmd path DRAM_CFG.off v)) := rfl

/-! ### The registers of BUFFER with an effect of their own -/

section
variable {s : State} {path v : Nat}

theorem regCmd_dramCtrl (h : Safety.takes s path DRAM_CTRL 0 0 v = true) :
    s.regCmd path DRAM_CTRL.off v = s.dramCtrlWrite v :=
  regCmd_fab h (by decide +kernel) rfl (by decide) (by decide) (by decide) rfl

theorem regCmd_dramCfg (h : Safety.takes s path DRAM_CFG 0 0 v = true) :
    s.regCmd path DRAM_CFG.off v = s.dramCfgWrite v :=
  regCmd_fab h (by decide +kernel) rfl (by decide) (by decide) (by decide) rfl

theorem regCmd_bufHeadroom (h : Safety.takes s path BUF_HEADROOM 0 0 v = true) :
    s.regCmd path BUF_HEADROOM.off v = s.headroomWrite v :=
  regCmd_fab h (by decide +kernel) rfl (by decide) (by decide) (by decide) rfl

theorem regCmd_ovfCtrl (h : Safety.takes s path OVF_CTRL 0 0 v = true) :
    s.regCmd path OVF_CTRL.off v = s.ovfCtrlWrite v :=
  regCmd_fab h (by decide +kernel) rfl (by decide) (by decide) (by decide) rfl

end

/-! ### Spilling and refilling (R119, R121, R123) -/

section
variable {s : State} {n : Nat} {p : QPkt} {r : List QPkt}

theorem spillWriteDone_of_staged (h : (s.queue n).staged = p :: r) : s.spillWriteDone n =
    (({ s with buf := { s.buf with stagedUsed := s.buf.stagedUsed - cellsOf p.le } }.setQueue n
      { s.queue n with staged := r, stagedCells := (s.queue n).stagedCells - cellsOf p.le, tail := (s.queue n).tail ++ [p] }).syncCells).wr
      DRAM_STATUS_SELF_REFRESH 0 := by
  simp only [State.spillWriteDone, h]

/-- A spilling queue whose on-chip part has run low is served (R121). -/
theorem refillStart_of_low (hspill : (s.queue n).spill = true) (hbehind : (s.queue n).behind ≠ 0)
    (hlow : (s.queue n).onchip < (s.queue n).refillThr) : s.refillStart n =
      ((s.setQueue n { s.queue n with refilling := true }).issueRefill n ((s.queue n).behind + 1)).spillExit n := by
  simp only [State.refillStart, if_pos (And.intro hspill (And.intro hbehind (Or.inl hlow)))]

/-- A clean read joins the head; a queue that no longer refills issues no further read. -/
theorem refillComplete_of_clean (ch : Nat) (hlate : (s.queue n).late = 0) (hrefill : (s.queue n).refill = p :: r)
    (hstop : ((s.joinHead n p).queue n).refilling = false) :
    s.refillComplete n ch .clean = (s.joinHead n p).spillExit n := by
  have hontime : ¬ (s.queue n).late ≠ 0 := not_not_intro hlate
  simp only [State.refillComplete, if_neg hontime, hrefill, hstop, Bool.false_eq_true, if_false]

end

/-! ### The memory channels (R132, R133, R135, R136) -/

section
variable {s : State}

theorem mr4Poll_of_ready (hot : Nat) (h : s.on DRAM_STATUS_READY = true) : s.mr4Poll hot =
    (bitsSet (hot % 256) 8).foldl (fun u c =>
      if bit (s.rd DRAM_CFG_CH_EN) c && !bit (s.rd DRAM_STATUS_HOT) c then u.raise 53 { arg := c } else u)
      (s.wr DRAM_STATUS_HOT (Nat.land hot (s.rd DRAM_CFG_CH_EN))) := if_pos h

theorem dramSelfRefresh_of_idle (hready : s.on DRAM_STATUS_READY = true) (hset : s.rd DRAM_CTRL_SR_IDLE_TICKS ≠ 0)
    (hidle : s.dramIdle = true) (hticks : s.rd DRAM_CTRL_SR_IDLE_TICKS ≤ s.buf.idleTicks) :
    s.dramSelfRefresh = s.enterSelfRefresh := by
  have hacts : (s.on DRAM_STATUS_READY && s.rd DRAM_CTRL_SR_IDLE_TICKS != 0 && s.dramIdle &&
      decide (s.rd DRAM_CTRL_SR_IDLE_TICKS ≤ s.buf.idleTicks)) = true := by
    rw [hready, hidle, bne_iff_ne.mpr hset, decide_eq_true hticks]; rfl
  simp only [State.dramSelfRefresh, if_pos hacts]

/-- The state in which the training of all channels of CH_EN has passed and the memory is not yet ready. -/
def trainingPassed (s : State) : State :=
  { (s.wr DRAM_CFG_CH_EN (s.rd DRAM_CFG_CH_EN)).wr DRAM_STATUS_TRAIN_FAIL
      (Nat.lor (Nat.land (s.rd DRAM_STATUS_TRAIN_FAIL) (255 - s.rd DRAM_CFG_CH_EN)) 0) with
    buf := { s.buf with initRun := false } }

/-- The memory ready with every block of its channels free. -/
def dramReady (s : State) : State :=
  ((({ s with buf := { s.buf with freeBlocks := s.dramBlocks, totalBlocks := s.dramBlocks } }.wr DRAM_STATUS_READY 1).wr
    OVF_BLOCKS_TOTAL_TOTAL s.dramBlocks).wr DRAM_STATUS_HOT 0).syncBlocks

/-- With no failing channel no channel leaves CH_EN, and none raises an event. -/
theorem dramTrainingDone_of_passed (hrun : s.buf.initRun = true) (hen : s.rd DRAM_CFG_CH_EN ≠ 0) :
    s.dramTrainingDone 0 = dramReady (trainingPassed s) := by
  have hbad : Nat.land 0 (s.rd DRAM_CFG_CH_EN) = 0 := Nat.zero_and _
  have hnone : bitsSet 0 8 = [] := by decide
  simp only [State.dramTrainingDone, if_pos hrun, hbad, hnone, List.foldl_nil, Nat.sub_zero, if_neg hen]
  rfl

variable {v : Nat}

theorem dramCtrlWrite_of_init (h : bit v 31 = true) : s.dramCtrlWrite v =
    { ((s.wr DRAM_CTRL_SR_IDLE_TICKS v).wr DRAM_STATUS_READY 0).wr DRAM_STATUS_SELF_REFRESH 0 with
      buf := { s.buf with initRun := false } } := if_pos h

theorem dramCfgWrite_of_stopped (hready : s.on DRAM_STATUS_READY = false) (hrate : bits v 7 6 ≠ 3) (hsize : bits v 4 3 ≠ 3)
    (hdensity : bits v 2 0 < 4) : s.dramCfgWrite v =
      (((((s.wr DRAM_CFG_CH_EN (bits v 15 8)).wr DRAM_CFG_RATE (bits v 7 6)).wr DRAM_CFG_RANKS (bits v 5 5)).wr
        DRAM_CFG_CH_SIZE (bits v 4 3)).wr DRAM_CFG_DENSITY (bits v 2 0)).dramStart := by
  have hrefused : ¬ (s.on DRAM_STATUS_READY = true ∨ bits v 7 6 = 3 ∨ bits v 4 3 = 3 ∨ 4 ≤ bits v 2 0) := by
    rintro (h | h | h | h)
    · exact Bool.false_ne_true (hready.symm.trans h)
    · exact hrate h
    · exact hsize h
    · exact Nat.not_le.mpr hdensity h
  rw [State.dramCfgWrite, if_neg hrefused]

end

/-- Settles O17: each command by the case of its operation that the conditions name. -/
theorem bufferCommandsComplete : Obligations.BufferCommandsComplete := by
  unfold Obligations.BufferCommandsComplete
  refine ⟨?spillWrite, ?refillStart, ?refillComplete, ?mr4, ?selfRefresh, ?training, ?init, ?cfg⟩
  case spillWrite =>
    intro s t n p r a q hup hstaged
    rw [exec_spillWriteDone hup, spillWriteDone_of_staged hstaged]
  case refillStart =>
    intro s t n a q hup hspill hbehind hlow
    rw [exec_refillStart hup, refillStart_of_low hspill hbehind hlow]
  case refillComplete =>
    intro s t n ch p r a hup hlate hrefill hstop
    have hclean : refillResult 0 = .clean := rfl
    rw [exec_refillComplete hup, hclean, refillComplete_of_clean ch hlate hrefill hstop]
  case mr4 =>
    intro s t hot a hup hready
    rw [exec_mr4Poll hup, mr4Poll_of_ready hot hready]
  case selfRefresh =>
    intro s t a hup hready hset hidle hticks
    rw [exec_dramSelfRefresh hup, dramSelfRefresh_of_idle hready hset hidle hticks]
  case training =>
    intro s t a en b hup hrun hen
    rw [exec_dramTrainingDone hup, dramTrainingDone_of_passed hrun hen]
    rfl
  case init =>
    intro s t path v a htakes hinit
    rw [exec_dramInit, regCmd_dramCtrl htakes, dramCtrlWrite_of_init hinit]
  case cfg =>
    intro s t path v a htakes hready hrate hsize hdensity
    rw [exec_dramCfgWrite, regCmd_dramCfg htakes, dramCfgWrite_of_stopped hready hrate hsize hdensity]

/-! ### The shared pool (R110, R115) -/

section
variable (s : State)

theorem colourOk_green : s.colourOk cGREEN = true := if_pos rfl

theorem colourOk_yellow_iff :
    s.colourOk cYELLOW = true ↔ s.buf.sharedUsed * 100 < s.rd BUF_SHARED_CFG_YELLOW_PCT * s.sharedTotal := by
  have hgreen : cYELLOW ≠ cGREEN := by decide
  rw [State.colourOk, if_neg hgreen, if_pos rfl, decide_eq_true_iff]

theorem colourOk_red_iff :
    s.colourOk cRED = true ↔ s.buf.sharedUsed * 100 < s.rd BUF_SHARED_CFG_RED_PCT * s.sharedTotal := by
  have hgreen : cRED ≠ cGREEN := by decide
  have hyellow : cRED ≠ cYELLOW := by decide
  rw [State.colourOk, if_neg hgreen, if_neg hyellow, decide_eq_true_iff]

end

/-- Settles O53: the test by its colour; its shared pool is what the other pools leave (`State.sharedTotal`). -/
theorem colourLimitsOfTheSharedPool : Obligations.ColourLimitsOfTheSharedPool := by
  unfold Obligations.ColourLimitsOfTheSharedPool
  exact fun s => ⟨colourOk_green s, colourOk_yellow_iff s, colourOk_red_iff s⟩

theorem poolsOk_eq_false_iff {headroom stage mins : Nat} :
    poolsOk headroom stage mins = false ↔ 262144 < headroom + stage + mins + 4096 := by
  rw [poolsOk, decide_eq_false_iff_not, Nat.not_le, totalCells]

/-- A write that its owner refuses sets the flag and changes nothing else. -/
theorem tryWrite_of_refused {s : State} {flag : Fld} {f : State → State} (h : (f (s.wr flag 0)).on flag = true) :
    s.tryWrite flag f = (trREJECTED, s.setOn flag) := if_pos h

theorem on_poolRejected (s : State) : s.poolRejected.on BUF_STATUS_CFG_REJECTED = true := by
  rw [State.poolRejected, State.setOn, State.on, rd_wr]
  decide

section
variable {s : State}

theorem headroomWrite_of_short {v : Nat}
    (h : 262144 < v % 2 ^ 18 + s.rd OVF_CTRL_STAGE_CELLS + s.rd BUF_MIN_TOTAL_CELLS + 4096) :
    s.headroomWrite v = s.poolRejected := by
  simp only [State.headroomWrite, poolsOk_eq_false_iff.mpr h, Bool.false_eq_true, if_false]

theorem ovfCtrlWrite_of_short {v : Nat} (hlegal : 33 ≤ v % 2 ^ 16)
    (h : 262144 < s.rd BUF_HEADROOM_CELLS + v % 2 ^ 16 + s.rd BUF_MIN_TOTAL_CELLS + 4096) :
    s.ovfCtrlWrite v = s.poolRejected := by
  simp only [State.ovfCtrlWrite, if_neg (Nat.not_lt.mpr hlegal), poolsOk_eq_false_iff.mpr h, Bool.false_eq_true, if_false]

section
variable {q : Nat} {ws : List Nat}
  (hlegal : ¬ (ws.getD 1 0 % 2 ^ 16 ≤ bits (ws.getD 1 0) 31 16 ∨ ws.getD 1 0 % 2 ^ 16 < 33))
  (h : 262144 < s.rd BUF_HEADROOM_CELLS + s.rd OVF_CTRL_STAGE_CELLS +
    (s.rd BUF_MIN_TOTAL_CELLS - (s.queue q).minCells + ws.getD 0 0 % 2 ^ 16) + 4096)
include hlegal h

theorem bufTableWrite_of_short : s.bufTableWrite q ws = s.poolRejected := by
  simp only [State.bufTableWrite, if_neg hlegal, poolsOk_eq_false_iff.mpr h, Bool.false_eq_true, if_false]

/-- A configuration of a queue that takes too many cells is refused by table 0x10 (R110, R631); clearing the flag for
the test changes the size of no pool. -/
theorem tblPut_queue_of_short : s.tblPut 0x10 q ws = some (trREJECTED, s.poolRejected) := by
  have hheadroom : (s.wr BUF_STATUS_CFG_REJECTED 0).rd BUF_HEADROOM_CELLS = s.rd BUF_HEADROOM_CELLS := rd_wr_ne (by decide)
  have hstage : (s.wr BUF_STATUS_CFG_REJECTED 0).rd OVF_CTRL_STAGE_CELLS = s.rd OVF_CTRL_STAGE_CELLS := rd_wr_ne (by decide)
  have hmins : (s.wr BUF_STATUS_CFG_REJECTED 0).rd BUF_MIN_TOTAL_CELLS = s.rd BUF_MIN_TOTAL_CELLS := rd_wr_ne (by decide)
  have hwrite : (s.wr BUF_STATUS_CFG_REJECTED 0).bufTableWrite q ws = (s.wr BUF_STATUS_CFG_REJECTED 0).poolRejected :=
    bufTableWrite_of_short hlegal (by rw [hheadroom, hstage, hmins]; exact h)
  have hrefused : s.tryWrite BUF_STATUS_CFG_REJECTED (fun t => t.bufTableWrite q ws) = (trREJECTED, s.poolRejected) :=
    tryWrite_of_refused (by rw [hwrite, on_poolRejected])
  simp only [State.tblPut, if_neg hlegal, hrefused]

end

end

/-- Settles O54: each write by what its register or table does when too few cells would be left (`State.poolRejected`). -/
theorem shrinkingPoolWritesAreDiscarded : Obligations.ShrinkingPoolWritesAreDiscarded := by
  unfold Obligations.ShrinkingPoolWritesAreDiscarded
  refine ⟨?registers, ?table⟩
  case registers =>
    intro s t path v a hpath
    refine ⟨fun htakes hshort => ?headroom, fun htakes hlegal hshort => ?ovfCtrl⟩
    case headroom =>
      rw [exec_registerWrite, registerWrite_eq_regCmd hpath, regCmd_bufHeadroom htakes, headroomWrite_of_short hshort]
      rfl
    case ovfCtrl =>
      rw [exec_registerWrite, registerWrite_eq_regCmd hpath, regCmd_ovfCtrl htakes, ovfCtrlWrite_of_short hlegal hshort]
      rfl
  case table =>
    intro s q ws w1 href hthr hshort
    exact ⟨trREJECTED, tblPut_queue_of_short (not_or.mpr ⟨Nat.not_le.mpr href, Nat.not_lt.mpr hthr⟩) hshort⟩

end Sys2Proof.Proofs
end

section
/-! PROOFS of the statements of 05_policing_and_shaping: METER_SET (R148, R166), SHAPER_SET, QUEUE_MAP and ADAPT_BOUNDS (R149 to
R169), and the egress slot (R159, R212). -/

namespace Sys2Proof.Proofs
open Sys2Proof.Machine Sys2Proof.Laws

/-! ### Admin operations of a legal descriptor -/

section
variable {s : State} {q i : Nat} {d : Desc}

/-- An operation that guards its descriptor does what stands behind the guard. -/
theorem withDesc_legal {f : Desc → State} {u : State} {ok : Bool} (hready : Safety.ready s q i d = true) (hok : ok = true)
    (hf : f d = s.guardDesc q d ok u) : s.withDesc q i f = u := by
  rw [withDesc_ready hready, hf, guardDesc_true hok]

theorem finishData_of_area (img : List Nat) (h : (s.qp q).dataBase ≠ 0) :
    s.finishData q d img = s.finish q d stOK 0 (some img) := if_neg h

end

/-! ### The rows of the admin descriptors -/

section
variable {s : State} {t q i : Nat} {d : Desc} (hup : (s.advance t).portsUp = true)
  (hready : Safety.ready (s.advance t) q i d = true)
include hup hready

theorem exec_meterBind (hop : Desc.isOp 0x11 1 d = true) :
    exec (.meterBind t q i) s = .next (settle ((s.advance t).meterBind q i)) := done_whenUp_onOp hup hready hop

theorem exec_meterProfile (hop : Desc.isOp 0x11 2 d = true) :
    exec (.meterProfile t q i) s = .next (settle ((s.advance t).meterProfile q i)) := done_whenUp_onOp hup hready hop

theorem exec_meterRead (hop : Desc.isOp 0x11 3 d = true) :
    exec (.meterRead t q i) s = .next (settle ((s.advance t).meterRead q i)) := done_whenUp_onOp hup hready hop

theorem exec_meterProfileRead (hop : Desc.isOp 0x11 4 d = true) :
    exec (.meterProfileRead t q i) s = .next (settle ((s.advance t).meterProfileRead q i)) := done_whenUp_onOp hup hready hop

theorem exec_shaperSet (hop : d.opcode = 0x12) (hwrite : bit (byteAt d.img 41) 1 = false) :
    exec (.shaperSet t q i) s = .next (settle ((s.advance t).shaperSet q i)) :=
  done_whenUp_onOp hup hready (by simp [hop, hwrite])

theorem exec_shaperRead (hop : d.opcode = 0x12) (hread : bit (byteAt d.img 41) 1 = true) :
    exec (.shaperRead t q i) s = .next (settle ((s.advance t).shaperRead q i)) :=
  done_whenUp_onOp hup hready (by simp [hop, hread])

theorem exec_queueMapMap (hop : Desc.isOp 0x13 1 d = true) :
    exec (.queueMapMap t q i) s = .next (settle ((s.advance t).queueMapMap q i)) := done_whenUp_onOp hup hready hop

theorem exec_queueMapUnmap (hop : Desc.isOp 0x13 2 d = true) :
    exec (.queueMapUnmap t q i) s = .next (settle ((s.advance t).queueMapUnmap q i)) := done_whenUp_onOp hup hready hop

theorem exec_queueMapRead (hop : Desc.isOp 0x13 3 d = true) :
    exec (.queueMapRead t q i) s = .next (settle ((s.advance t).queueMapRead q i)) := done_whenUp_onOp hup hready hop

theorem exec_adaptBoundsShaped (hop : Desc.isOp 0x1E 1 d = true) :
    exec (.adaptBoundsShaped t q i) s = .next (settle ((s.advance t).adaptBoundsShaped q i)) := done_whenUp_onOp hup hready hop

theorem exec_adaptBoundsBulk (hop : Desc.isOp 0x1E 2 d = true) :
    exec (.adaptBoundsBulk t q i) s = .next (settle ((s.advance t).adaptBoundsBulk q i)) := done_whenUp_onOp hup hready hop

theorem exec_adaptBoundsDelete (hop : Desc.isOp 0x1E 3 d = true) :
    exec (.adaptBoundsDelete t q i) s = .next (settle ((s.advance t).adaptBoundsDelete q i)) := done_whenUp_onOp hup hready hop

end

/-! ### METER_SET (R148, R166) -/

/-- A BIND within the meters, profiles and colour sets of the device, with its reserved bytes 0 (R166). -/
def bindLegal (d : Desc) : Bool :=
  d.flagsOk && d.zero 8 39 && d.zero 41 41 && decide (byteAt d.img 50 < 2) && d.zero 51 51 && d.zero 54 63
    && decide (bytesAt d.img 42 45 < 2 ^ 18) && decide (bytesAt d.img 46 47 < 4096) && decide (bytesAt d.img 48 49 < 4096)
    && decide (1 ≤ bytesAt d.img 52 53) && decide (bytesAt d.img 52 53 ≤ 4096)
    && decide (bytesAt d.img 42 45 + bytesAt d.img 52 53 ≤ 262144)

/-- A PROFILE whose rates and burst sizes fit its marker (R142, R166). -/
def profileLegal (d : Desc) : Bool :=
  d.flagsOk && d.zero 14 39 && d.zero 41 45 && decide (bytesAt d.img 46 47 < 4096) && d.zero 48 53 && d.zero 62 63
    && !bit (bytesAt d.img 54 57) 31 && decide (bytesAt d.img 58 61 < 2 ^ 28) && d.profile.cbs != 0
    && (if d.profile.sr then d.profile.pir == 0 else d.profile.pbs != 0 && decide (d.profile.cir ≤ d.profile.pir))

/-- Levels above the burst sizes of a profile cut to them (R148). -/
def cutTo (f : Profile) (m : Meter) : Meter :=
  { m with visC := min (uB f.cbs) m.visC, visP := min (uB f.pbs) m.visP, comC := min (uB f.cbs) m.comC,
           comP := min (uB f.pbs) m.comP }

/-- A new profile, with the meters bound to it brought up to the present under the old one and cut to the new (R148). -/
def storeProfile (s : State) (p : Nat) (f : Profile) : State :=
  { s with sch := { s.sch with
      profiles := SMap.set s.sch.profiles p f {},
      meters := s.sch.meters.map (fun e =>
        if e.2.profile = p then (e.1, cutTo f (e.2.upTo (s.profile p) s.ns)) else e) } }

section
variable {s : State} {q i : Nat} {d : Desc} (hready : Safety.ready s q i d = true)
include hready

theorem meterBind_of_legal (hlegal : bindLegal d = true) : s.meterBind q i =
    ((s.bindMeters (bytesAt d.img 42 45) (bytesAt d.img 46 47) (bytesAt d.img 48 49) (bit (byteAt d.img 50) 0)
      (bytesAt d.img 52 53)).clearDebits (bytesAt d.img 42 45) (bytesAt d.img 52 53)).finish q d stOK :=
  withDesc_legal hready hlegal rfl

theorem meterProfile_of_legal (hlegal : profileLegal d = true) : s.meterProfile q i =
    (storeProfile s (bytesAt d.img 46 47) d.profile).finish q d stOK :=
  withDesc_legal hready hlegal rfl

section
variable (harea : (s.qp q).dataBase ≠ 0)
include harea

theorem meterRead_of_legal (hlegal : (d.flagsOk && d.zero 8 39 && d.zero 41 41 && decide (bytesAt d.img 42 45 < 262144)
    && d.zero 46 63) = true) : s.meterRead q i =
      s.finish q d stOK 0 (some (wordBytes (s.meterWords (bytesAt d.img 42 45) ++ [0] ++
        s.profileWords (s.meter (bytesAt d.img 42 45)).profile))) :=
  (withDesc_legal hready hlegal rfl).trans (finishData_of_area _ harea)

theorem meterProfileRead_of_legal (hlegal : (d.flagsOk && d.zero 8 39 && d.zero 41 45 && decide (bytesAt d.img 46 47 < 4096)
    && d.zero 48 63) = true) : s.meterProfileRead q i =
      s.finish q d stOK 0 (some (wordBytes (s.profileWords (bytesAt d.img 46 47)))) :=
  (withDesc_legal hready hlegal rfl).trans (finishData_of_area _ harea)

end

end

/-- Settles O18: each operation is its effect, for the legal descriptor passes its guard. -/
theorem meterSetCompletes : Obligations.MeterSetCompletes := by
  unfold Obligations.MeterSetCompletes
  refine ⟨?bind, ?profile, ?read, ?profileRead⟩
  case bind =>
    intro s t q i d a first prof cset n hup hready hop hlegal
    rw [exec_meterBind hup hready hop, meterBind_of_legal hready hlegal]
  case profile =>
    intro s t q i d a f p hup hready hop hlegal
    refine ⟨storeProfile a p f, ?_, rfl, rfl, rfl⟩
    rw [exec_meterProfile hup hready hop, meterProfile_of_legal hready hlegal]
  case read =>
    intro s t q i d a m hup hready hop harea hlegal
    rw [exec_meterRead hup hready hop, meterRead_of_legal hready harea hlegal]
  case profileRead =>
    intro s t q i d a p hup hready hop harea hlegal
    rw [exec_meterProfileRead hup hready hop, meterProfileRead_of_legal hready harea hlegal]

/-! ### SHAPER_SET (R158, R162, R164, R167) -/

/-- A SHAPER_SET that writes: rates and quantum that fit the target, and a peak rate of 0 or no less than the committed (R167). -/
def shaperSetLegal (s : State) (d : Desc) : Bool :=
  s.shaperOk d && !bit (byteAt d.img 41) 1 && decide (bytesAt d.img 44 47 < 2 ^ 28) && decide (bytesAt d.img 48 51 < 2 ^ 28)
    && (if d.op40 = 3 then bytesAt d.img 44 47 == 0 && d.zero 52 54 && bytesAt d.img 58 59 == 0
        else decide (1 ≤ bytesAt d.img 58 59) && decide (bytesAt d.img 58 59 ≤ 4095))
    && (bytesAt d.img 48 51 == 0 || decide (bytesAt d.img 44 47 ≤ bytesAt d.img 48 51))

theorem write_of_shaperSetLegal {s : State} {d : Desc} (h : shaperSetLegal s d = true) : bit (byteAt d.img 41) 1 = false := by
  simp only [shaperSetLegal, Bool.and_eq_true, Bool.not_eq_true'] at h
  obtain ⟨⟨⟨⟨⟨-, hwrite⟩, -⟩, -⟩, -⟩, -⟩ := h
  exact hwrite

/-- A pending change of the adaptation engine without its rate pair (R164). -/
def withoutPair : Option AdaptChange → Option AdaptChange
  | some (.pair _ _) => none
  | x => x

/-- The shaper of a port as SHAPER_SET writes it (R157, R167). -/
def portShaperOf (d : Desc) (ns : Nat) : PortShaper :=
  { rate := bytesAt d.img 48 51, burst := bytesAt d.img 55 57,
    level := if bit (byteAt d.img 41) 0 then 0 else ((uB (bytesAt d.img 55 57) : Nat) : Int), at_ := ns }

/-- What SHAPER_SET READ returns of a queue's or a node's shaper (R167). -/
def shaperImage (h : Shaper) : List Nat := wordBytes (shaperWords h) ++ (leBytes 2 h.quantum ++ [b2n h.zero])

section
variable {s : State} {q i : Nat} {d : Desc} (hready : Safety.ready s q i d = true)
include hready

section
variable (hlegal : shaperSetLegal s d = true)
include hlegal

theorem shaperSet_queue (htarget : d.op40 = 1) : s.shaperSet q i =
    (s.setQueue (bytesAt d.img 42 43) { s.queue (bytesAt d.img 42 43) with
      sh := shaperOf d s.ns, adaptNext := withoutPair (s.queue (bytesAt d.img 42 43)).adaptNext }).finish q d stOK :=
  (withDesc_legal hready hlegal rfl).trans (congrArg (State.finish · q d stOK) (if_pos htarget))

theorem shaperSet_node (htarget : d.op40 = 2) : s.shaperSet q i =
    (s.setNode (bytesAt d.img 42 43) { s.node (bytesAt d.img 42 43) with sh := shaperOf d s.ns }).finish q d stOK := by
  have hqueue : d.op40 ≠ 1 := by omega
  exact (withDesc_legal hready hlegal rfl).trans
    (congrArg (State.finish · q d stOK) ((if_neg hqueue).trans (if_pos htarget)))

theorem shaperSet_port (htarget : d.op40 = 3) : s.shaperSet q i =
    (s.setPortSh (bytesAt d.img 42 43) (portShaperOf d s.ns)).finish q d stOK := by
  have hqueue : d.op40 ≠ 1 := by omega
  have hnode : d.op40 ≠ 2 := by omega
  exact (withDesc_legal hready hlegal rfl).trans
    (congrArg (State.finish · q d stOK) ((if_neg hqueue).trans (if_neg hnode)))

end

section
variable (harea : (s.qp q).dataBase ≠ 0)
  (hlegal : (s.shaperOk d && byteAt d.img 41 == 2 && d.zero 44 59) = true)
include harea hlegal

theorem shaperRead_queue (htarget : d.op40 = 1) : s.shaperRead q i =
    s.finish q d stOK 0 (some (shaperImage ((s.queue (bytesAt d.img 42 43)).sh.upTo s.ns))) := by
  refine (withDesc_legal hready hlegal rfl).trans ((finishData_of_area _ harea).trans ?_)
  rw [if_pos htarget]
  rfl

theorem shaperRead_node (htarget : d.op40 = 2) : s.shaperRead q i =
    s.finish q d stOK 0 (some (shaperImage ((s.node (bytesAt d.img 42 43)).sh.upTo s.ns))) := by
  have hqueue : d.op40 ≠ 1 := by omega
  refine (withDesc_legal hready hlegal rfl).trans ((finishData_of_area _ harea).trans ?_)
  rw [if_neg hqueue, if_pos htarget]
  rfl

theorem shaperRead_port (htarget : d.op40 = 3) : s.shaperRead q i =
    s.finish q d stOK 0 (some (wordBytes (portShaperWords ((s.portSh (bytesAt d.img 42 43)).upTo s.ns)))) := by
  have hqueue : d.op40 ≠ 1 := by omega
  have hnode : d.op40 ≠ 2 := by omega
  refine (withDesc_legal hready hlegal rfl).trans ((finishData_of_area _ harea).trans ?_)
  rw [if_neg hqueue, if_neg hnode]

end

end

/-! ### QUEUE_MAP (R149, R150, R152, R153, R168) -/

/-- A MAP of an unmapped queue to a port, an SL and a subscriber that no other queue serves (R149, R150, R168). -/
def mapLegal (s : State) (d : Desc) : Bool :=
  d.flagsOk && d.zero 8 39 && decide (byteAt d.img 41 < 2) && s.portExists (byteAt d.img 44) && decide (byteAt d.img 45 < 8)
    && decide (bytesAt d.img 46 47 < 8192) && d.zero 48 63 && !(s.queue (bytesAt d.img 42 43)).valid
    && (if bit (byteAt d.img 41) 0 then (s.defaultQueue (byteAt d.img 44) (byteAt d.img 45)).isNone
        else !(s.mapped.any (fun e => e.2.port == byteAt d.img 44 && e.2.sl == byteAt d.img 45 && !e.2.dflt
          && e.2.sub == bytesAt d.img 46 47)))

/-- The packets behind which a newly mapped queue is held back: those of the default queue of its port and SL (R152). -/
def holdOf (s : State) (p sl : Nat) (dflt : Bool) : Nat :=
  if dflt then 0 else
    match s.defaultQueue p sl with
    | some dq => (s.queue dq).packets.length
    | none => 0

/-- A queue mapped as the descriptor says, its tokens reset and its maxima 0 (R149, R158). -/
def mapQueue (s : State) (d : Desc) : State :=
  let n := bytesAt d.img 42 43
  let dflt := bit (byteAt d.img 41) 0
  s.setQueue n { s.queue n with
    valid := true, port := byteAt d.img 44, sl := byteAt d.img 45, sub := bytesAt d.img 46 47, dflt := dflt,
    hold := holdOf s (byteAt d.img 44) (byteAt d.img 45) dflt,
    sh := (s.queue n).sh.resetTokens s.ns, maxDepth := 0, maxSojourn := 0 }

/-- A queue that maps to nothing (R153). -/
def unmapQueue (s : State) (n : Nat) : State :=
  s.setQueue n { s.queue n with
    valid := false, port := 0, sl := 0, sub := 0, dflt := false, hold := 0, maxDepth := 0, maxSojourn := 0 }

section
variable {s : State} {q i : Nat} {d : Desc} (hready : Safety.ready s q i d = true)
include hready

theorem queueMapMap_of_legal (hlegal : mapLegal s d = true) :
    s.queueMapMap q i = ((mapQueue s d).syncMapped).finish q d stOK :=
  withDesc_legal hready hlegal rfl

/-- A queue that is not the default queue of an enabled port may be unmapped (R150). -/
theorem queueMapUnmap_of_legal
    (hlegal : (d.flagsOk && d.zero 8 39 && d.zero 41 41 && d.zero 44 63 && (s.queue (bytesAt d.img 42 43)).valid) = true)
    (hfree : ((s.queue (bytesAt d.img 42 43)).dflt &&
      s.on SCHED_PORT_CFG_EN (s.queue (bytesAt d.img 42 43)).port) = false) : s.queueMapUnmap q i =
    ((unmapQueue (s.flushQueue (bytesAt d.img 42 43)) (bytesAt d.img 42 43)).syncMapped).finish q d stOK := by
  have hfree' : ¬ ((s.queue (bytesAt d.img 42 43)).dflt = true ∧
      s.on SCHED_PORT_CFG_EN (s.queue (bytesAt d.img 42 43)).port = true) := by
    rw [← Bool.and_eq_true, hfree]
    exact Bool.false_ne_true
  exact (withDesc_legal hready hlegal rfl).trans (if_neg hfree')

theorem queueMapRead_of_legal (harea : (s.qp q).dataBase ≠ 0)
    (hlegal : (d.flagsOk && d.zero 8 39 && d.zero 41 41 && d.zero 44 63) = true) : s.queueMapRead q i =
      s.finish q d stOK 0 (some (leBytes 4 (s.queueMapWord (bytesAt d.img 42 43)))) :=
  (withDesc_legal hready hlegal rfl).trans (finishData_of_area _ harea)

end

/-! ### ADAPT_BOUNDS (R163, R169) -/

/-- A change of a queue's bounds that waits for the next tick edge (R163). -/
def awaitBounds (s : State) (n : Nat) (b : BoundsChange) : State :=
  s.setQueue n { s.queue n with boundsNext := some b }

/-- The shaped bounds that a descriptor names (R169). -/
def shapedBounds (d : Desc) : Bounds :=
  { target := 1, pirFloor := bytesAt d.img 44 47, pirCeil := bytesAt d.img 48 51, pbsFloor := bytesAt d.img 52 54,
    pbsCeil := bytesAt d.img 55 57, sojourn := bytesAt d.img 58 59 }

/-- Floors above 0 and not above the ceilings, the peak rate's floor not below the committed rate (R169). -/
def BoundsOrdered (h : Shaper) (b : Bounds) : Prop :=
  h.cir ≤ b.pirFloor ∧ 0 < b.pirFloor ∧ b.pirFloor ≤ b.pirCeil ∧ 0 < b.pbsFloor ∧ b.pbsFloor ≤ b.pbsCeil

section
variable {s : State} {q i : Nat} {d : Desc} (hready : Safety.ready s q i d = true)
include hready

theorem adaptBoundsShaped_of_legal
    (hlegal : (d.flagsOk && d.zero 8 39 && d.zero 41 41 && d.zero 60 63 && decide (bytesAt d.img 44 47 < 2 ^ 28)
      && decide (bytesAt d.img 48 51 < 2 ^ 28) && bytesAt d.img 58 59 != 0) = true)
    (hclass : s.qClass (s.queue (bytesAt d.img 42 43)) = 2)
    (hbounds : BoundsOrdered (s.queue (bytesAt d.img 42 43)).sh (shapedBounds d)) : s.adaptBoundsShaped q i =
      (awaitBounds s (bytesAt d.img 42 43) (.put (shapedBounds d))).finish q d stOK := by
  have hadapts : ¬ s.qClass (s.queue (bytesAt d.img 42 43)) < 2 := by omega
  obtain ⟨hcir, hpirFloor, hpir, hpbsFloor, hpbs⟩ := hbounds
  refine (withDesc_legal hready hlegal rfl).trans ((if_neg hadapts).trans (guardDesc_true ?_))
  simp only [Bool.and_eq_true, beq_iff_eq, decide_eq_true_eq, bne_iff_ne]
  exact ⟨⟨⟨⟨⟨hclass, hcir⟩, Nat.ne_of_gt hpirFloor⟩, hpir⟩, Nat.ne_of_gt hpbsFloor⟩, hpbs⟩

theorem adaptBoundsBulk_of_legal
    (hlegal : (d.flagsOk && d.zero 8 39 && d.zero 41 41 && decide (bytesAt d.img 44 47 < 2) && d.zero 48 57
      && d.zero 60 63 && bytesAt d.img 58 59 != 0) = true)
    (hclass : s.qClass (s.queue (bytesAt d.img 42 43)) = 3) : s.adaptBoundsBulk q i =
      (awaitBounds s (bytesAt d.img 42 43) (.put
        { target := 2, ovfAllowed := bit (bytesAt d.img 44 47) 0, sojourn := bytesAt d.img 58 59 })).finish q d stOK := by
  have hadapts : ¬ s.qClass (s.queue (bytesAt d.img 42 43)) < 2 := by omega
  exact (withDesc_legal hready hlegal rfl).trans ((if_neg hadapts).trans (guardDesc_true (beq_iff_eq.mpr hclass)))

theorem adaptBoundsDelete_of_legal (hlegal : (d.flagsOk && d.zero 8 39 && d.zero 41 41 && d.zero 44 63) = true)
    (hclass : 2 ≤ s.qClass (s.queue (bytesAt d.img 42 43))) : s.adaptBoundsDelete q i =
      (awaitBounds s (bytesAt d.img 42 43) .delete).finish q d stOK :=
  (withDesc_legal hready hlegal rfl).trans (if_neg (Nat.not_lt.mpr hclass))

end

/-- Settles O19: each operation is its effect on the target that its conditions single out. -/
theorem queueAdminCompletes : Obligations.QueueAdminCompletes := by
  unfold Obligations.QueueAdminCompletes
  refine ⟨?shaperSet, ?shaperRead, ?map, ?unmap, ?mapRead, ?shaped, ?bulk, ?delete⟩
  case shaperSet =>
    intro s t q i d a n cir pir qu hup hready hop hlegal
    rw [exec_shaperSet hup hready hop (write_of_shaperSetLegal hlegal)]
    refine ⟨fun htarget => ?queue, fun htarget => ?node, fun htarget => ?port⟩
    case queue => rw [shaperSet_queue hready hlegal htarget]; rfl
    case node => rw [shaperSet_node hready hlegal htarget]
    case port => rw [shaperSet_port hready hlegal htarget]; rfl
  case shaperRead =>
    intro s t q i d a n hup hready hop harea hshaper hflag hzero
    have hread : bit (byteAt d.img 41) 1 = true := by rw [hflag]; decide
    have hlegal : (a.shaperOk d && byteAt d.img 41 == 2 && d.zero 44 59) = true := by rw [hshaper, hflag, hzero]; rfl
    rw [exec_shaperRead hup hready hop hread]
    refine ⟨fun htarget => ?queue, fun htarget => ?node, fun htarget => ?port⟩
    case queue => rw [shaperRead_queue hready harea hlegal htarget]; rfl
    case node => rw [shaperRead_node hready harea hlegal htarget]; rfl
    case port => rw [shaperRead_port hready harea hlegal htarget]
  case map =>
    intro s t q i d a n p sl sub dflt hup hready hop hlegal
    rw [exec_queueMapMap hup hready hop, queueMapMap_of_legal hready hlegal]
    rfl
  case unmap =>
    intro s t q i d a n u hup hready hop hlegal hfree
    rw [exec_queueMapUnmap hup hready hop, queueMapUnmap_of_legal hready hlegal hfree]
    rfl
  case mapRead =>
    intro s t q i d a hup hready hop harea hlegal
    rw [exec_queueMapRead hup hready hop, queueMapRead_of_legal hready harea hlegal]
  case shaped =>
    intro s t q i d a n pf pc bf bc soj hup hready hop hlegal hclass hcir hpirFloor hpir hpbsFloor hpbs
    rw [exec_adaptBoundsShaped hup hready hop,
      adaptBoundsShaped_of_legal hready hlegal hclass ⟨hcir, hpirFloor, hpir, hpbsFloor, hpbs⟩]
    rfl
  case bulk =>
    intro s t q i d a n w soj hup hready hop hlegal hclass
    rw [exec_adaptBoundsBulk hup hready hop, adaptBoundsBulk_of_legal hready hlegal hclass]
    rfl
  case delete =>
    intro s t q i d a n hup hready hop hlegal hclass
    rw [exec_adaptBoundsDelete hup hready hop, adaptBoundsDelete_of_legal hready hlegal hclass]
    rfl

/-! ### The egress slot (R159, R212) -/

section
variable {s : State} {p types : Nat} (hslot : s.slotting p = true) (hfab : s.isFab p = true)
  (hresend : ((s.obsAdd p 0 1).lnk (p / 4)).resend = []) (hleft : ((s.obsAdd p 0 1).txOf p).left = 0)
  (hmay : (s.obsAdd p 0 1).mayStart (p / 4) = true) (hasked : (s.obsAdd p 0 1).blockAsked (p / 4) = false)
include hslot hfab hresend hleft hmay hasked

/-- In a slot that is free for a packet the selection decides; one that selects none is idle. -/
theorem egressSlot_of_none (hselect : (s.obsAdd p 0 1).select p types = none) :
    s.egressSlot p 0 types = (s.obsAdd p 0 1).idleSlot p types false false := by
  simp [State.egressSlot, hslot, hfab, hresend, hleft, hmay, hasked, hselect]

/-- The head of the queue selected starts when its stored data read well (R526 has the reads that do not). -/
theorem egressSlot_of_some {g : Grant} {k : QPkt} {u : State} (hselect : (s.obsAdd p 0 1).select p types = some g)
    (hhead : (s.obsAdd p 0 1).headOf ((s.obsAdd p 0 1).queue g.queue) types = some k)
    (hread : (s.obsAdd p 0 1).bufferRead = (0, u)) : s.egressSlot p 0 types = u.startPacket p g k := by
  simp [State.egressSlot, hslot, hfab, hresend, hleft, hmay, hasked, hselect, hhead, hread]

end

theorem exec_egressSlot {s : State} {t : Nat} (p kind types : Nat) (hup : (s.advance t).portsUp = true) :
    exec (.egressSlot t p kind types) s = .next (settle (((s.advance t).eccEgress p).egressSlot p kind types)) := done_whenUp hup

/-- Settles O20: a fabric port's slot that is free for a packet, by what the selection answers. -/
theorem egressSlotCompletes : Obligations.EgressSlotCompletes := by
  unfold Obligations.EgressSlotCompletes
  intro s t p types a b hup hslot hfab hresend hleft hmay hasked
  refine ⟨fun g k u hselect hhead hread => ?starts, fun hselect => ?idle⟩
  case starts =>
    rw [exec_egressSlot p 0 types hup, egressSlot_of_some hslot hfab hresend hleft hmay hasked hselect hhead hread]
  case idle =>
    rw [exec_egressSlot p 0 types hup, egressSlot_of_none hslot hfab hresend hleft hmay hasked hselect]

end Sys2Proof.Proofs
end

section
/-! PROOFS of the statements of 06_marionette_time_gates: gate lists and swaps (R174 to R183, R205 to R207), timed writes and
cues (R191 to R204), and the writes that TIMED windows hold (R389). -/

namespace Sys2Proof.Proofs
open Sys2Proof.Machine Sys2Proof.Laws

/-- What stands behind a check that is passed. -/
theorem ite_not_of_true {α : Type} {ok : Bool} {u v : α} (h : ok = true) : (if !ok then u else v) = v := by
  rw [h]; rfl

theorem not_true_or_lt {b : Bool} {m n : Nat} (hb : b = false) (hle : m ≤ n) : ¬ (b = true ∨ n < m) :=
  not_or_intro (Bool.eq_false_iff.mp hb) (Nat.not_lt.mpr hle)

/-! ### Gate lists (R174, R205, R206) -/

/-- A GATE_LIST_LOAD of entries that fit the new list, on a port that exists (R206). -/
def listLoadLegal (s : State) (d : Desc) : Bool :=
  d.listOk && byteAt d.img 41 == 0 && decide (1 ≤ bytesAt d.img 44 45) && decide (bytesAt d.img 44 45 ≤ 1024)
    && decide (bytesAt d.img 42 43 + d.length / 4 ≤ bytesAt d.img 44 45) && s.portExists (byteAt d.img 40)

/-- The load that a descriptor asks for. -/
def listLoadOf (q i : Nat) (d : Desc) : ListLoad :=
  { qp := q, idx := i, port := byteAt d.img 40, first := bytesAt d.img 42 43, len := bytesAt d.img 44 45, bytes := d.length }

/-- A load noted as waiting for its host array. -/
def awaitLoad (s : State) (x : ListLoad) : State := { s with gate := { s.gate with loads := s.gate.loads ++ [x] } }

/-- A load that waits no more. -/
def dropLoad (s : State) (x : ListLoad) : State :=
  { s with gate := { s.gate with loads := s.gate.loads.filter (fun y => y != x) } }

/-- A GATE_LIST_READ, of the admin (1) or the operational (3) list, of entries within a list (R205). -/
def listReadLegal (s : State) (d : Desc) : Bool :=
  d.listOk && (byteAt d.img 41 == 1 || byteAt d.img 41 == 3) && d.zero 44 45
    && decide (bytesAt d.img 42 43 + d.length / 4 ≤ 1024) && s.portExists (byteAt d.img 40)

/-- The list words that a GATE_LIST_READ returns. -/
def listReadBytes (s : State) (d : Desc) : List Nat :=
  let g := s.gatePort (byteAt d.img 40)
  wordBytes ((List.range (d.length / 4)).map (fun k =>
    SMap.get (if byteAt d.img 41 = 3 then g.oper else g.admin) (bytesAt d.img 42 43 + k) 0))

/-- The admin list of a load's port with the words that arrived in their place. -/
def loadedList (s : State) (x : ListLoad) (data : List Nat) : SMap Nat :=
  putWords (s.gatePort x.port).admin x.first (wordsOf (x.bytes / 4) data)

section
variable {s : State} {q i : Nat} {d : Desc} (hready : Safety.ready s q i d = true)
include hready

theorem gateListLoad_of_legal (hfirst : d.asked = 0) (hlegal : listLoadLegal s d = true)
    (hswap : (s.gatePort (byteAt d.img 40)).swap = none) (hfree : s.qpHeld q = false)
    (hmpu : s.moverBad (s.qp q) spHost false d.source d.length = none) : s.gateListLoad q i =
      awaitLoad ((s.setDesc q { d with asked := d.length }).hostReads q d.source d.length (.desc q i)) (listLoadOf q i d) := by
  refine (withDesc_ready hready).trans ((if_neg (not_not_intro hfirst)).trans ((ite_not_of_true hlegal).trans ?_))
  rw [hswap, hfree, hmpu]
  rfl

theorem gateListRead_of_legal (hlegal : listReadLegal s d = true) (hfree : s.qpHeld q = false)
    (hmpu : s.moverBad (s.qp q) spHost true d.source d.length = none) : s.gateListRead q i =
      (s.hostWrites ((s.qp q).fn.getD 0) d.source (listReadBytes s d)).finish q d stOK d.length := by
  refine (withDesc_ready hready).trans ((ite_not_of_true hlegal).trans ?_)
  rw [hfree, hmpu]
  rfl

theorem gateListFetchDone_of_legal {x : ListLoad} {data : List Nat}
    (hload : s.gate.loads.find? (fun y => y.qp == q && y.idx == i) = some x) (hall : data.length = x.bytes)
    (hswap : (s.gatePort x.port).swap = none)
    (hentries : (gateList (loadedList s x data) x.len).any (fun e => e.1 == 0) = false)
    (hcycle : cycleOf (gateList (loadedList s x data) x.len) < 2 ^ 32) : s.gateListFetchDone q i 0 false data =
      ((dropLoad s x).setGate x.port { (dropLoad s x).gatePort x.port with
        admin := loadedList s x data, adminLen := x.len }).finish q d stOK x.bytes := by
  have hready' : Safety.ready (dropLoad s x) q i d = true := hready
  have hlegal : ¬ ((gateList (loadedList s x data) x.len).any (fun e => e.1 == 0) = true ∨
      2 ^ 32 ≤ cycleOf (gateList (loadedList s x data) x.len)) :=
    not_or_intro (Bool.eq_false_iff.mp hentries) (Nat.not_le.mpr hcycle)
  have hunlocked : ¬ (s.gatePort x.port).swap.isSome = true := by simp [hswap]
  rw [State.gateListFetchDone, hload]
  exact (withDesc_ready hready').trans ((if_neg (not_not_intro hall)).trans ((if_neg hunlocked).trans (if_neg hlegal)))

end

/-! ### Swaps (R177 to R183, R207) -/

/-- A GATE_SWAP with its reserved bytes 0, to a list or to open gates, on a port that exists (R207). -/
def swapFormOk (s : State) (d : Desc) : Bool :=
  d.flagsOk && d.zero 8 31 && d.zero 42 63 && decide (byteAt d.img 41 < 2) && s.portExists (byteAt d.img 40)

/-- A swap time on a tick edge within the horizon and at a cycle end of the list in force, the admin list legal there
(R177). -/
def swapTimeOk (s : State) (d : Desc) : Bool :=
  let g := s.gatePort (byteAt d.img 40)
  decide (d.launch % s.periodAt d.launch = 0) && decide (s.edgeNum (s.time.tick + 2) ≤ d.launch)
    && decide (d.launch ≤ s.edgeNum (s.time.tick + 65536))
    && (g.state != 1 || (d.launch - g.base) % cycleOf g.operList == 0)
    && (byteAt d.img 41 == 1 || (decide (1 ≤ g.adminLen) && legalFor (cycleOf g.adminList) (s.periodAt d.launch)))

/-- The swap that a descriptor asks for. -/
def swapOf (q i : Nat) (d : Desc) : Swap := { at_ := d.launch, toOpen := byteAt d.img 41 == 1, qp := q, idx := i }

/-- A gate opened for good (R180). -/
def gateOpened (g : GatePort) : GatePort := { g with swap := none, state := 0 }

/-- A gate on its admin list from cell time `at_` on, the lists having changed places (R180). -/
def listsSwapped (g : GatePort) (at_ : Nat) : GatePort :=
  { g with swap := none, state := 1, base := at_, which := !g.which, oper := g.admin, operLen := g.adminLen,
           admin := g.oper, adminLen := g.operLen }

/-- A port's gate as a swap leaves it, the swap having completed (R180). -/
def swapDone (s : State) (p : Nat) (w : Swap) (g : GatePort) : State :=
  ((s.setGate p g).closeMoves p w.at_).endSwap w stOK w.at_

theorem gateSwap_of_legal {s : State} {q i : Nat} {d : Desc} (hready : Safety.ready s q i d = true)
    (hform : swapFormOk s d = true) (htick : s.ticking = true) (htime : swapTimeOk s d = true)
    (hswap : (s.gatePort (byteAt d.img 40)).swap = none) : s.gateSwap q i =
      s.setGate (byteAt d.img 40) { s.gatePort (byteAt d.img 40) with
        swap := some (swapOf q i d), swapTime := d.launch } := by
  have hnew : ¬ (s.gatePort (byteAt d.img 40)).swap.any (fun w => w.qp == q && w.idx == i) = true := by simp [hswap]
  have hunlocked : ¬ (s.gatePort (byteAt d.img 40)).swap.isSome = true := by simp [hswap]
  exact (withDesc_ready hready).trans ((if_neg hnew).trans ((ite_not_of_true hform).trans
    ((ite_not_of_true htick).trans ((ite_not_of_true htime).trans (if_neg hunlocked)))))

section
variable {s : State} {p : Nat} {w : Swap} (hswap : (s.gatePort p).swap = some w)
include hswap

theorem swapArm_of_legal (hnew : w.armed = false) (hkept : w.late = false) (hdue : s.edgeBefore w.at_ ≤ s.ns)
    (hlist : w.toOpen = true ∨ (1 ≤ (s.gatePort p).adminLen ∧
      legalFor (cycleOf (s.gatePort p).adminList) (s.periodAt w.at_) = true)) :
    s.swapArm p = s.setGate p { s.gatePort p with swap := some { w with armed := true } } := by
  simp only [State.swapArm, hswap]
  rw [if_neg (not_true_or_lt hnew hdue), if_neg (Bool.eq_false_iff.mp hkept), if_pos hlist]

section
variable (harmed : w.armed = true)
include harmed

theorem swapArm_of_armed : s.swapArm p = s := by
  simp only [State.swapArm, hswap, harmed, true_or, if_true]

/-- At its time an armed swap opens the gates or puts the admin list in force; a list that a change edge there has made
illegal is dropped (R180, R183). -/
theorem swapTake_of_armed (hdue : w.at_ ≤ s.ns) : s.swapTake p =
    if w.toOpen then swapDone s p w (gateOpened (s.gatePort p))
    else if legalFor (cycleOf (s.gatePort p).adminList) s.tTick then swapDone s p w (listsSwapped (s.gatePort p) w.at_)
    else s.dropSwap p stBAD_DESCRIPTOR := by
  have htakes : ¬ (s.ns < w.at_ ∨ (!w.armed) = true) := not_or_intro (Nat.not_lt.mpr hdue) (by simp [harmed])
  simp only [State.swapTake, swapArm_of_armed hswap harmed, hswap]
  rw [if_neg htakes]
  rfl

end

end

/-! ### The rows of the gates -/

section
variable {s : State} {t : Nat} (hup : (s.advance t).portsUp = true)
include hup

theorem exec_gateEntryStart (p : Nat) :
    exec (.gateEntryStart t p) s = .next (settle ((s.advance t).eccGate p)) := done_whenUp hup

theorem exec_gateListFetchDone (q i status : Nat) (poison : Bool) (data : List Nat) :
    exec (.gateListFetchDone t q i status poison data) s =
      .next (settle ((s.advance t).gateListFetchDone q i status poison data)) := done_whenUp hup

theorem exec_swapArm (p : Nat) : exec (.swapArm t p) s = .next (settle ((s.advance t).swapArm p)) := done_whenUp hup

theorem exec_swapTakeEffect (p : Nat) :
    exec (.swapTakeEffect t p) s = .next (settle ((s.advance t).swapTake p)) := done_whenUp hup

section
variable {q i : Nat} {d : Desc} (hready : Safety.ready (s.advance t) q i d = true)
include hready

theorem exec_gateListLoad (hop : d.opcode = 0x14) (hload : byteAt d.img 41 = 0) :
    exec (.gateListLoad t q i) s = .next (settle ((s.advance t).gateListLoad q i)) :=
  done_whenUp_onOp hup hready (by rw [hop, hload]; decide)

theorem exec_gateListRead (hop : d.opcode = 0x14) (hread : byteAt d.img 41 = 1 ∨ byteAt d.img 41 = 3) :
    exec (.gateListRead t q i) s = .next (settle ((s.advance t).gateListRead q i)) :=
  done_whenUp_onOp hup hready (by obtain hread | hread := hread <;> rw [hop, hread] <;> decide)

theorem exec_gateSwap (hop : d.opcode = 0x15) :
    exec (.gateSwap t q i) s = .next (settle ((s.advance t).gateSwap q i)) :=
  done_whenUp_onOp hup hready (beq_iff_eq.mpr hop)

end

end

theorem flags_of_listLoadLegal {s : State} {d : Desc} (h : listLoadLegal s d = true) : byteAt d.img 41 = 0 := by
  simp only [listLoadLegal, Bool.and_eq_true, beq_iff_eq] at h
  obtain ⟨⟨⟨⟨⟨-, hflags⟩, -⟩, -⟩, -⟩, -⟩ := h
  exact hflags

theorem listReadLegal_of {s : State} {d : Desc} (hread : byteAt d.img 41 = 1 ∨ byteAt d.img 41 = 3)
    (h : (d.listOk && d.zero 44 45 && decide (bytesAt d.img 42 43 + d.length / 4 ≤ 1024)
      && s.portExists (byteAt d.img 40)) = true) : listReadLegal s d = true := by
  simp only [Bool.and_eq_true] at h
  obtain ⟨⟨⟨hlist, hzero⟩, hrange⟩, hport⟩ := h
  simp [listReadLegal, hlist, hread, hzero, hrange, hport]

/-- Settles O21: the list operations and the swap by what a legal descriptor asks for, and the two edges of a pending swap
by whether it is armed. -/
theorem gateCommandsComplete : Obligations.GateCommandsComplete := by
  unfold Obligations.GateCommandsComplete
  refine ⟨?entryStart, ?load, ?read, ?fetchDone, ?swap, ?arm, ?takeEffect⟩
  case entryStart =>
    intro s t p a hup
    rw [exec_gateEntryStart hup]
    rfl
  case load =>
    intro s t q i d a p first len b hup hready hop hfirst hlegal hswap hfree hmpu
    rw [exec_gateListLoad hup hready hop (flags_of_listLoadLegal hlegal),
      gateListLoad_of_legal hready hfirst hlegal hswap hfree hmpu]
    rfl
  case read =>
    intro s t q i d a p first hup hready hop hread hlegal hfree hmpu
    rw [exec_gateListRead hup hready hop hread, gateListRead_of_legal hready (listReadLegal_of hread hlegal) hfree hmpu]
    rfl
  case fetchDone =>
    intro s t q i d x data a b m hup hready hload hall hswap hentries hcycle
    rw [exec_gateListFetchDone hup, gateListFetchDone_of_legal hready hload hall hswap hentries hcycle]
    rfl
  case swap =>
    intro s t q i d a p g hup hready hop hswap htick hform htime
    rw [exec_gateSwap hup hready hop, gateSwap_of_legal hready hform htick htime hswap]
    rfl
  case arm =>
    intro s t p w a g hup hswap hnew hkept hdue hlist
    rw [exec_swapArm hup, swapArm_of_legal hswap hnew hkept hdue hlist]
  case takeEffect =>
    intro s t p w a g hup hswap harmed hdue
    rw [exec_swapTakeEffect hup, swapTake_of_armed hswap harmed hdue]
    refine ⟨fun hopen => ?opens, fun hopen hlegal => ?lists⟩
    case opens => rw [if_pos hopen]; rfl
    case lists => rw [if_neg (Bool.eq_false_iff.mp hopen), if_pos hlegal]; rfl

/-! ### Taking a launch entry (R191, R192, R194, R202) -/

/-- What a TIMED_WRITE must keep to beside its flags (R194). -/
def timedWriteFits (d : Desc) : Bool :=
  decide (1 ≤ d.length) && decide (d.length ≤ 4096) && decide (byteAt d.img 28 < 32) && decide (d.ordSel < 3)
    && (d.ordSel == 2 || d.reqId == 0) && d.zero 29 29 && d.zero 40 63

/-- What a TIMED_CUE must keep to beside its flags (R202). -/
def timedCueFits (d : Desc) : Bool :=
  d.zero 8 15 && d.zero 24 31 && d.zero 46 63 && decide (d.dest % 2 ^ 52 = 0) && decide (byteAt d.img 40 < 48)
    && decide (byteAt d.img 41 < 4)
    && (if bit (byteAt d.img 41) 1 then decide (1 ≤ bytesAt d.img 42 45) && decide (bytesAt d.img 42 45 < 2 ^ 24)
        else bytesAt d.img 42 45 == 0)

theorem timedWrite_eq (s : State) (q i : Nat) :
    s.timedWrite q i = s.takeLaunch q i (fun d => d.flagsOk && timedWriteFits d) (.write q i) := by
  simp only [State.timedWrite, timedWriteFits, Bool.and_assoc]

theorem timedCue_eq (s : State) (q i : Nat) :
    s.timedCue q i = s.takeLaunch q i (fun d => d.flagsOk && timedCueFits d) (.cue q i) := by
  simp only [State.timedCue, timedCueFits, Bool.and_assoc]

/-- A legal timed descriptor takes the lowest free entry, which a release edge that has passed releases at once (R192). -/
theorem takeLaunch_of_legal {s : State} {q i n : Nat} {d : Desc} {ok : Desc → Bool} (kind : LaunchKind)
    (hready : Safety.ready s q i d = true) (hnew : (s.qpLaunches q).any (fun e => e.2.2 == i) = false)
    (hfree : s.launchFree = some n) (hahead : s.ns < d.launch)
    (hhorizon : d.launch ≤ s.edgeNum (s.time.tick + 65536) + (s.ns - s.time.edge)) (hok : ok d = true) :
    s.takeLaunch q i ok kind = (s.setLaunch n (some { kind := kind, lt := d.launch })).timedRelease n := by
  have hlegal : (!ok d) = false := by rw [hok]; rfl
  refine (withDesc_ready hready).trans ((if_neg (Bool.eq_false_iff.mp hnew)).trans
    ((if_neg (not_true_or_lt hlegal hhorizon)).trans ?_))
  rw [hfree]
  exact if_neg (Nat.not_le.mpr hahead)

/-! ### A launch entry from its release to its launch (R192, R197, R198) -/

/-- An entry with data added as it arrives, and arrived when all the bytes are there (R198). -/
def dataArrived (l : Launch) (d : Desc) (poison : Bool) (data : List Nat) : Launch :=
  { l with
    pkt := { l.pkt with data := l.pkt.data ++ data }, poison := l.poison || poison,
    arrived := decide (d.length ≤ (l.pkt.data ++ data).length) }

section
variable {s : State} {n q i : Nat} {l : Launch} {d : Desc} (hentry : SMap.get s.gate.launch n none = some l)
  (hdesc : (s.qp q).desc i = some d)

section
include hdesc

theorem launchDesc_of_write (hkind : l.kind = .write q i) : s.launchDesc l = some (q, d) := by
  simp [State.launchDesc, hkind, hdesc]

theorem launchDesc_of_cue (hkind : l.kind = .cue q i) : s.launchDesc l = some (q, d) := by
  simp [State.launchDesc, hkind, hdesc]

end

include hentry hdesc

section
variable (hnew : l.released = false) (hedge : s.releaseEdge l.lt ≤ s.ns) (hahead : s.ns < l.lt)
include hnew hedge hahead

theorem timedRelease_of_write (hkind : l.kind = .write q i) : s.timedRelease n = s.releaseWrite n l q d := by
  simp only [State.timedRelease, hentry, hkind, launchDesc_of_write hdesc hkind]
  rw [if_neg (not_true_or_lt hnew hedge), if_neg (Nat.not_le.mpr hahead)]

theorem timedRelease_of_cue (hkind : l.kind = .cue q i) : s.timedRelease n = s.releaseCue n l q d := by
  simp only [State.timedRelease, hentry, hkind, launchDesc_of_cue hdesc hkind]
  rw [if_neg (not_true_or_lt hnew hedge), if_neg (Nat.not_le.mpr hahead)]

end

section
variable (hkind : l.kind = .write q i)
include hkind

theorem timedFetchDone_of_waiting (hreleased : l.released = true) (hwaits : l.arrived = false) (poison : Bool)
    (data : List Nat) : s.timedFetchDone n 0 poison data = s.setLaunch n (some (dataArrived l d poison data)) := by
  have htakes : ¬ ((!l.released) = true ∨ l.arrived = true) := by simp [hreleased, hwaits]
  simp only [State.timedFetchDone, hentry, hkind, launchDesc_of_write hdesc hkind, dataArrived]
  rw [if_neg htakes, if_neg (not_not_intro rfl)]

/-- At its launch time a write launches with its data complete and is LATE without (R197, R198). -/
theorem timedLaunch_of_due (hdue : l.lt ≤ s.ns) : s.timedLaunch n =
    if l.arrived then s.launchWrite n l q d else ((s.undoRunAhead l).setLaunch n none).endLate q d l.lt := by
  simp only [State.timedLaunch, hentry, hkind, launchDesc_of_write hdesc hkind]
  exact if_neg (Nat.not_lt.mpr hdue)

end

end

/-! ### Writes held by TIMED windows (R389) -/

/-- The held packets with the launch time in their headers. -/
def windowPackets (l : Launch) : List QPkt := l.outs.map (fun x => { x with hdr := { x.hdr with timed := true, ts := l.lt } })

/-- The tests of R97 that a held write takes again at its launch (R389). -/
def windowTest (s : State) (l : Launch) : Option Nat :=
  s.launchTest l.src.ing (streamReq l.src.keyStream) l.src.hd (l.outs.headD {}).hdr.dst (l.outs.headD {}).hdr.stream
    (l.src.flow.bind FlowEnt.hopSel)

/-- What follows the commit of a held write's packets: their lines, the colour and the meter of the packet that came in, and
its copies. -/
def windowSent (u : State) (l : Launch) : State :=
  ((windowPackets l).foldl (fun (v : State) x => v.touchLines x) ((u.countColour l.src).commitDebit l.src)).ingressCopies
    l.src l.egress l.pkt.data

theorem timedWindowLaunch_of_committed {s u : State} {n : Nat} {l : Launch} (hentry : SMap.get s.gate.launch n none = some l)
    (hkind : l.kind = .window) (hdue : l.lt ≤ s.ns) (htest : windowTest (s.setLaunch n none) l = none)
    (hcommit : (s.setLaunch n none).commitRunAhead l.queue l.cells (windowPackets l) = some u) :
    s.timedWindowLaunch n = windowSent u l := by
  have hlaunches : ¬ (l.kind ≠ .window ∨ s.ns < l.lt) := not_or_intro (not_not_intro hkind) (Nat.not_lt.mpr hdue)
  rw [windowTest] at htest
  rw [windowPackets] at hcommit
  simp only [State.timedWindowLaunch, hentry]
  rw [if_neg hlaunches, htest, hcommit]
  rfl

/-! ### The rows of the launch table -/

section
variable {s : State} {t : Nat} (hup : (s.advance t).portsUp = true)
include hup

theorem exec_timedRelease (n : Nat) : exec (.timedRelease t n) s = .next (settle ((s.advance t).timedRelease n)) :=
  done_whenUp hup

theorem exec_timedFetchDone (n status : Nat) (poison : Bool) (data : List Nat) :
    exec (.timedFetchDone t n status poison data) s = .next (settle ((s.advance t).timedFetchDone n status poison data)) :=
  done_whenUp hup

theorem exec_timedLaunch (n : Nat) : exec (.timedLaunch t n) s = .next (settle ((s.advance t).timedLaunch n)) :=
  done_whenUp hup

theorem exec_timedWindowLaunch (n : Nat) :
    exec (.timedWindowLaunch t n) s = .next (settle ((s.advance t).timedWindowLaunch n)) := done_whenUp hup

section
variable {q i : Nat} {d : Desc} (hready : Safety.ready (s.advance t) q i d = true)
include hready

theorem exec_timedWrite (hop : d.opcode = 0x04) :
    exec (.timedWrite t q i) s = .next (settle ((s.advance t).timedWrite q i)) :=
  done_whenUp_onOp hup hready (beq_iff_eq.mpr hop)

theorem exec_timedCue (hop : d.opcode = 0x05) :
    exec (.timedCue t q i) s = .next (settle ((s.advance t).timedCue q i)) :=
  done_whenUp_onOp hup hready (beq_iff_eq.mpr hop)

end

end

/-- Settles O22: a legal timed descriptor by the entry that it takes, and each later event of an entry by the state in which
it finds the entry. -/
theorem timedCommandsComplete : Obligations.TimedCommandsComplete := by
  unfold Obligations.TimedCommandsComplete
  refine ⟨?take, ?entry, ?window⟩
  case take =>
    intro s t q i n d a hup hready hnew hfree hahead hhorizon hflags
    refine ⟨fun hop hfits => ?write, fun hop hfits => ?cue⟩
    case write =>
      rw [exec_timedWrite hup hready hop, timedWrite_eq,
        takeLaunch_of_legal _ hready hnew hfree hahead hhorizon (Bool.and_eq_true_iff.mpr ⟨hflags, hfits⟩)]
    case cue =>
      rw [exec_timedCue hup hready hop, timedCue_eq,
        takeLaunch_of_legal _ hready hnew hfree hahead hhorizon (Bool.and_eq_true_iff.mpr ⟨hflags, hfits⟩)]
  case entry =>
    intro s t n q i l d a hup hentry hdesc
    refine ⟨fun hnew hedge hahead => ⟨fun hkind => ?releaseWrite, fun hkind => ?releaseCue⟩,
      fun hkind hreleased hwaits poison data => ?fetchDone,
      fun hkind hdue => ⟨fun harrived => ?launch, fun hwaits => ?late⟩⟩
    case releaseWrite => rw [exec_timedRelease hup, timedRelease_of_write hentry hdesc hnew hedge hahead hkind]
    case releaseCue => rw [exec_timedRelease hup, timedRelease_of_cue hentry hdesc hnew hedge hahead hkind]
    case fetchDone =>
      rw [exec_timedFetchDone hup, timedFetchDone_of_waiting hentry hdesc hkind hreleased hwaits]
      rfl
    case launch => rw [exec_timedLaunch hup, timedLaunch_of_due hentry hdesc hkind hdue, if_pos harrived]
    case late => rw [exec_timedLaunch hup, timedLaunch_of_due hentry hdesc hkind hdue, if_neg (Bool.eq_false_iff.mp hwaits)]
  case window =>
    intro s u t n l a o pkts hup hentry hkind hdue htest hcommit
    rw [exec_timedWindowLaunch hup, timedWindowLaunch_of_committed hentry hkind hdue htest hcommit]
    rfl

end Sys2Proof.Proofs
end

section
/-! PROOFS of the statements of 07_observing_traffic: the counters of a port (R217), queue samples and their ring (R223, R226),
snapshots (R228 to R230), and the OBSERVER operations (R444). -/

namespace Sys2Proof.Proofs
open Sys2Proof.Machine Sys2Proof.Laws

/-! ### The rows of observing -/

theorem exec_obsCounterClear (s : State) (t path p v : Nat) :
    exec (.obsCounterClear t path p v) s = .next (settle ((s.advance t).regCmd path (OBS_PORT_CTRL.addr p) v)) := rfl

theorem exec_sampleRingEnable (s : State) (t path v : Nat) :
    exec (.sampleRingEnable t path v) s = .next (settle ((s.advance t).regCmd path OBS_RING_CFG.off v)) := rfl

section
variable {s : State} {t : Nat} (hup : (s.advance t).portsUp = true)
include hup

theorem exec_queueSamplePoint (j : Nat) :
    exec (.queueSamplePoint t j) s = .next (settle ((s.advance t).samplePoint j)) := done_whenUp hup

theorem exec_snapshotCapture :
    exec (.snapshotCapture t) s = .next (settle ((s.advance t).captureEdge false)) := done_whenUp hup

section
variable {q i : Nat} {d : Desc} (hready : Safety.ready (s.advance t) q i d = true)
include hready

theorem exec_snapshotLocal (hop : Desc.isOp 0x1B 1 d = true) :
    exec (.snapshotLocal t q i) s = .next (settle ((s.advance t).snapLocal q i)) := done_whenUp_onOp hup hready hop

theorem exec_snapshotFabric (hop : Desc.isOp 0x1B 2 d = true) :
    exec (.snapshotFabric t q i) s = .next (settle ((s.advance t).snapFabric q i)) := done_whenUp_onOp hup hready hop

theorem exec_observerEvtSel (hop : Desc.isOp 0x1A 1 d = true) :
    exec (.observerEvtSel t q i) s = .next (settle ((s.advance t).observerEvtSel q i)) := done_whenUp_onOp hup hready hop

theorem exec_observerSample (hop : Desc.isOp 0x1A 2 d = true) :
    exec (.observerSample t q i) s = .next (settle ((s.advance t).observerSample q i)) := done_whenUp_onOp hup hready hop

theorem exec_observerVfVis (hop : Desc.isOp 0x1A 3 d = true) :
    exec (.observerVfVis t q i) s = .next (settle ((s.advance t).observerVfVis q i)) := done_whenUp_onOp hup hready hop

theorem exec_observerClear (hop : Desc.isOp 0x1A 4 d = true) :
    exec (.observerClear t q i) s = .next (settle ((s.advance t).observerClear q i)) := done_whenUp_onOp hup hready hop

end

end

/-! ### The registers of OBSERVE with an effect of their own (R217, R226) -/

theorem regAt_obsPortCtrl : ∀ p < 96, regAt (OBS_PORT_CTRL.addr p) = some (OBS_PORT_CTRL, p, 0) := by decide +kernel

theorem obsPortCtrl_addr (p : Nat) : OBS_PORT_CTRL.addr p = 0x81000 + p * 0x100 := by simp [RegDesc.addr, OBS_PORT_CTRL]

/-- A field of one bit takes a set bit as 1. -/
theorem bits_self_of_bit {v n : Nat} (h : bit v n = true) : bits v n n = 1 := by
  simpa [bits, bit] using h

section
variable {s : State} {path v : Nat}

theorem regCmd_obsPortCtrl_clear {p : Nat} (hp : p < 96) (ht : Safety.takes s path OBS_PORT_CTRL p 0 v = true)
    (hclear : bit v 1 = true) :
    s.regCmd path (OBS_PORT_CTRL.addr p) v = (s.wr OBS_PORT_CTRL_IRQ_ON_WRAP (bits v 0 0) p).obsClear p := by
  have haddr := obsPortCtrl_addr p
  have heffect : s.hookPorts OBS_PORT_CTRL.off p 0 v =
      some (if bit v 1 then (s.wr OBS_PORT_CTRL_IRQ_ON_WRAP (bits v 0 0) p).obsClear p
        else s.wr OBS_PORT_CTRL_IRQ_ON_WRAP (bits v 0 0) p) := rfl
  rw [if_pos hclear] at heffect
  exact regCmd_ports ht (regAt_obsPortCtrl p hp) rfl (by omega) (by omega) (by decide) heffect

theorem regCmd_ringCfg (ht : Safety.takes s path OBS_RING_CFG 0 0 v = true) :
    s.regCmd path OBS_RING_CFG.off v = s.ringCfgWrite v :=
  regCmd_ports ht (by decide +kernel) rfl (by decide) (by decide) (by decide) rfl

/-- The fields of OBS_RING_CFG as a write that enables the ring stores them. -/
def ringFields (s : State) (v : Nat) : State :=
  ((((s.wr OBS_RING_CFG_SUBDIV (bits v 2 0)).wr OBS_RING_CFG_PF (bits v 28 24)).wr OBS_RING_CFG_IRQ (bits v 30 30)).wr
    OBS_RING_CFG_EN 1).wr OBS_RING_CFG_LOG2_ENTRIES (min (bits v 19 16) 16)

/-- The ring at index 0 with phase 1 (R226). -/
def ringRestarted (s : State) : State :=
  { s.wr OBS_RING_TAIL_INDEX 0 with obs := { (s.wr OBS_RING_TAIL_INDEX 0).obs with ringPhase := true } }

/-- A write that keeps SUBDIV needs no check of R225; one that sets EN starts the ring afresh. -/
theorem ringCfgWrite_of_enable (hen : bit v 31 = true) (hlog : 6 ≤ bits v 19 16)
    (hsubdiv : bits v 2 0 = s.rd OBS_RING_CFG_SUBDIV) : s.ringCfgWrite v = ringRestarted (ringFields s v) := by
  have hkept : ¬ (bits v 2 0 ≠ s.rd OBS_RING_CFG_SUBDIV ∧ (!s.sampleOk (s.rd OBS_SAMPLE_COUNT_N) (bits v 2 0)) = true) :=
    fun hchange => hchange.1 hsubdiv
  rw [State.ringCfgWrite, if_neg hkept, if_pos hen, if_pos hlog, bits_self_of_bit hen]
  rfl

end

/-! ### Queue samples (R223) -/

/-- A queue after sample point `j`: both maxima reach to now, and the sample of the tick edge is kept. -/
def queueSampled (s : State) (j : Nat) (q : Queue) : Queue :=
  { q with maxDepth := max q.maxDepth q.depth, maxSojourn := max q.maxSojourn (s.sojourn q),
           lastSojourn := if j = 0 then s.sojourn q else q.lastSojourn }

/-- Every mapped queue sampled. -/
def queuesSampled (s : State) (j : Nat) : State :=
  s.mapped.foldl (fun (u : State) e => u.setQueue e.1 (queueSampled u j (u.queue e.1))) s

/-- A sample point whose time has come writes no ring entry while the ring is off. -/
theorem samplePoint_of_due {s : State} {j : Nat} (htick : s.ticking = true) (hpoint : j < 2 ^ s.rd OBS_RING_CFG_SUBDIV)
    (hdue : s.sampleTime j (s.rd OBS_RING_CFG_SUBDIV) ≤ s.ns) (hring : s.on OBS_RING_CFG_EN = false) :
    s.samplePoint j = queuesSampled s j := by
  have hsamples : ¬ ((!s.ticking) = true ∨ 2 ^ s.rd OBS_RING_CFG_SUBDIV ≤ j ∨
      s.ns < s.sampleTime j (s.rd OBS_RING_CFG_SUBDIV)) := by
    rw [htick]
    exact not_or_intro Bool.false_ne_true (not_or_intro (Nat.not_le.mpr hpoint) (Nat.not_lt.mpr hdue))
  rw [State.samplePoint, if_neg hsamples, hring]
  rfl

/-! ### Snapshots (R228 to R230) -/

/-- A SNAPSHOT noted as waiting for the capture or the global operation `id`. -/
def awaitSnapshot (s : State) (q i id : Nat) : State :=
  s.setHerd (fun h => { h with snaps := h.snaps ++ [{ qp := q, idx := i, id := id }] })

section
variable {s : State} {q i : Nat} {d : Desc} (hready : Safety.ready s q i d = true) (hok : d.snapOk = true)
  (hnew : s.herd.snaps.any (fun w => w.qp == q && w.idx == i) = false) (hfree : s.on OBS_SNAP_STATUS_PENDING = false)

include hok hnew hfree in
/-- The checks of a SNAPSHOT that is of legal form and not begun yet, with no capture pending. -/
theorem snapshotChecks_passed (u : State) :
    (if s.herd.snaps.any (fun w => w.qp == q && w.idx == i) then s
      else if !d.snapOk then s.finish q d stBAD_DESCRIPTOR
      else if s.on OBS_SNAP_STATUS_PENDING then s.finish q d stNOT_PERMITTED
      else u) = u := by
  rw [hnew, hok, hfree]; rfl

include hready hok hnew hfree

/-- A local snapshot asks for its capture at the next tick (R229). -/
theorem snapLocal_of_free : s.snapLocal q i =
    awaitSnapshot (s.askCapture (s.time.tick + 1) (byteAt d.img 41) (bytesAt d.img 42 45)) q i (s.time.tick + 1) :=
  (withDesc_ready hready).trans (snapshotChecks_passed hok hnew hfree _)

/-- A snapshot of the fabric is a global operation of its own number (R229, R271, log entry 31). -/
theorem snapFabric_of_free : s.snapFabric q i =
    ((awaitSnapshot s q i (bytesAt d.img 42 45)).beginOwnOp goSNAPSHOT (bytesAt d.img 42 45)).request goSNAPSHOT
      (bytesAt d.img 42 45) (byteAt d.img 41) 0 :=
  (withDesc_ready hready).trans (snapshotChecks_passed hok hnew hfree _)

end

/-- The captures of a tick edge, each with the end of the local snapshots that asked for it (R230). -/
def capturesTaken (s : State) (due : List SnapReq) : State :=
  due.foldl (fun (u : State) x => (u.capture x).endLocalSnaps x.tick) s

theorem captureEdge_of_kept (s : State) : s.captureEdge false =
    (capturesTaken s.dueCaptures.2 s.dueCaptures.1).snapReports s.dueCaptures.1 false
      (s.herd.ops.filter (fun o => decide (o.tick ≤ s.time.tick))) := rfl

/-! ### The OBSERVER operations (R444) -/

/-- A queue selection stored in table 0x40. -/
def setSample (s : State) (n v : Nat) : State := { s with obs := { s.obs with sample := SMap.set s.obs.sample n v 0 } }

/-- The visibility of a VF as one bit of its word of OBS_VF_VIS. -/
def setVfVisible (s : State) (n : Nat) (visible : Bool) : State :=
  s.wr OBS_VF_VIS_VALUE (setBit (s.rd OBS_VF_VIS_VALUE (n / 32)) (n % 32) visible) (n / 32)

section
variable {s : State} {q i : Nat} {d : Desc} (hready : Safety.ready s q i d = true) (hok : d.obsOk = true)
include hready hok

theorem observerEvtSel_of_legal (hsel : bytesAt d.img 42 43 < 8) (hword : bytesAt d.img 44 47 < 2 ^ 30)
    (hevent : bits (bytesAt d.img 44 47) 7 0 ≤ 11) (hport : s.portExists (byteAt d.img 41) = true) :
    s.observerEvtSel q i =
      (s.evtSelWrite (byteAt d.img 41) (bytesAt d.img 42 43) (bytesAt d.img 44 47)).finish q d stOK := by
  refine withDesc_legal hready ?_ rfl
  rw [hok, decide_eq_true hsel, decide_eq_true hword, decide_eq_true hevent, hport]; rfl

theorem observerSample_of_legal (hzero : d.zero 41 41 = true) (hindex : bytesAt d.img 42 43 < 4096)
    (hword : bits (bytesAt d.img 44 47) 30 16 = 0) :
    s.observerSample q i = (setSample s (bytesAt d.img 42 43) (bytesAt d.img 44 47)).finish q d stOK := by
  refine withDesc_legal hready ?_ rfl
  rw [hok, hzero, decide_eq_true hindex, decide_eq_true hword]; rfl

theorem observerVfVis_of_legal (hzero : d.zero 41 41 = true) (hvf : bytesAt d.img 42 43 < 2048)
    (hword : bytesAt d.img 44 47 < 2) :
    s.observerVfVis q i = (setVfVisible s (bytesAt d.img 42 43) (bytesAt d.img 44 47 == 1)).finish q d stOK := by
  refine withDesc_legal hready ?_ rfl
  rw [hok, hzero, decide_eq_true hvf, decide_eq_true hword]; rfl

theorem observerClear_of_legal (hzero : d.zero 42 47 = true) (hport : s.portExists (byteAt d.img 41) = true) :
    s.observerClear q i = (s.obsClear (byteAt d.img 41)).finish q d stOK := by
  refine withDesc_legal hready ?_ rfl
  rw [hok, hzero, hport]; rfl

end

/-- Settles O23: each register by the effect that its write has, the sample point and the capture by the fold that each is,
and each descriptor by the legal case of its operation (log entry 31 numbers the snapshot's global operation). -/
theorem observingCommandsComplete : Obligations.ObservingCommandsComplete := by
  unfold Obligations.ObservingCommandsComplete
  refine ⟨?clear, ?samplePoint, ?ring, ?snapshot, ?capture, ?observer⟩
  case clear =>
    intro s t path p v a hp htakes hclear
    rw [exec_obsCounterClear, regCmd_obsPortCtrl_clear hp htakes hclear]
  case samplePoint =>
    intro s t j a hup htick hpoint hdue b hring
    rw [exec_queueSamplePoint hup, samplePoint_of_due htick hpoint hdue hring]
    rfl
  case ring =>
    intro s t path v a b htakes hen hlog hsubdiv
    rw [exec_sampleRingEnable, regCmd_ringCfg htakes, ringCfgWrite_of_enable hen hlog hsubdiv]
    rfl
  case snapshot =>
    intro s t q i d a hup hready hok hnew hfree
    refine ⟨fun hop => ?ofDevice, fun hop => ?ofFabric⟩
    case ofDevice =>
      rw [exec_snapshotLocal hup hready hop, snapLocal_of_free hready hok hnew hfree]
      rfl
    case ofFabric =>
      rw [exec_snapshotFabric hup hready hop, snapFabric_of_free hready hok hnew hfree]
      rfl
  case capture =>
    intro s t a r hup
    rw [exec_snapshotCapture hup, captureEdge_of_kept]
    rfl
  case observer =>
    intro s t q i d a n v hup hready hok
    refine ⟨fun hop hsel hword hevent hport => ?evtSel, fun hop hzero hindex hword => ?sample,
      fun hop hzero hvf hword => ?vfVis, fun hop hzero hport => ?portClear⟩
    case evtSel =>
      rw [exec_observerEvtSel hup hready hop, observerEvtSel_of_legal hready hok hsel hword hevent hport]
    case sample =>
      rw [exec_observerSample hup hready hop, observerSample_of_legal hready hok hzero hindex hword]
      rfl
    case vfVis =>
      rw [exec_observerVfVis hup hready hop, observerVfVis_of_legal hready hok hzero hvf hword]
      rfl
    case portClear => rw [exec_observerClear hup hready hop, observerClear_of_legal hready hok hzero hport]

end Sys2Proof.Proofs
end

section
/-! PROOFS of the statements of 08_herd_fabric: the steps of Herd (R245, R246, R252, R261, R267), its register commands (R255,
R256, R269 to R272), and ROUTE_PIN (R275, R437). -/

namespace Sys2Proof.Proofs
open Sys2Proof.Machine Sys2Proof.Laws

/-! ### The rows of Herd's steps -/

section
variable {s : State} {t : Nat} (hup : (s.advance t).portsUp = true)
include hup

theorem exec_rootEstablished : exec (.rootEstablished t) s = .next (settle (s.advance t).rootEstablished) := done_whenUp hup

theorem exec_joinSend : exec (.joinSend t) s = .next (settle (s.advance t).joinSend) := done_whenUp hup

theorem exec_fabricMergeReset : exec (.fabricMergeReset t) s = .next (settle (s.advance t).fabricMergeReset) := done_whenUp hup

theorem exec_epochInstall : exec (.epochInstall t) s = .next (settle (s.advance t).epochEdge) := done_whenUp hup

theorem exec_globalAction : exec (.globalAction t) s = .next (settle (s.advance t).globalEdge) := done_whenUp hup

theorem exec_moveTimeout (n : Nat) : exec (.moveTimeout t n) s = .next (settle ((s.advance t).moveTimeout n)) := done_whenUp hup

end

/-! ### The root's own establishment, and the request to join another (R245, R246, R266) -/

/-- The device with its own vector established, and the home entries rebuilt from its domain table (R245, R266). -/
def ownEstablished (s : State) : State :=
  (s.setHerd (fun h => { h with best := { h.best with est := true } })).rebuildHomes

/-- A root without a two-way adjacency is a fabric of one device. -/
def rootIfAlone (s : State) : State :=
  if s.twoWays.isEmpty then (s.wr HERD_STATUS_STATE hsROOT).wr HERD_FABRIC_DEVICES 1 else s

/-- The established root with the DID that it assigns to itself. -/
def rootInstalled (s : State) : State :=
  rootIfAlone ((ownEstablished s).rootAssign (ownEstablished s).uid (ownEstablished s).didReq 0)

section
variable {s : State}

@[simp] theorem uid_ownEstablished : (ownEstablished s).uid = s.uid := rfl

@[simp] theorem didReq_ownEstablished : (ownEstablished s).didReq = s.didReq := rfl

theorem rootEstablished_of_due (hon : s.herdOn = true) (hknown : s.herd.known = true) (hown : s.herd.best.uid = s.uid)
    (hnew : s.herd.best.est = false) (hsteps : 3 ≤ s.herd.since) :
    s.rootEstablished = (rootInstalled s).syncElect.flood none hmCLAIM (rootInstalled s).herd.best.body := by
  have hdue : (s.herdOn && s.herd.known && s.herd.best.uid == s.uid && !s.herd.best.est && decide (3 ≤ s.herd.since)) = true := by
    simp [hon, hknown, hown, hnew, hsteps]
  rw [State.rootEstablished, if_pos hdue, rootInstalled, uid_ownEstablished, didReq_ownEstablished]
  rfl

/-- A device within the diameter sends its JOIN and stays as it is (R246, R248). -/
theorem joinSend_of_due (hon : s.herdOn = true) (hknown : s.herd.known = true) (hother : s.herd.best.uid ≠ s.uid)
    (hsteps : 3 ≤ s.herd.since) (hunsent : s.herd.joinSent = false) (hnear : s.herd.best.dist ≤ s.dMaxFor s.tTick) :
    s.joinSend = (s.setHerd (fun h => { h with joinSent := true })).toParent hmJOIN (joinBody s.uid s.didReq) := by
  have hdue : (s.herdOn && s.herd.known && s.herd.best.uid != s.uid && decide (3 ≤ s.herd.since) && !s.herd.joinSent) = true := by
    simp [hon, hknown, hother, hsteps, hunsent]
  have hwithin : ¬ (decide (s.dMaxFor s.tTick < s.herd.best.dist) && !s.on HERD_STATUS_DID_VALID) = true := by
    simp [Nat.not_lt.mpr hnear]
  rw [State.joinSend, if_pos hdue, if_neg hwithin]

end

/-! ### What becomes due at a tick (R245, R252, R261, R267) -/

/-- The device with only the epochs left that lie ahead (R252). -/
def epochsTaken (s : State) : State :=
  (s.setHerd (fun h => { h with epochs := s.herd.epochs.filter (fun n => decide (s.time.tick < n)) })).wr HERD_EPOCH_PENDING
    (b2n (!(s.herd.epochs.filter (fun n => decide (s.time.tick < n))).isEmpty))

/-- The global operations whose tick has come. -/
def dueOps (s : State) : List GlobalOp := s.herd.ops.filter (fun o => decide (o.tick ≤ s.time.tick))

/-- The due operations performed in the order announced (R267). -/
def dueOpsPerformed (s : State) : State :=
  (dueOps s).foldl (fun (u : State) o => u.globalAct o)
    (s.setHerd (fun h => { h with ops := h.ops.filter (fun o => decide (s.time.tick < o.tick)) }))

section
variable {s : State}

theorem fabricMergeReset_of_due (h : s.herd.mergeDue = true) :
    s.fabricMergeReset = ((((s.setOn HERD_EVENTS_ROOT_CHANGE).raise 153).failGlobals).herdReset.mergeTime) := if_pos h

theorem epochInstall_of_due (h : s.herd.epochs.any (fun n => decide (n ≤ s.time.tick)) = true) :
    s.epochInstall = (epochsTaken s).installRoutes := if_pos h

/-- A due epoch installs its routes, and the devices that they no longer reach are lost (R252, R263). -/
theorem epochEdge_of_due (h : s.herd.epochs.any (fun n => decide (n ≤ s.time.tick)) = true) :
    s.epochEdge = (epochsTaken s).installRoutes.remoteLost
      (s.liveDids.filter (fun d => !(epochsTaken s).installRoutes.liveDids.contains d)) := by
  rw [State.epochEdge, epochInstall_of_due h]

theorem globalActs_eq (s : State) : s.globalActs = ((dueOps s).any (fun o => o.op == goRESET_DEVICE), dueOpsPerformed s) := rfl

theorem globalEdge_of_no_reset (h : (dueOps s).any (fun o => o.op == goRESET_DEVICE) = false) :
    s.globalEdge = dueOpsPerformed s := by
  rw [State.globalEdge, globalActs_eq, if_neg (Bool.eq_false_iff.mp h)]

theorem globalEdge_of_reset (h : (dueOps s).any (fun o => o.op == goRESET_DEVICE) = true) :
    s.globalEdge = (dueOpsPerformed s).trigger rsHERD false := by
  rw [State.globalEdge, globalActs_eq, if_pos h]

theorem moveTimeout_of_overdue {n : Nat} {m : Move} (hmove : s.move n = some m) (hticks : s.rd HERD_MOVE_CFG_TIMEOUT ≤ m.ticks) :
    s.moveTimeout n = ((s.endMove n).setOn HERD_EVENTS_MOVE_TIMEOUT).raise 151 { arg := n } := by
  rw [State.moveTimeout, hmove]
  exact if_pos hticks

end

/-! ### HERD_CTRL (R255, R256) -/

theorem exec_rebalance (s : State) (t path v : Nat) :
    exec (.rebalance t path v) s = .next (settle ((s.advance t).regCmd path HERD_CTRL.off v)) := rfl

theorem exec_applyPending (s : State) (t path v : Nat) :
    exec (.applyPending t path v) s = .next (settle ((s.advance t).regCmd path HERD_CTRL.off v)) := rfl

/-- HERD_CTRL with the fields stored that a write only stores. -/
def herdCtrlFields (s : State) (v : Nat) : State :=
  (s.wr HERD_CTRL_JOIN_HOLD (bits v 2 2)).wr HERD_CTRL_REMOTE_ADMIN (bits v 1 1)

section
variable {s : State} {path v : Nat}

theorem regCmd_herdCtrl (h : Safety.takes s path HERD_CTRL 0 0 v = true) :
    s.regCmd path HERD_CTRL.off v = s.herdCtrlWrite v :=
  regCmd_fab h (by decide +kernel) rfl (by decide) (by decide) (by decide) rfl

theorem herdEnable_same {on : Bool} (h : on = s.herdOn) : s.herdEnable on = s := if_pos (beq_iff_eq.mpr h)

section
variable (hsame : bit v 0 = (herdCtrlFields s v).herdOn)
include hsame

theorem herdCtrlWrite_rebalance (hreb : bit v 3 = true) (happly : bit v 4 = false) :
    s.herdCtrlWrite v = (herdCtrlFields s v).rebalance := by
  rw [State.herdCtrlWrite, hreb, happly]
  exact congrArg State.rebalance (herdEnable_same hsame)

theorem herdCtrlWrite_applyPending (hreb : bit v 3 = false) (happly : bit v 4 = true) :
    s.herdCtrlWrite v = (herdCtrlFields s v).applyPending := by
  rw [State.herdCtrlWrite, hreb, happly]
  exact congrArg State.applyPending (herdEnable_same hsame)

end

end

/-! ### HERD_GLOBAL_CMD (R269 to R272) -/

section
variable {op n : Nat} (hop : op < 8)
include hop

theorem globalWord_mod : (op + n * 2 ^ 16) % 8 = op := by omega

theorem bits_globalWord_op : bits (op + n * 2 ^ 16) 2 0 = op := by
  simp only [bits]; omega

theorem bits_globalWord_id (hn : n < 2 ^ 16) : bits (op + n * 2 ^ 16) 31 16 = n := by
  simp only [bits]; omega

/-- The word that names operation `op` with ID `n` is that operation. -/
theorem regCmd_globalCmd {s : State} {path : Nat} (hn : n < 2 ^ 16)
    (h : Safety.takes s path HERD_GLOBAL_CMD 0 0 (op + n * 2 ^ 16) = true) :
    s.regCmd path HERD_GLOBAL_CMD.off (op + n * 2 ^ 16) = s.globalCmd op n := by
  have hwrite : s.regCmd path HERD_GLOBAL_CMD.off (op + n * 2 ^ 16) =
      s.globalCmd (bits (op + n * 2 ^ 16) 2 0) (bits (op + n * 2 ^ 16) 31 16) :=
    regCmd_fab h (by decide +kernel) rfl (by decide) (by decide) (by decide) rfl
  rw [hwrite, bits_globalWord_op hop, bits_globalWord_id hop hn]

end

section
variable {s : State} {t path n : Nat} (hn : n < 2 ^ 16)
include hn

theorem exec_barrierArrive (h : Safety.takes (s.advance t) path HERD_GLOBAL_CMD 0 0 (goBARRIER + n * 2 ^ 16) = true) :
    exec (.barrierArrive t path (goBARRIER + n * 2 ^ 16)) s = .next (settle ((s.advance t).globalCmd goBARRIER n)) :=
  congrArg done ((if_pos (globalWord_mod (by decide))).trans (regCmd_globalCmd (by decide) hn h))

theorem exec_broadcast (h : Safety.takes (s.advance t) path HERD_GLOBAL_CMD 0 0 (goBROADCAST + n * 2 ^ 16) = true) :
    exec (.broadcast t path (goBROADCAST + n * 2 ^ 16)) s = .next (settle ((s.advance t).globalCmd goBROADCAST n)) :=
  congrArg done ((if_pos (globalWord_mod (by decide))).trans (regCmd_globalCmd (by decide) hn h))

theorem exec_fabricResetHerd (h : Safety.takes (s.advance t) path HERD_GLOBAL_CMD 0 0 (goRESET_HERD + n * 2 ^ 16) = true) :
    exec (.fabricResetHerd t path (goRESET_HERD + n * 2 ^ 16)) s = .next (settle ((s.advance t).globalCmd goRESET_HERD n)) :=
  congrArg done ((if_pos (globalWord_mod (by decide))).trans (regCmd_globalCmd (by decide) hn h))

theorem exec_fabricResetDevice (h : Safety.takes (s.advance t) path HERD_GLOBAL_CMD 0 0 (goRESET_DEVICE + n * 2 ^ 16) = true) :
    exec (.fabricResetDevice t path (goRESET_DEVICE + n * 2 ^ 16)) s = .next (settle ((s.advance t).globalCmd goRESET_DEVICE n)) :=
  congrArg done ((if_pos (globalWord_mod (by decide))).trans (regCmd_globalCmd (by decide) hn h))

end

section
variable {s : State} (n : Nat) (hdid : s.on HERD_STATUS_DID_VALID = true) (htick : s.ticking = true)
include hdid htick

theorem globalCmd_barrier : s.globalCmd goBARRIER n = (s.beginOwnOp goBARRIER n).arrive none n 1 false := by
  rw [State.globalCmd, hdid, htick]; rfl

theorem globalCmd_broadcast :
    s.globalCmd goBROADCAST n = (s.beginOwnOp goBROADCAST n).request goBROADCAST n 0 (s.rd HERD_GLOBAL_ARG_VALUE) := by
  rw [State.globalCmd, hdid, htick]; rfl

theorem globalCmd_reset {op : Nat} (hop : op = goRESET_HERD ∨ op = goRESET_DEVICE) :
    s.globalCmd op n = (s.beginOwnOp op n).request op n 0 0 := by
  rw [State.globalCmd, hdid, htick]
  rcases hop with rfl | rfl
  · rfl
  · rfl

end

/-- Settles O25: each step by its case that is due, and each register command by the operation that its word names. -/
theorem herdStepsComplete : Obligations.HerdStepsComplete := by
  unfold Obligations.HerdStepsComplete
  refine ⟨?established, ?join, ?due, ?control, ?command⟩
  case established =>
    intro s t a b c d hup hon hknown hown hnew hsteps
    refine ⟨_, exec_rootEstablished hup, fun _ _ => ?_⟩
    exact rootEstablished_of_due hon hknown hown hnew hsteps
  case join =>
    intro s t a b hup hon hknown hother hsteps hunsent hnear
    rw [exec_joinSend hup, joinSend_of_due hon hknown hother hsteps hunsent hnear]
  case due =>
    intro s t a hup
    refine ⟨fun hmerge => ?merge, fun hepoch => ?epoch, ⟨fun hno => ?acts, fun hreset => ?reset⟩, fun n m hmove hticks => ?move⟩
    case merge => rw [exec_fabricMergeReset hup, fabricMergeReset_of_due hmerge]
    case epoch => rw [exec_epochInstall hup, epochEdge_of_due hepoch]; rfl
    case acts => rw [exec_globalAction hup, globalEdge_of_no_reset hno]; rfl
    case reset => rw [exec_globalAction hup, globalEdge_of_reset hreset]; rfl
    case move => rw [exec_moveTimeout hup, moveTimeout_of_overdue hmove hticks]
  case control =>
    intro s t path v a b htakes hsame
    refine ⟨fun hreb happly => ?rebalance, fun hreb happly => ?apply⟩
    case rebalance => rw [exec_rebalance, regCmd_herdCtrl htakes, herdCtrlWrite_rebalance hsame hreb happly]; rfl
    case apply => rw [exec_applyPending, regCmd_herdCtrl htakes, herdCtrlWrite_applyPending hsame hreb happly]; rfl
  case command =>
    intro s t path n a hn hdid htick
    refine ⟨fun htakes => ?barrier, fun htakes => ?broadcast, fun htakes => ?resetHerd, fun htakes => ?resetDevice⟩
    case barrier => exact (exec_barrierArrive hn htakes).trans (congrArg done (globalCmd_barrier n hdid htick))
    case broadcast => exact (exec_broadcast hn htakes).trans (congrArg done (globalCmd_broadcast n hdid htick))
    case resetHerd => exact (exec_fabricResetHerd hn htakes).trans (congrArg done (globalCmd_reset n hdid htick (Or.inl rfl)))
    case resetDevice => exact (exec_fabricResetDevice hn htakes).trans (congrArg done (globalCmd_reset n hdid htick (Or.inr rfl)))

/-! ### ROUTE_PIN (R275, R437) -/

section
variable {s : State} {t q i : Nat} {d : Desc} (hup : (s.advance t).portsUp = true)
  (hready : Safety.ready (s.advance t) q i d = true)
include hup hready

theorem exec_routePinDid (hop : Desc.isOp 0x17 1 d = true) :
    exec (.routePinDid t q i) s = .next (settle ((s.advance t).pinDid q i)) := done_whenUp_onOp hup hready hop

theorem exec_routeUnpinDid (hop : Desc.isOp 0x17 2 d = true) :
    exec (.routeUnpinDid t q i) s = .next (settle ((s.advance t).unpinDid q i)) := done_whenUp_onOp hup hready hop

theorem exec_routePinHops (hop : Desc.isOp 0x17 3 d = true) :
    exec (.routePinHops t q i) s = .next (settle ((s.advance t).pinHops q i)) := done_whenUp_onOp hup hready hop

theorem exec_routeUnpinHops (hop : Desc.isOp 0x17 4 d = true) :
    exec (.routeUnpinHops t q i) s = .next (settle ((s.advance t).unpinHops q i)) := done_whenUp_onOp hup hready hop

theorem exec_routeRead (hop : Desc.isOp 0x17 5 d = true) :
    exec (.routeRead t q i) s = .next (settle ((s.advance t).routeRead q i)) := done_whenUp_onOp hup hready hop

end

/-- DID `n` reserved for the UID, or with its reservation ended (R275). -/
def setDidPin (s : State) (n : Nat) (pinned : Bool) (uid : Nat) : State :=
  s.setDid n { SMap.get s.herd.dids n {} with pinned := pinned, pinUid := uid }

/-- The route `r` with the hops of `l` at their positions and no others, and its map filled from them. -/
def withHops (r : Route) (l : List (Nat × Nat)) : Route :=
  (l.foldl (fun (x : Route) e => x.setHop e.1 e.2) { r with hv := sum (l.map (fun e => 2 ^ e.1)) }).fillMap

/-- The route to `n` valid and pinned with the hops of `l` (R274). -/
def pinRoute (s : State) (n : Nat) (l : List (Nat × Nat)) : State :=
  s.setRoute n { withHops (s.route n) l with valid := true, pinned := true, dir := s.ringDir (l.map (·.2)) }

section
variable {s : State} {q i : Nat} {d : Desc} (hready : Safety.ready s q i d = true) (hok : d.pinOk = true)
include hready hok

theorem pinDid_of_legal :
    s.pinDid q i = (setDidPin s (bytesAt d.img 42 43) true (bytesAt d.img 44 51)).finish q d stOK :=
  withDesc_legal hready hok rfl

theorem unpinDid_of_legal : s.unpinDid q i = (setDidPin s (bytesAt d.img 42 43) false 0).finish q d stOK :=
  withDesc_legal hready hok rfl

/-- Hops to pin are at least one, all different and all fabric ports. -/
theorem pinHops_of_legal (hsome : d.pinPorts ≠ []) (hdiff : (d.pinPorts.map (·.2)).Nodup)
    (hfab : ∀ e ∈ d.pinPorts, s.isFab e.2 = true) :
    s.pinHops q i = (pinRoute s (bytesAt d.img 42 43) d.pinPorts).finish q d stOK := by
  have hlegal : (d.pinOk && !d.pinPorts.isEmpty && decide ((d.pinPorts.map (·.2)).Nodup)
      && d.pinPorts.all (fun e => s.isFab e.2)) = true := by
    rw [hok, List.isEmpty_eq_false_iff.mpr hsome, decide_eq_true hdiff, List.all_eq_true.mpr hfab]; rfl
  exact withDesc_legal hready hlegal rfl

theorem unpinHops_of_legal : s.unpinHops q i =
    (s.setRoute (bytesAt d.img 42 43) { s.route (bytesAt d.img 42 43) with pinned := false }).finish q d stOK :=
  withDesc_legal hready hok rfl

theorem routeRead_of_legal (harea : (s.qp q).dataBase ≠ 0) : s.routeRead q i =
    s.finish q d stOK 0 (some (leBytes 32 (s.route (bytesAt d.img 42 43)).image)) :=
  (withDesc_legal hready hok rfl).trans (finishData_of_area _ harea)

end

/-- Settles O26: each operation of ROUTE_PIN is its effect, for the legal descriptor passes its guard. -/
theorem routePinsComplete : Obligations.RoutePinsComplete := by
  unfold Obligations.RoutePinsComplete
  intro s t q i d a n hup hready hok
  refine ⟨fun hop => ?pinDid, fun hop => ?unpinDid, fun hop hsome hdiff hfab => ?pinHops, fun hop => ?unpinHops,
    fun hop harea => ?read⟩
  case pinDid => rw [exec_routePinDid hup hready hop, pinDid_of_legal hready hok]; rfl
  case unpinDid => rw [exec_routeUnpinDid hup hready hop, unpinDid_of_legal hready hok]; rfl
  case pinHops => rw [exec_routePinHops hup hready hop, pinHops_of_legal hready hok hsome hdiff hfab]; rfl
  case unpinHops => rw [exec_routeUnpinHops hup hready hop, unpinHops_of_legal hready hok]
  case read => rw [exec_routeRead hup hready hop, routeRead_of_legal hready hok harea]

end Sys2Proof.Proofs
end

section
/-! PROOFS of the statements of 09_octets_and_lanes: octet modes (R279, R280), fabric bring-up (R285 to R291), clock lanes (R294),
Doze and Hibernate (R295 to R298), and lane tests (R300 to R302). -/

namespace Sys2Proof.Proofs
open Sys2Proof.Machine Sys2Proof.Laws

/-! ### Octet modes (R26, R279, R280, R301) -/

/-- Whether a write changes the mode or the protocol of an octet. -/
def octModeChanges (s : State) (k v : Nat) : Bool :=
  decide (v % 8 ≠ s.octMode k) || bit v 4 != s.on OCT_MODE_FABRIC k

/-- The octet with a write's mode, protocol and port enables stored. -/
def octModeFields (s : State) (k v : Nat) : State :=
  ((s.wr OCT_MODE_MODE (v % 8) k).wr OCT_MODE_FABRIC (b2n (bit v 4)) k).wr OCT_MODE_PORT_EN (bits v 11 8) k

/-- The same of an octet that is not the even half of an x16 pair, which its odd neighbour shows. -/
def octModeStored (s : State) (k v : Nat) : State :=
  if k % 2 = 0 then (octModeFields s k v).wr OCT_STATUS_PAIRED 0 (k + 1) else octModeFields s k v

theorem bit_zero (n : Nat) : bit 0 n = false := by simp [bit]

theorem bitsSet_zero (n : Nat) : bitsSet 0 n = [] := by simp [bitsSet, bit_zero]

/-- None of the ports to enable is enabled where no port is. -/
theorem filter_not_bit_zero (l : List Nat) : l.filter (fun j => !bit 0 j) = l :=
  List.filter_eq_self.mpr fun j _ => by rw [bit_zero, Bool.not_false]

section
variable {s : State} {k v : Nat}

theorem octModeChanges_of_same (hmode : v % 8 = s.octMode k) (hprotocol : bit v 4 = s.on OCT_MODE_FABRIC k) :
    octModeChanges s k v = false := by
  simp [octModeChanges, hmode, hprotocol]

/-- A write to an octet with no port enabled passes the checks of R279, R280, R301 and R26: it changes the mode only with
no enable and within the limit, and enables only ports of the mode, in an octet of its own outside test mode. -/
theorem octModeWrite_of_legal (hmode : v % 8 ≤ 3) (hfab : bit v 4 = true → v % 8 ≤ 1)
    (hcur : s.rd OCT_MODE_PORT_EN k = 0) (hpair : s.octMode k ≠ 4)
    (hchange : octModeChanges s k v = true → bits v 11 8 = 0 ∧ (octModeFields s k v).upPorts.length ≤ 32)
    (hports : ∀ j ∈ bitsSet (bits v 11 8) 4, j ∈ modePorts (v % 8) ∧ s.octPaired k = false ∧ s.on OCT_TEST_EN k = false) :
    s.octModeWrite k v = (bitsSet (bits v 11 8) 4).foldl (fun (u : State) j => u.portOn (4 * k + j)) (octModeStored s k v) := by
  have hdefined : ¬ 4 < v % 8 := by omega
  have hno4 : (v % 8 == 4) = false := beq_eq_false_iff_ne.mpr (by omega)
  have hold4 : (s.octMode k == 4) = false := beq_eq_false_iff_ne.mpr hpair
  have hrole : (bit v 4 && (v % 8 == 2 || v % 8 == 3)) = false := by
    cases hb : bit v 4 with
    | false => rfl
    | true =>
      have hle := hfab hb
      rw [beq_eq_false_iff_ne.mpr (show v % 8 ≠ 2 by omega), beq_eq_false_iff_ne.mpr (show v % 8 ≠ 3 by omega)]
      rfl
  have hcreated : (bitsSet (bits v 11 8) 4).any (fun j => !(modePorts (v % 8)).contains j || s.octPaired k) = false :=
    List.any_eq_false.mpr fun j hj => by simp [hports j hj]
  have htest : (s.on OCT_TEST_EN k && (bitsSet (bits v 11 8) 4).any (fun j => !bit 0 j)) = false := by
    cases hen : bitsSet (bits v 11 8) 4 with
    | nil => simp
    | cons j js =>
      obtain ⟨-, -, hoff⟩ := hports j (by simp [hen])
      simp [hoff]
  have hidle : (octModeChanges s k v && decide (bits v 11 8 ≠ 0)) = false := by
    cases hc : octModeChanges s k v with
    | false => rfl
    | true => simp [hchange hc]
  have hlimit : (octModeChanges s k v && decide (32 < (octModeFields s k v).upPorts.length)) = false := by
    cases hc : octModeChanges s k v with
    | false => rfl
    | true => simp [hchange hc]
  simp only [octModeChanges] at hidle
  simp only [State.octModeWrite, if_neg hdefined, hcur, hno4, hold4, hrole, hcreated, hidle, htest, filter_not_bit_zero,
    bitsSet_zero, ne_self_iff_false, decide_false, Bool.false_or, Bool.or_false, Bool.false_and, Bool.false_eq_true, if_false,
    List.filter_nil, List.foldl_nil]
  exact if_neg (Bool.eq_false_iff.mp hlimit)

/-- The mode of an idle octet, with no port enabled. -/
theorem octModeWrite_of_idle (hmode : v % 8 ≤ 3) (hfab : bit v 4 = true → v % 8 ≤ 1) (hnone : bits v 11 8 = 0)
    (hcur : s.rd OCT_MODE_PORT_EN k = 0) (hpair : s.octMode k ≠ 4) (hup : (octModeFields s k v).upPorts.length ≤ 32) :
    s.octModeWrite k v = octModeStored s k v := by
  have hports : bitsSet (bits v 11 8) 4 = [] := by rw [hnone, bitsSet_zero]
  rw [octModeWrite_of_legal hmode hfab hcur hpair (fun _ => ⟨hnone, hup⟩) (by simp [hports]), hports]
  rfl

/-- The only port of a one-port octet enabled. -/
theorem octModeWrite_of_enable (hmode : v % 8 = 1) (hold : s.octMode k = 1) (hprotocol : bit v 4 = s.on OCT_MODE_FABRIC k)
    (hen : bits v 11 8 = 1) (hcur : s.rd OCT_MODE_PORT_EN k = 0) (hown : s.octPaired k = false)
    (htest : s.on OCT_TEST_EN k = false) : s.octModeWrite k v = (octModeStored s k v).portOn (4 * k + 0) := by
  have hports : bitsSet (bits v 11 8) 4 = [0] := by rw [hen]; rfl
  have hsame : octModeChanges s k v = false := octModeChanges_of_same (hmode.trans hold.symm) hprotocol
  have hcreated : ∀ j ∈ bitsSet (bits v 11 8) 4, j ∈ modePorts (v % 8) ∧ s.octPaired k = false ∧ s.on OCT_TEST_EN k = false := by
    simp [hports, hmode, modePorts, hown, htest]
  rw [octModeWrite_of_legal (by omega) (by omega) hcur (by omega) (by simp [hsame]) hcreated, hports, foldl_one]

end

/-! ### The rows of lanes and links -/

section
variable {s : State} {t : Nat}

section
variable (hlinks : Safety.linksUp (s.advance t) = true)
include hlinks

theorem exec_receiverDetection (k : Nat) :
    exec (.receiverDetection t k) s = .next (settle ((s.advance t).detected k)) := done_whenLinks hlinks

theorem exec_trainingBlock (k lane : Nat) (raw : List Nat) :
    exec (.trainingBlock t k lane raw) s = .next (settle ((s.advance t).trainingBlock k lane raw)) := done_whenLinks hlinks

theorem exec_eqCountDone (k : Nat) (counts : List (Nat × Nat)) :
    exec (.eqCountDone t k counts) s = .next (settle ((s.advance t).eqCount k counts)) := done_whenLinks hlinks

theorem exec_bringupTimeout (k : Nat) :
    exec (.bringupTimeout t k) s = .next (settle ((s.advance t).bringupTimeout k)) := done_whenLinks hlinks

theorem exec_bringupRetry (k : Nat) :
    exec (.bringupRetry t k) s = .next (settle ((s.advance t).bringupRetry k)) := done_whenLinks hlinks

theorem exec_clockLaneLoss (k : Nat) :
    exec (.clockLaneLoss t k) s = .next (settle ((s.advance t).clockLaneLoss k)) := done_whenLinks hlinks

theorem exec_clockLaneRelock (k : Nat) :
    exec (.clockLaneRelock t k) s = .next (settle ((s.advance t).clockLaneRelock k)) := done_whenLinks hlinks

theorem exec_hibernateExitDone (k : Nat) (ok : Bool) :
    exec (.hibernateExitDone t k ok) s = .next (settle ((s.advance t).hibernateExitDone k ok)) := done_whenLinks hlinks

theorem exec_prbsCheckerLock (k i : Nat) :
    exec (.prbsCheckerLock t k i) s = .next (settle ((s.advance t).prbsLock k i)) := done_whenLinks hlinks

theorem exec_prbsCheckerLockLoss (k i nbits errs : Nat) :
    exec (.prbsCheckerLockLoss t k i nbits errs) s = .next (settle ((s.advance t).prbsLockLoss k i nbits errs)) :=
  done_whenLinks hlinks

end

section
variable (hup : (s.advance t).portsUp = true)
include hup

theorem exec_dozeEntry (k : Nat) : exec (.dozeEntry t k) s = .next (settle ((s.advance t).dozeEntry k)) := done_whenUp hup

theorem exec_dozeExit (k : Nat) : exec (.dozeExit t k) s = .next (settle ((s.advance t).dozeExit k)) := done_whenUp hup

theorem exec_dozeTimedWake (k : Nat) :
    exec (.dozeTimedWake t k) s = .next (settle ((s.advance t).dozeTimedWake k)) := done_whenUp hup

end

end

/-! ### Fabric bring-up (R285 to R291) -/

/-- The lanes of an octet's port as detection leaves them: at 8 GT/s, with nothing found yet. -/
def lanesDetected (s : State) (k : Nat) : State :=
  (List.range (s.fabWidth k)).foldl (fun (u : State) i =>
    ((((u.laneWr LANE_STATUS_LOCKED 0 k i).laneWr LANE_STATUS_RX_INVERTED 0 k i).laneWr LANE_STATUS_LOGICAL 0 k i).laneWr
      LANE_STATUS_FAIL_RATE 15 k i).laneWr LANE_STATUS_RATE 2 k i) s

/-- What a partner's block tells of its sender (R285). -/
def partnerNoted (s : State) (k : Nat) (b : List Nat) : State :=
  (s.setTrn k { s.trn k with partnerUid := bytesAt b 4 11, partnerRate := byteAt b 12, partnerOk := bytesAt b 14 15 }).wr
    OCT_FAB_STATUS_PARTNER_MAX (byteAt b 12) k

/-- A lane locked by an ALIGN block, with the polarity and the logical position found (R286). -/
def laneAligned (s : State) (k lane : Nat) (inv : Bool) (b : List Nat) : State :=
  ((((partnerNoted s k b).laneWr LANE_STATUS_LOCKED 1 k lane).laneWr LANE_STATUS_RX_INVERTED (b2n inv) k lane).laneWr
    LANE_STATUS_LOGICAL (byteAt b 3) k lane).syncLock (k + lane / 8)

/-- The logical lanes of a port's width, as a mask. -/
def widthMask (s : State) (k : Nat) : Nat := 2 ^ lanesOf (s.rd OCT_FAB_STATUS_WIDTH k) - 1

/-- The lanes passed in this step so far, with those whose count is within the limit (log entry 39). -/
def passedMask (s : State) (k : Nat) (counts : List (Nat × Nat)) : Nat :=
  (counts.filter (fun c => decide (c.1 < 16) && decide (c.2 ≤ s.rd OCT_FAB_CFG_EQ_ERR_LIMIT k))).foldl
    (fun m c => setBit m c.1 true) (s.trn k).passed

/-- An iteration of a step counted, with the lanes passed. -/
def iterationCounted (s : State) (k : Nat) (counts : List (Nat × Nat)) : State :=
  s.setTrn k { s.trn k with passed := passedMask s k counts, iter := (s.trn k).iter + 1 }

/-- The bring-up states with a timeout, each with its limit in ns. -/
def bringupLimits : List (Nat × Nat) := [(trALIGN, 2000000), (trCONFIG, 200000), (trSTEP, 4000000)]

section
variable {s : State} {k : Nat}

section
variable (hbring : s.bringing k = true)
include hbring

theorem detected_of_detect (hstate : s.trState k = trDETECT) : s.detected k =
    ((((lanesDetected s k).wr OCT_FAB_STATUS_REVERSED 0 k).wr OCT_FAB_STATUS_RATE 2 k).setTrn k {}).trainTo k trALIGN :=
  if_pos (by simp [hbring, hstate])

theorem bringupTimeout_of_overdue {x : Nat × Nat} (hx : x ∈ bringupLimits) (hstate : s.trState k = x.1)
    (hdue : (s.trn k).since + x.2 ≤ s.ns) :
    s.bringupTimeout k = (s.bringupFailed k).raise 20 { port := some (4 * k) } := by
  simp only [bringupLimits, List.mem_cons, List.not_mem_nil, or_false] at hx
  rcases hx with rfl | rfl | rfl <;> simp [State.bringupTimeout, hbring, hstate, hdue, trALIGN, trCONFIG, trSTEP]

theorem bringupRetry_of_due (hstate : s.trState k = trFAILED) (hdue : (s.trn k).since + 100000000 ≤ s.ns) :
    s.bringupRetry k = s.trainTo k trDETECT :=
  if_pos (by simp [hbring, hstate, hdue])

/-- A count in a step that is still to pass, at a rate above the last one. -/
theorem eqCount_of_iteration (counts : List (Nat × Nat)) (hstate : s.trState k = trSTEP) (hrun : (s.trn k).done = false)
    (hnew : (s.trn k).verify = false) (hrate : (s.trn k).prevRate < s.rd OCT_FAB_STATUS_RATE k) :
    s.eqCount k counts =
      if Nat.land (passedMask s k counts) (widthMask s k) = widthMask s k then (iterationCounted s k counts).stepPassed k
      else if (s.trn k).iter + 1 < s.rd OCT_FAB_CFG_EQ_MAX_ITER k then iterationCounted s k counts
      else (iterationCounted s k counts).stepFailed k (passedMask s k counts) := by
  have hcounts : ¬ (!s.bringing k || s.trState k != trSTEP || (s.trn k).done) = true := by simp [hbring, hstate, hrun]
  exact (if_neg hcounts).trans ((if_neg (Bool.eq_false_iff.mp hnew)).trans (if_neg (Nat.not_le.mpr hrate)))

section
variable {lane : Nat} {raw b : List Nat} {inv : Bool} (hlane : lane < s.fabWidth k) (hlen : raw.length = 32)
include hlane hlen

/-- A whole block on a lane of a port in bring-up is read. -/
theorem trainingBlock_readable :
    ¬ (!s.bringing k || decide (s.fabWidth k ≤ lane) || raw.length != 32) = true := by
  have hwidth : ¬ s.fabWidth k ≤ lane := Nat.not_le.mpr hlane
  simp [hbring, hwidth, hlen]

variable (hsync : polarity (s.laneRd LANE_CTRL_RX_POLARITY k lane) raw = some (inv, b))
  (hcrc : crc16 (b.take 30) = bytesAt b 30 31)
include hsync hcrc

theorem trainingBlock_of_align (hstate : s.trState k = trALIGN) (hkind : byteAt b 2 = 1) : s.trainingBlock k lane raw =
    if bit (byteAt b 17) 0 then (laneAligned s k lane inv b).alignDone k else laneAligned s k lane inv b := by
  rw [State.trainingBlock, if_neg (trainingBlock_readable hbring hlane hlen), hsync]
  exact (if_neg (not_not_intro hcrc)).trans (if_pos ⟨hstate, hkind⟩)

theorem trainingBlock_of_config (hstate : s.trState k = trCONFIG) (hkind : byteAt b 2 = 2) : s.trainingBlock k lane raw =
    if bit (byteAt b 17) 0 then (partnerNoted s k b).configDone k else partnerNoted s k b := by
  have halign : ¬ (s.trState k = trALIGN ∧ byteAt b 2 = 1) := by omega
  rw [State.trainingBlock, if_neg (trainingBlock_readable hbring hlane hlen), hsync]
  exact (if_neg (not_not_intro hcrc)).trans ((if_neg halign).trans (if_pos ⟨hstate, hkind⟩))

theorem trainingBlock_of_request (hstate : s.trState k = trSTEP) (hkind : byteAt b 2 = 4) (hpreset : byteAt b 16 ≤ 10) :
    s.trainingBlock k lane raw = s.laneWr LANE_STATUS_TX_PRESET (byteAt b 16) k lane := by
  have halign : ¬ (s.trState k = trALIGN ∧ byteAt b 2 = 1) := by omega
  have hconfig : ¬ (s.trState k = trCONFIG ∧ byteAt b 2 = 2) := by omega
  have hstep : ¬ (s.trState k = trSTEP ∧ byteAt b 2 = 3) := by omega
  rw [State.trainingBlock, if_neg (trainingBlock_readable hbring hlane hlen), hsync]
  exact (if_neg (not_not_intro hcrc)).trans ((if_neg halign).trans ((if_neg hconfig).trans ((if_neg hstep).trans
    ((if_pos ⟨hstate, hkind⟩).trans (if_pos hpreset)))))

end

end

/-! ### Clock lanes (R294) -/

/-- The clock lane lost: the port's calibration goes with it. -/
def clockLost (s : State) (k : Nat) : State :=
  (s.wr CK_STATUS_RX_LOCK 0 k).setTport k { s.tport k with clockLost := true, calOk := false }

/-- The clock lane locked again. -/
def clockRelocked (s : State) (k : Nat) : State :=
  (s.setOn CK_STATUS_RX_LOCK k).setTport k { s.tport k with clockLost := false }

theorem clockLaneLoss_of_locked (h : s.on CK_STATUS_RX_LOCK k = true) :
    s.clockLaneLoss k = ((clockLost s k).raise 19 { port := some (4 * k) }).sourceLost k :=
  ite_not_of_true h

theorem clockLaneRelock_of_lost (hlost : s.on CK_STATUS_RX_LOCK k = false) (hfab : s.fabOct k = true)
    (hon : s.trState k ≠ trOFF) (hfound : s.trState k ≠ trDETECT) :
    s.clockLaneRelock k = if (clockRelocked s k).fabUp k then (clockRelocked s k).calibrate k else clockRelocked s k :=
  if_neg (by simp [hlost, hfab, hon, hfound])

end

/-- Settles O29: the mode write by the checks it passes, and each event of bring-up and of a clock lane by the case of its
operation that the conditions name (EQ_COUNT_DONE adds up the lanes passed, log entry 39). -/
theorem bringupCommandsComplete : Obligations.BringupCommandsComplete := by
  unfold Obligations.BringupCommandsComplete
  refine ⟨?mode, ?detection, ?block, ?count, ?timeouts, ?clock⟩
  case mode =>
    intro s t path k v a hk htakes
    refine ⟨?idle, ?enable⟩
    case idle =>
      intro hmode hfab hnone hcur hpair b hup
      have hfields : octModeFields a k v = b := by rw [octModeFields, hnone]
      rw [exec_octModeWrite, regCmd_octMode hk htakes,
        octModeWrite_of_idle hmode hfab hnone hcur hpair (hfields ▸ hup), octModeStored, hfields]
    case enable =>
      intro hmode hold hprotocol hen hcur hown htest b
      have hfields : octModeFields a k v = b := by rw [octModeFields, hen, hmode]
      rw [exec_octModeWrite, regCmd_octMode hk htakes,
        octModeWrite_of_enable hmode hold hprotocol hen hcur hown htest, octModeStored, hfields]
  case detection =>
    intro s t k a b hlinks hbring hstate
    rw [exec_receiverDetection hlinks, detected_of_detect hbring hstate]
    rfl
  case block =>
    intro s t k lane raw b inv a x n m hlinks hbring hlane hlen hsync hcrc
    refine ⟨fun hstate hkind => ?align, fun hstate hkind => ?config, fun hstate hkind hpreset => ?request⟩
    case align =>
      rw [exec_trainingBlock hlinks, trainingBlock_of_align hbring hlane hlen hsync hcrc hstate hkind]
      rfl
    case config =>
      rw [exec_trainingBlock hlinks, trainingBlock_of_config hbring hlane hlen hsync hcrc hstate hkind]
      rfl
    case request =>
      rw [exec_trainingBlock hlinks, trainingBlock_of_request hbring hlane hlen hsync hcrc hstate hkind hpreset]
  case count =>
    intro s t k counts a x all good mask b hlinks hbring hstate hrun hnew hrate
    rw [exec_eqCountDone hlinks, eqCount_of_iteration hbring counts hstate hrun hnew hrate]
    rfl
  case timeouts =>
    intro s t k a hlinks hbring
    refine ⟨fun x hx hstate hdue => ?overdue, fun hstate hdue => ?retry⟩
    case overdue => rw [exec_bringupTimeout hlinks, bringupTimeout_of_overdue hbring hx hstate hdue]
    case retry => rw [exec_bringupRetry hlinks, bringupRetry_of_due hbring hstate hdue]
  case clock =>
    intro s t k a hlinks
    refine ⟨fun hlocked => ?loss, fun hlost hfab hon hfound => ?relock⟩
    case loss =>
      rw [exec_clockLaneLoss hlinks, clockLaneLoss_of_locked hlocked]
      rfl
    case relock =>
      rw [exec_clockLaneRelock hlinks, clockLaneRelock_of_lost hlost hfab hon hfound]
      rfl

/-! ### Doze (R295, R296) -/

/-- The transmitter in Doze, which two DOZE slots have told the partner. -/
def dozing (s : State) (k : Nat) : State :=
  (((s.setLnk k { s.lnk k with doze := true }).slotSend k 11 (leBytes 4 (s.rd LINK_SEQ_TX_NEXT_VALUE k))).slotSend k 11
    (leBytes 4 (s.rd LINK_SEQ_TX_NEXT_VALUE k))).wr OCT_FAB_STATUS_TRAIN_STATE trDOZE k

/-- The transmitter out of Doze. -/
def awake (s : State) (k : Nat) : State :=
  (s.setLnk k { s.lnk k with doze := false, busyAt := s.ns }).wr OCT_FAB_STATUS_TRAIN_STATE trACTIVE k

section
variable {s : State} {k : Nat}

/-- A link at rest for DOZE_IDLE_NS dozes when the two slots fit the time of entry. -/
theorem dozeEntry_of_idle (hen : s.on OCT_POWER_DOZE_EN k = true) (hup : s.fabUp k = true) (hstate : s.trState k = trACTIVE)
    (hchange : (s.lnk k).change = none) (hawake : (s.lnk k).doze = false) (hready : s.txReady k = false)
    (hidle : (s.lnk k).busyAt + s.rd OCT_POWER_DOZE_IDLE_NS k ≤ s.ns) (hslot : s.slotPs (4 * k) ≤ 40000) :
    s.dozeEntry k = dozing s k :=
  if_pos (by simp [hen, hup, hstate, hchange, hawake, hready, hidle, hslot])

section
variable (hdoze : (s.lnk k).doze = true)
include hdoze

theorem wake_of_doze : s.wake k = awake s k := if_pos hdoze

theorem dozeExit_of_ready (hready : s.txReady k = true) : s.dozeExit k = awake s k :=
  (if_pos hready).trans (wake_of_doze hdoze)

theorem dozeTimedWake_of_edge (htick : s.ticking = true) (hedge : (s.time.edge / s.tTick + 1) * s.tTick ≤ s.ns + 250) :
    s.dozeTimedWake k = awake s k :=
  (if_pos (by simp [htick, hedge])).trans (wake_of_doze hdoze)

end

end

/-! ### Hibernate (R297, R298) -/

theorem exec_hibernateEnter (s : State) (t path k v : Nat) :
    exec (.hibernateEnter t path k v) s = .next (settle ((s.advance t).regCmd path (OCT_POWER.addr k) v)) := rfl

theorem exec_hibernateExit (s : State) (t path k v : Nat) :
    exec (.hibernateExit t path k v) s = .next (settle ((s.advance t).regCmd path (OCT_POWER.addr k) v)) := rfl

theorem regAt_octPower : ∀ k < 24, regAt (OCT_POWER.addr k) = some (OCT_POWER, k, 0) := by decide +kernel

theorem octPower_addr (k : Nat) : OCT_POWER.addr k = 0x100010 + k * 0x8000 := by simp [RegDesc.addr, OCT_POWER]

theorem regCmd_octPower {s : State} {path k v : Nat} (hk : k < 24) (ht : Safety.takes s path OCT_POWER k 0 v = true) :
    s.regCmd path (OCT_POWER.addr k) v = s.octPowerWrite k v := by
  have haddr := octPower_addr k
  exact regCmd_ports ht (regAt_octPower k hk) rfl (by omega) (by omega) (by decide) rfl

/-- OCT_POWER with the fields stored that a write only stores. -/
def octPowerFields (s : State) (k v : Nat) : State :=
  (s.wr OCT_POWER_DOZE_EN (bits v 30 30) k).wr OCT_POWER_DOZE_IDLE_NS (bits v 15 0) k

/-- The training state of an octet with the rate and width kept that its exit from Hibernate restores. -/
def lanesKept (s : State) (k : Nat) : State :=
  s.setTrn k { s.trn k with hibRate := s.rd OCT_FAB_STATUS_RATE k, hibWidth := s.rd OCT_FAB_STATUS_WIDTH k, leaving := false }

/-- The link down and its port in HIBERNATE. -/
def linkHibernated (s : State) (k : Nat) : State :=
  (((lanesKept s k).setOn OCT_POWER_HIBERNATE_REQ k).wr LINK_STATUS_UP 0 k).trainTo k trHIBERNATE

/-- The port in HIBERNATE with its lanes stopped and its adjacency taken down. -/
def hibernated (s : State) (k : Nat) : State :=
  (((linkHibernated s k).setLnk k { (linkHibernated s k).lnk k with doze := false, rxDoze := false }).lanesIdle k).fabLost k

/-- The relock of a hibernating port's lanes started. -/
def relockStarted (s : State) (k : Nat) : State :=
  ((s.wr OCT_POWER_HIBERNATE_REQ 0 k).setTrn k { (s.wr OCT_POWER_HIBERNATE_REQ 0 k).trn k with leaving := true }).wr
    CK_STATUS_TX_ACTIVE 1 k

/-- The port in ACTIVE again, at the rate and width held before Hibernate. -/
def lanesRestored (s : State) (k : Nat) : State :=
  let b := (s.setLanes k (s.trn k).hibRate (s.trn k).hibWidth).trainTo k trACTIVE
  b.setTrn k { b.trn k with leaving := false }

section
variable {s : State} {k v : Nat}

theorem octPowerWrite_of_request (hreq : bit v 31 = true) (hwas : s.on OCT_POWER_HIBERNATE_REQ k = false) :
    s.octPowerWrite k v = (octPowerFields s k v).hibernateEnter k :=
  if_pos (by simp [hreq, hwas])

theorem octPowerWrite_of_release (hreq : bit v 31 = false) (hwas : s.on OCT_POWER_HIBERNATE_REQ k = true) :
    s.octPowerWrite k v = (octPowerFields s k v).hibernateExit k :=
  (if_neg (by simp [hreq])).trans (if_pos (by simp [hreq, hwas]))

/-- A live link that is neither the time source nor the only candidate hibernates (R298). -/
theorem hibernateEnter_of_allowed (hstate : s.trState k = trACTIVE ∨ s.trState k = trDOZE) (hchange : (s.lnk k).change = none)
    (hsource : s.rd TIME_STATUS_SOURCE_OCTET ≠ k) (honly : s.fabOcts.filter s.timeCand ≠ [k]) :
    s.hibernateEnter k = hibernated s k := by
  have hlive : ¬ (!(s.trState k == trACTIVE || s.trState k == trDOZE) || (s.lnk k).change.isSome) = true := by
    rcases hstate with hstate | hstate <;> simp [hstate, hchange]
  exact (if_neg hlive).trans (if_neg (not_or_intro hsource honly))

theorem hibernateExit_of_hibernate (hstate : s.trState k = trHIBERNATE) : s.hibernateExit k = relockStarted s k :=
  if_pos hstate

section
variable (hstate : s.trState k = trHIBERNATE) (hleaving : (s.trn k).leaving = true)
include hstate hleaving

theorem hibernateExit_pending : ¬ (s.trState k ≠ trHIBERNATE ∨ (!(s.trn k).leaving) = true) := by
  simp [hstate, hleaving]

theorem hibernateExitDone_of_relock : s.hibernateExitDone k true =
    if ((lanesRestored s k).lnk k).creditIn then ((lanesRestored s k).setOn LINK_STATUS_UP k).calibrate k
    else lanesRestored s k :=
  (if_neg (hibernateExit_pending hstate hleaving)).trans (if_pos rfl)

theorem hibernateExitDone_of_failure : s.hibernateExitDone k false =
    (((s.setTrn k { s.trn k with leaving := false }).trainTo k trDETECT).linkRestart k).raise 20 { port := some (4 * k) } :=
  (if_neg (hibernateExit_pending hstate hleaving)).trans (if_neg Bool.false_ne_true)

end

end

/-! ### Lane tests (R300 to R302) -/

theorem exec_prbsInject (s : State) (t path k i v : Nat) :
    exec (.prbsInject t path k i v) s = .next (settle ((s.advance t).regCmd path (LANE_PRBS_CTRL.addr k i) v)) := rfl

theorem exec_prbsClear (s : State) (t path k i v : Nat) :
    exec (.prbsClear t path k i v) s = .next (settle ((s.advance t).regCmd path (LANE_PRBS_CTRL.addr k i) v)) := rfl

theorem regAt_lanePrbsCtrl : ∀ k < 24, ∀ i < 8, regAt (LANE_PRBS_CTRL.addr k i) = some (LANE_PRBS_CTRL, k, i) := by
  decide +kernel

theorem lanePrbsCtrl_addr (k i : Nat) : LANE_PRBS_CTRL.addr k i = 0x100108 + k * 0x8000 + i * 0x40 := by
  simp [RegDesc.addr, LANE_PRBS_CTRL]

/-- The checker of a lane on, and the other fields of LANE_PRBS_CTRL as a write stores them. -/
def checkerFields (s : State) (k i v : Nat) : State :=
  (((s.wr LANE_PRBS_CTRL_GEN_EN (bits v 31 31) k i).wr LANE_PRBS_CTRL_CHK_EN 1 k i).wr
    LANE_PRBS_CTRL_LOOPBACK (bits v 27 26) k i).wr LANE_PRBS_CTRL_PATTERN (bits v 2 0) k i

/-- The counters of a lane's checker with the bits and errors counted since lock added (R302). -/
def lockLost (s : State) (k i nbits errs : Nat) : State :=
  let n := s.rd LANE_PRBS_BITS_LO_VALUE k i + s.rd LANE_PRBS_BITS_HI_VALUE k i * 2 ^ 32 + nbits
  (((s.wr LANE_PRBS_ERR_CHK_LOCK 0 k i).wr LANE_PRBS_ERR_ERRORS (min (s.rd LANE_PRBS_ERR_ERRORS k i + errs) (2 ^ 31 - 1)) k i).wr
    LANE_PRBS_BITS_LO_VALUE n k i).wr LANE_PRBS_BITS_HI_VALUE (n / 2 ^ 32) k i

section
variable {s : State} {path k i v : Nat}

theorem regCmd_lanePrbsCtrl (hk : k < 24) (hi : i < 8) (ht : Safety.takes s path LANE_PRBS_CTRL k i v = true) :
    s.regCmd path (LANE_PRBS_CTRL.addr k i) v = s.prbsCtrlWrite k i v := by
  have haddr := lanePrbsCtrl_addr k i
  exact regCmd_ports ht (regAt_lanePrbsCtrl k hk i hi) rfl (by omega) (by omega) (by decide) rfl

theorem prbsInject_of_generating (htest : s.on OCT_TEST_EN k = true) (hgen : s.on LANE_PRBS_CTRL_GEN_EN k i = true) :
    s.prbsInject k i = s.emit (.pin 2 (8 * k + i) 1) :=
  if_pos (by simp [htest, hgen])

section
variable (hpattern : patternOk (s.rd OCT_TEST_RATE k) (v % 8) = true) (hcheck : bits v 30 30 = 1)
include hpattern hcheck

/-- A write with a pattern of the test rate that leaves the checker on keeps its lock, and clears and injects as it asks. -/
theorem prbsCtrlWrite_of_checking : s.prbsCtrlWrite k i v =
    let u := if bit v 28 then (checkerFields s k i v).prbsClear k i 0 else checkerFields s k i v
    if bit v 29 then u.prbsInject k i else u := by
  have hon : bit v 30 = true := by simpa [bits, bit] using hcheck
  simp only [State.prbsCtrlWrite, hpattern, hcheck, hon, checkerFields]
  rfl

theorem prbsCtrlWrite_of_inject (hclear : bit v 28 = false) (hinject : bit v 29 = true) :
    s.prbsCtrlWrite k i v = (checkerFields s k i v).prbsInject k i := by
  rw [prbsCtrlWrite_of_checking hpattern hcheck, hclear, hinject]
  rfl

theorem prbsCtrlWrite_of_clear (hclear : bit v 28 = true) (hinject : bit v 29 = false) :
    s.prbsCtrlWrite k i v = (checkerFields s k i v).prbsClear k i 0 := by
  rw [prbsCtrlWrite_of_checking hpattern hcheck, hclear, hinject]
  rfl

end

theorem prbsLock_of_checking (htest : s.on OCT_TEST_EN k = true) (hcheck : s.on LANE_PRBS_CTRL_CHK_EN k i = true) :
    s.prbsLock k i = s.setOn LANE_PRBS_ERR_CHK_LOCK k i :=
  if_pos (by simp [htest, hcheck])

theorem prbsLockLoss_of_locked (hlock : s.on LANE_PRBS_ERR_CHK_LOCK k i = true) (nbits errs : Nat) :
    s.prbsLockLoss k i nbits errs = lockLost s k i nbits errs :=
  if_pos hlock

end

/-- Settles O30: each event by the case of its operation that the conditions name, and each register command by the
operation that its register's write is. -/
theorem lanePowerAndTestsComplete : Obligations.LanePowerAndTestsComplete := by
  unfold Obligations.LanePowerAndTestsComplete
  refine ⟨?doze, ?hibernate, ?relocked, ?testWrite, ?checker⟩
  case doze =>
    intro s t k a n hup
    refine ⟨fun hen hlink hstate hchange hawake hready hidle hslot => ?entry,
      fun hdoze => ⟨fun hready => ?exit, fun htick hedge => ?timed⟩⟩
    case entry =>
      rw [exec_dozeEntry hup, dozeEntry_of_idle hen hlink hstate hchange hawake hready hidle hslot]
      rfl
    case exit =>
      rw [exec_dozeExit hup, dozeExit_of_ready hdoze hready]
      rfl
    case timed =>
      rw [exec_dozeTimedWake hup, dozeTimedWake_of_edge hdoze htick hedge]
      rfl
  case hibernate =>
    intro s t path k v a b hk htakes
    refine ⟨fun hreq hwas hstate hchange hsource honly => ?enter, fun hreq hwas hstate => ?exit⟩
    case enter =>
      rw [exec_hibernateEnter, regCmd_octPower hk htakes, octPowerWrite_of_request hreq hwas,
        hibernateEnter_of_allowed (s := octPowerFields a k v) hstate hchange hsource honly]
      rfl
    case exit =>
      rw [exec_hibernateExit, regCmd_octPower hk htakes, octPowerWrite_of_release hreq hwas,
        hibernateExit_of_hibernate (s := octPowerFields a k v) hstate]
      rfl
  case relocked =>
    intro s t k ok a x b c hlinks hstate hleaving
    rw [exec_hibernateExitDone hlinks]
    cases ok with
    | true =>
      rw [hibernateExitDone_of_relock hstate hleaving]
      rfl
    | false =>
      rw [hibernateExitDone_of_failure hstate hleaving]
      rfl
  case testWrite =>
    intro s t path k i v a b hk hi htakes hpattern hcheck
    refine ⟨fun hclear hinject htest hgen => ?inject, fun hclear hinject => ?clear⟩
    case inject =>
      rw [exec_prbsInject, regCmd_lanePrbsCtrl hk hi htakes, prbsCtrlWrite_of_inject hpattern hcheck hclear hinject,
        prbsInject_of_generating (s := checkerFields a k i v) htest hgen]
      rfl
    case clear =>
      rw [exec_prbsClear, regCmd_lanePrbsCtrl hk hi htakes, prbsCtrlWrite_of_clear hpattern hcheck hclear hinject]
      rfl
  case checker =>
    intro s t k i nbits errs a n hlinks
    refine ⟨fun htest hcheck => ?lock, fun hlock => ?lost⟩
    case lock => rw [exec_prbsCheckerLock hlinks, prbsLock_of_checking htest hcheck]
    case lost =>
      rw [exec_prbsCheckerLockLoss hlinks, prbsLockLoss_of_locked hlock]
      rfl

end Sys2Proof.Proofs
end

section
/-! PROOFS of the statements of 10_gazelle_link: received flits (R309, R312 to R314), NAK retries and credits (R324, R327), link
down (R330), and planned changes (R332 to R334). -/

namespace Sys2Proof.Proofs
open Sys2Proof.Machine Sys2Proof.Laws

/-! ### The rows of the link -/

section
variable {s : State} {t : Nat}

theorem exec_flitReceive (hlinks : Safety.linksUp (s.advanceCt t) = true) (k : Nat) (bytes : List Nat) :
    exec (.flitReceive t k bytes) s = .next (settle ((s.advanceCt t).flitReceive k bytes)) := done_whenLinks hlinks

section
variable (hlinks : Safety.linksUp (s.advance t) = true)
include hlinks

theorem exec_nakRetry (k : Nat) : exec (.nakRetry t k) s = .next (settle ((s.advance t).nakRetry k)) := done_whenLinks hlinks

theorem exec_creditKeepalive (k : Nat) :
    exec (.creditKeepalive t k) s = .next (settle (((s.advance t).acceptWaiting k).creditKeepalive k)) := done_whenLinks hlinks

theorem exec_partnerLost (k : Nat) :
    exec (.partnerLost t k) s = .next (settle ((s.advance t).partnerLost k)) := done_whenLinks hlinks

theorem exec_drainTimeout (k : Nat) :
    exec (.drainTimeout t k) s = .next (settle ((s.advance t).drainTimeout k)) := done_whenLinks hlinks

theorem exec_linkChangeDone (k : Nat) (ok : Bool) (rate width : Nat) :
    exec (.linkChangeDone t k ok rate width) s = .next (settle ((s.advance t).linkChangeDone k ok rate width)) :=
  done_whenLinks hlinks

end

end

theorem exec_forceDown (s : State) (t path k v : Nat) :
    exec (.forceDown t path k v) s = .next (settle ((s.advance t).regCmd path (LINK_CTRL.addr k) v)) := rfl

theorem exec_linkChangeReq (s : State) (t path k v : Nat) :
    exec (.linkChangeReq t path k v) s = .next (settle ((s.advance t).regCmd path (LINK_CTRL.addr k) v)) := rfl

/-! ### Received flits (R309, R312 to R314) -/

/-- The bytes of a flit after its FEC, the bytes that this corrected, and whether it failed (R309; log entry 36). -/
def flitCorrected (s : State) (k : Nat) (bytes : List Nat) : List Nat × List Nat × Bool :=
  fecFlit (lanesOf (s.rd OCT_FAB_STATUS_WIDTH k)) (bytes.map (· % 256))

/-- A flit slot counted, with what its FEC corrected. -/
def flitNoted (s : State) (k : Nat) (bytes : List Nat) : State :=
  (s.flitSlotIn k).fecNote k (flitCorrected s k bytes).2.1 (flitCorrected s k bytes).2.2

/-- The number under which a flit passes its check, if it does. -/
def flitNumber (s : State) (k : Nat) (bytes : List Nat) : Option Nat :=
  if (flitCorrected s k bytes).2.2 then none else (flitNoted s k bytes).flitSeq k (flitCorrected s k bytes).1

/-- The run of failed flits ended by one that passes. -/
def failRunEnded (s : State) (k : Nat) : State := s.setLnk k { s.lnk k with failRun := 0 }

/-- The link slots of a bypass or an idle flit that passes performed; other flits have none (R317). -/
def slotsPerformed (s : State) (k : Nat) (bytes : List Nat) : State :=
  if fhType (flitHead bytes) == 4 || fhType (flitHead bytes) == 7 then (failRunEnded s k).linkSlots k bytes
  else failRunEnded s k

section
variable {s : State} {k : Nat}

section
variable {bytes : List Nat}

theorem flitNumber_of_failure
    (hfail : (flitCorrected s k bytes).2.2 = true ∨ (flitNoted s k bytes).flitSeq k (flitCorrected s k bytes).1 = none) :
    flitNumber s k bytes = none := by
  rcases hfail with hfec | hcrc
  · exact if_pos hfec
  · rw [flitNumber, hcrc, ite_self]

theorem flitNumber_of_readable (hfec : (flitCorrected s k bytes).2.2 = false) :
    flitNumber s k bytes = (flitNoted s k bytes).flitSeq k (flitCorrected s k bytes).1 :=
  if_neg (Bool.eq_false_iff.mp hfec)

section
variable (htakes : s.linkTakes k = true) (hlen : bytes.length = 256)
include htakes hlen

/-- A whole flit on a link in use passes or fails by its number. -/
theorem flitReceive_eq : s.flitReceive k bytes = match flitNumber s k bytes with
    | none => (flitNoted s k bytes).flitFail k
    | some q => (flitNoted s k bytes).flitPass k q (flitCorrected s k bytes).1 := by
  have hwhole : ¬ (!s.linkTakes k || bytes.length != 256) = true := by simp [htakes, hlen]
  exact if_neg hwhole

theorem flitReceive_of_failure (hnone : flitNumber s k bytes = none) :
    s.flitReceive k bytes = (flitNoted s k bytes).flitFail k := by
  rw [flitReceive_eq htakes hlen, hnone]

theorem flitReceive_of_number {q : Nat} (hsome : flitNumber s k bytes = some q) :
    s.flitReceive k bytes = (flitNoted s k bytes).flitPass k q (flitCorrected s k bytes).1 := by
  rw [flitReceive_eq htakes hlen, hsome]

end

end

section
variable {q : Nat} {bytes : List Nat}

theorem slotsPerformed_of_data (htype : fhType (flitHead bytes) ≤ 3) : slotsPerformed s k bytes = failRunEnded s k :=
  if_neg (by simp; omega)

theorem slotsPerformed_of_idle (htype : fhType (flitHead bytes) = 7) :
    slotsPerformed s k bytes = (failRunEnded s k).linkSlots k bytes :=
  if_pos (by simp [htype])

variable (hhead : headBad (flitHead bytes) = false)
include hhead

/-- A flit with a good header whose slots leave the link in use (R313, R314). -/
theorem flitPass_of_live {u : State} (hslots : slotsPerformed s k bytes = u) (hlive : u.linkTakes k = true) :
    s.flitPass k q bytes =
      if fhType (flitHead bytes) = 7 then (u.findMissing k q).wr LINK_SEQ_RX_EXPECT_VALUE q k
      else if !(u.lnk k).creditIn then u.linkDown k ldPROTOCOL
      else ((if fhType (flitHead bytes) ≤ 4 then (u.findMissing k q).wr LINK_SEQ_RX_EXPECT_VALUE (seqAdd q 1) k
        else u).holdFlit k q bytes).deliverAll k := by
  subst hslots
  exact (if_neg (Bool.eq_false_iff.mp hhead)).trans (ite_not_of_true hlive)

/-- A data flit takes its place in the reorder buffer, and what follows in order is delivered. -/
theorem flitPass_of_data (htype : fhType (flitHead bytes) ≤ 3) (hlive : (failRunEnded s k).linkTakes k = true)
    (hcredit : ((failRunEnded s k).lnk k).creditIn = true) : s.flitPass k q bytes =
      ((((failRunEnded s k).findMissing k q).wr LINK_SEQ_RX_EXPECT_VALUE (seqAdd q 1) k).holdFlit k q bytes).deliverAll k := by
  rw [flitPass_of_live hhead (slotsPerformed_of_data htype) hlive, if_neg (by omega), ite_not_of_true hcredit,
    if_pos (by omega)]

/-- An idle flit takes no number: the numbers before its own are missing. -/
theorem flitPass_of_idle (htype : fhType (flitHead bytes) = 7)
    (hlive : ((failRunEnded s k).linkSlots k bytes).linkTakes k = true) : s.flitPass k q bytes =
      (((failRunEnded s k).linkSlots k bytes).findMissing k q).wr LINK_SEQ_RX_EXPECT_VALUE q k := by
  rw [flitPass_of_live hhead (slotsPerformed_of_idle htype) hlive, if_pos htype]

end

/-! ### NAK retries and credits (R324, R327) -/

/-- The missing numbers whose NAK is overdue. -/
def overdue (s : State) (k : Nat) : List Missing :=
  (s.lnk k).missing.filter (fun m => decide (m.at_ + s.rd LINK_REPLAY_CFG_NAK_RETRY_NS k ≤ s.ns))

/-- Every overdue number with its next attempt begun. -/
def retriesCounted (s : State) (k : Nat) : State :=
  s.setLnk k { s.lnk k with missing := (s.lnk k).missing.map (fun m =>
    if m.at_ + s.rd LINK_REPLAY_CFG_NAK_RETRY_NS k ≤ s.ns then { m with attempt := m.attempt + 1, at_ := s.ns } else m) }

theorem nakRetry_of_exhausted (hlast : (overdue s k).any (fun m => decide (4 ≤ m.attempt)) = true) :
    s.nakRetry k = s.linkDown k ldREPLAY_LIMIT :=
  if_pos hlast

theorem nakRetry_of_retries (hmore : (overdue s k).any (fun m => decide (4 ≤ m.attempt)) = false) :
    s.nakRetry k = (overdue s k).foldl (fun (u : State) m => u.sendNak k m.seq (m.attempt + 1)) (retriesCounted s k) :=
  if_neg (Bool.eq_false_iff.mp hmore)

theorem acceptWaiting_of_none (hwait : (s.lnk k).wait = []) : s.acceptWaiting k = s :=
  if_pos (by simp [hwait])

theorem creditKeepalive_of_up (hup : s.fabUp k = true) : s.creditKeepalive k = s.sendCredit k := if_pos hup

/-! ### Link down (R330) -/

theorem partnerLost_of_awake (hdoze : (s.lnk k).rxDoze = false) (hrun : (s.lnk k).failRun = 0) :
    s.partnerLost k = s.linkDown k ldPARTNER_LOST :=
  (if_neg (Bool.eq_false_iff.mp hdoze)).trans (if_neg (by omega))

/-! ### Planned changes (R332 to R334) -/

theorem regAt_linkCtrl : ∀ k < 24, regAt (LINK_CTRL.addr k) = some (LINK_CTRL, k, 0) := by decide +kernel

theorem linkCtrl_addr (k : Nat) : LINK_CTRL.addr k = 0x104000 + k * 0x8000 := by simp [RegDesc.addr, LINK_CTRL]

theorem regCmd_linkCtrl {path v : Nat} (hk : k < 24) (ht : Safety.takes s path LINK_CTRL k 0 v = true) :
    s.regCmd path (LINK_CTRL.addr k) v = s.linkCtrlWrite k v := by
  have haddr := linkCtrl_addr k
  exact regCmd_ports ht (regAt_linkCtrl k hk) rfl (by omega) (by omega) (by decide) rfl

/-- LINK_CTRL with the fields stored that name a change. -/
def linkCtrlFields (s : State) (k v : Nat) : State :=
  ((s.wr LINK_CTRL_CHANGE_KIND (bits v 29 28) k).wr LINK_CTRL_TARGET_RATE (bits v 27 24) k).wr
    LINK_CTRL_TARGET_WIDTH (bits v 23 21) k

/-- The change that this end asks for, by LINK_CTRL (R332). -/
def changeAsked (s : State) (k : Nat) : Change :=
  { kind := s.rd LINK_CTRL_CHANGE_KIND k, rate := s.rd LINK_CTRL_TARGET_RATE k, width := s.rd LINK_CTRL_TARGET_WIDTH k,
    num := ((s.lnk k).reqNo + 1) % 65536, mine := true, at_ := s.ns }

/-- A request of this end sent and pending. -/
def changeRequested (s : State) (k : Nat) : State :=
  let c := changeAsked s k
  (((s.setLnk k { s.lnk k with reqNo := c.num, change := some c }).setOn LINK_STATUS_CHANGING k).wr
    LINK_STATUS_CHANGE_RESULT 0 k).sendLinkReq k s.uid c.kind c.rate c.width 0 c.num

/-- The rate after a change: a WIDTH change keeps it, and a RATE change names it (R334). -/
def changedRate (s : State) (k : Nat) (c : Change) (rate : Nat) : Nat :=
  if c.kind = 2 then s.rd OCT_FAB_STATUS_RATE k else if c.kind = 3 then c.rate else rate

/-- The width after a change: a RATE change keeps it, and a WIDTH change names it (R334). -/
def changedWidth (s : State) (k : Nat) (c : Change) (width : Nat) : Nat :=
  if c.kind = 3 then s.rd OCT_FAB_STATUS_WIDTH k else if c.kind = 2 then c.width else width

/-- A change ended well: the port in ACTIVE with its new rate and width, calibrating. -/
def changeEnded (s : State) (k : Nat) (c : Change) (rate width : Nat) : State :=
  (((((s.setLanes k (changedRate s k c rate) (changedWidth s k c width)).trainTo k trACTIVE).setLnk k
    { s.lnk k with change := none }).wr LINK_STATUS_CHANGING 0 k).wr LINK_STATUS_CHANGE_RESULT (if c.mine then 1 else 2) k).calibrate k

theorem linkCtrlWrite_of_forceDown {v : Nat} (hdown : bit v 31 = true) (hreq : bit v 30 = false) :
    s.linkCtrlWrite k v = (linkCtrlFields s k v).linkDown k ldSOFTWARE :=
  (if_neg (Bool.eq_false_iff.mp hreq)).trans (if_pos hdown)

theorem linkCtrlWrite_of_request {v : Nat} (hdown : bit v 31 = false) (hreq : bit v 30 = true) :
    s.linkCtrlWrite k v = (linkCtrlFields s k v).linkChangeReq k :=
  (if_pos hreq).trans (congrArg (State.linkChangeReq · k) (if_neg (Bool.eq_false_iff.mp hdown)))

/-- A link that is up with no change pending asks for one (R332). -/
theorem linkChangeReq_of_idle (hup : s.fabUp k = true) (hnone : (s.lnk k).change = none) :
    s.linkChangeReq k = changeRequested s k :=
  if_neg (by simp [hup, hnone])

section
variable {c : Change} (hchange : (s.lnk k).change = some c)
include hchange

theorem drainTimeout_of_overdue (hacked : c.acked = true) (hundrained : (s.drained k && c.nowSent) = false)
    (hdue : c.at_ + s.rd LINK_REPLAY_CFG_DRAIN_TIMEOUT k * 100 ≤ s.ns) :
    s.drainTimeout k = s.linkDown k ldDRAIN_TIMEOUT := by
  rw [State.drainTimeout, hchange]
  exact if_pos (by simp [hacked, hundrained, hdue])

section
variable (hsent : c.nowSent = true) (hseen : c.nowSeen = true) (rate width : Nat)
include hsent hseen

theorem linkChangeDone_of_agreed (ok : Bool) : s.linkChangeDone k ok rate width =
    if !ok then s.linkDown k ldCHANGE_FAIL else changeEnded s k c rate width := by
  rw [State.linkChangeDone, hchange]
  exact if_neg (by simp [hsent, hseen])

end

end

end

/-- Settles O31: a received flit by its number and its type (the order of the codeword's bytes is log entry 36, and the bad
headers are entry 62), and each other event by the case of its operation that the conditions name. -/
theorem linkCommandsComplete : Obligations.LinkCommandsComplete := by
  unfold Obligations.LinkCommandsComplete
  refine ⟨?flit, ?retry, ?control, ?loss, ?changeDone⟩
  case flit =>
    intro s t k bytes a r b hlinks htakes hlen
    refine ⟨fun hfail => ?failed, fun q hfec hseq hhead => ?passed⟩
    case failed =>
      rw [exec_flitReceive hlinks, flitReceive_of_failure htakes hlen (flitNumber_of_failure hfail)]
      rfl
    case passed =>
      have hnumber : flitNumber a k bytes = some q := (flitNumber_of_readable hfec).trans hseq
      rw [exec_flitReceive hlinks, flitReceive_of_number htakes hlen hnumber]
      refine ⟨fun htype hlive hcredit => ?data, fun htype hlive => ?idle⟩
      case data =>
        exact congrArg done (flitPass_of_data (s := flitNoted a k bytes) hhead htype hlive hcredit)
      case idle =>
        exact congrArg done (flitPass_of_idle (s := flitNoted a k bytes) hhead htype hlive)
  case retry =>
    intro s t k a x w due hlinks
    refine ⟨fun hlast => ?exhausted, fun hmore => ?again, fun hwait hup => ?keepalive⟩
    case exhausted => rw [exec_nakRetry hlinks, nakRetry_of_exhausted hlast]
    case again =>
      rw [exec_nakRetry hlinks, nakRetry_of_retries hmore]
      rfl
    case keepalive =>
      rw [exec_creditKeepalive hlinks, acceptWaiting_of_none hwait, creditKeepalive_of_up hup]
      rfl
  case control =>
    intro s t path k v a b hk htakes
    refine ⟨fun hdown hreq _ => ?force, fun hdown hreq hup hnone => ?request⟩
    case force =>
      rw [exec_forceDown, regCmd_linkCtrl hk htakes, linkCtrlWrite_of_forceDown hdown hreq]
      rfl
    case request =>
      rw [exec_linkChangeReq, regCmd_linkCtrl hk htakes, linkCtrlWrite_of_request hdown hreq,
        linkChangeReq_of_idle (s := linkCtrlFields a k v) hup hnone]
      rfl
  case loss =>
    intro s t k a hlinks _
    refine ⟨fun hdoze hrun => ?partner, fun c hchange hacked hundrained hdue => ?drain⟩
    case partner => rw [exec_partnerLost hlinks, partnerLost_of_awake hdoze hrun]
    case drain => rw [exec_drainTimeout hlinks, drainTimeout_of_overdue hchange hacked hundrained hdue]
  case changeDone =>
    intro s t k rate width c a r w hlinks hchange hsent hseen
    rw [exec_linkChangeDone hlinks, exec_linkChangeDone hlinks, linkChangeDone_of_agreed hchange hsent hseen,
      linkChangeDone_of_agreed hchange hsent hseen]
    exact ⟨rfl, rfl⟩

end Sys2Proof.Proofs
end

section
/-! PROOFS of the statements of 00_scope, 17 and 18 about steps themselves: the queue, the end of a command, and reset. -/

namespace Sys2Proof.Proofs
open Sys2Proof.Machine Sys2Proof.Laws

/-- Settles O1: both sides are the first command's meaning on the state with the rest as its queue (log entry 4). -/
theorem stepRunsFrontCommand : Obligations.StepRunsFrontCommand := by
  unfold Obligations.StepRunsFrontCommand
  intro c rest s
  rfl

/-- Settles O2: a step looks at the queue first (log entry 4). -/
theorem emptyQueueIdles : Obligations.EmptyQueueIdles := by
  unfold Obligations.EmptyQueueIdles
  intro s hempty
  simp only [step, hempty]

theorem still_of_rest {s : State} (hraised : s.raised = []) (hloop : s.loop = []) (hdue : s.rst.due = none)
    (hfatal : s.flt.fatalDue = false) (hheld : s.chm.held = []) (hcores : ∀ e ∈ s.chm.cores, e.2.held = [])
    (hports : s.rst.ports = []) (hrefused : ∀ e ∈ s.port.ports, e.2.refused = false)
    (hquiet : s.rd PWR_STATUS_STATE ≠ pwQUIET) (hpin : s.pinStill = true) : s.still = true := by
  have hall : s.chm.cores.all (fun e => e.2.held.isEmpty) = true :=
    List.all_eq_true.mpr fun e he => List.isEmpty_iff.mpr (hcores e he)
  have hnone : s.port.ports.all (fun e => !e.2.refused) = true :=
    List.all_eq_true.mpr fun e he => by rw [hrefused e he]; rfl
  simp [State.still, hraised, hloop, hdue, hfatal, hheld, hall, hports, hnone, hquiet, hpin]

/-- Settles O3: such a state is `still`, and the end of a command leaves a still state alone. -/
theorem settleLeavesRest : Obligations.SettleLeavesRest := by
  unfold Obligations.SettleLeavesRest
  intro s hraised hloop hdue hfatal hheld hcores hports hrefused hquiet hpin
  exact settle_of_still (still_of_rest hraised hloop hdue hfatal hheld hcores hports hrefused hquiet hpin)

/-- Each of the 309 meanings is a `done` of some state. -/
theorem exec_next (c : Instr) (s : State) : ∃ t, exec c s = .next t := by
  cases c <;> exact ⟨_, rfl⟩

/-- Settles O4: every meaning ends in a next state, and so does the idle step. -/
theorem everyCommandAnswersNext : Obligations.EveryCommandAnswersNext := by
  unfold Obligations.EveryCommandAnswersNext
  refine ⟨exec_next, fun s => ?_⟩
  cases hq : s.pending with
  | nil => exact ⟨s, emptyQueueIdles s hq⟩
  | cons c rest =>
    obtain ⟨t, ht⟩ := exec_next c { s with pending := rest }
    exact ⟨t, by simp only [step, hq, ht]⟩

/-! ### The state after reset -/

/-- Settles O6: the state at power-on holds the reset values of its registers, and everything that no register shows is empty or
0 (log entries 14, 77 and 78). -/
theorem resetState : Obligations.ResetState := by
  unfold Obligations.ResetState
  have hrest : Safety.atRest State.reset = true := by decide +kernel
  have htime : State.reset.timeState = tsDISABLED ∧ State.reset.tTick = 31250 := by decide +kernel
  have hports : ∀ p < 96, State.reset.portExists p = false := by decide +kernel
  have hchannels : ∀ n < 24, State.reset.rd IBX_STATUS_STATE n = 0 := by decide +kernel
  have hsources : ∀ n < 256, State.reset.fsw n = false := by decide +kernel
  exact ⟨hrest, rfl, rfl, rfl, rfl, rfl, htime.1, htime.2, hports, rfl, hchannels, hsources⟩

end Sys2Proof.Proofs
end

section
/-! PROOFS of the statements of 16_stored_data_protection about the code itself (R522, R523). Flips of stored bits add columns
to the syndrome, and every column has odd weight, so that a double error is told from every single one. -/

namespace Sys2Proof.Proofs
open Sys2Proof.Machine Sys2Proof.Laws

theorem nat_xor_eq (a b : Nat) : Nat.xor a b = a ^^^ b := rfl

/-! ### The check byte is a sum of columns (R522) -/

/-- The columns of the bits that are 1 in a word, added up. -/
def columnSum : List Nat → Nat → Nat
  | [], _ => 0
  | c :: cs, data => (if data % 2 = 1 then c else 0) ^^^ columnSum cs (data / 2)

theorem foldl_columns (l : List Nat) (acc data : Nat) :
    (l.foldl (fun (a : Nat × Nat) c => (if a.2 % 2 = 1 then Nat.xor a.1 c else a.1, a.2 / 2)) (acc, data)).1 =
      acc ^^^ columnSum l data := by
  induction l generalizing acc data with
  | nil => simp [columnSum]
  | cons c cs ih =>
    rw [List.foldl_cons, ih, columnSum]
    by_cases hbit : data % 2 = 1
    · simp [hbit, Nat.xor_assoc]
    · simp [hbit]

theorem checkByte_eq (data : Nat) : checkByte data = columnSum hsiaoCols data := by
  rw [checkByte, foldl_columns, Nat.zero_xor]

theorem columnSum_xor (l : List Nat) (x y : Nat) : columnSum l (x ^^^ y) = columnSum l x ^^^ columnSum l y := by
  induction l generalizing x y with
  | nil => exact (Nat.xor_self 0).symm
  | cons c cs ih =>
    have hbit : (if (x ^^^ y) % 2 = 1 then c else 0) = (if x % 2 = 1 then c else 0) ^^^ (if y % 2 = 1 then c else 0) := by
      rw [Nat.xor_mod_two_eq, Nat.add_mod]
      rcases Nat.mod_two_eq_zero_or_one x with hx | hx <;> rcases Nat.mod_two_eq_zero_or_one y with hy | hy <;> simp [hx, hy]
    simp only [columnSum, Nat.xor_div_two, ih, hbit]
    ac_rfl

theorem columnSum_zero (l : List Nat) : columnSum l 0 = 0 := by
  induction l with
  | nil => rfl
  | cons c cs ih => simpa [columnSum] using ih

theorem columnSum_two_pow (l : List Nat) (i : Nat) : columnSum l (2 ^ i) = l.getD i 0 := by
  induction l generalizing i with
  | nil => rfl
  | cons c cs ih =>
    cases i with
    | zero => simp [columnSum, columnSum_zero]
    | succ i => simp [columnSum, Nat.pow_succ, ih]

/-! ### Weights and columns -/

theorem bit_xor (x y n : Nat) : bit (x ^^^ y) n = (bit x n ^^ bit y n) := by
  have hbit (v : Nat) : bit v n = v.testBit n := by
    rw [Nat.testBit_eq_decide_div_mod_eq, bit, beq_eq_decide]
  simp only [hbit, Nat.testBit_xor]

/-- Adding two bytes adds their weights modulo 2. -/
theorem weight8_xor_mod_two (x y : Nat) : weight8 (x ^^^ y) % 2 = (weight8 x + weight8 y) % 2 := by
  simp only [weight8, bitsSet, ← List.countP_eq_length_filter]
  induction List.range 8 with
  | nil => rfl
  | cons n ns ih =>
    simp only [List.countP_cons, bit_xor]
    cases bit x n <;> cases bit y n <;> simp <;> omega

theorem length_hsiaoCols : hsiaoCols.length = 64 := by decide +kernel

theorem hsiaoCols_nodup : hsiaoCols.Nodup := by decide +kernel

theorem weight8_of_mem_hsiaoCols : ∀ c ∈ hsiaoCols, weight8 c = 3 ∨ weight8 c = 5 := by decide +kernel

theorem getD_mem_hsiaoCols {i : Nat} (hi : i < 64) : hsiaoCols.getD i 0 ∈ hsiaoCols := by
  rw [List.getD_eq_getElem _ _ (length_hsiaoCols ▸ hi)]
  exact List.getElem_mem _

theorem weight8_zero : weight8 0 = 0 := by decide

theorem hsiaoCol_ne_zero {c : Nat} (hc : c ∈ hsiaoCols) : c ≠ 0 := by
  rintro rfl
  have := weight8_of_mem_hsiaoCols 0 hc
  simp [weight8_zero] at this

/-! ### What a syndrome means (R523) -/

section
variable {data check : Nat}

theorem eccDecode_of_zero (h : eccSyndrome data check = 0) : eccDecode data check = .clean := if_pos h

/-- A syndrome that is a column names its data bit, for no two columns are equal. -/
theorem eccDecode_of_column {i : Nat} (hi : i < 64) (h : eccSyndrome data check = hsiaoCols.getD i 0) :
    eccDecode data check = .fixed (data ^^^ 2 ^ i) := by
  have hlen : i < hsiaoCols.length := length_hsiaoCols ▸ hi
  have hfind : hsiaoCols.findIdx? (· == hsiaoCols.getD i 0) = some i := by
    refine List.findIdx?_eq_some_iff_getElem.mpr ⟨hlen, ?_, fun j hji heq => ?_⟩
    · rw [beq_iff_eq, List.getD_eq_getElem _ _ hlen]
    · rw [beq_iff_eq, List.getD_eq_getElem _ _ hlen, hsiaoCols_nodup.getElem_inj_iff] at heq
      omega
  simp only [eccDecode, h, if_neg (hsiaoCol_ne_zero (getD_mem_hsiaoCols hi)), hfind, nat_xor_eq]

theorem eccDecode_of_no_column (hzero : eccSyndrome data check ≠ 0) (h : eccSyndrome data check ∉ hsiaoCols) :
    eccDecode data check = if weight8 (eccSyndrome data check) = 1 then .fixed data else .bad := by
  have hfind : hsiaoCols.findIdx? (· == eccSyndrome data check) = none :=
    List.findIdx?_eq_none_iff.mpr fun c hc => beq_eq_false_iff_ne.mpr fun heq => h (heq ▸ hc)
  simp only [eccDecode, if_neg hzero, hfind]

theorem eccDecode_of_weight_one (h : weight8 (eccSyndrome data check) = 1) : eccDecode data check = .fixed data := by
  have hzero : eccSyndrome data check ≠ 0 := fun h0 => by simp [h0, weight8_zero] at h
  have hcol : eccSyndrome data check ∉ hsiaoCols := fun hmem => by
    have := weight8_of_mem_hsiaoCols _ hmem
    omega
  rw [eccDecode_of_no_column hzero hcol, if_pos h]

/-- Columns and weight-1 syndromes have odd weight, so a syndrome of even weight is that of no single error. -/
theorem eccDecode_of_even (hzero : eccSyndrome data check ≠ 0) (heven : weight8 (eccSyndrome data check) % 2 = 0) :
    eccDecode data check = .bad := by
  have hcol : eccSyndrome data check ∉ hsiaoCols := fun hmem => by
    have := weight8_of_mem_hsiaoCols _ hmem
    omega
  rw [eccDecode_of_no_column hzero hcol, if_neg (by omega)]

end

/-- Settles O51: no two columns are equal, and none has weight 1. -/
theorem eccReadIsDecidedByTheSyndrome : Obligations.EccReadIsDecidedByTheSyndrome := by
  unfold Obligations.EccReadIsDecidedByTheSyndrome
  intro data check y
  refine ⟨rfl, eccDecode_of_zero, fun i hi hcol => eccDecode_of_column hi hcol, fun hw _ => eccDecode_of_weight_one hw, ?_⟩
  intro hzero hcols hweight
  have hnone : eccSyndrome data check ∉ hsiaoCols := fun hmem => by
    obtain ⟨i, hi, heq⟩ := List.getElem_of_mem hmem
    exact hcols i (length_hsiaoCols ▸ hi) (by rw [List.getD_eq_getElem _ _ hi, heq]; rfl)
  exact (eccDecode_of_no_column hzero hnone).trans (if_neg hweight)

/-! ### Single and double errors -/

/-- A stored word with one of its 72 bits inverted: 64 data bits, then 8 check bits. -/
def flipBit (w : Nat × Nat) (i : Nat) : Nat × Nat :=
  if i < 64 then (Nat.xor w.1 (2 ^ i), w.2) else (w.1, Nat.xor w.2 (2 ^ (i - 64)))

/-- What inverting bit `i` of a stored word adds to its syndrome. -/
def bitColumn (i : Nat) : Nat := if i < 64 then hsiaoCols.getD i 0 else 2 ^ (i - 64)

theorem eccSyndrome_flipBit (w : Nat × Nat) (i : Nat) :
    eccSyndrome (flipBit w i).1 (flipBit w i).2 = eccSyndrome w.1 w.2 ^^^ bitColumn i := by
  unfold flipBit bitColumn
  split
  · simp only [eccSyndrome, nat_xor_eq, checkByte_eq, columnSum_xor, columnSum_two_pow, Nat.xor_assoc]
  · simp only [eccSyndrome, nat_xor_eq, Nat.xor_assoc, Nat.xor_comm (2 ^ (i - 64))]

theorem eccSyndrome_stored (data : Nat) : eccSyndrome data (checkByte data) = 0 := Nat.xor_self _

theorem weight8_checkColumn : ∀ i < 8, weight8 (2 ^ i) = 1 := by decide

theorem weight8_bitColumn_odd {i : Nat} (hi : i < 72) : weight8 (bitColumn i) % 2 = 1 := by
  unfold bitColumn
  split
  case isTrue hdata => rcases weight8_of_mem_hsiaoCols _ (getD_mem_hsiaoCols hdata) with h | h <;> rw [h]
  case isFalse => rw [weight8_checkColumn _ (by omega)]

/-- The 72 columns differ: the data columns from each other, and from those of the check bits by their weight. -/
theorem bitColumn_injective {i j : Nat} (hi : i < 72) (hj : j < 72) (h : bitColumn i = bitColumn j) : i = j := by
  have hnodup : ((List.range 72).map bitColumn).Nodup := by decide +kernel
  exact List.inj_on_of_nodup_map hnodup (List.mem_range.mpr hi) (List.mem_range.mpr hj) h

/-- Settles O52: one flip leaves the column of its bit as the syndrome; two flips leave the sum of two different columns of
odd weight, which is not 0 and has even weight. -/
theorem eccCorrectsOneErrorAndDetectsTwo : Obligations.EccCorrectsOneErrorAndDetectsTwo := by
  unfold Obligations.EccCorrectsOneErrorAndDetectsTwo
  intro data flip w
  have hstored : eccSyndrome w.1 w.2 = 0 := eccSyndrome_stored data
  have hone (i : Nat) : eccSyndrome (flipBit w i).1 (flipBit w i).2 = bitColumn i := by
    rw [eccSyndrome_flipBit, hstored, Nat.zero_xor]
  refine ⟨eccDecode_of_zero hstored, fun i hi => ?single, fun i hi j hj hne => ?double⟩
  case single =>
    change eccDecode (flipBit w i).1 (flipBit w i).2 = .fixed data
    by_cases hdata : i < 64
    · rw [eccDecode_of_column hdata ((hone i).trans (if_pos hdata)), flipBit, if_pos hdata, nat_xor_eq, Nat.xor_xor_cancel_right]
    · rw [eccDecode_of_weight_one, flipBit, if_neg hdata]
      rw [hone, bitColumn, if_neg hdata, weight8_checkColumn _ (by omega)]
  case double =>
    change eccDecode (flipBit (flipBit w i) j).1 (flipBit (flipBit w i) j).2 = .bad
    have htwo : eccSyndrome (flipBit (flipBit w i) j).1 (flipBit (flipBit w i) j).2 = bitColumn i ^^^ bitColumn j := by
      rw [eccSyndrome_flipBit, hone]
    refine eccDecode_of_even ?_ ?_
    · rw [htwo, Ne, Nat.xor_eq_zero_iff]
      exact fun h => hne (bitColumn_injective hi hj h)
    · rw [htwo, weight8_xor_mod_two, Nat.add_mod, weight8_bitColumn_odd hi, weight8_bitColumn_odd hj]

end Sys2Proof.Proofs
end

section
/-! PROOFS of the statements of 15 and 16 about the bytes of the core memories (R483, R527, R528): while every word holds its
owner's data, the merge buffers and their drains touch no byte. -/

namespace Sys2Proof.Proofs
open Sys2Proof.Machine Sys2Proof.Laws

/-! ### Bytes of a write -/

theorem read_writes_in (bs : List Nat) (m : Memory) (a i : Nat) (h : i < bs.length) :
    (m.writes a bs).read (a + i) = BitVec.ofNat 8 bs[i] := by
  induction bs generalizing m a i with
  | nil => simp at h
  | cons b bs ih =>
    rw [Memory.writes]
    cases i with
    | zero => rw [read_writes_out _ _ _ _ (by omega), Nat.add_zero, read_write, List.getElem_cons_zero]
    | succ i =>
      rw [List.getElem_cons_succ, ← ih (m.write a (BitVec.ofNat 8 b)) (a + 1) i (by simpa using h)]
      congr 1
      omega

/-! ### Words that stand raw or marked -/

/-- No word of the core memories stands raw or marked: each holds its owner's data with a computed check byte. -/
def NoRawWord (s : State) : Prop := ∀ w, SMap.get s.ecc.words (eccKey gMEM w) none = none

/-- An operation that touches no byte of the core memories and leaves no word raw or marked. -/
def KeepsMem (s u : State) : Prop := u.mem = s.mem ∧ NoRawWord u

theorem keepsMem_refl {s : State} (h : NoRawWord s) : KeepsMem s s := ⟨rfl, h⟩

theorem KeepsMem.trans {s u v : State} (hu : KeepsMem s u) (hv : KeepsMem u v) : KeepsMem s v := ⟨hv.1.trans hu.1, hv.2⟩

theorem foldl_keepsMem {α : Type} (f : State → α → State) (l : List α) {s : State} (hs : NoRawWord s)
    (hf : ∀ (u : State) (x : α), NoRawWord u → KeepsMem u (f u x)) : KeepsMem s (l.foldl f s) := by
  induction l generalizing s with
  | nil => exact keepsMem_refl hs
  | cons x xs ih => exact (hf s x hs).trans (ih (hf s x hs).2)

/-! ### What a write of the core memories does to the merge buffer -/

section
variable {s : State} (hs : NoRawWord s)
include hs

theorem eccFresh_keepsMem (w : Nat) : KeepsMem s (s.eccFresh w) := by
  refine ⟨rfl, fun x => ?_⟩
  change SMap.get (SMap.set s.ecc.words (eccKey gMEM w) none none) (eccKey gMEM x) none = none
  by_cases h : eccKey gMEM x = eccKey gMEM w
  · rw [h, get_set]
  · rw [get_set_ne _ _ _ _ h, hs x]

theorem drainEntry_keepsMem (e : MergeEnt) : KeepsMem s (s.drainEntry e) := by
  have h0 : NoRawWord { s with ecc := { s.ecc with merge := s.ecc.merge.filter (fun x => x.word != e.word) } } := hs
  unfold State.drainEntry
  split
  · exact eccFresh_keepsMem h0 e.word
  · rw [hs e.word]
    exact ⟨rfl, h0⟩

/-- A full merge buffer drains its oldest entry (R528). -/
def mergeRoom (s : State) : State :=
  if 8 ≤ s.ecc.merge.length then (match s.ecc.merge with
    | o :: _ => s.drainEntry o
    | [] => s) else s

theorem mergeRoom_keepsMem : KeepsMem s (mergeRoom s) := by
  refine iteInduction (motive := KeepsMem s) (fun _ => ?_) (fun _ => keepsMem_refl hs)
  cases s.ecc.merge with
  | nil => exact keepsMem_refl hs
  | cons o _ => exact drainEntry_keepsMem hs o

theorem mergeByte_keepsMem (a b : Nat) : KeepsMem s (s.mergeByte a b) := by
  unfold State.mergeByte
  dsimp only
  split
  case h_1 =>
    split
    · exact eccFresh_keepsMem hs _
    · exact ⟨rfl, hs⟩
  case h_2 => exact (mergeRoom_keepsMem hs).trans ⟨rfl, (mergeRoom_keepsMem hs).2⟩

/-- A write of the core memories is the write of its bytes, for what it does to the merge buffer touches none. -/
theorem memPut_mem (a : Nat) (bytes : List Nat) :
    (s.memPut a bytes).mem = s.mem.writes a bytes ∧ NoRawWord (s.memPut a bytes) := by
  have hwords : KeepsMem s ((memWords a bytes.length).foldl (fun (t : State) w =>
      if a ≤ wordAddr w ∧ wordAddr w + 8 ≤ a + bytes.length then t.eccFresh w
      else ((List.range 8).filter (fun i => decide (a ≤ wordAddr w + i) && decide (wordAddr w + i < a + bytes.length))).foldl
        (fun (u : State) i => u.mergeByte (wordAddr w + i) (byteAt bytes (wordAddr w + i - a))) t) s) := by
    refine foldl_keepsMem _ _ hs fun u w hu => ?_
    split
    · exact eccFresh_keepsMem hu w
    · exact foldl_keepsMem _ _ hu fun v i hv => mergeByte_keepsMem hv _ _
  exact ⟨congrArg (fun m : Memory => m.writes a bytes) hwords.1, hwords.2⟩

end

/-- Settles O58: lost reservations touch no memory, so the write is that of `memPut`, of which the laws of memory speak. -/
theorem coreWritesChangeOnlyTheirBytes : Obligations.CoreWritesChangeOnlyTheirBytes := by
  unfold Obligations.CoreWritesChangeOnlyTheirBytes
  intro s c a bytes hclean u
  have hput (x : ChmSt) : NoRawWord { s with chm := x } := hclean
  obtain ⟨hmem, hwords⟩ : u.mem = s.mem.writes a bytes ∧ NoRawWord u := memPut_mem (hput _) a bytes
  rw [hmem]
  exact ⟨fun x hx => read_writes_out bytes s.mem a x hx, fun i hi => read_writes_in bytes s.mem a i hi,
    wf_writes bytes s.mem a, hwords⟩

end Sys2Proof.Proofs
end

section
/-! PROOFS of the statement of 18_reset_and_startup about what device resets keep and clear (R533, R570, R583, R620). After the
reset state itself, a warm reset changes registers, the time state and the fused remap entries alone. -/

namespace Sys2Proof.Proofs
open Sys2Proof.Machine Sys2Proof.Laws

/-- What the steps of a warm reset may change once the device is in its reset state: registers, TIME but not cell time and
ticks, and the fused entries of the remap CAMs. -/
structure WarmStep (s u : State) : Prop where
  frame : u = { s with reg := u.reg, time := u.time, ecc := u.ecc }
  ct : u.time.ct = s.time.ct
  tick : u.time.tick = s.time.tick
  edge : u.time.edge = s.time.edge
  cam : ∀ g e, 8 ≤ e → e < 16 → SMap.get u.ecc.remap (g * 16 + e) 0 = SMap.get s.ecc.remap (g * 16 + e) 0

theorem WarmStep.refl (s : State) : WarmStep s s := ⟨rfl, rfl, rfl, rfl, fun _ _ _ _ => rfl⟩

theorem WarmStep.trans {s u v : State} (h : WarmStep s u) (k : WarmStep u v) : WarmStep s v :=
  ⟨k.frame.trans (by rw [h.frame]), k.ct.trans h.ct, k.tick.trans h.tick, k.edge.trans h.edge,
    fun g e hlo hhi => (k.cam g e hlo hhi).trans (h.cam g e hlo hhi)⟩

theorem WarmStep.ite {s u v : State} {c : Prop} [Decidable c] (hu : WarmStep s u) (hv : WarmStep s v) :
    WarmStep s (if c then u else v) := iteInduction (motive := WarmStep s) (fun _ => hu) (fun _ => hv)

theorem WarmStep.wr {s u : State} (h : WarmStep s u) (f : Fld) (v i j : Nat) : WarmStep s (u.wr f v i j) :=
  h.trans ⟨rfl, rfl, rfl, rfl, fun _ _ _ _ => rfl⟩

theorem WarmStep.fromRow {s u : State} (h : WarmStep s u) (f : Fld) (d i : Nat) : WarmStep s (u.fromRow f d i) := h.wr _ _ _ _

theorem WarmStep.foldl {α : Type} {s u : State} (h : WarmStep s u) {f : State → α → State} (l : List α)
    (hf : ∀ (v : State) (x : α), WarmStep v (f v x)) : WarmStep s (l.foldl f u) := by
  induction l generalizing u with
  | nil => exact h
  | cons x xs ih => exact ih (h.trans (hf u x))

/-! ### The fuse load (R531, R576) -/

theorem fuseOct_warmStep (s : State) (k : Nat) : WarmStep s (s.fuseOct k) :=
  have h : WarmStep s ((((s.fromRow OCT_MODE_MODE _ k).fromRow OCT_MODE_FABRIC _ k).fromRow OCT_MODE_PORT_EN _ k).wr
      OCT_FAB_CFG_MAX_RATE _ k) := ((((WarmStep.refl s).fromRow _ _ _).fromRow _ _ _).fromRow _ _ _).wr _ _ _ _
  WarmStep.ite (h.wr _ _ _ _) h

theorem fusePort_warmStep (s : State) (p : Nat) : WarmStep s (s.fusePort p) :=
  ((((WarmStep.refl s).fromRow _ _ _).fromRow _ _ _).wr _ _ _ _).wr _ _ _ _

/-- The fused entries of a group are the first 8 of its 16, so a write of them leaves the run-time entries alone. -/
theorem get_fusedEntries (m : SMap Nat) (v : Nat → Nat) (g h e : Nat) (hlo : 8 ≤ e) (hhi : e < 16) :
    SMap.get ((List.range 8).foldl (fun m i => SMap.set m (g * 16 + i) (v i) 0) m) (h * 16 + e) 0 = SMap.get m (h * 16 + e) 0 := by
  have hfold (l : List Nat) (hl : ∀ i ∈ l, i < 8) (m : SMap Nat) :
      SMap.get (l.foldl (fun m i => SMap.set m (g * 16 + i) (v i) 0) m) (h * 16 + e) 0 = SMap.get m (h * 16 + e) 0 := by
    induction l generalizing m with
    | nil => rfl
    | cons i l ih =>
      rw [List.forall_mem_cons] at hl
      rw [List.foldl_cons, ih hl.2, get_set_ne _ _ _ _ (by omega)]
  exact hfold _ (fun i hi => List.mem_range.mp hi) m

theorem fuseCam_warmStep (s : State) (g : Nat) : WarmStep s (s.fuseCam g) := by
  refine ⟨rfl, rfl, rfl, rfl, fun h e hlo hhi => ?_⟩
  simp only [State.fuseCam, wr_ecc]
  exact get_fusedEntries _ _ g h e hlo hhi

theorem loadFuses_warmStep (s : State) : WarmStep s s.loadFuses := by
  unfold State.loadFuses
  refine .foldl (.foldl ?_ _ fun v n => ((WarmStep.refl v).fromRow _ _ _).fromRow _ _ _) _ fuseCam_warmStep
  refine .wr (.wr (.wr (.fromRow (.fromRow (.fromRow (.fromRow (.fromRow ?_ _ _ _) _ _ _) _ _ _) _ _ _) _ _ _) _ _ _ _) _ _ _ _) _ _ _ _
  refine .foldl (.wr (.wr (.wr (.wr ?_ _ _ _ _) _ _ _ _) _ _ _ _) _ _ _ _) _ fun v n => (WarmStep.refl v).wr _ _ _ _
  exact .foldl (.foldl ((WarmStep.refl s).wr _ _ _ _) _ fuseOct_warmStep) _ fusePort_warmStep

/-! ### The steps of a warm reset (R570, R577, R583) -/

theorem enterHoldover_warmStep (s : State) : WarmStep s s.enterHoldover := ⟨rfl, rfl, rfl, rfl, fun _ _ _ _ => rfl⟩

/-- The device right after a warm reset took place: what leaves it is sent, and it is in its reset state with the count of
warm resets written. -/
def warmReached (s : State) (sent : List Emit) (count : Nat) : State :=
  (((s.emits sent).resetState false).wr RST_WARM_COUNT_COUNT count).wr FAULT_STATUS_HALTED 0

/-- What a warm reset does from there: a locked device enters HOLDOVER, and a fuse map that was loaded is taken again. -/
def warmEnded (s : State) : State :=
  let held := if s.timeState = tsLOCKED then s.enterHoldover else s
  if held.rst.loaded then held.loadFuses.wr FUSE_STATUS_STATE 1 else held

theorem deviceReset_of_fresh {s : State} (hheld : s.rst.phase ≠ .held) (hreleased : s.rst.phase ≠ .released) :
    ∃ sent count, s.deviceReset false = warmEnded (warmReached s sent count) := by
  have hjoined : (decide (s.rst.phase = .held ∨ s.rst.phase = .released) && s.rst.thisCold) = false := by simp [hheld, hreleased]
  simp only [State.deviceReset, hjoined, Bool.or_false, Bool.false_eq_true, if_false]
  exact ⟨_, _, rfl⟩

theorem warmEnded_warmStep (s : State) : WarmStep s (warmEnded s) := by
  have hheld : WarmStep s (if s.timeState = tsLOCKED then s.enterHoldover else s) :=
    WarmStep.ite (enterHoldover_warmStep s) (WarmStep.refl s)
  exact WarmStep.ite ((hheld.trans (loadFuses_warmStep _)).wr FUSE_STATUS_STATE 1 0 0) hheld

/-- Settles O60: the warm reset state keeps what R583 names, and the steps after it change registers, the time state and
fused remap entries alone; the cold one keeps the fuse array of it. -/
theorem warmResetKeepsAndClears : Obligations.WarmResetKeepsAndClears := by
  unfold Obligations.WarmResetKeepsAndClears
  refine ⟨fun s hheld hreleased => ?warm, fun s => ?cold⟩
  case warm =>
    obtain ⟨sent, count, hreset⟩ := deviceReset_of_fresh hheld hreleased
    obtain ⟨hframe, hct, htick, hedge, hcam⟩ := warmEnded_warmStep (warmReached s sent count)
    rw [hreset]
    refine ⟨⟨hct, htick, hedge, ?_, ?_, hcam⟩, ?_⟩
    · rw [hframe]; rfl
    · rw [hframe]; rfl
    · rw [hframe]; exact ⟨rfl, rfl, rfl, rfl, rfl, rfl, rfl, rfl, rfl, rfl, rfl⟩
  case cold => exact ⟨rfl, rfl, rfl, rfl, rfl, rfl, rfl, rfl, rfl, rfl, rfl, rfl, rfl, rfl, rfl, rfl, rfl⟩

end Sys2Proof.Proofs
end

section
/-! PROOFS of the statements of 19_ibex_slot_power: the channel table (R607), trips and limits (R608 to R614), presence, buttons,
banks, clears and the die-to-die link (R602, R603, R609, R615 to R619). -/

namespace Sys2Proof.Proofs
open Sys2Proof.Machine Sys2Proof.Laws

section
variable {s : State} {n : Nat}

/-! ### Events that the table does not list for a state (R607) -/

theorem insertDelay_of_ne (h : (s.chan n).st ≠ cQUALIFY) : s.insertDelay n = s := if_neg fun k => h k.1

theorem prechargeDone_of_ne (h : (s.chan n).st ≠ cPRECHARGE) : s.prechargeDone n = s := if_neg h

theorem prechargeTimeout_of_ne (h : (s.chan n).st ≠ cPRECHARGE) : s.prechargeTimeout n = s := if_neg fun k => h k.1

theorem outputGood_of_ne (h : (s.chan n).st ≠ cRAMP) : s.outputGood n = s := if_neg fun k => h k.1

theorem gateRiseOk_of_ne (h : (s.chan n).st ≠ cRAMP) : s.gateRiseOk n = s := if_neg fun k => h k.1

theorem gateFail_of_ne (h : (s.chan n).st ≠ cRAMP) : s.gateFail n = s := by
  unfold State.gateFail
  dsimp only
  split
  · exact if_neg fun k => h k.1
  · rfl

/-- A trip counts only in the three states in which the channel conducts. -/
theorem trip_of_ne (hpre : (s.chan n).st ≠ cPRECHARGE) (hramp : (s.chan n).st ≠ cRAMP) (hon : (s.chan n).st ≠ cON)
    (kind event src : Nat) : s.trip n kind event src = s := if_neg (by simp [hpre, hramp, hon])

theorem faultTimerTrip_of_ne (hpre : (s.chan n).st ≠ cPRECHARGE) (hramp : (s.chan n).st ≠ cRAMP) (hon : (s.chan n).st ≠ cON) :
    s.faultTimerTrip n = s := by
  simp only [State.faultTimerTrip, trip_of_ne hpre hramp hon, ite_self]

theorem startTimerTrip_of_ne (hpre : (s.chan n).st ≠ cPRECHARGE) (hramp : (s.chan n).st ≠ cRAMP) : s.startTimerTrip n = s :=
  if_neg (by simp [hpre, hramp])

theorem retryDelay_of_ne (h : (s.chan n).st ≠ cRETRY_WAIT) : s.retryDelay n = s := if_neg fun k => h k.1

theorem onTimer_of_ne (h : (s.chan n).st ≠ cON) : s.onTimer n = s := if_neg fun k => h k.1

theorem fetShort_of_ne (hoff : (s.chan n).st ≠ cOFF) (hqual : (s.chan n).st ≠ cQUALIFY) (hretry : (s.chan n).st ≠ cRETRY_WAIT)
    (hlatch : (s.chan n).st ≠ cLATCHED) : s.fetShort n = s := if_neg (by simp [hoff, hqual, hretry, hlatch])

/-! ### Events that it lists (R607, R608, R610 to R614) -/

theorem insertDelay_of_due (hst : (s.chan n).st = cQUALIFY) (hfirst : (s.chan n).retry = false)
    (hin : (s.bank (bankOf n)).inside = true)
    (hdue : max (s.chan n).since (s.bank (bankOf n)).since + s.rd IBX_CFG2_INSERT_DELAY n * 1000000 ≤ s.ns) :
    s.insertDelay n = s.powerUp n := if_pos ⟨hst, hfirst, hin, hdue⟩

theorem prechargeDone_of_precharge (hst : (s.chan n).st = cPRECHARGE) : s.prechargeDone n = s.chanTo n cRAMP := if_pos hst

theorem outputGood_of_first (hst : (s.chan n).st = cRAMP) (hfirst : (s.chan n).goodAt = none) :
    s.outputGood n = (s.setChan n { s.chan n with goodAt := some s.ns }).emit (.pin 6 n 2) := if_pos ⟨hst, by rw [hfirst]; rfl⟩

theorem gateRiseOk_of_good {g : Nat} (hst : (s.chan n).st = cRAMP) (hgood : (s.chan n).goodAt = some g) :
    s.gateRiseOk n = s.chanTo n cON := if_pos ⟨hst, by rw [hgood]; rfl⟩

theorem gateFail_of_overdue {g : Nat} (hst : (s.chan n).st = cRAMP) (hgood : (s.chan n).goodAt = some g)
    (hdue : g + 1000000 ≤ s.ns) : s.gateFail n = s.chanTo n cLOCKED (fun x => { x.note 3 115 with lastTrip := 5 }) := by
  unfold State.gateFail
  simp only [hgood]
  exact if_pos ⟨hst, hdue⟩

/-- The state that a trip of a conducting channel leaves: it waits to retry, or is latched off past RETRIES (R607, R608). -/
def tripped (s : State) (n kind event src : Nat) : State :=
  s.chanTo n (if s.rd IBX_CFG3_RETRIES n < (s.chan n).count + 1 then cLATCHED else cRETRY_WAIT) (fun x =>
    let d := { (x.note event src) with count := (s.chan n).count + 1, lastTrip := kind, trips := (x.trips + 1) % 2 ^ 32 }
    if s.rd IBX_CFG3_RETRIES n < (s.chan n).count + 1 then d.note 2 114 else d)

theorem trip_of_conducting (hst : (s.chan n).st = cPRECHARGE ∨ (s.chan n).st = cRAMP ∨ (s.chan n).st = cON)
    (kind event src : Nat) : s.trip n kind event src = tripped s n kind event src := by
  simp only [State.trip, if_pos hst, decide_eq_true_eq]
  rfl

theorem prechargeTimeout_of_overdue (hst : (s.chan n).st = cPRECHARGE)
    (hdue : (s.chan n).startAt + s.rd IBX_CFG2_PRECHG_TIMEOUT n * 1000000 ≤ s.ns) :
    s.prechargeTimeout n = tripped s n 4 7 119 :=
  (if_pos ⟨hst, hdue⟩).trans (trip_of_conducting (.inl hst) ..)

theorem faultTimerTrip_of_overdue (hst : (s.chan n).st = cPRECHARGE ∨ (s.chan n).st = cRAMP ∨ (s.chan n).st = cON)
    (hlimit : (s.chan n).inLimit = true) (hdue : (s.chan n).limitAt + s.rd IBX_CFG1_FAULT_TIMER n * 100000 ≤ s.ns) :
    s.faultTimerTrip n = tripped s n 1 0 112 := (if_pos ⟨hlimit, hdue⟩).trans (trip_of_conducting hst ..)

theorem startTimerTrip_of_overdue (hst : (s.chan n).st = cPRECHARGE ∨ (s.chan n).st = cRAMP)
    (hdue : (s.chan n).startAt + s.rd IBX_CFG1_START_TIMER n * 1000000 ≤ s.ns) :
    s.startTimerTrip n = tripped s n 3 0 112 :=
  (if_pos ⟨hst, hdue⟩).trans (trip_of_conducting (hst.imp_right Or.inl) ..)

theorem limitEnter_of_conducting (hst : (s.chan n).st = cPRECHARGE ∨ (s.chan n).st = cRAMP ∨ (s.chan n).st = cON)
    (hfree : (s.chan n).inLimit = false) : s.limitEnter n = s.setChan n { s.chan n with inLimit := true, limitAt := s.ns } :=
  if_pos ⟨hst, hfree⟩

theorem limitExit_of_limited (h : (s.chan n).inLimit = true) : s.limitExit n = s.setChan n { s.chan n with inLimit := false } :=
  if_pos h

/-- A channel that has waited out its retry delay. -/
def retryQualified (s : State) (n : Nat) : State := s.chanTo n cQUALIFY (fun x => { x with retry := true })

theorem retryDelay_of_due (hst : (s.chan n).st = cRETRY_WAIT)
    (hdue : (s.chan n).since + s.rd IBX_CFG3_RETRY_DELAY n * 100000000 ≤ s.ns) :
    s.retryDelay n = if ((retryQualified s n).bank (bankOf n)).inside = true then (retryQualified s n).powerUp n
      else retryQualified s n := if_pos ⟨hst, hdue⟩

theorem onTimer_of_due (hst : (s.chan n).st = cON) (hdue : (s.chan n).since + 1000000000 ≤ s.ns) :
    s.onTimer n = s.setChan n { s.chan n with count := 0 } := if_pos ⟨hst, hdue⟩

end

/-! ### The rows of the channels -/

section
variable (s : State) (t n : Nat)

theorem exec_insertDelayExpire : exec (.insertDelayExpire t n) s = .next (settle ((s.advance t).insertDelay n)) := rfl
theorem exec_prechargeDone : exec (.prechargeDone t n) s = .next (settle ((s.advance t).prechargeDone n)) := rfl
theorem exec_prechargeTimeout : exec (.prechargeTimeout t n) s = .next (settle ((s.advance t).prechargeTimeout n)) := rfl
theorem exec_outputGood : exec (.outputGood t n) s = .next (settle ((s.advance t).outputGood n)) := rfl
theorem exec_gateRiseOk : exec (.gateRiseOk t n) s = .next (settle ((s.advance t).gateRiseOk n)) := rfl
theorem exec_gateFail : exec (.gateFail t n) s = .next (settle ((s.advance t).gateFail n)) := rfl
theorem exec_fastTrip : exec (.fastTrip t n) s = .next (settle ((s.advance t).trip n 2 1 113)) := rfl
theorem exec_faultTimerTrip : exec (.faultTimerTrip t n) s = .next (settle ((s.advance t).faultTimerTrip n)) := rfl
theorem exec_startTimerTrip : exec (.startTimerTrip t n) s = .next (settle ((s.advance t).startTimerTrip n)) := rfl
theorem exec_retryDelayExpire : exec (.retryDelayExpire t n) s = .next (settle ((s.advance t).retryDelay n)) := rfl
theorem exec_onTimerExpire : exec (.onTimerExpire t n) s = .next (settle ((s.advance t).onTimer n)) := rfl
theorem exec_currentLimitEnter : exec (.currentLimitEnter t n) s = .next (settle ((s.advance t).limitEnter n)) := rfl
theorem exec_currentLimitExit : exec (.currentLimitExit t n) s = .next (settle ((s.advance t).limitExit n)) := rfl
theorem exec_fetShort : exec (.fetShort t n) s = .next (settle ((s.advance t).fetShort n)) := rfl
theorem exec_presenceQualified :
    exec (.presenceQualified t n) s = .next (settle (((s.advance t).wakeBy 0 n).presenceQualified n)) := rfl
theorem exec_presenceLost : exec (.presenceLost t n) s = .next (settle (((s.advance t).wakeBy 0 n).presenceLost n)) := rfl
theorem exec_buttonPress : exec (.buttonPress t n) s = .next (settle (((s.advance t).wakeBy 1 n).buttonPress n)) := rfl
theorem exec_buttonRelease : exec (.buttonRelease t n) s = .next (settle ((s.advance t).buttonRelease n)) := rfl
theorem exec_clearLock (path v : Nat) :
    exec (.clearLock t path n v) s = .next (settle ((s.advance t).regCmd path (IBX_CTRL.addr n) v)) := rfl
theorem exec_bankWindowExit : exec (.bankWindowExit t n) s = .next (settle ((s.advance t).bankExit n)) := rfl
theorem exec_bankWindowReturn : exec (.bankWindowReturn t n) s = .next (settle ((s.advance t).bankReturn n)) := rfl
theorem exec_pfailAssert : exec (.pfailAssert t n) s = .next (settle ((s.advance t).pfailAssert n)) := rfl
theorem exec_pfailRelease : exec (.pfailRelease t n) s = .next (settle ((s.advance t).pfailRelease n)) := rfl
theorem exec_ibexLinkDown : exec (.ibexLinkDown t) s = .next (settle (s.advance t).ibexDown) := rfl
theorem exec_ibexLinkRestore : exec (.ibexLinkRestore t) s = .next (settle (s.advance t).ibexRestore) := rfl

end

/-- Settles O59: each event asks for the states in which R607 lists it, and leaves the device alone in any other (log
entry 79). -/
theorem eventsOutsideTheChannelTable : Obligations.EventsOutsideTheChannelTable := by
  unfold Obligations.EventsOutsideTheChannelTable
  intro s t n a st
  refine ⟨fun h => ?_, fun h => ⟨?_, ?_⟩, fun h => ⟨?_, ?_, ?_⟩, fun hpre hramp => ?_, fun hpre hramp hon => ⟨?_, ?_⟩, fun h => ?_,
    fun h => ?_, fun hoff hqual hretry hlatch => ?_⟩
  · rw [exec_insertDelayExpire, insertDelay_of_ne h]
  · rw [exec_prechargeDone, prechargeDone_of_ne h]
  · rw [exec_prechargeTimeout, prechargeTimeout_of_ne h]
  · rw [exec_outputGood, outputGood_of_ne h]
  · rw [exec_gateRiseOk, gateRiseOk_of_ne h]
  · rw [exec_gateFail, gateFail_of_ne h]
  · rw [exec_startTimerTrip, startTimerTrip_of_ne hpre hramp]
  · rw [exec_fastTrip, trip_of_ne hpre hramp hon]
  · rw [exec_faultTimerTrip, faultTimerTrip_of_ne hpre hramp hon]
  · rw [exec_retryDelayExpire, retryDelay_of_ne h]
  · rw [exec_onTimerExpire, onTimer_of_ne h]
  · rw [exec_fetShort, fetShort_of_ne hoff hqual hretry hlatch]

/-- Settles O48: one lemma for each event that R607 lists, and one for what every trip leaves. -/
theorem channelSequenceCommandsComplete : Obligations.ChannelSequenceCommandsComplete := by
  unfold Obligations.ChannelSequenceCommandsComplete
  intro s t n a c b powered tripped
  refine ⟨fun hst hfirst hin hdue => ?_, fun hst => ⟨?_, fun hdue => ?_⟩,
    fun hst => ⟨fun hfirst => ?_, fun g hgood => ⟨?_, fun hdue => ?_⟩⟩,
    fun hst => ⟨?_, fun hlimit hdue => ?_, fun hfree => ?_⟩, fun hst hdue => ?_, fun hlimit => ?_, fun hst hdue => ?_,
    fun hst hdue => ?_⟩
  · rw [exec_insertDelayExpire, insertDelay_of_due hst hfirst hin hdue]; rfl
  · rw [exec_prechargeDone, prechargeDone_of_precharge hst]
  · rw [exec_prechargeTimeout, prechargeTimeout_of_overdue hst hdue]; rfl
  · rw [exec_outputGood, outputGood_of_first hst hfirst]
  · rw [exec_gateRiseOk, gateRiseOk_of_good hst hgood]
  · rw [exec_gateFail, gateFail_of_overdue hst hgood hdue]
  · rw [exec_fastTrip, trip_of_conducting hst]; rfl
  · rw [exec_faultTimerTrip, faultTimerTrip_of_overdue hst hlimit hdue]; rfl
  · rw [exec_currentLimitEnter, limitEnter_of_conducting hst hfree]
  · rw [exec_startTimerTrip, startTimerTrip_of_overdue hst hdue]; rfl
  · rw [exec_currentLimitExit, limitExit_of_limited hlimit]
  · rw [exec_retryDelayExpire, retryDelay_of_due hst hdue]; rfl
  · rw [exec_onTimerExpire, onTimer_of_due hst hdue]

/-! ### Presence, buttons, banks and the link (R602, R603, R609, R615 to R619) -/

section
variable {s : State} {n : Nat}

theorem presenceQualified_of_absent (has : s.assigned n = true) (h : (s.chan n).present = false) :
    s.presenceQualified n = (s.setChan n { s.chan n with present := true, events := (s.chan n).events ++ [8] }).tryStart n := by
  simp only [State.presenceQualified, has, h]; rfl

theorem presenceLost_of_present (has : s.assigned n = true) (h : (s.chan n).present = true) :
    s.presenceLost n =
      let b := s.setChan n { s.chan n with present := false, events := (s.chan n).events ++ [8] }
      if (s.chan n).st = cOFF ∨ (s.chan n).st = cLOCKED then b else b.chanTo n cOFF := by
  simp only [State.presenceLost, has, h]; rfl

theorem buttonPress_of_released {p : Nat} (hport : s.chanPort n = some p) (h : (s.chan n).button = false) :
    s.buttonPress n =
      let b := (s.setChan n { s.chan n with button := true, events := (s.chan n).events ++ [9] }).portVdsp p seBUTTON
        (fun v => { v with button := true })
      if (s.chan n).st = cLATCHED then b.chanOff n else b := by
  simp only [State.buttonPress, hport, h]; rfl

theorem buttonRelease_of_pressed (h : (s.chan n).button = true) :
    s.buttonRelease n = s.setChan n { s.chan n with button := false } := if_pos h

theorem fetShort_of_idle (has : s.assigned n = true)
    (hst : (s.chan n).st = cOFF ∨ (s.chan n).st = cQUALIFY ∨ (s.chan n).st = cRETRY_WAIT ∨ (s.chan n).st = cLATCHED) :
    s.fetShort n = s.chanTo n cLOCKED (fun x => { x.note 4 116 with lastTrip := 6 }) := if_pos ⟨has, hst⟩

theorem clearLock_of_locked (h : (s.chan n).st = cLOCKED) : s.clearLock n = s.chanOff n := if_pos h

theorem ibexDown_of_up (h : s.on IBEX_STATUS_LINK_UP = true) : s.ibexDown = (s.wr IBEX_STATUS_LINK_UP 0).raise 120 := if_pos h

theorem regAt_ibxCtrl : ∀ n < 24, regAt (IBX_CTRL.addr n) = some (IBX_CTRL, n, 0) := by decide +kernel

theorem ibxCtrl_addr (n : Nat) : IBX_CTRL.addr n = 0x40110 + n * 0x40 := by simp [RegDesc.addr, IBX_CTRL]

theorem regCmd_clearLock {path v : Nat} (hn : n < 24) (ht : Safety.takes s path IBX_CTRL n 0 v = true) (hclear : bit v 31 = true) :
    s.regCmd path (IBX_CTRL.addr n) v = s.clearLock n := by
  have haddr := ibxCtrl_addr n
  refine regCmd_sys ht (regAt_ibxCtrl n hn) rfl (by omega) (by omega) (by decide) ?_
  exact congrArg some (if_pos hclear)

section
variable {k : Nat}

theorem bankExit_of_inside (h : (s.bank k).inside = true) : s.bankExit k =
    (chansOf k).foldl (fun (u : State) n =>
      if (u.chan n).st = cPRECHARGE ∨ (u.chan n).st = cRAMP ∨ (u.chan n).st = cON then
        u.chanTo n cQUALIFY (fun c => { c.note 6 118 with lastTrip := 7, count := 0 })
      else u) ((s.setBank k { s.bank k with inside := false }).raise 131) := by
  simp only [State.bankExit, h]; rfl

theorem bankReturn_of_outside (h : (s.bank k).inside = false) : s.bankReturn k =
    (chansOf k).foldl (fun (u : State) n => if (u.chan n).st = cQUALIFY ∧ (u.chan n).retry = true then u.powerUp n else u)
      (s.setBank k { s.bank k with inside := true, since := s.ns }) := by
  simp only [State.bankReturn, h]; rfl

theorem pfailAssert_of_above (h : (s.bank k).below = false) : s.pfailAssert k =
    (chansOf k).foldl (fun (u : State) n =>
      if (u.chan n).st = cRAMP ∨ (u.chan n).st = cON then
        (u.setChan n { ((u.chan n).note 5 117) with pfail := true }).emit (.pin 8 n 0)
      else u) (s.setBank k { s.bank k with below := true }) := by
  simp only [State.pfailAssert, h]; rfl

end

theorem ibexRestore_of_down (h : s.on IBEX_STATUS_LINK_UP = false) : s.ibexRestore =
    (List.range 24).foldl (fun (u : State) n => match u.chanPort n with
      | some p => (u.syncChan n).powerReq n (!(u.pport p).off)
      | none => u.syncChan n) (s.setOn IBEX_STATUS_LINK_UP) := if_neg (Bool.eq_false_iff.mp h)

end

/-- Settles O49: one lemma for each input of a slot, a bank or the link that meets its condition. -/
theorem slotInputCommandsComplete : Obligations.SlotInputCommandsComplete := by
  unfold Obligations.SlotInputCommandsComplete
  refine ⟨fun s t n => ?presence, fun s t n p => ?press, fun s t n => ?channel, fun s t k => ?bank, fun s t => ?link⟩
  case presence =>
    intro a c has
    refine ⟨fun habsent => ?_, fun hpresent => ?_⟩
    · rw [exec_presenceQualified, presenceQualified_of_absent has habsent]
    · rw [exec_presenceLost, presenceLost_of_present has hpresent]
  case press =>
    intro a c b hport hreleased
    rw [exec_buttonPress, buttonPress_of_released hport hreleased]
  case channel =>
    refine ⟨fun hpressed => ?_, fun has hst => ?_, fun path v hn htakes hclear hst => ?_⟩
    · rw [exec_buttonRelease, buttonRelease_of_pressed hpressed]
    · rw [exec_fetShort, fetShort_of_idle has hst]
    · rw [exec_clearLock, regCmd_clearLock hn htakes hclear, clearLock_of_locked hst]
  case bank =>
    refine ⟨fun hin => ?_, fun hout => ?_, fun habove => ?_, rfl⟩
    · rw [exec_bankWindowExit, bankExit_of_inside hin]
    · rw [exec_bankWindowReturn, bankReturn_of_outside hout]
    · rw [exec_pfailAssert, pfailAssert_of_above habove]
  case link =>
    refine ⟨fun hup => ?_, fun hdown => ?_⟩
    · rw [exec_ibexLinkDown, ibexDown_of_up hup]
    · exact congrArg (fun u => Host.Outcome.next (settle u)) (ibexRestore_of_down hdown)

end Sys2Proof.Proofs
end

section
/-! PROOFS of the statements of 17_faults_and_containment: masked sources (R555), and the commands of the collector (R539, R540,
R542, R543, R551, R561 to R565). -/

namespace Sys2Proof.Proofs
open Sys2Proof.Machine Sys2Proof.Laws

/-- Settles O56: the collector counts an event before it looks at MASK, and a masked source ends there. -/
theorem maskedSourcesOnlyCount : Obligations.MaskedSourcesOnlyCount := by
  unfold Obligations.MaskedSourcesOnlyCount
  refine ⟨fun s r hused hmask => ?_, fun s n x => rfl⟩
  have hkey : FAULT_SRC_CFG_MASK.key r.src 0 ≠ FAULT_SRC_STATUS_EVENTS.key r.src 0 := by
    simp only [Fld.key, FAULT_SRC_CFG_MASK, FAULT_SRC_STATUS_EVENTS]
    omega
  have hstill : (s.incSat FAULT_SRC_STATUS_EVENTS r.src).on FAULT_SRC_CFG_MASK r.src = true := by
    rw [State.on, State.incSat, rd_wr_ne hkey]
    exact hmask
  simp only [State.takeEvent, hused, Bool.not_true, Bool.false_eq_true, if_false, hstill, if_true]
  rfl

section
variable {s : State} {path v : Nat}

/-! ### The registers of FAULT with an effect of their own -/

theorem regAt_faultSrcCfg : ∀ n < 256, regAt (FAULT_SRC_CFG.addr n) = some (FAULT_SRC_CFG, n, 0) := by decide +kernel

theorem regAt_faultFsw : ∀ i < 8, regAt (FAULT_FSW.addr i) = some (FAULT_FSW, i, 0) := by decide +kernel

theorem faultSrcCfg_addr (n : Nat) : FAULT_SRC_CFG.addr n = 0x31000 + n * 8 := by simp [RegDesc.addr, FAULT_SRC_CFG]

theorem faultFsw_addr (i : Nat) : FAULT_FSW.addr i = 0x30020 + i * 4 := by simp [RegDesc.addr, FAULT_FSW]

theorem regCmd_faultSrcCfg {n : Nat} (hn : n < 256) (h : Safety.takes s path FAULT_SRC_CFG n 0 v = true) :
    s.regCmd path (FAULT_SRC_CFG.addr n) v = s.srcCfgWrite n v := by
  have haddr := faultSrcCfg_addr n
  exact regCmd_sys h (regAt_faultSrcCfg n hn) rfl (by omega) (by omega) (by decide) rfl

theorem regCmd_faultFsw {i : Nat} (hi : i < 8) (h : Safety.takes s path FAULT_FSW i 0 v = true) :
    s.regCmd path (FAULT_FSW.addr i) v = s.fswWrite i v := by
  have haddr := faultFsw_addr i
  exact regCmd_sys h (regAt_faultFsw i hi) rfl (by omega) (by omega) (by decide) rfl

theorem regCmd_containRelease (h : Safety.takes s path FAULT_CONTAIN_RELEASE 0 0 v = true) :
    s.regCmd path FAULT_CONTAIN_RELEASE.off v = s.containReleaseWrite v :=
  regCmd_sys h (by decide +kernel) rfl (by decide) (by decide) (by decide) rfl

/-! ### What the commands of the collector do -/

/-- A severity of source 177 that software writes holds for both clusters (R542); writing FATAL leaves it by cluster. -/
def clustersJoined (s : State) (n v : Nat) : State :=
  if n = 177 ∧ s.flt.perCluster = true ∧ bits v 29 27 ≠ sevFATAL then { s with flt := { s.flt with perCluster := false } } else s

/-- FAULT_SRC_CFG of a source with the fields of a word stored. -/
def sourceConfigured (s : State) (n v : Nat) : State :=
  ((((((clustersJoined s n v).wr FAULT_SRC_CFG_MASK (bits v 30 30) n).wr FAULT_SRC_CFG_SEVERITY (bits v 29 27) n).wr
    FAULT_SRC_CFG_CONTAIN_ACTION (bits v 26 25) n).wr FAULT_SRC_CFG_SLOT_OFF (bits v 24 24) n).wr
    FAULT_SRC_CFG_COUNT_N (bits v 23 16) n).wr FAULT_SRC_CFG_WINDOW (bits v 15 0) n

theorem srcCfgWrite_of_force {n : Nat} (hused : sourceUsed n = true) (hforce : bit v 31 = true) :
    s.srcCfgWrite n v = (sourceConfigured s n v).force n := by
  simp only [State.srcCfgWrite, hused, hforce, Bool.not_true, Bool.false_eq_true, if_false, if_true]
  rfl

theorem windowClose_of_due {n : Nat} (hopen : s.on FAULT_SRC_STATUS_WINDOW_OPEN n = true)
    (hdue : SMap.get s.flt.close n 0 ≤ s.time.tick) : s.windowClose n = s.windowShut n :=
  if_pos (by simp [hopen, hdue])

theorem containReleaseWrite_of_domain (hgo : bit v 31 = true) (hkind : bit v 24 = true) :
    s.containReleaseWrite v = s.containReleaseHd (v % 1024) := by
  simp [State.containReleaseWrite, hgo, hkind]

theorem containReleaseWrite_of_port (hgo : bit v 31 = true) (hkind : bit v 24 = false) (hp : v % 1024 < 96) :
    s.containReleaseWrite v = s.containReleasePort (v % 1024) := by
  simp [State.containReleaseWrite, hgo, hkind, hp]

theorem containReleasePort_of_contained {p : Nat} (h : bit (s.rd FAULT_PORT_CONTAINED_VALUE (p / 32)) (p % 32) = true) :
    s.containReleasePort p =
      let b := s.setPortContained p false
      if b.isFab p = true then (if b.portEn p = true then b.portOn p else b) else b.dpcRelease p := if_pos h

/-! ### Fault notices (R561, R562, R564) -/

section
variable {k subject src flags reporters tick first : Nat}

/-- The record that a FAULT_NOTICE carries. -/
def noticeOf (src flags reporters tick first : Nat) : NoticeRec :=
  { sev := flags % 8, src := src, remote := bit flags 3, reporters := reporters, tick := tick, first := first }

theorem faultNotice_of_child (hsev : flags % 8 ≤ 4) (hflags : flags < 32) (hchild : s.children.contains k = true) :
    s.faultNotice k subject src flags reporters tick first =
      if bit flags 4 = true then s.noticeNow subject (noticeOf src flags reporters tick first)
      else if (s.isRoot || s.joined) = true then s.noticeMerge subject (noticeOf src flags reporters tick first)
      else s.raise 158 := by
  have hlegal : ¬ (4 < flags % 8 ∨ 32 ≤ flags) := by omega
  simp only [State.faultNotice, if_neg hlegal, hchild, Bool.not_true, Bool.false_eq_true, if_false]
  rfl

end

section
variable {subject : Nat} {n : NoticeRec}

theorem noticeNow_of_root (h : s.isRoot = true) : s.noticeNow subject n = s.noticeLog subject n true := if_pos h

theorem noticeNow_of_joined (hroot : s.isRoot = false) (hjoined : s.joined = true) :
    s.noticeNow subject n = s.toParent hmFAULT_NOTICE (noticeBody subject n true) := by
  simp [State.noticeNow, hroot, hjoined]

theorem noticeMerge_of_known {x : NoticeRec} (h : SMap.get s.flt.merge subject none = some x) :
    s.noticeMerge subject n =
      { s with flt := { s.flt with merge := SMap.set s.flt.merge subject (some (x.merge n)) none } } := by
  simp only [State.noticeMerge, h]

theorem noticeMerge_of_new (h : SMap.get s.flt.merge subject none = none) (hroom : s.flt.merge.length < 64) :
    s.noticeMerge subject n = { s with flt := { s.flt with merge := SMap.set s.flt.merge subject (some n) none } } := by
  simp only [State.noticeMerge, h, if_pos hroom]

end

end

/-! ### The rows of the collector -/

section
variable (s : State) (t : Nat)

theorem exec_faultEvent (src : Nat) (x : Subj) : exec (.faultEvent t src x) s = .next (settle ((s.advance t).raise src x)) := rfl

theorem exec_faultForce (path n v : Nat) :
    exec (.faultForce t path n v) s = .next (settle ((s.advance t).regCmd path (FAULT_SRC_CFG.addr n) v)) := rfl

theorem exec_fswAcknowledge (path i v : Nat) :
    exec (.fswAcknowledge t path i v) s = .next (settle ((s.advance t).regCmd path (FAULT_FSW.addr i) v)) := rfl

theorem exec_classifierWindowClose (n : Nat) (h : (s.advance t).loadedUp = true) :
    exec (.classifierWindowClose t n) s = .next (settle ((s.advance t).windowClose n)) := done_whenClock h

theorem exec_faultNotice (k subject src flags reporters tick first : Nat) (h : (s.advance t).portsUp = true) :
    exec (.faultNotice t k subject src flags reporters tick first) s =
      .next (settle ((s.advance t).faultNotice k subject src flags reporters tick first)) := done_whenUp h

theorem exec_containReleasePort (path : Nat) {v : Nat} (h : bit v 24 = false) :
    exec (.containReleasePort t path v) s = .next (settle ((s.advance t).regCmd path FAULT_CONTAIN_RELEASE.off v)) :=
  congrArg done (if_pos h)

theorem exec_containReleaseDomain (path : Nat) {v : Nat} (h : bit v 24 = true) :
    exec (.containReleaseDomain t path v) s = .next (settle ((s.advance t).regCmd path FAULT_CONTAIN_RELEASE.off v)) :=
  congrArg done (if_pos h)

end

/-- Settles O44: the register rows by the hook of their register, a notice by its IMMEDIATE flag, the device's place in the tree
and the merge table. -/
theorem faultCommandsComplete : Obligations.FaultCommandsComplete := by
  unfold Obligations.FaultCommandsComplete
  refine ⟨fun s t src x => rfl, fun s t path n v => ?force, fun s t n => ?close, fun s t path i v => ?acknowledge,
    fun s t k subject src flags reporters tick first => ?notice, fun s t path v => ?release⟩
  case force =>
    intro a b c hn htakes hused hforce
    rw [exec_faultForce, regCmd_faultSrcCfg hn htakes, srcCfgWrite_of_force hused hforce]
    rfl
  case close =>
    intro a hload hopen hdue
    rw [exec_classifierWindowClose _ _ _ hload, windowClose_of_due hopen hdue]
    rfl
  case acknowledge =>
    intro a hi htakes
    rw [exec_fswAcknowledge, regCmd_faultFsw hi htakes]
    rfl
  case notice =>
    intro a n hup hsev hflags hchild
    have hexec := (exec_faultNotice s t k subject src flags reporters tick first hup).trans
      (congrArg (fun u => Host.Outcome.next (settle u)) (faultNotice_of_child hsev hflags hchild))
    refine ⟨fun hnow => ?now, fun hlater hplace => ?later⟩
    case now =>
      rw [if_pos hnow] at hexec
      refine ⟨fun hroot => ?_, fun hroot hjoined => ?_⟩
      · rw [hexec, noticeNow_of_root hroot]; rfl
      · rw [hexec, noticeNow_of_joined hroot hjoined]; rfl
    case later =>
      rw [if_neg (Bool.eq_false_iff.mp hlater), if_pos (Bool.or_eq_true _ _ ▸ hplace)] at hexec
      refine ⟨fun x hknown => ?_, fun hnew hroom => ?_⟩
      · rw [hexec, noticeMerge_of_known hknown]; rfl
      · rw [hexec, noticeMerge_of_new hnew hroom]; rfl
  case release =>
    intro a p b htakes hgo
    refine ⟨fun hkind hp hcont => ?_, fun hkind => ?_⟩
    · rw [exec_containReleasePort _ _ _ hkind, regCmd_containRelease htakes, containReleaseWrite_of_port hgo hkind hp,
        containReleasePort_of_contained hcont]
    · rw [exec_containReleaseDomain _ _ _ hkind, regCmd_containRelease htakes, containReleaseWrite_of_domain hgo hkind]
      rfl

end Sys2Proof.Proofs
end

section
/-! PROOFS of the statements of 16_stored_data_protection about scrubbing, merge drains and the ECC test commands (R521, R524,
R525, R527 to R530, R534). -/

namespace Sys2Proof.Proofs
open Sys2Proof.Machine Sys2Proof.Laws

/-! ### Scrubbing (R529, R530) -/

section
variable {s : State}

/-- The word under the scrub pointer read, with what that read corrects or records. -/
def scrubbed (s : State) : State := (s.eccRead (eccWordAt s.ecc.scrub).1 (eccWordAt s.ecc.scrub).2 true).2

section
variable (hen : s.on ECC_CTRL_SCRUB_EN = true) (hawake : s.rd PWR_STATUS_STATE ≠ 2)
  (hmerge : (eccWordAt s.ecc.scrub).1 = gMEM → s.mergeOf (eccWordAt s.ecc.scrub).2 = none)
include hen hawake hmerge

theorem scrubRead_of_enabled : s.scrubRead =
    let moved : State := { scrubbed s with ecc := { (scrubbed s).ecc with scrub := if s.ecc.scrub + 1 = eccTotal then 0 else s.ecc.scrub + 1 } }
    if s.ecc.scrub + 1 = eccTotal then moved.inc ECC_STATUS_SCRUB_PASSES else moved := by
  have hgo : ¬ ((!s.on ECC_CTRL_SCRUB_EN) = true ∨ s.rd PWR_STATUS_STATE = 2 ∨
      (eccWordAt s.ecc.scrub).1 = gMEM ∧ (s.mergeOf (eccWordAt s.ecc.scrub).2).isSome = true) := by
    rintro (h | h | ⟨hmem, hsome⟩)
    · simp [hen] at h
    · exact hawake h
    · simp [hmerge hmem] at hsome
  cases hword : eccWordAt s.ecc.scrub with
  | mk g w =>
    rw [hword] at hgo
    simp only [State.scrubRead, scrubbed, hword, if_neg hgo]

theorem scrubRead_of_last (hlast : s.ecc.scrub + 1 = eccTotal) : s.scrubRead =
    ({ scrubbed s with ecc := { (scrubbed s).ecc with scrub := 0 } } : State).inc ECC_STATUS_SCRUB_PASSES := by
  rw [scrubRead_of_enabled hen hawake hmerge]
  simp only [if_pos hlast]

theorem scrubRead_of_more (hmore : s.ecc.scrub + 1 ≠ eccTotal) : s.scrubRead =
    { scrubbed s with ecc := { (scrubbed s).ecc with scrub := s.ecc.scrub + 1 } } := by
  rw [scrubRead_of_enabled hen hawake hmerge]
  simp only [if_neg hmore]

end

/-! ### Merge drains (R527, R528) -/

/-- The merge entry of a word taken out of the buffer. -/
def withoutMerge (s : State) (w : Nat) : State := { s with ecc := { s.ecc with merge := s.ecc.merge.filter (fun x => x.word != w) } }

section
variable {e : MergeEnt} (hpartial : e.mask ≠ 255)
include hpartial

theorem drainEntry_of_clean (hclean : SMap.get s.ecc.words (eccKey gMEM e.word) none = none) :
    s.drainEntry e = withoutMerge s e.word := by
  simp only [State.drainEntry, if_neg hpartial, hclean]
  rfl

/-- A partial entry over a raw or marked word merges with what the read of the word leaves. -/
theorem drainEntry_of_raw {d c : Nat} {ok : Bool} {u : State}
    (hraw : SMap.get s.ecc.words (eccKey gMEM e.word) none = some (d, c)) (hread : s.eccRead gMEM e.word = (ok, u)) :
    s.drainEntry e = if ok = true then withoutMerge u e.word
      else (withoutMerge u e.word).setEcc (eccKey gMEM e.word)
        (some (mergeBytes d e.data e.mask, Nat.xor (checkByte (mergeBytes d e.data e.mask)) 3)) := by
  simp only [State.drainEntry, if_neg hpartial, hraw, hread]
  rfl

end

theorem mergeDrain_of_some {w : Nat} {e : MergeEnt} (h : s.mergeOf w = some e) : s.mergeDrain w = s.drainEntry e := by
  simp only [State.mergeDrain, h]

/-! ### The ECC test commands (R534) -/

/-- ECC_TEST_CTRL with EN set and a group named, before its command runs; setting EN raises 37. -/
def testEnabled (s : State) (g : Nat) : State :=
  let b := ((s.wr ECC_TEST_CTRL_EN 1).wr ECC_TEST_CTRL_GROUP g).wr ECC_STATUS_TEST_ACTIVE 1
  if s.on ECC_TEST_CTRL_EN = true then b else b.raise 37

theorem bits_one_zero (v : Nat) : bits v 1 0 = v % 4 := by simp [bits]

theorem regCmd_eccTestCtrl {path v : Nat} (h : Safety.takes s path ECC_TEST_CTRL 0 0 v = true) :
    s.regCmd path ECC_TEST_CTRL.off v = s.eccTestWrite path v :=
  regCmd_fab h (by decide +kernel) rfl (by decide) (by decide) (by decide) rfl

theorem eccTestWrite_of_enabled {path v : Nat} (hen : (if path < 3 then bit v 31 else s.on ECC_TEST_CTRL_EN) = true) :
    s.eccTestWrite path v = (testEnabled s (bits v 19 16)).eccCommand (bits v 19 16) (s.rd ECC_TEST_INDEX_INDEX) (v % 4) := by
  simp only [State.eccTestWrite, hen, Bool.true_and, Bool.not_eq_true', if_true, bits_one_zero, testEnabled]
  cases s.on ECC_TEST_CTRL_EN <;> rfl

section
variable {g w : Nat} (hw : w < eccSize g)
include hw

theorem eccCommand_write : s.eccCommand g w 1 =
    s.setEcc (eccKey g w) (some (s.rd64 ECC_TEST_DATA_LO_VALUE ECC_TEST_DATA_HI_VALUE, s.rd ECC_TEST_CHECK_CHECK)) :=
  if_neg (Nat.not_le.mpr hw)

section
variable {d k : Nat} {u : State} (hraw : s.eccRaw g w = ((d, k), u))
include hraw

theorem eccCommand_read : s.eccCommand g w 2 = u.eccShow d k (eccSyndrome d k) := by
  refine (if_neg (Nat.not_le.mpr hw)).trans ?_
  simp only [hraw]
  rfl

/-- What a test read shows as the data: the word corrected where its syndrome allows it. -/
theorem eccCommand_test : s.eccCommand g w 3 =
    (u.eccFunc g w).eccShow (match eccDecode d k with
      | .fixed y => y
      | _ => d) k (eccSyndrome d k) := by
  refine (if_neg (Nat.not_le.mpr hw)).trans ?_
  simp only [hraw]
  rfl

end

end

/-! ### The rows of stored-data protection -/

section
variable {t : Nat}

theorem exec_scrubRead (hup : (s.advance t).portsUp = true) :
    exec (.scrubRead t) s = .next (settle (s.advance t).scrubRead) := done_whenUp hup

theorem exec_mergeDrain (hup : (s.advance t).portsUp = true) (w : Nat) :
    exec (.mergeDrain t w) s = .next (settle ((s.advance t).mergeDrain w)) := done_whenUp hup

section
variable {path v : Nat} (htakes : Safety.takes (s.advance t) path ECC_TEST_CTRL 0 0 v = true)
include htakes

theorem exec_eccWriteRaw (hcmd : v % 4 = 1) :
    exec (.eccWriteRaw t path v) s = .next (settle ((s.advance t).eccTestWrite path v)) :=
  congrArg done ((if_pos hcmd).trans (regCmd_eccTestCtrl htakes))

theorem exec_eccReadRaw (hcmd : v % 4 = 2) :
    exec (.eccReadRaw t path v) s = .next (settle ((s.advance t).eccTestWrite path v)) :=
  congrArg done ((if_pos hcmd).trans (regCmd_eccTestCtrl htakes))

theorem exec_eccTestRead (hcmd : v % 4 = 3) :
    exec (.eccTestRead t path v) s = .next (settle ((s.advance t).eccTestWrite path v)) :=
  congrArg done ((if_pos hcmd).trans (regCmd_eccTestCtrl htakes))

end

end

end

/-- Settles O43: the scrubber by whether its word is the last, a drain by what stands in its word, and the test commands by
their number (their results stand at once, log entry 82; words and merge entries are laid out as log entry 51 says). -/
theorem eccCommandsComplete : Obligations.EccCommandsComplete := by
  unfold Obligations.EccCommandsComplete
  refine ⟨fun s t => ?scrub, fun s t w e => ?drain, fun s t path v => ?test⟩
  case scrub =>
    intro a g w b hup hen hawake hmerge
    refine ⟨fun hlast => ?_, fun hmore => ?_⟩
    · rw [exec_scrubRead hup, scrubRead_of_last hen hawake hmerge hlast]; rfl
    · rw [exec_scrubRead hup, scrubRead_of_more hen hawake hmerge hmore]; rfl
  case drain =>
    intro a k hup hentry hpartial
    refine ⟨fun hclean => ?_, fun d c ok u hraw hread => ?_⟩
    · rw [exec_mergeDrain hup, mergeDrain_of_some hentry, drainEntry_of_clean hpartial hclean]; rfl
    · rw [exec_mergeDrain hup, mergeDrain_of_some hentry, drainEntry_of_raw hpartial hraw hread]; rfl
  case test =>
    intro a g w b c htakes hen hw
    have hwrite : a.eccTestWrite path v = c.eccCommand g w (v % 4) := eccTestWrite_of_enabled hen
    refine ⟨fun hcmd => ?_, fun d k u hraw => ⟨fun hcmd => ?_, fun hcmd => ⟨fun y hfixed => ?_, fun hother => ?_⟩⟩⟩
    · rw [exec_eccWriteRaw htakes hcmd, hwrite, hcmd, eccCommand_write hw]
    · rw [exec_eccReadRaw htakes hcmd, hwrite, hcmd, eccCommand_read hw hraw]
    · rw [exec_eccTestRead htakes hcmd, hwrite, hcmd, eccCommand_test hw hraw, hfixed]
    · rw [exec_eccTestRead htakes hcmd, hwrite, hcmd, eccCommand_test hw hraw]
      rcases hother with h | h <;> rw [h]

end Sys2Proof.Proofs
end

section
/-! PROOFS of the statements of 15_chamois_complex about freezes and update holds (R508, R512, R513). -/

namespace Sys2Proof.Proofs
open Sys2Proof.Machine Sys2Proof.Laws

section
variable {s : State}

/-! ### Releases of the three kinds of master (R512) -/

/-- The freeze record of a core cleared. -/
def freezeCleared (s : State) (c : Nat) : State :=
  ((((s.wr CORE_FREEZE_INFO_VALID 0 c).wr CORE_FREEZE_INFO_KIND 0 c).wr CORE_FREEZE_INFO_MODE 0 c).wr
    CORE_FREEZE_INFO_REGION 0x1F c).wr64 CORE_FREEZE_ADDR_LO_VALUE CORE_FREEZE_ADDR_HI_VALUE 0 c

section
variable {c : Nat} (hc : c < 8) (hvalid : s.on CORE_FREEZE_INFO_VALID c = true) (hlater : (s.core c).frozenAt ≠ s.ns)
include hc hvalid hlater

theorem releaseCore_of_frozen (act : Nat) : s.releaseCore c act =
    if act = 0 ∧ bit (s.rd CH_CTRL_RUN) c = true then
      .yes ((((freezeCleared s c).setCoreState c 1).setCore c { s.core c with frozenAcc := none, frozenAt := 0 }).coreTrap c
        (((s.core c).frozenAcc.map CoreAcc.cause).getD 5) (s.rd64 CORE_FREEZE_ADDR_LO_VALUE CORE_FREEZE_ADDR_HI_VALUE c))
    else .yes (((freezeCleared s c).coreClear c).setCoreState c (b2n (bit (s.rd CH_CTRL_RUN) c))) := by
  have hfrozen : ¬ (8 ≤ c ∨ (!s.on CORE_FREEZE_INFO_VALID c) = true) := by simp [hvalid, hc]
  simp only [State.releaseCore, if_neg hfrozen, if_neg hlater]
  rfl

theorem releaseCore_trap (hrun : bit (s.rd CH_CTRL_RUN) c = true) : s.releaseCore c 0 =
    .yes ((((freezeCleared s c).setCoreState c 1).setCore c { s.core c with frozenAcc := none, frozenAt := 0 }).coreTrap c
      (((s.core c).frozenAcc.map CoreAcc.cause).getD 5) (s.rd64 CORE_FREEZE_ADDR_LO_VALUE CORE_FREEZE_ADDR_HI_VALUE c)) := by
  rw [releaseCore_of_frozen hc hvalid hlater, if_pos ⟨rfl, hrun⟩]

theorem releaseCore_reset : s.releaseCore c 1 =
    .yes (((freezeCleared s c).coreClear c).setCoreState c (b2n (bit (s.rd CH_CTRL_RUN) c))) := by
  rw [releaseCore_of_frozen hc hvalid hlater, if_neg (by simp)]

end

theorem releaseQp_of_frozen {n : Nat} {r : FreezeRec} (hfreeze : (s.qp n).freeze = some r) (hlater : r.at_ ≠ s.ns)
    (hstate : (s.qp n).state = .frozen) :
    s.releaseQp n = .yes ((s.setQp n { s.qp n with freeze := none, state := .active }).pumpQp n) := by
  simp only [State.releaseQp, hfreeze, if_neg hlater, if_pos hstate]

theorem releaseStream_of_frozen {n : Nat} {e : StreamEnt} (hentry : SMap.get s.streams n none = some e) (hlater : e.at_ ≠ s.ns) :
    s.releaseStream n = .yes { s with streams := SMap.set s.streams n none none } := by
  simp only [State.releaseStream, hentry, if_neg hlater]

/-! ### Releases by descriptor and by register (R512, R513) -/

theorem isOp_iff {op sub : Nat} {d : Desc} : Desc.isOp op sub d = true ↔ d.opcode = op ∧ d.op40 = sub := by
  simp [Desc.isOp]

section
variable {q i : Nat} {d : Desc}

/-- A legal FREEZE_RELEASE completes by what came of the release. -/
theorem freezeRelease_of_legal {v : State} (hready : Safety.ready s q i d = true)
    (hform : (d.flagsOk && d.zero 8 39 && d.zero 46 63 && decide (byteAt d.img 41 < (if d.op40 = 1 then 2 else 1)) &&
      decide (bytesAt d.img 42 45 < (if d.op40 = 1 then 8 else if d.op40 = 2 then 16384 else 256))) = true)
    (hv : (∃ u, s.releaseKind d.op40 (bytesAt d.img 42 45) (byteAt d.img 41) = .yes u ∧ v = u.finish q d stOK 1) ∨
      (s.releaseKind d.op40 (bytesAt d.img 42 45) (byteAt d.img 41) = .not ∧ v = s.finish q d stOK 0) ∨
      (s.releaseKind d.op40 (bytesAt d.img 42 45) (byteAt d.img 41) = .refused ∧ v = s.finish q d stNOT_PERMITTED)) :
    s.freezeRelease q i = v := by
  refine (withDesc_legal hready hform rfl).trans ?_
  rcases hv with ⟨u, hfreed, rfl⟩ | ⟨hfreed, rfl⟩ | ⟨hfreed, rfl⟩ <;> rw [hfreed]

/-- A release command reports what came of it in RESULT. -/
theorem freezeReleaseWrite_of_go {v : Nat} {w : State} (hgo : bit v 31 = true)
    (hw : (∃ u, s.releaseKind (bits v 25 24) (bits v 13 0) (bits v 16 16) = .yes u ∧ w = u.wr FREEZE_RELEASE_STATUS_RESULT 1) ∨
      (s.releaseKind (bits v 25 24) (bits v 13 0) (bits v 16 16) = .not ∧ w = s.wr FREEZE_RELEASE_STATUS_RESULT 2) ∨
      (s.releaseKind (bits v 25 24) (bits v 13 0) (bits v 16 16) = .refused ∧ w = s.wr FREEZE_RELEASE_STATUS_RESULT 3)) :
    s.freezeReleaseWrite v = w := by
  simp only [State.freezeReleaseWrite, hgo, Bool.not_true, Bool.false_eq_true, if_false]
  rcases hw with ⟨u, hfreed, rfl⟩ | ⟨hfreed, rfl⟩ | ⟨hfreed, rfl⟩ <;> rw [hfreed]

end

/-! ### The registers of CHAMOIS -/

section
variable {path v : Nat}

theorem regCmd_freezeRelease (h : Safety.takes s path FREEZE_RELEASE 0 0 v = true) :
    s.regCmd path FREEZE_RELEASE.off v = s.freezeReleaseWrite v :=
  regCmd_fab h (by decide +kernel) rfl (by decide) (by decide) (by decide) rfl

theorem regCmd_moverMpuHold (h : Safety.takes s path MOVER_MPU_HOLD 0 0 v = true) :
    s.regCmd path MOVER_MPU_HOLD.off v = s.moverHoldWrite v :=
  regCmd_fab h (by decide +kernel) rfl (by decide) (by decide) (by decide) rfl

theorem regAt_coreMpuCtrl : ∀ c < 8, regAt (CORE_MPU_CTRL.addr c) = some (CORE_MPU_CTRL, c, 0) := by decide +kernel

theorem coreMpuCtrl_addr (c : Nat) : CORE_MPU_CTRL.addr c = 0x601000 + c * 0x400 := by simp [RegDesc.addr, CORE_MPU_CTRL]

theorem regCmd_coreMpuCtrl {c : Nat} (hc : c < 8) (h : Safety.takes s path CORE_MPU_CTRL c 0 v = true) :
    s.regCmd path (CORE_MPU_CTRL.addr c) v = s.coreMpuWrite c v := by
  have haddr := coreMpuCtrl_addr c
  exact regCmd_fab h (regAt_coreMpuCtrl c hc) rfl (by omega) (by omega) (by decide) rfl

end

/-! ### The rows of releases and holds -/

section
variable {t q i : Nat} {d : Desc} (hup : (s.advance t).portsUp = true) (hready : Safety.ready (s.advance t) q i d = true)
include hup hready

theorem exec_freezeReleaseCore (hop : Desc.isOp 0x1D 1 d = true) :
    exec (.freezeReleaseCore t q i) s = .next (settle ((s.advance t).freezeRelease q i)) := done_whenUp_onOp hup hready hop

theorem exec_freezeReleaseQp (hop : Desc.isOp 0x1D 2 d = true) :
    exec (.freezeReleaseQp t q i) s = .next (settle ((s.advance t).freezeRelease q i)) := done_whenUp_onOp hup hready hop

theorem exec_freezeReleaseStream (hop : Desc.isOp 0x1D 3 d = true) :
    exec (.freezeReleaseStream t q i) s = .next (settle ((s.advance t).freezeRelease q i)) := done_whenUp_onOp hup hready hop

end

section
variable {t path v : Nat} (h : Safety.takes (s.advance t) path FREEZE_RELEASE 0 0 v = true)
include h

theorem exec_freezeReleaseRegCore (hkind : bits v 25 24 = 1) :
    exec (.freezeReleaseRegCore t path v) s = .next (settle ((s.advance t).freezeReleaseWrite v)) :=
  congrArg done ((if_pos hkind).trans (regCmd_freezeRelease h))

theorem exec_freezeReleaseRegQp (hkind : bits v 25 24 = 2) :
    exec (.freezeReleaseRegQp t path v) s = .next (settle ((s.advance t).freezeReleaseWrite v)) :=
  congrArg done ((if_pos hkind).trans (regCmd_freezeRelease h))

theorem exec_freezeReleaseRegStream (hkind : bits v 25 24 = 3) :
    exec (.freezeReleaseRegStream t path v) s = .next (settle ((s.advance t).freezeReleaseWrite v)) :=
  congrArg done ((if_pos hkind).trans (regCmd_freezeRelease h))

end

section
variable {t path c v : Nat}

theorem exec_mpuUpdateHold_core (hc : c < 8) (h : Safety.takes (s.advance t) path CORE_MPU_CTRL c 0 v = true) (hbit : bit v 0 = false) :
    exec (.mpuUpdateHold t path c v) s = .next (settle ((s.advance t).coreMpuWrite c v)) :=
  congrArg done ((if_pos hc).trans ((if_pos hbit).trans (regCmd_coreMpuCtrl hc h)))

theorem exec_mpuHoldRelease_core (hc : c < 8) (h : Safety.takes (s.advance t) path CORE_MPU_CTRL c 0 v = true) (hbit : bit v 0 = true) :
    exec (.mpuHoldRelease t path c v) s = .next (settle ((s.advance t).coreMpuWrite c v)) :=
  congrArg done ((if_pos hc).trans ((if_pos hbit).trans (regCmd_coreMpuCtrl hc h)))

theorem exec_mpuUpdateHold_mover (hc : 8 ≤ c) (h : Safety.takes (s.advance t) path MOVER_MPU_HOLD 0 0 v = true) (hbit : bit v 31 = false) :
    exec (.mpuUpdateHold t path c v) s = .next (settle ((s.advance t).moverHoldWrite v)) :=
  congrArg done ((if_neg (Nat.not_lt.mpr hc)).trans ((if_pos hbit).trans (regCmd_moverMpuHold h)))

theorem exec_mpuHoldRelease_mover (hc : 8 ≤ c) (h : Safety.takes (s.advance t) path MOVER_MPU_HOLD 0 0 v = true) (hbit : bit v 31 = true) :
    exec (.mpuHoldRelease t path c v) s = .next (settle ((s.advance t).moverHoldWrite v)) :=
  congrArg done ((if_neg (Nat.not_lt.mpr hc)).trans ((if_pos hbit).trans (regCmd_moverMpuHold h)))

end

end

/-- Settles O42: the release of each kind of master, what a descriptor and a register make of its outcome, and the two writes
that hold and release a protection unit. -/
theorem freezeAndHoldComplete : Obligations.FreezeAndHoldComplete := by
  unfold Obligations.FreezeAndHoldComplete
  refine ⟨fun s t c act => ?core, fun s n act => ?master, fun s t q i d => ?descriptor, fun s t path v => ?register,
    fun s t path c v => ?hold⟩
  case core =>
    intro a x b hc hvalid hlater
    refine ⟨?_, ?_⟩
    · rintro rfl hrun
      exact releaseCore_trap hc hvalid hlater hrun
    · rintro rfl
      exact releaseCore_reset hc hvalid hlater
  case master =>
    exact ⟨fun r hfreeze hlater hstate => releaseQp_of_frozen hfreeze hlater hstate,
      fun e hentry hlater => releaseStream_of_frozen hentry hlater⟩
  case descriptor =>
    intro a f hup hready hflags hlow hhigh v hv
    refine ⟨fun hop hact hmost => ?_, fun hop hact hmost => ?_, fun hop hact hmost => ?_⟩
    · have hkind : d.op40 = 1 := (isOp_iff.mp hop).2
      rw [exec_freezeReleaseCore hup hready hop, freezeRelease_of_legal hready (by simp [*]) hv]
    · have hkind : d.op40 = 2 := (isOp_iff.mp hop).2
      rw [exec_freezeReleaseQp hup hready hop, freezeRelease_of_legal hready (by simp [*]) hv]
    · have hkind : d.op40 = 3 := (isOp_iff.mp hop).2
      rw [exec_freezeReleaseStream hup hready hop, freezeRelease_of_legal hready (by simp [*]) hv]
  case register =>
    intro a f htakes hgo w hw
    refine ⟨fun hkind => ?_, fun hkind => ?_, fun hkind => ?_⟩
    · rw [exec_freezeReleaseRegCore htakes hkind, freezeReleaseWrite_of_go hgo hw]
    · rw [exec_freezeReleaseRegQp htakes hkind, freezeReleaseWrite_of_go hgo hw]
    · rw [exec_freezeReleaseRegStream htakes hkind, freezeReleaseWrite_of_go hgo hw]
  case hold =>
    intro a
    refine ⟨fun hc htakes => ⟨fun hbit => ?_, fun hbit => ?_⟩, fun hc htakes => ⟨fun hbit => ?_, fun hbit => ?_⟩⟩
    · rw [exec_mpuUpdateHold_core hc htakes hbit]; rfl
    · rw [exec_mpuHoldRelease_core hc htakes hbit]; rfl
    · rw [exec_mpuUpdateHold_mover hc htakes hbit]; rfl
    · rw [exec_mpuHoldRelease_mover hc htakes hbit]; rfl

end Sys2Proof.Proofs
end

section
/-! PROOFS of the statements of 15_chamois_complex about core accesses, fences and counters (R483 to R485, R497 to R510, R515). -/

namespace Sys2Proof.Proofs
open Sys2Proof.Machine Sys2Proof.Laws

theorem done_whenCoresRun {s : State} {f : State → State} (h : s.coresUp = true) :
    done (s.whenRunning f) = .next (settle (f s)) := by
  rw [done_eq, whenRunning_of h]

section
variable {s : State} {c : Nat} {x : CoreAcc} {su : SetupFn}

/-! ### The decision on an access (R502, R505 to R509) -/

theorem coreStalled_of_not_store (h : x.kind ≠ 1) : s.coreStalled c x = false := by
  unfold State.coreStalled
  split <;> simp [h]

theorem coreStalled_of_mem {m : Nat} (h : coreTgt c x.addr = .mem m) : s.coreStalled c x = false := by
  simp only [State.coreStalled, h]

theorem coreStalled_of_setup {o : Nat} (h : coreTgt c x.addr = .setup o) : s.coreStalled c x = false := by
  simp only [State.coreStalled, h]

theorem coreStalled_of_few {slot b : Nat} (h : coreTgt c x.addr = .fabric slot b) (hfew : (s.core c).stores.length < 64) :
    s.coreStalled c x = false := by
  simp only [State.coreStalled, h]
  simp [hfew]

theorem coreChecked_of_allowed (h : s.coreBad c x = none) : s.coreChecked su c x = s.corePerform su c x [(0, x.n)] := by
  simp only [State.coreChecked, h]

theorem coreChecked_of_forbidden {b r : Nat} (h : s.coreBad c x = some (b, r)) (hkind : x.kind ≠ 1) :
    s.coreChecked su c x = s.coreViolation c x b r := by
  simp only [State.coreChecked, h, hkind, false_and, if_false]

/-- An access of an executing core whose MPU is not held is checked. -/
theorem coreAccess_of_free (hfree : s.coreFree c = true) (hlo : 1 ≤ x.n) (hhi : x.n ≤ 8) (hexempt : coreExempt c x = false)
    (hen : s.on CORE_MPU_CTRL_ENABLE c = true) (hheld : (s.core c).held = []) (hstall : s.coreStalled c x = false) :
    s.coreAccess su c x = s.coreChecked su c x := by
  have hsome : ¬ (x.n = 0) := by omega
  have hmost : ¬ (8 < x.n) := by omega
  simp [State.coreAccess, hfree, hsome, hmost, hexempt, hen, hheld, hstall]

theorem coreFabAccess_of_fabric {slot b : Nat} (h : coreTgt c x.addr = .fabric slot b) :
    s.coreFabAccess su c x = s.coreAccess su c x := by
  simp only [State.coreFabAccess, h]

/-! ### Accesses that are performed whole (R483 to R485) -/

/-- The counters of an access of an L2: one for any, one more for that of the other cluster. -/
def l2Counted (s : State) (c m mode : Nat) : State :=
  if 0x40000000 ≤ m then
    (if (m < 0x40400000) = (c < 4) then s.coreCount c 8 mode else (s.coreCount c 8 mode).coreCount c 9 mode)
  else s

theorem corePerform_mem {m : Nat} {u : State} (htgt : coreTgt c x.addr = .mem m)
    (hspan : ∀ k < x.n, coreTgt c (x.addr + k) = .mem (m + k))
    (hread : (if x.kind = 1 then (true, s) else s.eccMem m x.n) = (true, u)) :
    s.corePerform su c x [(0, x.n)] =
      if x.kind = 3 then (l2Counted u c m x.mode).coreAmo c x m
      else if x.kind = 1 then (l2Counted u c m x.mode).memWrite c m (x.data.take x.n)
      else (l2Counted u c m x.mode).emit (.core c (leNat ((l2Counted u c m x.mode).mem.reads m x.n))) := by
  have hinside : (List.range x.n).any (fun k => (coreTgt c (x.addr + k)) != .mem (m + k)) = false := by
    rw [List.any_eq_false]
    intro k hk
    rw [hspan k (List.mem_range.mp hk)]
    simp
  simp only [State.corePerform, htgt, hread, hinside, Bool.not_true, Bool.false_eq_true, if_false]
  rfl

section
variable {o : Nat} (htgt : coreTgt c x.addr = .setup o) (hn : x.n = 4) (ho : o % 4 = 0)
include htgt hn ho

theorem corePerform_setup_read (hkind : x.kind = 0) : s.corePerform su c x [(0, x.n)] = su s (4 + c) o none := by
  simp [State.corePerform, htgt, hn, ho, hkind]

/-- A write of a setup register that no tick hook holds back and that R512 lets the mode make. -/
theorem corePerform_setup_write (hkind : x.kind = 1) (hhook : ¬ (x.mode = 0 ∧ 4 ≤ c ∧ hookReg o = true))
    (hrelease : ¬ (o = FREEZE_RELEASE.off ∧ x.mode ≠ 3)) :
    s.corePerform su c x [(0, x.n)] = su s (4 + c) o (some (leNat (x.data.take 4))) := by
  have hword : ¬ (x.n ≠ 4 ∨ o % 4 ≠ 0 ∨ 2 ≤ x.kind ∨ [(0, x.n)] ≠ [(0, 4)]) := by simp [hn, ho, hkind]
  simp only [State.corePerform, htgt, if_neg hword, if_pos hkind, if_neg hhook, if_neg hrelease]

end

section
variable {slot b : Nat} (htgt : coreTgt c x.addr = .fabric slot b)
include htgt

theorem corePerform_fabric_store (hkind : x.kind = 1) : s.corePerform su c x [(0, x.n)] =
    s.storeSend c x.mode (fabWrites { src := s.did, stream := s.coreStream c } (s.rd CORE_FAB_DID_DID c slot * 2 ^ 52 + b % 2 ^ 52)
      (x.data.take x.n)) := by
  have hwhole : [(0, x.n)].foldl (fun (t : State) r => t.coreFabStore c x.mode slot (b + r.1) ((x.data.drop r.1).take r.2)) s =
      s.coreFabStore c x.mode slot (b + 0) ((x.data.drop 0).take x.n) := foldl_one _ _ _
  rw [Nat.add_zero, List.drop_zero] at hwhole
  simp only [State.corePerform, htgt, hkind]
  exact hwhole

theorem corePerform_fabric_load (hkind : x.kind = 0) : s.corePerform su c x [(0, x.n)] = s.coreFabLoad c x slot b := by
  simp [State.corePerform, htgt, hkind]

end

/-- The READ of a fabric load under its tag. -/
def loadPkt (s : State) (c : Nat) (x : CoreAcc) (slot b tag : Nat) : QPkt :=
  { readPkt { dst := s.rd CORE_FAB_DID_DID c slot, src := s.did, stream := s.coreStream c } tag (spanReq b x.n false) with
    owner := .coreLoad c 0 }

theorem coreFabLoad_of_sent {slot b tag : Nat} {u : State} (htag : s.npFree = some tag)
    (hsent : ((s.coreCount c 6 x.mode).takeNp 255 (loadPkt s c x slot b tag)).sendOwn (loadPkt s c x slot b tag) = (0, u)) :
    s.coreFabLoad c x slot b = u.setCore c { u.core c with load := some (tag, x) } := by
  unfold loadPkt at hsent
  simp only [State.coreFabLoad, htag, hsent, if_true]

/-! ### Timeouts, fences and counters (R485, R501, R515) -/

theorem coreLoadTimeout_of_overdue {tag : Nat} {e : NpEnt} (hload : (s.core c).load = some (tag, x)) (hentry : s.np tag = some e)
    (hdue : e.issued + s.npTimeout ≤ s.ns) : s.coreLoadTimeout c = (s.setNp tag none).loadFault c x := by
  simp only [State.coreLoadTimeout, hload, hentry, if_pos hdue]

theorem storeAckTimeout_of_overdue {tag : Nat} {e : CoreStore} (hstore : (s.core c).stores.find? (fun e => e.tag == tag) = some e)
    (hdue : s.rd CH_CFG_STORE_ACK_TICKS ≤ e.ticks) : s.storeAckTimeout c tag = (s.storeLost c tag).fenceEnd c := by
  simp only [State.storeAckTimeout, hstore, if_pos hdue]

theorem fenceSys_of_free (hfree : s.coreFree c = true) : s.fenceSys c =
    (s.setCore c { s.core c with fence := some ((s.core c).stores.map (·.tag)), fenceLost := false }).fenceEnd c := by
  simp [State.fenceSys, hfree]

theorem counterOverflow_of_running {i : Nat} (hc : c < 8) (hlo : 3 ≤ i) (hhi : i ≤ 8) (hrun : s.coreState c = 1)
    (hclear : bit (SMap.get (s.core c).hpmEvent i 0) 63 = false) :
    s.counterOverflow c i = s.setCore c { s.core c with
      hpm := SMap.set (s.core c).hpm i 0 0,
      hpmEvent := SMap.set (s.core c).hpmEvent i (SMap.get (s.core c).hpmEvent i 0 + 2 ^ 63) 0, ofPending := true } := by
  have hgo : ¬ (8 ≤ c ∨ i < 3 ∨ 8 < i ∨ s.coreState c ≠ 1 ∨ bit (SMap.get (s.core c).hpmEvent i 0) 63 = true) := by
    simp [hc, hlo, hhi, hrun, hclear]
  exact if_neg hgo

end

/-! ### The rows of the cores -/

section
variable {s : State} {t : Nat} (hup : (s.advance t).coresUp = true)
include hup

theorem exec_coreMemoryAccess (c : Nat) (x : CoreAcc) :
    exec (.coreMemoryAccess t c x) s = .next (settle ((s.advance t).coreAccess coreSetup c x)) := done_whenCoresRun hup

theorem exec_coreFabricStore (c : Nat) {x : CoreAcc} (hkind : x.kind = 1) :
    exec (.coreFabricStore t c x) s = .next (settle ((s.advance t).coreFabAccess coreSetup c x)) :=
  (done_whenCoresRun hup).trans (congrArg (fun u => Host.Outcome.next (settle u)) (if_pos hkind))

theorem exec_coreFabricLoad (c : Nat) {x : CoreAcc} (hkind : x.kind = 0) :
    exec (.coreFabricLoad t c x) s = .next (settle ((s.advance t).coreFabAccess coreSetup c x)) :=
  (done_whenCoresRun hup).trans (congrArg (fun u => Host.Outcome.next (settle u)) (if_pos hkind))

theorem exec_coreLoadTimeout (c : Nat) :
    exec (.coreLoadTimeout t c) s = .next (settle ((s.advance t).coreLoadTimeout c)) := done_whenCoresRun hup

theorem exec_storeAckTimeout (c tag : Nat) :
    exec (.storeAckTimeout t c tag) s = .next (settle ((s.advance t).storeAckTimeout c tag)) := done_whenCoresRun hup

theorem exec_fenceCore (c : Nat) : exec (.fenceCore t c) s = .next (settle (s.advance t)) := done_whenCoresRun hup

theorem exec_fenceCluster (c : Nat) : exec (.fenceCluster t c) s = .next (settle (s.advance t)) := done_whenCoresRun hup

theorem exec_fenceSys (c : Nat) : exec (.fenceSys t c) s = .next (settle ((s.advance t).fenceSys c)) := done_whenCoresRun hup

theorem exec_coreCounterOverflow (c i : Nat) :
    exec (.coreCounterOverflow t c i) s = .next (settle ((s.advance t).counterOverflow c i)) := done_whenCoresRun hup

end

/-- Settles O40: an access that is not held back is checked, and one that is allowed is performed at its target (a fence finds
every earlier access complete, log entry 48; AMO operations and trap causes are those of log entries 45 and 46). -/
theorem coreAccessesComplete : Obligations.CoreAccessesComplete := by
  unfold Obligations.CoreAccessesComplete
  refine ⟨fun s t c x => ?access, fun s t c tag x e => ?load, fun s t c tag e => ?store, fun s t c => ?fence⟩
  case access =>
    intro a hup hfree hlo hhi hexempt hen hheld
    have haccess (hstall : a.coreStalled c x = false) : a.coreAccess coreSetup c x = a.coreChecked coreSetup c x :=
      coreAccess_of_free hfree hlo hhi hexempt hen hheld hstall
    refine ⟨fun hallowed => ⟨fun m u htgt hspan hread => ?mem, fun o htgt hn ho => ⟨fun hkind => ?read, fun hkind hhook hrelease => ?write⟩,
      fun slot b htgt => ⟨fun hkind hfew => ?send, fun hkind tag u htag => ?fetch⟩⟩, fun b r hbad hkind => ?forbidden⟩
    case mem =>
      rw [exec_coreMemoryAccess hup, haccess (coreStalled_of_mem htgt), coreChecked_of_allowed hallowed,
        corePerform_mem htgt hspan hread]
      rfl
    case read =>
      rw [exec_coreMemoryAccess hup, haccess (coreStalled_of_setup htgt), coreChecked_of_allowed hallowed,
        corePerform_setup_read htgt hn ho hkind]
    case write =>
      rw [exec_coreMemoryAccess hup, haccess (coreStalled_of_setup htgt), coreChecked_of_allowed hallowed,
        corePerform_setup_write htgt hn ho hkind hhook hrelease]
    case send =>
      rw [exec_coreFabricStore hup _ hkind, coreFabAccess_of_fabric htgt, haccess (coreStalled_of_few htgt hfew),
        coreChecked_of_allowed hallowed, corePerform_fabric_store htgt hkind]
    case fetch =>
      intro k hsent
      have hload : x.kind ≠ 1 := by omega
      rw [exec_coreFabricLoad hup _ hkind, coreFabAccess_of_fabric htgt, haccess (coreStalled_of_not_store hload),
        coreChecked_of_allowed hallowed, corePerform_fabric_load htgt hkind, coreFabLoad_of_sent htag hsent]
    case forbidden =>
      rw [exec_coreMemoryAccess hup, haccess (coreStalled_of_not_store hkind), coreChecked_of_forbidden hbad hkind]
  case load =>
    intro a hup hload hentry hdue
    rw [exec_coreLoadTimeout hup, coreLoadTimeout_of_overdue hload hentry hdue]
    rfl
  case store =>
    intro a hup hstore hdue
    rw [exec_storeAckTimeout hup, storeAckTimeout_of_overdue hstore hdue]
  case fence =>
    intro a x hup
    refine ⟨exec_fenceCore hup c, exec_fenceCluster hup c, fun hfree => ?_, fun i hc hlo hhi hrun hclear => ?_⟩
    · rw [exec_fenceSys hup, fenceSys_of_free hfree]
    · rw [exec_coreCounterOverflow hup, counterOverflow_of_running hc hlo hhi hrun hclear]

end Sys2Proof.Proofs
end

section
/-! PROOFS of the statements of 15_chamois_complex about applets, core run and watchdogs (R487 to R491, R591). -/

namespace Sys2Proof.Proofs
open Sys2Proof.Machine Sys2Proof.Laws

/-! ### The first page of a descriptor's source (R439) -/

/-- How much of its source a descriptor asks for first: what its first page holds of it (log entry 88). -/
def firstPage (d : Desc) : Nat := min d.length (4096 - d.source % 4096)

section
variable {s : State} {q i : Nat} {d : Desc}

theorem nextHostRead_first (hasked : d.asked = 0) (hreads : d.hostReads = 0) (hlength : 0 < d.length) (hheld : s.qpHeld q = false)
    (hallowed : s.moverBad (s.qp q) spHost false d.source (firstPage d) = none) :
    s.nextHostRead q d =
      (s.setDesc q { d with asked := firstPage d, hostReads := 1 }).hostReads q d.source (firstPage d) (.desc q d.idx) := by
  have hgo : ¬ (d.length ≤ d.asked ∨ d.hostReads ≠ 0) := by omega
  have hfree : ¬ s.qpHeld q = true := by simp [hheld]
  refine (if_neg hgo).trans ((if_neg hfree).trans ?_)
  simp only [hasked, Nat.add_zero, Nat.zero_add, Nat.sub_zero]
  unfold firstPage at *
  rw [hallowed]

/-! ### The applet descriptors (R487, R488) -/

/-- Grant and owner of an applet as its APPLET_START gives them. -/
def startedApplet (d : Desc) : Applet := { grant := byteAt d.img 43, owner := bytesAt d.img 44 45 }

section
variable (hready : Safety.ready s q i d = true)
include hready

theorem appletLoad_of_legal (hform : d.appletOk true false = true) (hasked : d.asked = 0) (hempty : s.rd APPLET_STATUS_STATE d.applet = 0)
    (hlo : 64 ≤ d.length) (hhi : d.length ≤ 393216) (hmul : d.length % 64 = 0) : s.appletLoad q i = s.nextHostRead q d := by
  have hfirst : ¬ d.asked ≠ 0 := by omega
  have hfree : ¬ s.rd APPLET_STATUS_STATE d.applet ≠ 0 := by omega
  have hsize : ¬ (d.length < 64 ∨ 393216 < d.length ∨ d.length % 64 ≠ 0) := by omega
  refine (withDesc_legal hready hform (if_neg hfirst)).trans ?_
  rw [if_neg hfree, if_neg hsize]

theorem appletStart_of_loaded (hform : d.appletOk false true = true) (hloaded : s.rd APPLET_STATUS_STATE d.applet = 1) :
    s.appletStart q i =
      (({ s with chm := { s.chm with applets := SMap.set s.chm.applets d.applet (startedApplet d) {} } } : State).wr
        APPLET_STATUS_STATE 2 d.applet |>.wr APPLET_STATUS_CORE (byteAt d.img 42 - 4) d.applet).finish q d stOK :=
  (withDesc_legal hready hform rfl).trans (if_neg (not_not_intro hloaded))

section
variable (hform : d.appletOk false false = true)
include hform

theorem appletStop_of_started (hstarted : 2 ≤ s.rd APPLET_STATUS_STATE d.applet) : s.appletStop q i =
    ((s.wr APPLET_STATUS_STATE 1 d.applet).closeHook d.applet).finish q d stOK :=
  (withDesc_legal hready hform rfl).trans (if_neg (Nat.not_lt.mpr hstarted))

theorem appletUnload_of_loaded (hloaded : s.rd APPLET_STATUS_STATE d.applet = 1) : s.appletUnload q i =
    (({ s with chm := { s.chm with applets := SMap.set s.chm.applets d.applet {} {} } } : State).wr APPLET_STATUS_STATE 0 d.applet).finish
      q d stOK :=
  (withDesc_legal hready hform rfl).trans (if_neg (not_not_intro hloaded))

theorem appletRead_of_area (harea : (s.qp q).dataBase ≠ 0) : s.appletRead q i =
    s.finish q d stOK 0 (some (leBytes 4 (s.appletWord d.applet) ++ s.mem.reads (appletBase d.applet) 64)) :=
  (withDesc_legal hready hform rfl).trans (finishData_of_area _ harea)

end

end

end

/-! ### Tick hooks, core run and watchdogs (R489, R491, R591) -/

section
variable {s : State}

theorem appletHookReturn_of_open {su : SetupFn} {k : Nat} (hopen : bit s.time.hookOpen k = true) :
    s.appletHookReturn su k = (s.core (s.rd APPLET_STATUS_CORE k + 4)).hook.foldl
      (fun (u : State) w => su u (4 + (s.rd APPLET_STATUS_CORE k + 4)) w.1 (some w.2))
      ((s.setCore (s.rd APPLET_STATUS_CORE k + 4) { s.core (s.rd APPLET_STATUS_CORE k + 4) with hook := [] }).closeHook k) :=
  ite_not_of_true hopen

/-- A core whose run bit changes is reset, and runs or holds as the new bit says (R591). -/
theorem coreRun_of_unfrozen {v : Nat}
    (hunfrozen : ∀ c < 8, bit (s.rd CH_CTRL_RUN) c = bit v c ∨ s.on CORE_FREEZE_INFO_VALID c = false) :
    s.coreRun v = (List.range 8).foldl (fun (u : State) c =>
        if bit (s.rd CH_CTRL_RUN) c = bit v c then u else (u.coreClear c).setCoreState c (b2n (bit v c)))
      (({ s with rst := { s.rst with cores := Nat.lor s.rst.cores (v % 256) } } : State).wr CH_CTRL_RUN v) := by
  refine if_neg (Bool.eq_false_iff.mp (List.any_eq_false.mpr fun c hc => ?_))
  rcases hunfrozen c (List.mem_range.mp hc) with h | h <;> simp [h]

theorem wdtDue_of_overdue {c : Nat} (hc : c < 8) (hen : s.on CORE_WDT_EN c = true) (hdue : s.rd CORE_WDT_TICKS c ≤ (s.core c).wdt) :
    s.wdtDue c = true := by simp [State.wdtDue, hc, hen, hdue]

theorem wdtTrip_device {c : Nat} (hdue : s.wdtDue c = true) (hc : c < 4) :
    s.wdtTrip c = ((s.setCore c { s.core c with wdt := 0 }).raise 177 { core := some c }).trigger rsWATCHDOG false :=
  (ite_not_of_true hdue).trans (if_pos hc)

theorem wdtTrip_core {c : Nat} (hdue : s.wdtDue c = true) (hc : 4 ≤ c) :
    s.wdtTrip c = ((s.faultApplets c).coreClear c).raise 177 { core := some c } :=
  (ite_not_of_true hdue).trans (if_neg (Nat.not_lt.mpr hc))

section
variable {path v : Nat}

theorem regCmd_chCtrl (h : Safety.takes s path CH_CTRL 0 0 v = true) : s.regCmd path CH_CTRL.off v = s.coreRun v :=
  regCmd_fab h (by decide +kernel) rfl (by decide) (by decide) (by decide) rfl

theorem regAt_coreWdt : ∀ c < 8, regAt (CORE_WDT.addr c) = some (CORE_WDT, c, 0) := by decide +kernel

theorem coreWdt_addr (c : Nat) : CORE_WDT.addr c = 0x601004 + c * 0x400 := by simp [RegDesc.addr, CORE_WDT]

theorem regCmd_coreWdt {c : Nat} (hc : c < 8) (h : Safety.takes s path CORE_WDT c 0 v = true) :
    s.regCmd path (CORE_WDT.addr c) v = s.coreWdtWrite c v := by
  have haddr := coreWdt_addr c
  exact regCmd_fab h (regAt_coreWdt c hc) rfl (by omega) (by omega) (by decide) rfl

/-- A write of CORE_WDT starts the count afresh when it kicks or newly enables the watchdog (R491). -/
theorem coreWdtWrite_eq (c : Nat) : s.coreWdtWrite c v =
    (if bit v 30 = true ∨ (bit v 31 = true ∧ s.on CORE_WDT_EN c = false) then
      ((s.wr CORE_WDT_EN (bits v 31 31) c).wr CORE_WDT_TICKS (bits v 15 0) c).setCore c
        { ((s.wr CORE_WDT_EN (bits v 31 31) c).wr CORE_WDT_TICKS (bits v 15 0) c).core c with wdt := 0 }
    else (s.wr CORE_WDT_EN (bits v 31 31) c).wr CORE_WDT_TICKS (bits v 15 0) c) := by
  simp only [State.coreWdtWrite, Bool.not_eq_true']

end

end

/-! ### The rows of applets, core run and watchdogs -/

section
variable {s : State} {t q i : Nat} {d : Desc} (hup : (s.advance t).portsUp = true) (hready : Safety.ready (s.advance t) q i d = true)
include hup hready

theorem exec_appletLoad (hop : Desc.isOp 0x1C 1 d = true) :
    exec (.appletLoad t q i) s = .next (settle ((s.advance t).appletLoad q i)) := done_whenUp_onOp hup hready hop

theorem exec_appletStart (hop : Desc.isOp 0x1C 2 d = true) :
    exec (.appletStart t q i) s = .next (settle ((s.advance t).appletStart q i)) := done_whenUp_onOp hup hready hop

theorem exec_appletStop (hop : Desc.isOp 0x1C 3 d = true) :
    exec (.appletStop t q i) s = .next (settle ((s.advance t).appletStop q i)) := done_whenUp_onOp hup hready hop

theorem exec_appletUnload (hop : Desc.isOp 0x1C 4 d = true) :
    exec (.appletUnload t q i) s = .next (settle ((s.advance t).appletUnload q i)) := done_whenUp_onOp hup hready hop

theorem exec_appletRead (hop : Desc.isOp 0x1C 5 d = true) :
    exec (.appletRead t q i) s = .next (settle ((s.advance t).appletRead q i)) := done_whenUp_onOp hup hready hop

end

section
variable {s : State} {t : Nat}

theorem exec_appletHookReturn (hup : (s.advance t).coresUp = true) (k : Nat) :
    exec (.appletHookReturn t k) s = .next (settle ((s.advance t).appletHookReturn coreSetup k)) := done_whenCoresRun hup

theorem exec_watchdogTrip (hup : (s.advance t).coresUp = true) (c : Nat) :
    exec (.watchdogTrip t c) s = .next (settle ((s.advance t).wdtTrip c)) := done_whenCoresRun hup

theorem exec_coreRun {path v : Nat} (h : Safety.takes (s.advance t) path CH_CTRL 0 0 v = true) :
    exec (.coreRun t path v) s = .next (settle ((s.advance t).coreRun v)) := congrArg done (regCmd_chCtrl h)

theorem exec_watchdogKick {path c v : Nat} (hc : c < 8) (h : Safety.takes (s.advance t) path CORE_WDT c 0 v = true) :
    exec (.watchdogKick t path c v) s = .next (settle ((s.advance t).coreWdtWrite c v)) := congrArg done (regCmd_coreWdt hc h)

end

/-- Settles O41: each applet descriptor of legal form, the return of a hook, and the writes and trips of core run and watchdogs
(an APPLET_LOAD asks for its first page, log entry 88). -/
theorem appletsAndRunComplete : Obligations.AppletsAndRunComplete := by
  unfold Obligations.AppletsAndRunComplete
  refine ⟨fun s t q i d => ?descriptor, fun s t k => ?hook, fun s t path v => ?run, fun s t path c v => ?kick, fun s t c => ?trip⟩
  case descriptor =>
    intro a k n hup hready
    refine ⟨?load, ?start, fun hform => ⟨?stop, ?unload, ?read⟩⟩
    case load =>
      intro hop hform hasked hreads hempty hlo hhi hmul hheld hallowed
      rw [exec_appletLoad hup hready hop, appletLoad_of_legal hready hform hasked hempty hlo hhi hmul,
        nextHostRead_first hasked hreads (by omega) hheld hallowed]
      rfl
    case start =>
      intro hop hform hloaded
      rw [exec_appletStart hup hready hop, appletStart_of_loaded hready hform hloaded]
      rfl
    case stop =>
      intro hop hstarted
      rw [exec_appletStop hup hready hop, appletStop_of_started hready hform hstarted]
    case unload =>
      intro hop hloaded
      rw [exec_appletUnload hup hready hop, appletUnload_of_loaded hready hform hloaded]
    case read =>
      intro hop harea
      rw [exec_appletRead hup hready hop, appletRead_of_area hready hform harea]
  case hook =>
    intro a c hup hopen
    rw [exec_appletHookReturn hup, appletHookReturn_of_open hopen]
  case run =>
    intro a old htakes hunfrozen
    rw [exec_coreRun htakes, coreRun_of_unfrozen hunfrozen]
  case kick =>
    intro a b hc htakes
    rw [exec_watchdogKick hc htakes, coreWdtWrite_eq]
  case trip =>
    intro a hup hen hdue
    refine ⟨fun hc => ?_, fun hlo hc => ?_⟩
    · rw [exec_watchdogTrip hup, wdtTrip_device (wdtDue_of_overdue (by omega) hen hdue) hc]
    · rw [exec_watchdogTrip hup, wdtTrip_core (wdtDue_of_overdue hc hen hdue) hlo]

end Sys2Proof.Proofs
end

section
/-! PROOFS of the statements of 11_pcie_ports_and_slots about links and configuration requests (R341 to R371). -/

namespace Sys2Proof.Proofs
open Sys2Proof.Machine Sys2Proof.Laws

section
variable {s : State} {p : Nat}

/-! ### Upstream and downstream ports -/

theorem not_fab_of_isUp (h : s.isUp p = true) : s.isFab p = false := by
  simp only [State.isUp, Bool.and_eq_true, Bool.not_eq_true'] at h
  obtain ⟨⟨-, hfab⟩, -⟩ := h
  exact hfab

theorem not_fab_of_isDown (h : s.isDown p = true) : s.isFab p = false := by
  simp only [State.isDown, Bool.and_eq_true, Bool.not_eq_true'] at h
  obtain ⟨⟨-, hfab⟩, -⟩ := h
  exact hfab

theorem not_isUp_of_isDown (h : s.isDown p = true) : s.isUp p = false := by
  simp only [State.isDown, Bool.and_eq_true, bne_iff_ne] at h
  obtain ⟨-, hrole⟩ := h
  simp [State.isUp, hrole]

theorem isPcie_of_isUp (h : s.isUp p = true) : s.isPcie p = true := by simp [State.isPcie, h]

theorem isPcie_of_isDown (h : s.isDown p = true) : s.isPcie p = true := by simp [State.isPcie, h]

/-! ### Link up and DL_Down (R343, R357, R369, R371) -/

/-- The port's registers and virtual port after the link reached DL_Up at rate `r` and width `w`. -/
def linkedUp (s : State) (p r w : Nat) (flit : Bool) : State :=
  (((((s.setOn PORT_STATUS_LINK_UP p).wr PORT_STATUS_FLIT (b2n (flit && decide (5 ≤ s.rd PORT_CFG_MAX_RATE p))) p).wr
    PORT_STATUS_SPEED r p).wr PORT_STATUS_WIDTH w p).wr PORT_STATUS_LTSSM lsL0 p).portDll p true

theorem pcieUp_of_down (rate width : Nat) (flit : Bool) (htrain : s.mayTrain p = true) (hdown : s.on PORT_STATUS_LINK_UP p = false) :
    s.pcieUp p rate width flit =
      if min rate (s.rateCap p) < s.rd PORT_CFG_MAX_RATE p ∨ min width (s.modeLanes p) < s.modeLanes p then
        (linkedUp s p (min rate (s.rateCap p)) (min width (s.modeLanes p)) flit).raise 7 { port := some p }
      else linkedUp s p (min rate (s.rateCap p)) (min width (s.modeLanes p)) flit :=
  if_neg (by simp [htrain, hdown])

theorem pcieDown_of_up (hot : Bool) (hpcie : s.isPcie p = true) (hup : s.on PORT_STATUS_LINK_UP p = true) :
    s.pcieDown p hot =
      if s.isUp p = true then (s.dlDown p lsDETECT hot).hdReset (s.rd PORT_CFG_HD p)
      else if ((s.slotChan p).isSome && !s.on PORT_SLOT_CFG_SURPRISE p) = true then (s.dlDown p lsDETECT hot).dpcEvent p 0 5
      else s.dlDown p lsDETECT hot :=
  if_neg (by simp [hpcie, hup])

theorem pcieDown_upstream (hot : Bool) (hport : s.isUp p = true) (hup : s.on PORT_STATUS_LINK_UP p = true) :
    s.pcieDown p hot = (s.dlDown p lsDETECT hot).hdReset (s.rd PORT_CFG_HD p) := by
  rw [pcieDown_of_up hot (isPcie_of_isUp hport) hup, if_pos hport]

theorem pcieDown_downstream (hot : Bool) (hport : s.isDown p = true) (hup : s.on PORT_STATUS_LINK_UP p = true) :
    s.pcieDown p hot = if (s.slotChan p).isSome ∧ s.on PORT_SLOT_CFG_SURPRISE p = false then (s.dlDown p lsDETECT hot).dpcEvent p 0 5
      else s.dlDown p lsDETECT hot := by
  rw [pcieDown_of_up hot (isPcie_of_isDown hport) hup, if_neg (Bool.eq_false_iff.mp (not_isUp_of_isDown hport))]
  simp only [Bool.and_eq_true, Bool.not_eq_true']

/-! ### Link control of a local vDSP (R351) and link power states (R341) -/

section
variable {hd dev : Nat} (hlocal : s.localPort hd dev = some p)
include hlocal

theorem retrain_of_up (hup : s.on PORT_STATUS_LINK_UP p = true) :
    s.retrain hd dev = s.wr PORT_STATUS_SPEED (min (s.rd PORT_STATUS_SPEED p) (s.rateCap p)) p := by
  simp only [State.retrain, hlocal, if_pos hup]

theorem linkDisable_of_local (on : Bool) : s.linkDisable hd dev on =
    if on then ((s.setVc (vfKey hd dev vfLinkDisable) (b2n on)).setPport p { s.pport p with disabled := on }).dlDown p lsDISABLED true
    else if s.portContained p then (s.setVc (vfKey hd dev vfLinkDisable) (b2n on)).setPport p { s.pport p with disabled := on }
    else ((s.setVc (vfKey hd dev vfLinkDisable) (b2n on)).setPport p { s.pport p with disabled := on }).wr PORT_STATUS_LTSSM lsDETECT p := by
  simp only [State.linkDisable, hlocal]

theorem busReset_of_local (on : Bool) : s.busReset hd dev on =
    if on then ((s.setVc (vfKey hd dev vfBusReset) (b2n on)).setPport p { s.pport p with hot := on }).dlDown p lsHOTRESET true
    else if s.portContained p ∨ (s.pport p).disabled then (s.setVc (vfKey hd dev vfBusReset) (b2n on)).setPport p { s.pport p with hot := on }
    else ((s.setVc (vfKey hd dev vfBusReset) (b2n on)).setPport p { s.pport p with hot := on }).wr PORT_STATUS_LTSSM lsDETECT p := by
  simp only [State.busReset, hlocal, Bool.or_eq_true]

end

theorem linkPower_L0 (width : Nat) (hpcie : s.isPcie p = true) (hup : s.on PORT_STATUS_LINK_UP p = true) :
    s.linkPower p 0 width =
      (s.wr PORT_STATUS_LTSSM lsL0 p).setPport p { (s.wr PORT_STATUS_LTSSM lsL0 p).pport p with l0s := 0 } :=
  if_neg (by simp [hpcie, hup])

/-! ### Configuration requests at an upstream port (R346, R354) -/

section
variable {x : Tlp} {fields : List (Nat × Nat)} {data : List Nat} (hport : s.isUp p = true) (hup : s.on PORT_STATUS_LINK_UP p = true)
include hport hup

theorem configRequest_retried (hcfg : x.kind.isCfg = true) (hearly : s.on PORT_HIER_CTRL_HIER_READY p = false) :
    s.configRequest p x fields data = s.emit (.answer p x.req x.tag cplRRS []) :=
  (if_neg (by simp [hport, hup, hcfg])).trans (if_pos (by simp [hearly]))

section
variable (hready : s.on PORT_HIER_CTRL_HIER_READY p = true) (hdev : x.addr / 2 ^ 19 % 32 = 0) (hfn : x.addr / 2 ^ 16 % 8 = 0)
include hready hdev hfn

theorem configRequest_read (hkind : x.kind = .cfgRd0) : s.configRequest p x fields data =
    s.emit (.answer p x.req x.tag cplSC (fields.map (fun e => s.vpRead (s.rd PORT_CFG_HD p) vUSP e.1))) := by
  have hcfg : x.kind.isCfg = true := by rw [hkind]; rfl
  have hread : ¬ x.kind.hasData = true := by rw [hkind]; decide
  exact (if_neg (by simp [hport, hup, hcfg])).trans ((if_neg (by simp [hready])).trans
    ((if_pos (.inl hkind)).trans ((if_pos ⟨hdev, hfn⟩).trans (if_neg hread))))

theorem configRequest_write (hkind : x.kind = .cfgWr0) : s.configRequest p x fields data =
    (fields.foldl (fun (u : State) e => u.vpWrite (s.rd PORT_CFG_HD p) vUSP e.1 e.2) s).emit (.answer p x.req x.tag cplSC []) := by
  have hcfg : x.kind.isCfg = true := by rw [hkind]; rfl
  have hwrite : x.kind.hasData = true := by rw [hkind]; rfl
  exact (if_neg (by simp [hport, hup, hcfg])).trans ((if_neg (by simp [hready])).trans
    ((if_pos (.inr hkind)).trans ((if_pos ⟨hdev, hfn⟩).trans (if_pos hwrite))))

end

end

/-! ### HIER_READY (R346) -/

theorem hierReady_of_isUp (h : s.isUp p = true) : s.hierReady p = s.setOn PORT_HIER_CTRL_HIER_READY p := if_pos h

theorem regAt_portHierCtrl : ∀ p < 96, regAt (PORT_HIER_CTRL.addr p) = some (PORT_HIER_CTRL, p, 0) := by decide +kernel

theorem portHierCtrl_addr (p : Nat) : PORT_HIER_CTRL.addr p = 0x200008 + p * 0x1000 := by simp [RegDesc.addr, PORT_HIER_CTRL]

theorem hookPorts_portHierCtrl {j v : Nat} (hfab : s.isFab p = false) :
    s.hookPorts PORT_HIER_CTRL.off p j v = some (if bit v 0 then s.hierReady p else s) := by
  simp only [State.hookPorts, hfab, Bool.false_eq_true, false_and, if_false]
  rfl

theorem regCmd_portHierCtrl {path v : Nat} (hp : p < 96) (hfab : s.isFab p = false) (h : Safety.takes s path PORT_HIER_CTRL p 0 v = true) :
    s.regCmd path (PORT_HIER_CTRL.addr p) v = if bit v 0 then s.hierReady p else s := by
  have haddr := portHierCtrl_addr p
  exact regCmd_ports h (regAt_portHierCtrl p hp) rfl (by omega) (by omega) (by decide) (hookPorts_portHierCtrl hfab)

end

/-! ### The rows of links and configuration requests -/

section
variable {s : State} {t : Nat}

section
variable (hup : Safety.linksUp (s.advance t) = true)
include hup

theorem exec_pcieLinkUp (p rate width : Nat) (flit : Bool) :
    exec (.pcieLinkUp t p rate width flit) s = .next (settle ((s.advance t).pcieUp p rate width flit)) := done_whenLinks hup

theorem exec_pcieDlDown (p : Nat) (hot : Bool) :
    exec (.pcieDlDown t p hot) s = .next (settle ((s.advance t).pcieDown p hot)) := done_whenLinks hup

theorem exec_retrainLink (hd dev : Nat) :
    exec (.retrainLink t hd dev) s = .next (settle ((s.advance t).retrain hd dev)) := done_whenLinks hup

theorem exec_linkDisable (hd dev : Nat) (on : Bool) :
    exec (.linkDisable t hd dev on) s = .next (settle ((s.advance t).linkDisable hd dev on)) := done_whenLinks hup

theorem exec_secondaryBusReset (hd dev : Nat) (on : Bool) :
    exec (.secondaryBusReset t hd dev on) s = .next (settle ((s.advance t).busReset hd dev on)) := done_whenLinks hup

theorem exec_linkPowerStateChange (p st width : Nat) :
    exec (.linkPowerStateChange t p st width) s = .next (settle ((s.advance t).linkPower p st width)) := done_whenLinks hup

theorem exec_configRequest (p : Nat) (x : Tlp) (fields : List (Nat × Nat)) (data : List Nat) :
    exec (.configRequest t p x fields data) s = .next (settle ((s.advance t).configRequest p x fields data)) := done_whenLinks hup

end

theorem exec_hierReady {path p v : Nat} (hp : p < 96) (hport : (s.advance t).isUp p = true)
    (h : Safety.takes (s.advance t) path PORT_HIER_CTRL p 0 v = true) (hbit : bit v 0 = true) :
    exec (.hierReady t path p v) s = .next (settle ((s.advance t).hierReady p)) :=
  congrArg done ((regCmd_portHierCtrl hp (not_fab_of_isUp hport) h).trans (if_pos hbit))

end

/-- Settles O32: what each link event, link control and configuration request does (fields of a request go by the model's numbers,
log entry 21). -/
theorem pcieLinkCommandsComplete : Obligations.PcieLinkCommandsComplete := by
  unfold Obligations.PcieLinkCommandsComplete
  refine ⟨fun s t p rate width flit => ?linkUp, fun s t p hot => ?dlDown, fun s t path p v => ?hierReady, fun s t hd dev p => ?control,
    fun s t p width => ?power, fun s t p x fields data => ?config⟩
  case linkUp =>
    intro a r w b hup htrain hdown
    rw [exec_pcieLinkUp hup, pcieUp_of_down rate width flit htrain hdown]
    rfl
  case dlDown =>
    intro a hup hlink
    refine ⟨fun hport => ?_, fun hport => ?_⟩
    · rw [exec_pcieDlDown hup, pcieDown_upstream hot hport hlink]
    · rw [exec_pcieDlDown hup, pcieDown_downstream hot hport hlink]
  case hierReady =>
    intro a hp htakes hbit hport
    rw [exec_hierReady hp hport htakes hbit, hierReady_of_isUp hport]
  case control =>
    intro a hup hlocal
    refine ⟨fun hlink => ?_, fun on => ?_, fun on => ?_⟩
    · rw [exec_retrainLink hup, retrain_of_up hlocal hlink]
    · rw [exec_linkDisable hup, linkDisable_of_local hlocal]
    · rw [exec_secondaryBusReset hup, busReset_of_local hlocal]
  case power =>
    intro a hup hpcie hlink
    rw [exec_linkPowerStateChange hup, linkPower_L0 width hpcie hlink]
  case config =>
    intro a hd ans hup hport hlink hcfg
    refine ⟨fun hearly => ?_, fun hready hdev hfn => ⟨fun hkind => ?_, fun hkind => ?_⟩⟩
    · rw [exec_configRequest hup, configRequest_retried hport hlink hcfg hearly]
    · rw [exec_configRequest hup, configRequest_read hport hlink hready hdev hfn hkind]
    · rw [exec_configRequest hup, configRequest_write hport hlink hready hdev hfn hkind]

end Sys2Proof.Proofs
end

section
/-! PROOFS of the statements of 11_pcie_ports_and_slots about containment and slots (R362 to R367, R372, R381). -/

namespace Sys2Proof.Proofs
open Sys2Proof.Machine Sys2Proof.Laws

section
variable {s : State} {p : Nat}

/-! ### Containment (R362, R363) -/

section
variable (hport : s.isDown p = true)
include hport

theorem dpcEvent_uncorrectable {n : Nat} (hselected : s.dpcSelects p n = true) :
    s.dpcEvent p 0 n = (s.uncorrectable p n).dpcEnter p 0 0 :=
  (ite_not_of_true hport).trans (if_pos hselected)

section
variable {f : Nat → Nat} (hkey : s.portKey p = some f) (n : Nat)
include hkey

theorem dpcEvent_nonfatal (hen : s.vc (f vfDpcEnable) = 2) : s.dpcEvent p 1 n = s.dpcEnter p 1 0 := by
  refine (ite_not_of_true hport).trans ((if_neg (by decide)).trans (if_pos ⟨rfl, ?_⟩))
  rw [hkey]
  exact hen

theorem dpcEvent_fatal (hen : s.vc (f vfDpcEnable) = 1 ∨ s.vc (f vfDpcEnable) = 2) : s.dpcEvent p 2 n = s.dpcEnter p 2 0 := by
  refine (ite_not_of_true hport).trans ((if_neg (by decide)).trans ((if_neg (by simp)).trans (if_pos ⟨rfl, ?_⟩)))
  rw [hkey]
  exact hen

end

end

theorem dpcTrigger_of_local {hd dev : Nat} (hlocal : s.localPort hd dev = some p) :
    s.vpWrite hd dev vfDpcTrigger 1 = s.dpcEnter p 3 1 := by
  have hfield : s.vpWrite hd dev vfDpcTrigger 1 = (match s.localPort hd dev with
    | some p => s.dpcSoftware p
    | none => s) := rfl
  rw [hfield, hlocal]
  rfl

theorem dpcStatusClear_of_here {hd dev : Nat} {e : VEnt} (hent : s.vent hd dev = some e) (hdpc : (s.vdsp hd dev).dpc = true)
    (hhere : e.did = s.did) : s.dpcStatusClear hd dev = s.dpcRelease e.port := by
  simp only [State.dpcStatusClear, hent, hdpc, Bool.not_true, Bool.false_eq_true, if_false, if_pos hhere]

theorem portDpcWrite_trigger {v : Nat} (htrigger : bit v 30 = true) (hrelease : bit v 31 = false) :
    s.portDpcWrite p v = s.dpcEnter p 3 1 := by
  simp only [State.portDpcWrite, htrigger, hrelease, if_true, Bool.false_eq_true, if_false]
  rfl

theorem portDpcWrite_release {v : Nat} (htrigger : bit v 30 = false) (hrelease : bit v 31 = true) :
    s.portDpcWrite p v = s.dpcRelease p := by
  simp only [State.portDpcWrite, htrigger, hrelease, if_true, Bool.false_eq_true, if_false]

theorem regAt_portDpc : ∀ p < 96, regAt (PORT_DPC.addr p) = some (PORT_DPC, p, 0) := by decide +kernel

theorem portDpc_addr (p : Nat) : PORT_DPC.addr p = 0x200020 + p * 0x1000 := by simp [RegDesc.addr, PORT_DPC]

theorem hookPorts_portDpc {j v : Nat} (hfab : s.isFab p = false) : s.hookPorts PORT_DPC.off p j v = some (s.portDpcWrite p v) := by
  simp only [State.hookPorts, hfab, Bool.false_eq_true, false_and, if_false]
  rfl

theorem regCmd_portDpc {path v : Nat} (hp : p < 96) (hport : s.isDown p = true) (h : Safety.takes s path PORT_DPC p 0 v = true) :
    s.regCmd path (PORT_DPC.addr p) v = s.portDpcWrite p v := by
  have haddr := portDpc_addr p
  exact regCmd_ports h (regAt_portDpc p hp) rfl (by omega) (by omega) (by decide) (hookPorts_portDpc (not_fab_of_isDown hport))

/-! ### Slot controls, PERST and messages (R364 to R367, R381) -/

section
variable {hd dev : Nat} (hlocal : s.localPort hd dev = some p) (hslot : (s.slotChan p).isSome = true)
include hlocal hslot

theorem powerControl_of_change {off : Bool} (hchange : (s.pport p).off ≠ off) : s.powerControl hd dev off =
    ((s.setVc (vfKey hd dev vfPowerOff) (b2n off)).setPower p off).cmdCompleted hd dev := by
  have hgo : ¬ ((s.slotChan p).isNone || (s.pport p).off == off) = true := by simp [Option.isNone_eq_false_iff.mpr hslot, hchange]
  simp only [State.powerControl, hlocal, if_neg hgo]

theorem indicatorControl_of_change (attn : Bool) {c : Nat} (hlo : 1 ≤ c) (hhi : c ≤ 3)
    (hchange : s.vc (vfKey hd dev (if attn then vfAttnInd else vfPwrInd)) ≠ c) : s.indicatorControl hd dev attn c =
    ((s.setVc (vfKey hd dev (if attn then vfAttnInd else vfPwrInd)) c).setInd p attn c).cmdCompleted hd dev := by
  have hgo : ¬ ((s.slotChan p).isNone || decide (c = 0) || decide (3 < c) ||
      s.vc (vfKey hd dev (if attn then vfAttnInd else vfPwrInd)) == c) = true := by
    have hsome : c ≠ 0 := by omega
    simp [Option.isNone_eq_false_iff.mpr hslot, hchange, hsome, hhi]
  simp only [State.indicatorControl, hlocal]
  exact if_neg hgo

end

theorem held_of_loadedUp (h : s.loadedUp = true) : (s.rst.phase != .held) = true := by
  unfold State.loadedUp at h
  cases hphase : s.rst.phase with
  | held => simp [hphase] at h
  | _ => rfl

theorem perstDeassert_of_due {n at_ : Nat} (hchan : s.slotChan p = some n) (hon : (s.pport p).onAt = some at_) (hdue : at_ + 99000000 ≤ s.ns)
    (hpower : s.on PORT_SLOT_STATUS_POWER_ON p = true) (hforce : s.on PORT_SLOT_CTRL_PERST_FORCE p = false) (hdomain : s.inHdReset p = false)
    (hperst : s.on PORT_SLOT_STATUS_PERST p = true) (hphase : (s.rst.phase != .held) = true)
    (hclock : (if 2 * n < 32 then bit (s.rd REFOUT_EN_LO_VALUE) (2 * n) else bit (s.rd REFOUT_EN_HI_VALUE) (2 * n - 32)) = true) :
    s.perstDeassert p = (s.wr PORT_SLOT_STATUS_PERST 0 p).emit (.pin 3 n 1) := by
  simp only [State.perstDeassert, hchan, hon]
  exact if_pos (by simp [hpower, hdue, hclock, hforce, hdomain, hphase, hperst])

end

theorem done_whenLoaded {s : State} {f : State → State} (h : s.loadedUp = true) (hhalt : s.on FAULT_STATUS_HALTED = false) :
    done (s.whenLoaded f) = .next (settle (f s)) := by
  rw [done_eq, whenLoaded_of h hhalt]

/-! ### The rows of containment and slots -/

section
variable {s : State} {t : Nat}

section
variable (hup : Safety.linksUp (s.advance t) = true)
include hup

theorem exec_dpcEntry (p kind n : Nat) :
    exec (.dpcEntry t p kind n) s = .next (settle ((s.advance t).dpcEvent p kind n)) := done_whenLinks hup

theorem exec_dpcSoftwareTrigger (hd dev : Nat) :
    exec (.dpcSoftwareTrigger t hd dev) s = .next (settle ((s.advance t).vpWrite hd dev vfDpcTrigger 1)) := done_whenLinks hup

theorem exec_dpcStatusClear (hd dev : Nat) :
    exec (.dpcStatusClear t hd dev) s = .next (settle ((s.advance t).dpcStatusClear hd dev)) := done_whenLinks hup

theorem exec_powerControllerControl (hd dev : Nat) (off : Bool) :
    exec (.powerControllerControl t hd dev off) s = .next (settle ((s.advance t).powerControl hd dev off)) := done_whenLinks hup

theorem exec_indicatorControl (hd dev : Nat) (attn : Bool) (c : Nat) :
    exec (.indicatorControl t hd dev attn c) s = .next (settle ((s.advance t).indicatorControl hd dev attn c)) := done_whenLinks hup

end

section
variable {path p v : Nat} (hp : p < 96) (hport : (s.advance t).isDown p = true) (h : Safety.takes (s.advance t) path PORT_DPC p 0 v = true)
include hp hport h

theorem exec_dpcTrigger : exec (.dpcTrigger t path p v) s = .next (settle ((s.advance t).portDpcWrite p v)) :=
  congrArg done (regCmd_portDpc hp hport h)

theorem exec_dpcRelease : exec (.dpcRelease t path p v) s = .next (settle ((s.advance t).portDpcWrite p v)) :=
  congrArg done (regCmd_portDpc hp hport h)

end

section
variable (hloaded : (s.advance t).loadedUp = true) (hhalt : (s.advance t).on FAULT_STATUS_HALTED = false)
include hloaded hhalt

theorem exec_perstDeassert (p : Nat) : exec (.perstDeassert t p) s = .next (settle ((s.advance t).perstDeassert p)) :=
  done_whenLoaded hloaded hhalt

theorem exec_indicatorBlink : exec (.indicatorBlink t) s = .next (settle ((s.advance t).indicatorBlink)) :=
  done_whenLoaded hloaded hhalt

end

theorem exec_portStateRefresh (hup : (s.advance t).portsUp = true) :
    exec (.portStateRefresh t) s = .next (settle ((s.advance t).portStateRefresh)) := done_whenUp hup

end

/-- Settles O33: what triggers and ends containment, and what each slot control does (the values of DPC Trigger Enable are PCI
Express's, log entry 25). -/
theorem containmentAndSlotCommandsComplete : Obligations.ContainmentAndSlotCommandsComplete := by
  unfold Obligations.ContainmentAndSlotCommandsComplete
  refine ⟨fun s t p => ?entry, fun s t path p v => ?register, fun s t hd dev e => ?clear, fun s t hd dev p => ?slot,
    fun s t p n at_ => ?perst, fun s t => ?refresh, fun s t => ?blink⟩
  case entry =>
    intro a hup hport hfree
    refine ⟨fun n hselected => ?_, fun f n hkey => ⟨fun hen => ?_, fun hen => ?_⟩, fun hd dev hlocal => ?_⟩
    · rw [exec_dpcEntry hup, dpcEvent_uncorrectable hport hselected]
    · rw [exec_dpcEntry hup, dpcEvent_nonfatal hport hkey n hen]
    · rw [exec_dpcEntry hup, dpcEvent_fatal hport hkey n hen]
    · rw [exec_dpcSoftwareTrigger hup, dpcTrigger_of_local hlocal]
  case register =>
    intro a hp htakes hport
    refine ⟨fun htrigger hrelease => ?_, fun htrigger hrelease => ?_⟩
    · rw [exec_dpcTrigger hp hport htakes, portDpcWrite_trigger htrigger hrelease]
    · rw [exec_dpcRelease hp hport htakes, portDpcWrite_release htrigger hrelease]
  case clear =>
    intro a hup hent hdpc hhere
    rw [exec_dpcStatusClear hup, dpcStatusClear_of_here hent hdpc hhere]
  case slot =>
    intro a hup hlocal hslot
    refine ⟨fun off hchange => ?_, fun attn c => ?_⟩
    · rw [exec_powerControllerControl hup, powerControl_of_change hlocal hslot hchange]
    · intro k hlo hhi hchange
      rw [exec_indicatorControl hup, indicatorControl_of_change hlocal hslot attn hlo hhi hchange]
  case perst =>
    intro a hloaded hhalt hchan hon hdue hpower hforce hdomain hperst hclock
    rw [exec_perstDeassert hloaded hhalt,
      perstDeassert_of_due hchan hon hdue hpower hforce hdomain hperst (held_of_loadedUp hloaded) hclock]
  case refresh =>
    intro a hup
    exact exec_portStateRefresh hup
  case blink =>
    intro a hloaded hhalt
    exact exec_indicatorBlink hloaded hhalt

end Sys2Proof.Proofs
end

section
/-! PROOFS of the statement of 12_bridging about the bridge's events (R383 to R407). -/

namespace Sys2Proof.Proofs
open Sys2Proof.Machine Sys2Proof.Laws

section
variable {s : State}

/-! ### Timeouts (R383, R384) -/

theorem waitTimeouts_of_none (h : s.brg.waits = []) : s.waitTimeouts = s := by
  have hsame : ({ s with brg := { s.brg with waits := [] } } : State) = s := by rw [← h]
  simp only [State.waitTimeouts, h, List.filter_nil, List.foldl_nil]
  exact hsame

theorem bridgeTimeout_of_overdue {tag : Nat} {e : NpEnt} (hwaits : s.brg.waits = []) (hentry : s.np tag = some e) (hfabric : e.port = none)
    (hdue : e.issued + s.npTimeout ≤ s.ns) : s.bridgeTimeout tag = s.bridgeExpire tag e := by
  have hgo : ¬ (s.ns < e.issued + s.npTimeout ∨ e.port.isSome = true) := by simp [hfabric, hdue]
  simp only [State.bridgeTimeout, waitTimeouts_of_none hwaits, hentry, if_neg hgo]

theorem bridgeExpire_host {tag : Nat} {e : NpEnt} {r : HostReq} (howner : e.owner = .host r) : s.bridgeExpire tag e =
    ((((s.setNp tag none).hostAnswer r cplUR false []).inc BRG_READ_TIMEOUTS_VALUE).raise 91) := by
  simp only [State.bridgeExpire, howner]

section
variable {did stream tg addr fbe lbe : Nat} {cfg : Bool}

theorem bridgeExpire_fabric {tag : Nat} {e : NpEnt} (howner : e.owner = .fabric did stream tg addr cfg fbe lbe) : s.bridgeExpire tag e =
    ((((s.setNp tag none).ownerReply did stream tg addr fbe lbe 0 stREMOTE_ERROR false []).inc BRG_READ_TIMEOUTS_VALUE).raise 91) := by
  simp only [State.bridgeExpire, howner]

theorem issuedTimeout_of_fabric {n p : Nat} {e : NpEnt} (hentry : s.np n = some e) (hport : e.port = some p)
    (howner : e.owner = .fabric did stream tg addr cfg fbe lbe) : s.issuedTimeout n =
    (s.setNp n none).ownerReply did stream tg addr fbe lbe p stREMOTE_ERROR false [] := by
  simp only [State.issuedTimeout, hentry, hport, howner, Option.isNone_some, Bool.false_eq_true, if_false, Option.getD_some]

end

/-! ### Prefetch lines (R394, R395) -/

/-- A filled line answers the reads that waited for it. -/
def lineAnswered (s : State) (n : Nat) (l : Line) (poison : Bool) (data : List Nat) : State :=
  (s.brg.waits.filter (fun w => w.line == n)).foldl
    (fun (u : State) w => u.hostAnswer w.r cplSC poison (readBack w.r w.a ((data.drop (w.a - l.base)).take w.n)))
    { s with brg := { s.brg with waits := s.brg.waits.filter (fun w => w.line != n) } }

section
variable {tag n : Nat} {e : NpEnt} {l : Line} (hentry : s.np tag = some e) (howner : e.owner = .line n)
  (hline : SMap.get (s.setNp tag none).brg.lines n none = some l) (htag : l.tag = tag) (hempty : l.filled = false)
include hentry howner hline htag hempty

theorem prefetchFill_of_awaited (status : Nat) (poison : Bool) (data : List Nat) : s.prefetchFill tag status poison data =
    if status ≠ stOK then (s.setNp tag none).discardLine n
    else lineAnswered ((s.setNp tag none).setLine n (some { l with filled := true, poison := poison, data := data })) n l poison data := by
  have hawaited : ¬ (l.tag ≠ tag ∨ l.filled = true) := by simp [htag, hempty]
  simp only [State.prefetchFill, hentry, howner, hline, if_neg hawaited, lineAnswered]

theorem prefetchFill_ok (poison : Bool) (data : List Nat) : s.prefetchFill tag stOK poison data =
    lineAnswered ((s.setNp tag none).setLine n (some { l with filled := true, poison := poison, data := data })) n l poison data := by
  rw [prefetchFill_of_awaited hentry howner hline htag hempty, if_neg (not_not_intro rfl)]

theorem prefetchFill_failed {status : Nat} (hfail : status ≠ stOK) (poison : Bool) (data : List Nat) :
    s.prefetchFill tag status poison data = (s.setNp tag none).discardLine n := by
  rw [prefetchFill_of_awaited hentry howner hline htag hempty, if_pos hfail]

end

/-! ### Cue edges and mirror words (R403, R406, R407) -/

theorem cueSched_of_go {v : Nat} (hgo : bit v 31 = true) : s.cueSched v =
    (s.queueEdge (bits v 5 0) { at_ := s.rd64 CUE_SCHED_LO_VALUE CUE_SCHED_HI_VALUE, level := bit v 8 }).2.wr CUE_SCHED_STATUS_RESULT
      (if (s.queueEdge (bits v 5 0) { at_ := s.rd64 CUE_SCHED_LO_VALUE CUE_SCHED_HI_VALUE, level := bit v 8 }).1 = stOK then 1
       else if (s.queueEdge (bits v 5 0) { at_ := s.rd64 CUE_SCHED_LO_VALUE CUE_SCHED_HI_VALUE, level := bit v 8 }).1 = stLATE then 2
       else if (s.queueEdge (bits v 5 0) { at_ := s.rd64 CUE_SCHED_LO_VALUE CUE_SCHED_HI_VALUE, level := bit v 8 }).1 = stRESOURCE_LIMIT then 3
       else 4) := ite_not_of_true hgo

theorem regCmd_cueSchedCmd {path v : Nat} (h : Safety.takes s path CUE_SCHED_CMD 0 0 v = true) :
    s.regCmd path CUE_SCHED_CMD.off v = s.cueSched v :=
  regCmd_sys h (by decide +kernel) rfl (by decide) (by decide) (by decide) rfl

/-- The producers whose value is due at the latest tick edge (R406, R66). -/
def mirrorsDue (s : State) : List (Nat × Mirror) :=
  s.cue.mirrors.filter (fun e => e.2.role == 1 && e.2.bound && (s.time.tick % max 1 e.2.effP == 0 || e.2.due))

/-- Each due producer whose consumer is on this device hands its value over at once. -/
def mirrorsTaken (s : State) : State :=
  ((mirrorsDue s).filter (fun e => e.2.peerDid == s.did)).foldl (fun (u : State) e =>
      u.mirrorTake s.did e.1 s.time.tick e.2.peerWord (u.rd MW_VALUE_VALUE e.1))
    ((mirrorsDue s).foldl (fun (u : State) e => u.setMirror e.1 { e.2 with due := false }) s)

theorem mirrorSend_of_local (hlocal : (mirrorsDue s).all (fun e => e.2.peerDid == s.did) = true) : s.mirrorSend = mirrorsTaken s := by
  have hnear : ∀ e ∈ mirrorsDue s, e.2.peerDid = s.did := by simpa using hlocal
  have hfar : (mirrorsDue s).filter (fun e => e.2.peerDid != s.did) = [] :=
    List.filter_eq_nil_iff.mpr fun e he => by simp [hnear e he]
  unfold mirrorsTaken mirrorsDue at *
  simp only [State.mirrorSend, hfar]
  rfl

theorem mirrorStale_of_silent {w : Nat} (hrole : (s.mirror w).role = 2) (hbound : (s.mirror w).bound = true) (hfresh : (s.mirror w).stale = false)
    (hdue : (s.mirror w).since + 4 * (s.mirror w).effP ≤ s.time.tick) :
    s.mirrorStale w = (s.setMirror w { s.mirror w with stale := true }).raise 108 { arg := w } :=
  if_pos ⟨hrole, hbound, by rw [hfresh]; rfl, hdue⟩

end

/-! ### The rows of the bridge's events -/

section
variable {s : State} {t : Nat}

section
variable (hup : (s.advance t).portsUp = true)
include hup

theorem exec_bridgeNpTimeout (tag : Nat) :
    exec (.bridgeNpTimeout t tag) s = .next (settle ((s.advance t).bridgeTimeout tag)) := done_whenUp hup

theorem exec_issuedRequestTimeout (n : Nat) :
    exec (.issuedRequestTimeout t n) s = .next (settle ((s.advance t).issuedTimeout n)) := done_whenUp hup

theorem exec_prefetchFill (tag status : Nat) (poison : Bool) (data : List Nat) :
    exec (.prefetchFill t tag status poison data) s = .next (settle ((s.advance t).prefetchFill tag status poison data)) := done_whenUp hup

theorem exec_prefetchLineExpire : exec (.prefetchLineExpire t) s = .next (settle (s.advance t).expireLines) := done_whenUp hup

theorem exec_mirrorSend : exec (.mirrorSend t) s = .next (settle (s.advance t).mirrorSend) := done_whenUp hup

theorem exec_mirrorStale (w : Nat) : exec (.mirrorStale t w) s = .next (settle ((s.advance t).mirrorStale w)) := done_whenUp hup

end

theorem exec_cueSched {path v : Nat} (h : Safety.takes (s.advance t) path CUE_SCHED_CMD 0 0 v = true) :
    exec (.cueSched t path v) s = .next (settle ((s.advance t).cueSched v)) := congrArg done (regCmd_cueSchedCmd h)

end

/-- Settles O34: what each timeout, fill, cue edge and mirror event does (mirror periods are those of log entry 42, and
ISSUED_REQUEST_TIMEOUT comes when its command does, log entry 90). -/
theorem bridgeEventsComplete : Obligations.BridgeEventsComplete := by
  unfold Obligations.BridgeEventsComplete
  refine ⟨fun s t tag e => ?timeout, fun s t n p did stream tg addr fbe lbe cfg e => ?issued, fun s t tag n poison data e l => ?fill,
    fun s t => ?expire, fun s t path v => ?cue, fun s t => ?send, fun s t w => ?stale⟩
  case timeout =>
    intro a hup hfabric hdue hwaits hentry
    refine ⟨fun r howner => ?_, fun did stream tg addr cfg fbe lbe howner => ?_⟩
    · rw [exec_bridgeNpTimeout hup, bridgeTimeout_of_overdue hwaits hentry hfabric hdue, bridgeExpire_host howner]
    · rw [exec_bridgeNpTimeout hup, bridgeTimeout_of_overdue hwaits hentry hfabric hdue, bridgeExpire_fabric howner]
  case issued =>
    intro a hup hentry hport howner
    rw [exec_issuedRequestTimeout hup, issuedTimeout_of_fabric hentry hport howner]
  case fill =>
    intro a b hup hentry howner hline htag hempty
    refine ⟨?_, fun st hfail => ?_⟩
    · rw [exec_prefetchFill hup, prefetchFill_ok hentry howner hline htag hempty]
      rfl
    · rw [exec_prefetchFill hup, prefetchFill_failed hentry howner hline htag hempty hfail]
  case expire =>
    intro a hup
    exact exec_prefetchLineExpire hup
  case cue =>
    intro a x htakes hgo
    rw [exec_cueSched htakes, cueSched_of_go hgo]
  case send =>
    intro a due b c hup hlocal
    rw [exec_mirrorSend hup, mirrorSend_of_local hlocal]
    rfl
  case stale =>
    intro a hup hrole hbound hfresh hdue
    rw [exec_mirrorStale hup, mirrorStale_of_silent hrole hbound hfresh hdue]

end Sys2Proof.Proofs
end

section
/-! PROOFS of the statement of 12_bridging about window and mirror descriptors (R385, R408 to R411). -/

namespace Sys2Proof.Proofs
open Sys2Proof.Machine Sys2Proof.Laws

section
variable {s : State}

/-! ### Mirror words -/

theorem mirror_setMirror (w x : Nat) (m : Mirror) : (s.setMirror w m).mirror x = if x = w then m else s.mirror x := by
  unfold State.mirror State.setMirror
  split
  next h => rw [h, get_set]
  next h => rw [get_set_ne _ _ _ _ h]

section
variable (role source period owner : Nat)

/-- A word takes the role, source, period and owner of a MIRROR_SAMPLE_SET. -/
def wordGiven (u : State) (w : Nat) : State :=
  u.setMirror w { u.mirror w with role := role, source := source, period := period, owner := owner }

/-- What a MIRROR_SAMPLE_SET does to a word: the producer of a bound consumer is told of the new period (R411). -/
def wordSampled (u : State) (w : Nat) : State :=
  let m := u.mirror w
  let v := wordGiven role source period owner u w
  if m.bound = true ∧ role = 2 ∧ m.period ≠ period then
    if m.peerDid = v.did then v.setMirror m.peerWord { v.mirror m.peerWord with peerP := period }
    else v.sendMsg m.peerDid 0 (leBytes 4 (0x22 + m.peerWord * 2 ^ 16) ++ leBytes 4 period)
  else v

theorem mirror_wordGiven_bound (w x : Nat) : ((wordGiven role source period owner s w).mirror x).bound = (s.mirror x).bound := by
  unfold wordGiven
  rw [mirror_setMirror]
  split
  next h => rw [h]
  next => rfl

/-- No producer follows the new period of an unbound word. -/
theorem foldl_wordSampled_of_unbound (ws : List Nat) (hunbound : ∀ w, (s.mirror w).bound = false) :
    ws.foldl (wordSampled role source period owner) s = ws.foldl (wordGiven role source period owner) s := by
  induction ws generalizing s with
  | nil => rfl
  | cons w ws ih =>
    have hword : wordSampled role source period owner s w = wordGiven role source period owner s w :=
      if_neg (by simp [hunbound w])
    rw [List.foldl_cons, List.foldl_cons, hword]
    exact ih fun x => (mirror_wordGiven_bound role source period owner w x).trans (hunbound x)

end

theorem consumerBind_of_free {did producer w : Nat} (hrole : (s.mirror w).role = 2) (hfree : (s.mirror w).bound = false) :
    s.consumerBind did producer w =
      some (s.setMirror w { s.mirror w with bound := true, peerDid := did, peerWord := producer, since := s.time.tick }) :=
  if_pos ⟨hrole, .inl (by rw [hfree]; rfl)⟩

theorem bit_eq_false_of_lt {v n : Nat} (h : v < 2 ^ n) : bit v n = false := by
  simp [bit, Nat.div_eq_of_lt h]

/-! ### The window descriptors (R385, R409) -/

section
variable {q i : Nat} {d : Desc} (hready : Safety.ready s q i d = true)
include hready

section
variable (hform : d.windowOk = true)
include hform

section
variable (hfits : s.windowFits d.window = true)
include hfits

theorem windowSet_replaces {n : Nat} {o : Window} (hat : s.windowAt d.window.hd d.window.slot = some (n, o)) :
    s.windowSet q i = (s.setWindow n (some d.window)).finish q d stOK := by
  refine (withDesc_legal hready (by simp [hform, hfits]) rfl).trans ?_
  rw [hat]

theorem windowSet_adds (hat : s.windowAt d.window.hd d.window.slot = none) (hroom : lowestFree s.brg.windows 0 < 65536) :
    s.windowSet q i = (s.setWindow (lowestFree s.brg.windows 0) (some d.window)).finish q d stOK := by
  refine (withDesc_legal hready (by simp [hform, hfits]) rfl).trans ?_
  rw [hat]
  exact if_pos hroom

end

section
variable (hhost : d.zero 8 23 = true) (hattr : d.zero 44 47 = true)
include hhost hattr

theorem windowClear_of_set {n : Nat} {o : Window} (hat : s.windowAt d.window.hd d.window.slot = some (n, o)) :
    s.windowClear q i = (s.setWindow n none).finish q d stOK := by
  refine (withDesc_legal hready (by simp [hform, hhost, hattr, hat]) rfl).trans ?_
  rw [hat]

theorem windowRead_of_area (harea : (s.qp q).dataBase ≠ 0) : s.windowRead q i =
    s.finish q d stOK 0 (some (windowImage ((s.windowAt d.window.hd d.window.slot).map (·.2)))) :=
  (withDesc_legal hready (by simp [hform, hhost, hattr]) rfl).trans (finishData_of_area _ harea)

end

end

/-! ### The mirror descriptors (R408, R410, R411) -/

section
variable (hform : d.mirOk = true) (hidle : d.outstanding = 0) (hrole : (s.mirror d.mirWord).role = 1)
  (hlocal : d.dest / 2 ^ 52 % 4096 = s.did) (howner : (s.qp q).fn = some (ownerFn (s.mirror d.mirWord).owner))
include hform hidle hrole hlocal howner

theorem mirrorBind_of_free (hfree : (s.mirror d.mirWord).bound = false) (hconsumer : (s.mirror (d.dest % 4096)).role = 2)
    (hunbound : (s.mirror (d.dest % 4096)).bound = false) {b : State}
    (hb : b = s.setMirror (d.dest % 4096)
      { s.mirror (d.dest % 4096) with bound := true, peerDid := s.did, peerWord := d.mirWord, since := s.time.tick }) :
    s.mirrorBind q i = (b.setMirror d.mirWord
      { s.mirror d.mirWord with
        bound := true, peerDid := s.did, peerWord := d.dest % 4096, peerP := (b.mirror (d.dest % 4096)).period }).finish q d stOK := by
  have hallowed : ¬ ((s.mirror d.mirWord).role ≠ 1 ∨ (s.mirror d.mirWord).bound = true ∨ (s.qp q).fn ≠ some (ownerFn (s.mirror d.mirWord).owner)) := by
    simp [hrole, hfree, howner]
  refine (withDesc_legal hready hform (if_neg (not_not_intro hidle))).trans ((if_neg hallowed).trans ((if_pos hlocal).trans ?_))
  rw [hlocal, consumerBind_of_free hconsumer hunbound, hb]

theorem mirrorUnbind_of_bound (hbound : (s.mirror d.mirWord).bound = true) (hdid : (s.mirror d.mirWord).peerDid = s.did)
    (hword : (s.mirror d.mirWord).peerWord = d.dest % 4096) : s.mirrorUnbind q i =
    ((s.setMirror d.mirWord { s.mirror d.mirWord with bound := false, peerDid := 0, peerWord := 0, peerP := 0, due := false }).consumerUnbind
      s.did d.mirWord (d.dest % 4096)).finish q d stOK := by
  have hallowed : ¬ ((s.mirror d.mirWord).role ≠ 1 ∨ (!(s.mirror d.mirWord).bound) = true ∨ (s.mirror d.mirWord).peerDid ≠ d.dest / 2 ^ 52 % 4096 ∨
      (s.mirror d.mirWord).peerWord ≠ d.dest % 4096 ∨ (s.qp q).fn ≠ some (ownerFn (s.mirror d.mirWord).owner)) := by
    simp only [hrole, hbound, hdid, hword, howner, hlocal]
    simp
  refine (withDesc_legal hready hform (if_neg (not_not_intro hidle))).trans ((if_neg hallowed).trans ((if_pos hlocal).trans ?_))
  rw [hlocal]

end

/-- The layout of a MIRROR_SAMPLE_SET whose owner is a VF (R411). -/
def sampleSetForm (d : Desc) : Bool :=
  d.flagsOk && d.zero 8 39 && d.zero 50 63 && decide (d.op40 ≤ 2) && decide (byteAt d.img 41 ≤ 2) && (d.op40 == 1 || byteAt d.img 41 == 0)
    && decide (1 ≤ bytesAt d.img 44 45) && decide (bytesAt d.img 42 43 + bytesAt d.img 44 45 ≤ 4096) && decide (1 ≤ bytesAt d.img 46 47)
    && (if bit (bytesAt d.img 48 49) 15 then bits (bytesAt d.img 48 49) 14 5 == 0 else decide (bytesAt d.img 48 49 < 2048))

theorem mirrorSampleSet_of_unbound (hform : sampleSetForm d = true) (hunbound : ∀ w, (s.mirror w).bound = false) : s.mirrorSampleSet q i =
    (((List.range (bytesAt d.img 44 45)).map (bytesAt d.img 42 43 + ·)).foldl
      (wordGiven d.op40 (byteAt d.img 41) (bytesAt d.img 46 47) (bytesAt d.img 48 49)) s).finish q d stOK := by
  have hfree : ¬ ((List.range (bytesAt d.img 44 45)).map (bytesAt d.img 42 43 + ·)).any
      (fun w => (s.mirror w).bound && (s.mirror w).role != d.op40) = true := by simp [hunbound]
  refine (withDesc_legal hready hform rfl).trans ((if_neg hfree).trans ?_)
  rw [← foldl_wordSampled_of_unbound _ _ _ _ _ hunbound]
  rfl

end

end

/-! ### The rows of window and mirror descriptors -/

section
variable {s : State} {t q i : Nat} {d : Desc} (hup : (s.advance t).portsUp = true) (hready : Safety.ready (s.advance t) q i d = true)
include hup hready

theorem exec_windowSet (hop : Desc.isOp 0x16 1 d = true) :
    exec (.windowSet t q i) s = .next (settle ((s.advance t).windowSet q i)) := done_whenUp_onOp hup hready hop

theorem exec_windowClear (hop : Desc.isOp 0x16 2 d = true) :
    exec (.windowClear t q i) s = .next (settle ((s.advance t).windowClear q i)) := done_whenUp_onOp hup hready hop

theorem exec_windowRead (hop : Desc.isOp 0x16 3 d = true) :
    exec (.windowRead t q i) s = .next (settle ((s.advance t).windowRead q i)) := done_whenUp_onOp hup hready hop

theorem exec_mirrorBind (hop : Desc.isOp 0x06 1 d = true) :
    exec (.mirrorBind t q i) s = .next (settle ((s.advance t).mirrorBind q i)) := done_whenUp_onOp hup hready hop

theorem exec_mirrorUnbind (hop : Desc.isOp 0x06 2 d = true) :
    exec (.mirrorUnbind t q i) s = .next (settle ((s.advance t).mirrorUnbind q i)) := done_whenUp_onOp hup hready hop

theorem exec_mirrorSampleSet (hop : d.opcode = 0x1F) :
    exec (.mirrorSampleSet t q i) s = .next (settle ((s.advance t).mirrorSampleSet q i)) :=
  done_whenUp_onOp hup hready (beq_iff_eq.mpr hop)

end

/-- Settles O35: each window and mirror descriptor of legal form (the image of a window is that of log entry 40; bindings are
those of log entry 41). -/
theorem windowAndMirrorAdminCompletes : Obligations.WindowAndMirrorAdminCompletes := by
  unfold Obligations.WindowAndMirrorAdminCompletes
  refine ⟨fun s t q i d => ?window, fun s t q i d => ?mirror, fun s t q i d => ?sample⟩
  case window =>
    intro a w hup hready hform
    refine ⟨fun hop hfits => ⟨fun n o hat => ?_, fun hat hroom => ?_⟩, fun hop hhost hattr n o hat => ?_, fun hop hhost hattr harea => ?_⟩
    · rw [exec_windowSet hup hready hop, windowSet_replaces hready hform hfits hat]
    · rw [exec_windowSet hup hready hop, windowSet_adds hready hform hfits hat hroom]
    · rw [exec_windowClear hup hready hop, windowClear_of_set hready hform hhost hattr hat]
    · rw [exec_windowRead hup hready hop, windowRead_of_area hready hform hhost hattr harea]
  case mirror =>
    intro a m c hup hready hform hidle hrole hlocal howner
    refine ⟨fun hop hfree hconsumer hunbound => ?_, fun hop hbound hdid hword => ?_⟩
    · rw [exec_mirrorBind hup hready hop, mirrorBind_of_free hready hform hidle hrole hlocal howner hfree hconsumer hunbound rfl]
    · rw [exec_mirrorUnbind hup hready hop, mirrorUnbind_of_bound hready hform hidle hrole hlocal howner hbound hdid hword]
  case sample =>
    intro a first n owner ws hup hready hop hflags hlow hhigh hrole hsource hpair hsome hrange hperiod howner hunbound
    have hvf : bit owner 15 = false := bit_eq_false_of_lt (by omega)
    have hform : sampleSetForm d = true := by
      simp only [sampleSetForm, Bool.and_eq_true, decide_eq_true_eq, Bool.or_eq_true, beq_iff_eq]
      refine ⟨⟨⟨⟨⟨⟨⟨⟨⟨hflags, hlow⟩, hhigh⟩, hrole⟩, hsource⟩, hpair⟩, hsome⟩, hrange⟩, hperiod⟩, ?_⟩
      rw [if_neg (Bool.eq_false_iff.mp hvf)]
      exact decide_eq_true howner
    rw [exec_mirrorSampleSet hup hready hop, mirrorSampleSet_of_unbound hready hform hunbound]
    rfl

end Sys2Proof.Proofs
end

section
/-! PROOFS of the statements of 13_host_endpoint_and_rings (R428 to R451). -/

namespace Sys2Proof.Proofs
open Sys2Proof.Machine Sys2Proof.Laws

section
variable {s : State}

/-! ### QP commands (R428, R429) -/

section
variable {f n : Nat} (hsel : s.localQp f (s.fn f).qpSel = some n) (hreset : (s.fn f).reset = none)
include hsel hreset

theorem qpEnable_of_configured (hstate : (s.qp n).state = .disabled) (hsize : (s.qp n).sqLog ≤ (s.qp n).cqLog) (hsq : (s.qp n).sqBase ≠ 0)
    (hcq : (s.qp n).cqBase ≠ 0) (hfreeze : (s.qp n).freeze = none) :
    s.qpEnable f = s.setQp n { s.qp n with
      state := .active, head := 0, tail := 0, cqTail := 0, cqHead := 0, phase := true, inProg := [], held := [], fetching := 0,
      msiPending := false } := by
  simp only [State.qpEnable, hsel]
  exact if_pos ⟨by rw [hreset]; rfl, hstate, hsize, hsq, hcq, hfreeze⟩

theorem qpDisable_of_running (hstate : (s.qp n).state = .active ∨ (s.qp n).state = .frozen) : s.qpDisable f = s.drainQp n := by
  simp only [State.qpDisable, hsel, hreset, Option.isSome_none, Bool.false_eq_true, if_false, if_pos hstate]

end

theorem qpDrainDone_of_idle {n : Nat} (hstate : (s.qp n).state = .draining)
    (hreset : ((s.qp n).fn.bind (fun f => (s.fn f).reset)) = none) (hidle : s.qpBusy n = false) :
    s.qpDrainDone n =
      (s.freeNpOf (ownedBy n)).setQp n { (s.freeNpOf (ownedBy n)).qp n with state := .disabled, inProg := [], fetching := 0 } :=
  if_pos ⟨hstate, by rw [hreset]; rfl, .inl hidle⟩

/-! ### Doorbells (R431, R433) -/

section
variable {f l v n : Nat} (hqp : s.doorbellQp f l = some n)
include hqp

theorem sqDoorbell_of_legal (hv : v < 2 ^ (s.qp n).sqLog)
    (hahead : ((s.qp n).tail + 2 ^ (s.qp n).sqLog - (s.qp n).head) % 2 ^ (s.qp n).sqLog ≤ (v + 2 ^ (s.qp n).sqLog - (s.qp n).head) % 2 ^ (s.qp n).sqLog) :
    s.sqDoorbell f l v = (s.setQp n { s.qp n with tail := v }).fetchMore n := by
  simp only [State.sqDoorbell, hqp]
  exact if_neg (not_or_intro (Nat.not_le.mpr hv) (Nat.not_lt.mpr hahead))

theorem cqDoorbell_of_legal (hv : v < 2 ^ (s.qp n).cqLog)
    (hbehind : (v + 2 ^ (s.qp n).cqLog - (s.qp n).cqHead) % 2 ^ (s.qp n).cqLog ≤
      ((s.qp n).cqTail + 2 ^ (s.qp n).cqLog - (s.qp n).cqHead) % 2 ^ (s.qp n).cqLog) :
    s.cqDoorbell f l v = (s.setQp n { s.qp n with cqHead := v }).pumpQp n := by
  simp only [State.cqDoorbell, hqp]
  exact if_neg (not_or_intro (Nat.not_le.mpr hv) (Nat.not_lt.mpr hbehind))

end

/-! ### Descriptor fetches (R434, R451) -/

section
variable {n : Nat} {bytes : List Nat} (hfetching : (s.qp n).fetching ≠ 0) (hstate : (s.qp n).state ≠ .draining)
include hfetching hstate

theorem descriptorFetch_of_all (hall : bytes.length = 64 * (s.qp n).fetching) : s.descriptorFetch n 0 bytes =
    (s.setQp n { s.qp n with
      fetching := 0, head := ((s.qp n).head + (s.qp n).fetching) % 2 ^ (s.qp n).sqLog,
      inProg := (s.qp n).inProg ++ descsOf (2 ^ (s.qp n).sqLog) bytes (s.qp n).fetching (s.qp n).head }).pumpQp n :=
  (if_neg hfetching).trans ((if_neg hstate).trans ((if_neg (not_not_intro rfl)).trans (if_neg (not_not_intro hall))))

theorem descriptorFetch_failed {st : Nat} (hfail : st ≠ 0) (hanswered : st ≠ 7) : s.descriptorFetch n st bytes =
    (((s.setQp n { s.qp n with fetching := 0, freeze := some { (s.qp n).freeze.getD {} with at_ := s.ns } }).freezeQp n).raise 94
      { qp := some n, hd := (s.qp n).fn.bind s.fnHd }) := by
  refine (if_neg hfetching).trans ((if_neg hstate).trans ((if_pos hfail).trans ?_))
  simp only [if_neg hanswered]
  cases (s.qp n).fn <;> rfl

end

/-! ### WRITE, READ and SEND (R437 to R441) -/

theorem length_pos_of_moveOk {d : Desc} {ack : Bool} {most : Nat} (h : d.moveOk ack most = true) : 0 < d.length := by
  simp only [Desc.moveOk, Bool.and_eq_true, decide_eq_true_eq] at h
  obtain ⟨⟨⟨⟨⟨⟨⟨-, hlength⟩, -⟩, -⟩, -⟩, -⟩, -⟩, -⟩ := h
  exact hlength

section
variable {q i : Nat} {d : Desc} (hready : Safety.ready s q i d = true)
include hready

theorem ringWrite_of_legal (hasked : d.asked = 0) (hform : d.moveOk true 16777216 = true) : s.ringWrite q i = s.nextHostRead q d :=
  withDesc_legal hready hform (if_neg (not_not_intro hasked))

theorem ringRead_of_legal (hform : d.moveOk false 16777216 = true) : s.ringRead q i = s.readPieces q i 4098 :=
  withDesc_legal hready hform rfl

theorem send_of_legal {tq : Nat} (hasked : d.asked = 0) (hform : d.moveOk false 4096 = true) (hshape : s.sendShape d = true)
    (hmay : s.maySend ((s.qp q).fn.getD 0) d.target = true) (htarget : s.localQp d.target (bits d.dest 8 0) = some tq)
    (hactive : (s.qp tq).state = .active) (harea : (s.qp tq).dataBase ≠ 0) (hroom : (s.qp tq).cqFull = false)
    (hfits : d.length ≤ 2 ^ (s.qp tq).dataLog) : s.send q i = s.nextHostRead q d := by
  have hbegun : ¬ d.asked ≠ 0 := not_not_intro hasked
  have hlegal : (d.moveOk false 4096 && s.sendShape d) = true := by rw [hform, hshape]; rfl
  have htaken : ¬ ((s.qp tq).state ≠ .active ∨ (s.qp tq).dataBase = 0 ∨ (s.qp tq).cqFull = true) := by simp [hactive, harea, hroom]
  refine (withDesc_ready hready).trans ((if_neg hbegun).trans ((ite_not_of_true hlegal).trans ((ite_not_of_true hmay).trans ?_)))
  simp only [htarget, if_neg htaken, if_neg (Nat.not_lt.mpr hfits)]

/-! ### Data from host memory (R439, R441, R446) -/

/-- A descriptor after the bytes it awaited. -/
def taken (d : Desc) (poison : Bool) (data : List Nat) : Desc :=
  { d with buf := d.buf ++ data, hostReads := 0, poisoned := d.poisoned || poison }

theorem hostReadDone_of_mover (hmover : d.opcode = 0x01 ∨ d.opcode = 0x03) (st : Nat) (poison : Bool) (data : List Nat) :
    s.hostReadDone q i st poison data = s.hostData q i st poison data :=
  (withDesc_ready hready).trans (if_pos hmover)

section
variable (hreads : d.hostReads ≠ 0) (poison : Bool) (data : List Nat)
include hreads

theorem hostData_failed {st : Nat} (hfail : st ≠ 0) : s.hostData q i st poison data = s.hostReadFailed q d st :=
  (withDesc_ready hready).trans ((if_neg hreads).trans (if_pos hfail))

section
variable {data} (hawaited : data.length = d.awaited)
include hawaited

theorem hostData_send (hsend : d.opcode = 0x03) (hall : d.length ≤ (taken d poison data).buf.length) :
    s.hostData q i 0 poison data = (s.setDesc q (taken d poison data)).sendCopy q (taken d poison data) :=
  (withDesc_ready hready).trans ((if_neg hreads).trans ((if_neg (not_not_intro rfl)).trans
    ((if_neg (not_not_intro hawaited)).trans ((if_pos hsend).trans (if_pos hall)))))

theorem hostData_write (hwrite : d.opcode = 0x01)
    (hended : ∀ e, ((((s.setDesc q (taken d poison data)).pumpWrites q 64).qp q).desc i) = some e → e.outcome.isSome = true) :
    s.hostData q i 0 poison data = (s.setDesc q (taken d poison data)).pumpWrites q 64 := by
  refine (withDesc_ready hready).trans ((if_neg hreads).trans ((if_neg (not_not_intro rfl)).trans
    ((if_neg (not_not_intro hawaited)).trans ((if_neg (by omega)).trans ?_))))
  dsimp only
  split
  next e he => exact if_pos (hended e he)
  next => rfl

end

end

end

/-! ### Timeouts of the movers (R439, R440) -/

section
variable {tag q i : Nat} {e : NpEnt} {d : Desc} (hentry : s.np tag = some e) (howner : e.owner = .desc q i)
  (hdue : e.issued + s.npTimeout ≤ s.ns)
include hentry howner hdue

theorem dueEntry_of_overdue : s.dueEntry tag = some (e, q, i) := by
  simp only [State.dueEntry, hentry, howner, if_pos hdue]

variable (hdesc : ((s.freeNpOf (· == .desc q i)).qp q).desc i = some d) (hopen : d.outcome = none)
include hdesc hopen

theorem writeAckTimeout_of_overdue (htag : npTotal ≤ tag) :
    s.writeAckTimeout tag = (s.freeNpOf (· == .desc q i)).finish q d stTIMEOUT d.done := by
  simp only [State.writeAckTimeout, dueEntry_of_overdue hentry howner hdue, if_neg (Nat.not_lt.mpr htag), hdesc, hopen, Option.isSome_none,
    Bool.false_eq_true, if_false]

theorem readTimeout_of_overdue (htag : tag < npTotal) :
    s.readTimeout tag = (s.freeNpOf (· == .desc q i)).finish q d stTIMEOUT 0 := by
  simp only [State.readTimeout, dueEntry_of_overdue hentry howner hdue, if_neg (Nat.not_le.mpr htag), hdesc, hopen, Option.isSome_none,
    Bool.false_eq_true, if_false]

end

end

/-! ### The rows of the rings -/

section
variable {s : State} {t : Nat} (hup : (s.advance t).portsUp = true)
include hup

theorem exec_qpEnable (f : Nat) : exec (.qpEnable t f) s = .next (settle ((s.advance t).qpEnable f)) := done_whenUp hup

theorem exec_qpDisable (f : Nat) : exec (.qpDisable t f) s = .next (settle ((s.advance t).qpDisable f)) := done_whenUp hup

theorem exec_qpDrainDone (n : Nat) : exec (.qpDrainDone t n) s = .next (settle ((s.advance t).qpDrainDone n)) := done_whenUp hup

theorem exec_sqDoorbell (f l v : Nat) :
    exec (.sqDoorbell t f l v) s = .next (settle (((s.advance t).doorbellWake f l).sqDoorbell f l v)) := done_whenUp hup

theorem exec_cqDoorbell (f l v : Nat) :
    exec (.cqDoorbell t f l v) s = .next (settle (((s.advance t).doorbellWake f l).cqDoorbell f l v)) := done_whenUp hup

theorem exec_descriptorFetch (n st : Nat) (bytes : List Nat) :
    exec (.descriptorFetch t n st bytes) s = .next (settle (((s.advance t).eccQp n).descriptorFetch n st bytes)) := done_whenUp hup

theorem exec_writeAckTimeout (tag : Nat) :
    exec (.writeAckTimeout t tag) s = .next (settle ((s.advance t).writeAckTimeout tag)) := done_whenUp hup

theorem exec_readTimeout (tag : Nat) : exec (.readTimeout t tag) s = .next (settle ((s.advance t).readTimeout tag)) := done_whenUp hup

theorem exec_hostReadCompletion (q i st : Nat) (poison : Bool) (data : List Nat) :
    exec (.hostReadCompletion t q i st poison data) s = .next (settle ((s.advance t).hostReadDone q i st poison data)) := done_whenUp hup

section
variable {q i : Nat} {d : Desc} (hready : Safety.ready (s.advance t) q i d = true)
include hready

theorem exec_ringWrite (hop : d.opcode = 0x01) :
    exec (.ringWrite t q i) s = .next (settle ((s.advance t).ringWrite q i)) := done_whenUp_onOp hup hready (beq_iff_eq.mpr hop)

theorem exec_ringRead (hop : d.opcode = 0x02) :
    exec (.ringRead t q i) s = .next (settle ((s.advance t).ringRead q i)) := done_whenUp_onOp hup hready (beq_iff_eq.mpr hop)

theorem exec_send (hop : d.opcode = 0x03) :
    exec (.send t q i) s = .next (settle ((s.advance t).send q i)) := done_whenUp_onOp hup hready (beq_iff_eq.mpr hop)

end

end

/-- Settles O36: what each QP command, doorbell and fetch of legal form does to the QP. -/
theorem ringCommandsComplete : Obligations.RingCommandsComplete := by
  unfold Obligations.RingCommandsComplete
  refine ⟨fun s t f n => ?command, fun s t n => ?drained, fun s t f l v n => ?doorbell, fun s t n st bytes => ?fetch⟩
  case command =>
    intro a q hup hreset hsel
    refine ⟨fun hstate hsize hsq hcq hfreeze => ?_, fun hstate => ?_⟩
    · rw [exec_qpEnable hup, qpEnable_of_configured hsel hreset hstate hsize hsq hcq hfreeze]
    · rw [exec_qpDisable hup, qpDisable_of_running hsel hreset hstate]
  case drained =>
    intro a b hup hstate hreset hidle
    rw [exec_qpDrainDone hup, qpDrainDone_of_idle hstate hreset hidle]
  case doorbell =>
    intro a q hup hqp
    refine ⟨fun hv hahead => ?_, fun hv hbehind => ?_⟩
    · rw [exec_sqDoorbell hup, sqDoorbell_of_legal hqp hv hahead]
    · rw [exec_cqDoorbell hup, cqDoorbell_of_legal hqp hv hbehind]
  case fetch =>
    intro a q hup hfetching hstate
    refine ⟨fun hall => ?_, fun hfail hanswered => ?_⟩
    · rw [exec_descriptorFetch hup, descriptorFetch_of_all hfetching hstate hall]
    · rw [exec_descriptorFetch hup, descriptorFetch_failed hfetching hstate hfail hanswered]

/-- Settles O37: how each mover's descriptor starts, takes its data and runs out of time (the first page is that of log entry 88,
the split of tags that of log entry 23). -/
theorem dataMoversComplete : Obligations.DataMoversComplete := by
  unfold Obligations.DataMoversComplete
  refine ⟨fun s t q i d => ?start, fun s t q i d => ?read, fun s t q i st poison data d => ?data, fun s t tag q i e d => ?timeout⟩
  case start =>
    intro a n b hup hready hidx hasked hreads hheld hallowed
    subst hidx
    have hpage (hsome : 0 < d.length) : a.nextHostRead q d = b := nextHostRead_first hasked hreads hsome hheld hallowed
    refine ⟨fun hop hform => ?_, fun tq hop hform hshape hmay htarget hactive harea hroom hfits => ?_⟩
    · rw [exec_ringWrite hup hready hop, ringWrite_of_legal hready hasked hform, hpage (length_pos_of_moveOk hform)]
    · rw [exec_send hup hready hop, send_of_legal hready hasked hform hshape hmay htarget hactive harea hroom hfits,
        hpage (length_pos_of_moveOk hform)]
  case read =>
    intro a hup hready hop hform
    rw [exec_ringRead hup hready hop, ringRead_of_legal hready hform]
  case data =>
    intro a x b hup hready hreads
    refine ⟨fun hop hawaited hall => ?_, fun hop hawaited hended => ?_, fun hop hfail => ?_⟩
    · rw [exec_hostReadCompletion hup, hostReadDone_of_mover hready (.inr hop), hostData_send hready hreads poison hawaited hop hall]
      rfl
    · rw [exec_hostReadCompletion hup, hostReadDone_of_mover hready (.inl hop), hostData_write hready hreads poison hawaited hop hended]
      rfl
    · rw [exec_hostReadCompletion hup, hostReadDone_of_mover hready hop, hostData_failed hready hreads poison data hfail]
  case timeout =>
    intro a b hup hentry howner hdue hdesc hopen
    refine ⟨fun htag => ?_, fun htag => ?_⟩
    · rw [exec_writeAckTimeout hup, writeAckTimeout_of_overdue hentry howner hdue hdesc hopen htag]
    · rw [exec_readTimeout hup, readTimeout_of_overdue hentry howner hdue hdesc hopen htag]

end Sys2Proof.Proofs
end

section
/-! PROOFS of the statement of 14_virtual_functions about resources and dirty-page logs (R457 to R474). -/

namespace Sys2Proof.Proofs
open Sys2Proof.Machine Sys2Proof.Laws

section
variable {s : State} {q i : Nat} {d : Desc}

/-! ### Counts of a VF (R458, R459) -/

theorem setVectors_ok {v n : Nat} (hused : (s.fn v).qps.any (fun g => (s.qp g).state != .disabled && decide (n ≤ (s.qp g).vector)) = false)
    (hroom : n ≤ s.rd RING_POOL_FREE_VECTORS + (s.fn v).vectors) :
    s.setVectors v n = (stOK, (s.setFn v { s.fn v with
        vectors := n, msix := (s.fn v).msix.filter (fun e => decide (e.1 < n)) }).wr RING_POOL_FREE_VECTORS
      (s.rd RING_POOL_FREE_VECTORS + (s.fn v).vectors - n)) :=
  (if_neg (Bool.eq_false_iff.mp hused)).trans (if_neg (Nat.not_lt.mpr hroom))

/-! ### Dirty-page logs (R472, R474) -/

/-- A log of which a SYNC merges the bitmap that was active. -/
def syncStarted (l : DirtyLog) (who : Nat × Nat) : DirtyLog :=
  if l.sel then { l with sel := false, syncing := some true, waiter := some who, newA := 0 }
  else { l with sel := true, syncing := some false, waiter := some who, newB := 0 }

theorem syncStarted_eq (l : DirtyLog) (who : Nat × Nat) : syncStarted l who =
    if l.sel then { l with sel := !l.sel, syncing := some l.sel, waiter := some who, newA := 0 }
    else { l with sel := !l.sel, syncing := some l.sel, waiter := some who, newB := 0 } := by
  unfold syncStarted
  cases l.sel <;> rfl

/-- A read word of a bitmap joins the host's and is written back; the pages new to the host are counted. -/
def wordMerged (s : State) (v w host : Nat) (b : Bool) : State :=
  let l := (s.fn v).log
  let all := SMap.get (l.cache b) w 0 ||| host
  let n := popcount64 all - popcount64 host
  let c := l.setCache b (SMap.set (l.cache b) w 0 0)
  let d := if b then { c with newB := c.newB + n } else { c with newA := c.newA + n }
  (s.setLog v { d with written := SMap.set d.written w 2 0 }).hostWrite (s.logPf v) (l.addr b w) (leBytes 8 all)

section
variable {v w host : Nat} {b : Bool} (hsync : (s.fn v).log.syncing = some b)
include hsync

theorem dirtyMergeDone_read (hstage : SMap.get (s.fn v).log.written w 0 = 1) :
    s.dirtyMergeDone v w false 0 host = wordMerged s v w host b := by
  simp only [State.dirtyMergeDone, hsync, hstage]
  rfl

theorem dirtyMergeDone_written (hstage : SMap.get (s.fn v).log.written w 0 = 2) : s.dirtyMergeDone v w true 0 host =
    ((s.setLog v { (s.fn v).log with written := SMap.set (s.fn v).log.written w 0 0 }).mergeIssue v).mergeEnd v := by
  simp only [State.dirtyMergeDone, hsync, hstage]
  rfl

end

/-! ### The VF_RESOURCES descriptors (R457 to R464, R474) -/

section
variable (hready : Safety.ready s q i d = true) (hform : d.vfOk = true) (hreset : (s.fn (bytesAt d.img 42 43)).reset = none)
include hready hform hreset

/-- An operation of legal form on a VF that is not resetting is performed (R463). -/
theorem vfOp_of_legal {ok : Desc → Bool} {f : Desc → Nat → State} (hok : ok d = true) :
    s.vfOp q i ok f = f d (bytesAt d.img 42 43) := by
  refine (withDesc_legal hready (by simp [hform, hok]) rfl).trans (if_neg ?_)
  simp [hreset]

theorem vfQps_ok {u : State} (hcount : d.vfValue ≤ 512) (hset : s.setQps (bytesAt d.img 42 43) d.vfValue = (stOK, u)) :
    s.vfQps q i = u.finish q d stOK := by
  refine (vfOp_of_legal hready hform hreset (decide_eq_true hcount)).trans ?_
  rw [hset]

theorem vfVectors_ok (hcount : d.vfValue ≤ 2048)
    (hused : (s.fn (bytesAt d.img 42 43)).qps.any (fun g => (s.qp g).state != .disabled && decide (d.vfValue ≤ (s.qp g).vector)) = false)
    (hroom : d.vfValue ≤ s.rd RING_POOL_FREE_VECTORS + (s.fn (bytesAt d.img 42 43)).vectors) :
    s.vfVectors q i = ((s.setFn (bytesAt d.img 42 43) { s.fn (bytesAt d.img 42 43) with
        vectors := d.vfValue, msix := (s.fn (bytesAt d.img 42 43)).msix.filter (fun e => decide (e.1 < d.vfValue)) }).wr
      RING_POOL_FREE_VECTORS (s.rd RING_POOL_FREE_VECTORS + (s.fn (bytesAt d.img 42 43)).vectors - d.vfValue)).finish q d stOK := by
  refine (vfOp_of_legal hready hform hreset (decide_eq_true hcount)).trans ?_
  rw [setVectors_ok hused hroom]

theorem vfRegions_of_legal (hvalue : d.vfValue / 512 = 0) (hsome : 1 ≤ d.regCount) (hrange : d.regFirst + d.regCount ≤ 16) (hasked : d.asked = 0)
    (hheld : s.qpHeld q = false) (hallowed : s.moverBad (s.qp q) spHost false d.source (16 * d.regCount) = none) :
    s.vfRegions q i = (s.setDesc q { d with asked := 16 * d.regCount, hostReads := 1 }).hostReads q d.source
      (16 * d.regCount) (.desc q d.idx) := by
  refine (vfOp_of_legal hready hform hreset (by simp [hvalue, hsome, hrange])).trans ((if_neg (not_not_intro hasked)).trans
    ((if_neg (Bool.eq_false_iff.mp hheld)).trans ?_))
  dsimp only
  rw [hallowed]

theorem vfMeter_of_legal (hzero : bits d.vfValue 30 18 = 0) : s.vfMeter q i =
    (s.setFn (bytesAt d.img 42 43) { s.fn (bytesAt d.img 42 43) with meter := bits d.vfValue 17 0, meterEn := bit d.vfValue 31 }).finish
      q d stOK :=
  vfOp_of_legal hready hform hreset (beq_iff_eq.mpr hzero)

theorem vfCoalesce_of_legal (hlo : 1 ≤ d.vfValue) (hhi : d.vfValue ≤ 255) : s.vfCoalesce q i =
    (s.setFn (bytesAt d.img 42 43) { s.fn (bytesAt d.img 42 43) with coalesce := d.vfValue }).finish q d stOK :=
  vfOp_of_legal hready hform hreset (by simp [hlo, hhi])

theorem vfRead_of_area (hvalue : d.vfValue = 0) (harea : (s.qp q).dataBase ≠ 0) : s.vfRead q i =
    s.finish q d stOK 0 (some (leBytes 2 (s.fn (bytesAt d.img 42 43)).qps.length ++ leBytes 2 (s.fn (bytesAt d.img 42 43)).vectors ++
      leBytes 4 ((s.fn (bytesAt d.img 42 43)).meter + b2n (s.fn (bytesAt d.img 42 43)).meterEn * 2 ^ 31) ++
      [(s.fn (bytesAt d.img 42 43)).coalesce, b2n (s.on VF_STATE_ENABLED (bytesAt d.img 42 43)) +
        4 * b2n (s.fn (bytesAt d.img 42 43)).log.logging + 8 * b2n (s.fn (bytesAt d.img 42 43)).log.sel] ++ List.replicate 6 0 ++
      leBytes 8 (s.fn (bytesAt d.img 42 43)).log.base ++ [(s.fn (bytesAt d.img 42 43)).log.span] ++ List.replicate 7 0)) := by
  refine (vfOp_of_legal hready hform hreset (by simp [hvalue])).trans ((finishData_of_area _ harea).trans ?_)
  rw [hreset]
  rfl

theorem dirtyStart_of_idle (hvalue : d.vfValue = 0) (hlo : 27 ≤ byteAt d.img 56) (hhi : byteAt d.img 56 ≤ 48)
    (hbase : bytesAt d.img 48 55 % 2 ^ byteAt d.img 56 = 0) (hmapA : d.source % 4096 = 0) (hmapB : d.dest % 4096 = 0)
    (hidle : (s.fn (bytesAt d.img 42 43)).log.logging = false) : s.dirtyStart q i =
    (s.setLog (bytesAt d.img 42 43)
      { mapA := d.source, mapB := d.dest, base := bytesAt d.img 48 55, span := byteAt d.img 56, logging := true }).finish q d stOK :=
  (vfOp_of_legal hready hform hreset (by simp [hvalue, hlo, hhi, hbase, hmapA, hmapB])).trans (if_neg (Bool.eq_false_iff.mp hidle))

section
variable (hvalue : d.vfValue = 0) (hfirst : (s.fn (bytesAt d.img 42 43)).log.waiter = none)
  (hlogging : (s.fn (bytesAt d.img 42 43)).log.logging = true) (hfree : (s.fn (bytesAt d.img 42 43)).log.syncing = none)
include hvalue hfirst hlogging hfree

theorem dirtySync_of_logging : s.dirtySync q i =
    ((s.setLog (bytesAt d.img 42 43) (syncStarted (s.fn (bytesAt d.img 42 43)).log (q, i))).mergeIssue (bytesAt d.img 42 43)).mergeEnd
      (bytesAt d.img 42 43) := by
  rw [syncStarted_eq]
  refine (vfOp_of_legal hready hform hreset (by simp [hvalue])).trans ?_
  simp only [hfirst, hlogging, hfree, Option.isSome_none, Bool.not_true, Bool.or_self, Bool.false_eq_true, reduceCtorEq, if_false]

theorem dirtyStop_of_logging : s.dirtyStop q i =
    ((s.setLog (bytesAt d.img 42 43) { (s.fn (bytesAt d.img 42 43)).log with
      syncing := some (s.fn (bytesAt d.img 42 43)).log.sel, stopping := true, waiter := some (q, i) }).mergeIssue
        (bytesAt d.img 42 43)).mergeEnd (bytesAt d.img 42 43) := by
  refine (vfOp_of_legal hready hform hreset (by simp [hvalue])).trans ?_
  simp only [hfirst, hlogging, hfree, Option.isSome_none, Bool.not_true, Bool.or_self, Bool.false_eq_true, reduceCtorEq, if_false]

end

end

end

/-! ### The rows of VF resources and logs -/

section
variable {s : State} {t : Nat} (hup : (s.advance t).portsUp = true)
include hup

theorem exec_dirtyMergeDone (v w : Nat) (write : Bool) (st host : Nat) :
    exec (.dirtyMergeDone t v w write st host) s = .next (settle ((s.advance t).dirtyMergeDone v w write st host)) := done_whenUp hup

section
variable {q i : Nat} {d : Desc} (hready : Safety.ready (s.advance t) q i d = true)
include hready

theorem exec_vfQps (hop : Desc.isOp 0x18 1 d = true) :
    exec (.vfQps t q i) s = .next (settle ((s.advance t).vfQps q i)) := done_whenUp_onOp hup hready hop

theorem exec_vfVectors (hop : Desc.isOp 0x18 2 d = true) :
    exec (.vfVectors t q i) s = .next (settle ((s.advance t).vfVectors q i)) := done_whenUp_onOp hup hready hop

theorem exec_vfRegions (hop : Desc.isOp 0x18 3 d = true) :
    exec (.vfRegions t q i) s = .next (settle ((s.advance t).vfRegions q i)) := done_whenUp_onOp hup hready hop

theorem exec_vfMeter (hop : Desc.isOp 0x18 4 d = true) :
    exec (.vfMeter t q i) s = .next (settle ((s.advance t).vfMeter q i)) := done_whenUp_onOp hup hready hop

theorem exec_vfCoalesce (hop : Desc.isOp 0x18 5 d = true) :
    exec (.vfCoalesce t q i) s = .next (settle ((s.advance t).vfCoalesce q i)) := done_whenUp_onOp hup hready hop

theorem exec_dirtyStart (hop : Desc.isOp 0x18 6 d = true) :
    exec (.dirtyStart t q i) s = .next (settle ((s.advance t).dirtyStart q i)) := done_whenUp_onOp hup hready hop

theorem exec_dirtySync (hop : Desc.isOp 0x18 7 d = true) :
    exec (.dirtySync t q i) s = .next (settle ((s.advance t).dirtySync q i)) := done_whenUp_onOp hup hready hop

theorem exec_dirtyStop (hop : Desc.isOp 0x18 8 d = true) :
    exec (.dirtyStop t q i) s = .next (settle ((s.advance t).dirtyStop q i)) := done_whenUp_onOp hup hready hop

theorem exec_vfResourcesRead (hop : Desc.isOp 0x18 9 d = true) :
    exec (.vfResourcesRead t q i) s = .next (settle ((s.advance t).vfRead q i)) := done_whenUp_onOp hup hready hop

end

end

/-- Settles O38: each VF_RESOURCES operation of legal form, and the two halves of a bitmap word's merge. -/
theorem vfResourcesComplete : Obligations.VfResourcesComplete := by
  unfold Obligations.VfResourcesComplete
  refine ⟨fun s t q i d => ?descriptor, fun s t v w host b => ?merge⟩
  case descriptor =>
    intro a v x l hup hready hform hreset
    refine ⟨?qps, ?vectors, ?regions, ?meter, ?coalesce, ?start, fun hvalue hfirst hlogging hfree => ⟨?sync, ?stop⟩, ?read⟩
    case qps =>
      intro hop hcount u hset
      rw [exec_vfQps hup hready hop, vfQps_ok hready hform hreset hcount hset]
    case vectors =>
      intro hop hcount hused hroom
      rw [exec_vfVectors hup hready hop, vfVectors_ok hready hform hreset hcount hused hroom]
    case regions =>
      intro hop hvalue hsome hrange hasked hheld hallowed
      rw [exec_vfRegions hup hready hop, vfRegions_of_legal hready hform hreset hvalue hsome hrange hasked hheld hallowed]
    case meter =>
      intro hop hzero
      rw [exec_vfMeter hup hready hop, vfMeter_of_legal hready hform hreset hzero]
    case coalesce =>
      intro hop hlo hhi
      rw [exec_vfCoalesce hup hready hop, vfCoalesce_of_legal hready hform hreset hlo hhi]
    case start =>
      intro hop hvalue hlo hhi hbase hmapA hmapB hidle
      rw [exec_dirtyStart hup hready hop, dirtyStart_of_idle hready hform hreset hvalue hlo hhi hbase hmapA hmapB hidle]
    case sync =>
      intro hop
      rw [exec_dirtySync hup hready hop, dirtySync_of_logging hready hform hreset hvalue hfirst hlogging hfree]
      rfl
    case stop =>
      intro hop
      rw [exec_dirtyStop hup hready hop, dirtyStop_of_logging hready hform hreset hvalue hfirst hlogging hfree]
    case read =>
      intro hop hvalue harea
      rw [exec_vfResourcesRead hup hready hop, vfRead_of_area hready hform hreset hvalue harea]
  case merge =>
    intro a l all n c d hup hsync
    refine ⟨fun hstage => ?_, fun hstage => ?_⟩
    · rw [exec_dirtyMergeDone hup, dirtyMergeDone_read hsync hstage]
      rfl
    · rw [exec_dirtyMergeDone hup, dirtyMergeDone_written hsync hstage]

end Sys2Proof.Proofs
end

section
/-! PROOFS of the statement of 14_virtual_functions about enables and resets (R453 to R470). -/

namespace Sys2Proof.Proofs
open Sys2Proof.Machine Sys2Proof.Laws

section
variable {s : State}

/-! ### VF enables (R453, R454) -/

/-- The VFs that a PF's NumVFs names, first to last. -/
def numberedVfs (s : State) (n : Nat) : List Nat :=
  (List.range (s.fn (pfIndex n)).numVfs).map (fun i => s.rd RING_PF_VF_VF_BASE n + i)

theorem vfEnable_of_legal {n : Nat} (hoff : (s.fn (pfIndex n)).vfEnable = false) (hsome : (s.fn (pfIndex n)).numVfs ≠ 0)
    (hlimit : (s.fn (pfIndex n)).numVfs ≤ s.rd RING_PF_VF_VF_LIMIT n) :
    s.vfEnable n = ((numberedVfs s n).foldl (fun (u : State) v => (u.setFn v { u.fn v with present := true }).setOn VF_STATE_ENABLED v)
      (s.setFn (pfIndex n) { s.fn (pfIndex n) with vfEnable := true })).countVfs (numberedVfs s n).length 0 :=
  (if_neg (Bool.eq_false_iff.mp hoff)).trans (if_neg (by omega))

theorem vfEnableClear_of_enabled {n : Nat} (hon : (s.fn (pfIndex n)).vfEnable = true) :
    s.vfEnableClear n = ((s.enabledVfs n).foldl (fun (u : State) v =>
        ((u.setFn v { u.fn v with present := false }).wr VF_STATE_ENABLED 0 v).fnReset v false none)
      (s.setFn (pfIndex n) { s.fn (pfIndex n) with vfEnable := false })).countVfs 0 (s.enabledVfs n).length :=
  ite_not_of_true hon

/-! ### The start of a VF's reset (R466, R467) -/

/-- A VF whose reset has just started. -/
def resetStarted (s : State) (f : Nat) (flr : Bool) (who : List (Nat × Nat)) : State :=
  let x := s.fn f
  let r : VfReset := { at_ := s.ns, qp := who, flr := flr, aborted := s.abortCount f }
  let y : Fn := { x with reset := some r, msix := (x.msix.map (fun e => (e.1, { e.2 with pending := false }))).filter (fun e => e.2 != {}) }
  (x.qps.foldl (fun (u : State) n => u.drainQp n) (((s.setFn f y).clearFnCfg f).setOn VF_STATE_RESETTING f)).flushSub f

theorem fnReset_of_idle {f : Nat} (hvf : f < 2048) (hidle : (s.fn f).reset = none) (flr : Bool) (who : Option (Nat × Nat)) :
    s.fnReset f flr who = resetStarted s f flr who.toList := by
  unfold State.fnReset
  dsimp only
  rw [hidle]
  simp only [if_pos hvf]
  rfl

theorem flr_of_present {f : Nat} (hvf : f < 2048) (hidle : (s.fn f).reset = none) (hpresent : (s.fn f).present = true) :
    s.flr f = resetStarted s f true [] :=
  (if_pos hvf).trans ((if_pos hpresent).trans (fnReset_of_idle hvf hidle true none))

theorem vfReset_of_legal {q i : Nat} {d : Desc} (hready : Safety.ready s q i d = true) (hvf : bytesAt d.img 42 43 < 2048)
    (hidle : (s.fn (bytesAt d.img 42 43)).reset = none) (hflags : d.flagsOk = true) (hlow : d.zero 8 41 = true) (hhigh : d.zero 44 63 = true) :
    s.vfReset q i = resetStarted s (bytesAt d.img 42 43) false [(q, i)] := by
  refine (withDesc_ready hready).trans ?_
  simp only [hidle, Bool.false_eq_true, if_false]
  rw [guardDesc_true (by simp [hflags, hlow, hhigh, hvf]), fnReset_of_idle hvf hidle]
  rfl

/-! ### The end of a VF's reset (R468, R470) -/

section
variable {f : Nat} {r : VfReset} (hreset : (s.fn f).reset = some r)
include hreset

/-- What the QPs of a function had outstanding is dropped. -/
def readsDropped (s : State) (f : Nat) : State :=
  (s.fn f).qps.foldl (fun (u : State) n => (u.freeNpOf (ownedBy n)).setQp n { u.qp n with fetching := 0, inProg := [] }) s

theorem vfResetSquash_of_overdue (hfirst : r.squashed = false) (hbusy : s.fnBusy f = true)
    (hdue : r.at_ + s.rd RING_RESET_CFG_NP_TIMEOUT * 10000 ≤ s.ns) : s.vfResetSquash f =
    ((readsDropped s f).setFn f { (readsDropped s f).fn f with reset := some { r with squashed := true } }).raise 160 { arg := f } := by
  have hgo : ¬ (r.squashed || !s.fnBusy f || decide (s.ns < r.at_ + s.rd RING_RESET_CFG_NP_TIMEOUT * 10000)) = true := by
    simp [hfirst, hbusy, hdue]
  simp only [State.vfResetSquash, hreset, if_neg hgo]
  rfl

/-- The QPs of a function disabled. -/
def qpsDisabled (s : State) (f : Nat) : State := (s.fn f).qps.foldl (fun (u : State) n => u.endDrain n) s

theorem vfResetComplete_of_idle (hread : s.fnBusy f = false) (hposted : s.fnPosted f = false) (hvf : f < 2048) : s.vfResetComplete f =
    r.qp.foldl (fun (u : State) w => u.withDesc w.1 w.2 (fun d => u.finish w.1 d stOK r.aborted))
      (((qpsDisabled s f).setFn f { (qpsDisabled s f).fn f with reset := none }).wr VF_STATE_RESETTING 0 f) := by
  have hgo : ¬ (s.fnBusy f || s.fnPosted f) = true := by simp [hread, hposted]
  simp only [State.vfResetComplete, hreset, if_neg hgo, if_pos hvf]
  rfl

end

end

/-! ### The rows of VF enables and resets -/

section
variable {s : State} {t : Nat} (hup : (s.advance t).portsUp = true)
include hup

theorem exec_vfEnable (n : Nat) : exec (.vfEnable t n) s = .next (settle ((s.advance t).vfEnable n)) := done_whenUp hup

theorem exec_vfEnableClear (n : Nat) : exec (.vfEnableClear t n) s = .next (settle ((s.advance t).vfEnableClear n)) := done_whenUp hup

theorem exec_functionLevelReset (f : Nat) : exec (.functionLevelReset t f) s = .next (settle ((s.advance t).flr f)) := done_whenUp hup

theorem exec_vfReset {q i : Nat} {d : Desc} (hready : Safety.ready (s.advance t) q i d = true) (hop : d.opcode = 0x19) :
    exec (.vfReset t q i) s = .next (settle ((s.advance t).vfReset q i)) := done_whenUp_onOp hup hready (beq_iff_eq.mpr hop)

theorem exec_vfResetSquash (f : Nat) : exec (.vfResetSquash t f) s = .next (settle ((s.advance t).vfResetSquash f)) := done_whenUp hup

theorem exec_vfResetComplete (f : Nat) :
    exec (.vfResetComplete t f) s = .next (settle ((s.advance t).vfResetComplete f)) := done_whenUp hup

end

/-- Settles O39: enables and removals of a PF's VFs, the two ways a VF's reset starts, and its squash and end. -/
theorem vfEnablesAndResetsComplete : Obligations.VfEnablesAndResetsComplete := by
  unfold Obligations.VfEnablesAndResetsComplete
  refine ⟨fun s t n => ?enable, fun s t f => ?start, fun s t f r => ?stop⟩
  case enable =>
    intro a x hup
    refine ⟨fun hoff hsome hlimit => ?_, fun hon => ?_⟩
    · rw [exec_vfEnable hup, vfEnable_of_legal hoff hsome hlimit]
      rfl
    · rw [exec_vfEnableClear hup, vfEnableClear_of_enabled hon]
      rfl
  case start =>
    intro a x start hup hvf hidle
    refine ⟨fun hpresent => ?_, fun q i d hready hop hnamed hflags hlow hhigh => ?_⟩
    · rw [exec_functionLevelReset hup, flr_of_present hvf hidle hpresent]
      rfl
    · subst hnamed
      rw [exec_vfReset hup hready hop, vfReset_of_legal hready hvf hidle hflags hlow hhigh]
      rfl
  case stop =>
    intro a x hup hreset
    refine ⟨fun hfirst hbusy hdue => ?_, fun hread hposted hvf => ?_⟩
    · rw [exec_vfResetSquash hup, vfResetSquash_of_overdue hreset hfirst hbusy hdue]
      rfl
    · rw [exec_vfResetComplete hup, vfResetComplete_of_idle hreset hread hposted hvf]
      rfl

end Sys2Proof.Proofs
end

section
/-! PROOFS of the statement of 18_reset_and_startup about reset sources and start-up (R569 to R585, R641, R646). -/

namespace Sys2Proof.Proofs
open Sys2Proof.Machine Sys2Proof.Laws

section
variable {s : State}

/-! ### Triggers of a device reset (R569 to R574, R578) -/

/-- A device reset is due, with source `src` recorded. -/
def resetDueBy (s : State) (src : Nat) (cold : Bool) : State :=
  { s with rst := { s.rst with
    due := some (cold || s.rst.due.getD false), sources := setBit s.rst.sources src true, cold := s.rst.cold || cold } }

theorem trigger_of_counted (hphase : s.rst.phase ≠ .safeHold) (src : Nat) (cold : Bool) : s.trigger src cold = resetDueBy s src cold :=
  if_neg fun h => hphase h.1

/-- A cold device reset is due, with source `src` recorded. -/
def coldDueBy (s : State) (src : Nat) : State :=
  { s with rst := { s.rst with due := some true, sources := setBit s.rst.sources src true, cold := true } }

theorem trigger_cold (hphase : s.rst.phase ≠ .safeHold) (src : Nat) : s.trigger src true = coldDueBy s src := by
  rw [trigger_of_counted hphase, resetDueBy, Bool.or_true]
  rfl

section
variable (hphase : s.rst.phase ≠ .safeHold)
include hphase

theorem powerOnReset_eq : s.powerOnReset = coldDueBy { s with rst := { s.rst with por := true } } rsPOR :=
  trigger_cold (s := { s with rst := { s.rst with por := true } }) hphase rsPOR

theorem resetN_of_running (hheld : s.rst.phase ≠ .held) (hreleased : s.rst.phase ≠ .released) : s.resetN = coldDueBy s rsRESET_N :=
  (if_neg (not_or_intro hheld hreleased)).trans (trigger_cold hphase rsRESET_N)

theorem thermalTrip_eq : s.thermalTrip =
    coldDueBy { (s.raise 129).emit (.pin 11 0 0) with rst := { s.rst with thermal := true } } rsTHERMAL :=
  trigger_cold (s := { (s.raise 129).emit (.pin 11 0 0) with rst := { s.rst with thermal := true } }) hphase rsTHERMAL

theorem rstDeviceWrite_of_key {v : Nat} (hkey : bits v 31 16 = 0x9192) : s.rstDeviceWrite v = resetDueBy s rsDEVICE (bit v 0) :=
  (if_pos hkey).trans (trigger_of_counted hphase rsDEVICE (bit v 0))

end

theorem regCmd_rstDevice {path v : Nat} (h : Safety.takes s path RST_DEVICE 0 0 v = true) : s.regCmd path RST_DEVICE.off v = s.rstDeviceWrite v :=
  regCmd_sys h (by decide +kernel) rfl (by decide) (by decide) (by decide) rfl

/-! ### Thermal and supply events (R641, R646) -/

theorem thermalWarn_of_armed (h : s.rst.hot = false) : s.thermalWarn = ({ s with rst := { s.rst with hot := true } } : State).raise 128 :=
  if_neg (Bool.eq_false_iff.mp h)

theorem supplyFault_of_armed {n : Nat} (hn : n < 8) (harmed : bit s.rst.supply n = false) (hdram : 6 ≤ n → s.rd DRAM_CFG_CH_EN ≠ 0) :
    s.supplyFault n = ({ s with rst := { s.rst with supply := setBit s.rst.supply n true } } : State).raise 130 := by
  refine if_neg ?_
  rintro (hmany | hfault | ⟨hrail, hoff⟩)
  · omega
  · exact Bool.eq_false_iff.mp harmed hfault
  · exact hdram hrail hoff

theorem supplyReturn_of_rail {n : Nat} (hn : n < 8) :
    s.supplyReturn n = { s with rst := { s.rst with supply := setBit s.rst.supply n false } } := if_pos hn

/-! ### From the release of reset to SRAM initialisation (R571 to R583) -/

theorem stretchEnd_of_held (hphase : s.rst.phase = .held) (hpor : s.rst.por = false) (hthermal : s.rst.thermal = false) :
    s.stretchEnd = (({ s with rst := { s.rst with phase := .released } } : State).emit (.pin 10 0 1)).emit (.pin 11 0 1) :=
  if_pos ⟨hphase, by rw [hpor]; rfl, by rw [hthermal]; rfl⟩

/-- RST_CAUSE takes the recorded causes. -/
def causesTaken (s : State) : State := (s.wr RST_CAUSE_SOURCES s.rst.sources).wr RST_CAUSE_COLD (b2n s.rst.cold)

section
variable (hphase : s.rst.phase = .released)
include hphase

theorem resetRelease_loaded (hloaded : s.rst.loaded = true) : s.resetRelease =
    ({ causesTaken s with rst := { s.rst with phase := .sram } } : State).wr RST_STATUS_STAGE 1 := (if_pos hphase).trans (if_pos hloaded)

theorem resetRelease_unloaded (hloaded : s.rst.loaded = false) : s.resetRelease =
    ({ causesTaken s with rst := { s.rst with phase := .loading } } : State).wr RST_STATUS_STAGE 0 :=
  (if_pos hphase).trans (if_neg (Bool.eq_false_iff.mp hloaded))

end

/-- The shadow that a right load of the fuse array gives. -/
def fuseShadow (fuses : SMap Nat) : SMap Nat :=
  (List.range 512).filterMap (fun n =>
    let d := if SMap.get fuses n 0 = 0 then rowDefault n else SMap.get fuses n 0 % 2 ^ 64
    if d = 0 then none else some (n, d))

/-- The state of a complete fuse load before its registers take their values. -/
def fusesRead (s : State) (rows : List Nat) : State :=
  ((({ s with rst := { s.rst with
      phase := .sram, loaded := true, retried := rows, sources := 0, cold := false, shadow := fuseShadow s.rst.fuses } } : State).wr
    FUSE_STATUS_STATE 1).wr FUSE_STATUS_RETRIED rows.length).wr RST_STATUS_STAGE 1

section
variable (hphase : s.rst.phase = .loading) (retried : List Nat) {bad : List Nat}
include hphase

theorem fuseLoadDone_right (hright : s.failRow bad = none) :
    s.fuseLoadDone retried bad = (fusesRead s (retried.eraseDups.filter (· < 512))).loadFuses.fuseTime := by
  refine (if_neg (not_not_intro hphase)).trans ?_
  dsimp only
  rw [hright]
  rfl

theorem fuseLoadDone_failed {row : Nat} (hfail : s.failRow bad = some row) :
    s.fuseLoadDone retried bad = s.safeHold row (retried.eraseDups.filter (· < 512)) := by
  refine (if_neg (not_not_intro hphase)).trans ?_
  dsimp only
  rw [hfail]

end

/-- A failing word of a group takes a free remap entry, or raises 36. -/
def wordsRemapped (s : State) (words : List (Nat × Nat)) : State :=
  words.foldl (fun (u : State) e =>
    if u.mapped_ e.1 e.2 = true then u
    else match u.freeRemap e.1 with
      | some i => u.addRemap e.1 i e.2
      | none => u.raise 36 { arg := e.1 }) s

/-- The failing words that count: those of a cold start that exist. -/
def wordsFailing (s : State) (bad : List (Nat × Nat)) : List (Nat × Nat) :=
  if s.rst.thisCold then bad.filter (fun e => decide (e.1 < 16) && decide (e.2 < eccSize e.1)) else []

/-- Every enabled port starts. -/
def portsStarted (s : State) : State :=
  (List.range 96).foldl (fun (u : State) p => if (u.portExists p && u.portEn p) = true then u.portOn p else u) s

theorem sramInitDone_of_sram (hphase : s.rst.phase = .sram) (bad : List (Nat × Nat)) : s.sramInitDone bad =
    (portsStarted (((wordsRemapped s (wordsFailing s bad)).setRst (fun r => { r with phase := .firmware })).wr RST_STATUS_STAGE 3)).dramStart :=
  if_neg (not_not_intro hphase)

/-! ### Firmware (R584, R585) -/

/-- Core 0, Herd and the collector start with stage `img` of image `n`. -/
def firmwareRuns (s : State) (img : List Nat) (n : Nat) : State :=
  let v := ((s.memPut 0x10000000 img).wr RST_STATUS_FW_IMAGE n).wr RST_STATUS_STAGE 4
  ((({ v with rst := { v.rst with phase := .running } } : State).coreRun (Nat.lor (v.rd CH_CTRL_RUN) 1)).herdStart).collectorStart

section
variable (hphase : s.rst.phase = .firmware) {x y : List Nat}
include hphase

theorem firmwareLoad_first {img : List Nat} (hfirst : stageOf (if bit (s.rowData 128) 16 then y else x) = some img) :
    s.firmwareLoad x y = firmwareRuns s img (if bit (s.rowData 128) 16 then 2 else 1) := by
  refine (if_neg (not_not_intro hphase)).trans ?_
  dsimp only
  rw [hfirst]
  rfl

section
variable (hfirst : stageOf (if bit (s.rowData 128) 16 then y else x) = none)
include hfirst

theorem firmwareLoad_other {img : List Nat} (hother : stageOf (if bit (s.rowData 128) 16 then x else y) = some img) :
    s.firmwareLoad x y = firmwareRuns (s.raise 179) img (if bit (s.rowData 128) 16 then 1 else 2) := by
  have hnumber : (if bit (s.rowData 128) 16 then 1 else 2) = if (!bit (s.rowData 128) 16) then 2 else 1 := by
    cases bit (s.rowData 128) 16 <;> rfl
  rw [hnumber]
  refine (if_neg (not_not_intro hphase)).trans ?_
  dsimp only
  rw [hfirst, hother]
  rfl

theorem firmwareLoad_none (hother : stageOf (if bit (s.rowData 128) 16 then x else y) = none) : s.firmwareLoad x y =
    ((({ s.raise 179 with rst := { s.rst with phase := .noFirmware } } : State).wr RST_STATUS_STAGE 5).collectorStart) := by
  refine (if_neg (not_not_intro hphase)).trans ?_
  dsimp only
  rw [hfirst, hother]
  rfl

end

end

/-- The EARLY upstream ports answer. -/
def earlyReady (s : State) : State := (s.upPorts.filter (fun p => bit (s.rowData (153 + p)) 32)).foldl (fun (u : State) p => u.hierReady p) s

theorem noFirmware_of_waiting (hphase : s.rst.phase = .noFirmware) (hfirst : s.rst.early = false) :
    s.noFirmware = (earlyReady { s with rst := { s.rst with early := true } }).raise 180 :=
  if_pos ⟨hphase, by rw [hfirst]; rfl⟩

end

/-! ### The rows of reset and start-up -/

section
variable (s : State)

theorem exec_powerOnReset : exec .powerOnReset s = .next (settle s.powerOnReset) := rfl
theorem exec_resetNAssert : exec .resetNAssert s = .next (settle s.resetN) := rfl
theorem exec_thermalTrip : exec .thermalTrip s = .next (settle s.thermalTrip) := rfl
theorem exec_thermalWarn : exec .thermalWarn s = .next (settle s.thermalWarn) := rfl
theorem exec_supplyFault (n : Nat) : exec (.supplyFault n) s = .next (settle (s.supplyFault n)) := rfl
theorem exec_supplyWindowReturn (n : Nat) : exec (.supplyWindowReturn n) s = .next (settle (s.supplyReturn n)) := rfl
theorem exec_porRelease : exec .porRelease s = .next (settle { s with rst := { s.rst with por := false } }) := rfl
theorem exec_thermalTripEnd : exec .thermalTripEnd s = .next (settle { s with rst := { s.rst with thermal := false } }) := rfl
theorem exec_thermalWarnRearm : exec .thermalWarnRearm s = .next (settle { s with rst := { s.rst with hot := false } }) := rfl
theorem exec_resetStretchEnd : exec .resetStretchEnd s = .next (settle s.stretchEnd) := rfl
theorem exec_resetRelease : exec .resetRelease s = .next (settle s.resetRelease) := rfl
theorem exec_fuseLoadDone (retried bad : List Nat) :
    exec (.fuseLoadDone retried bad) s = .next (settle (s.fuseLoadDone retried bad)) := rfl
theorem exec_sramInitDone (bad : List (Nat × Nat)) : exec (.sramInitDone bad) s = .next (settle (s.sramInitDone bad)) := rfl
theorem exec_firmwareLoad (x y : List Nat) : exec (.firmwareLoad x y) s = .next (settle (s.firmwareLoad x y)) := rfl
theorem exec_noFirmwareTimeout : exec .noFirmwareTimeout s = .next (settle s.noFirmware) := rfl

theorem exec_deviceReset {s : State} {t path v : Nat} (h : Safety.takes (s.advance t) path RST_DEVICE 0 0 v = true) :
    exec (.deviceReset t path v) s = .next (settle ((s.advance t).rstDeviceWrite v)) := congrArg done (regCmd_rstDevice h)

end

/-- Settles O45: each reset source, each end of an excursion, and each stage of start-up in the phase it belongs to (the collector,
the load's events and Herd start with the firmware, or with its absence, log entry 11). -/
theorem resetAndStartUpCommandsComplete : Obligations.ResetAndStartUpCommandsComplete := by
  unfold Obligations.ResetAndStartUpCommandsComplete
  refine ⟨fun s hphase => ?source, fun s => ?excursion, fun s => ?startUp⟩
  case source =>
    intro r
    refine ⟨?_, fun hheld hreleased => ?_, ?_, fun t path v => ?_⟩
    · rw [exec_powerOnReset, powerOnReset_eq hphase]
      rfl
    · rw [exec_resetNAssert, resetN_of_running hphase hheld hreleased]
      rfl
    · rw [exec_thermalTrip, thermalTrip_eq hphase]
      rfl
    · intro a htakes hkey
      have hout : a.rst.phase ≠ .safeHold := hphase
      rw [exec_deviceReset htakes, rstDeviceWrite_of_key hout hkey]
      rfl
  case excursion =>
    intro r
    refine ⟨exec_porRelease s, exec_thermalTripEnd s, fun harmed => ?_, exec_thermalWarnRearm s,
      fun n hn => ⟨fun harmed hdram => ?_, ?_⟩⟩
    · rw [exec_thermalWarn, thermalWarn_of_armed harmed]
    · rw [exec_supplyFault, supplyFault_of_armed hn harmed hdram]
    · rw [exec_supplyWindowReturn, supplyReturn_of_rail hn]
  case startUp =>
    intro r
    refine ⟨fun hphase hpor hthermal => ?stretch, fun hphase => ⟨fun hloaded => ?warm, fun hloaded => ?cold⟩,
      fun hphase retried bad => ⟨fun hright => ?right, fun row hfail => ?failed⟩, fun hphase bad => ?sram,
      fun hphase x y => ⟨fun img hfirst => ?first, fun hfirst => ⟨fun img hother => ?other, fun hother => ?none⟩⟩,
      fun hphase hfirst => ?early⟩
    case stretch => rw [exec_resetStretchEnd, stretchEnd_of_held hphase hpor hthermal]
    case warm =>
      rw [exec_resetRelease, resetRelease_loaded hphase hloaded]
      rfl
    case cold =>
      rw [exec_resetRelease, resetRelease_unloaded hphase hloaded]
      rfl
    case right =>
      rw [exec_fuseLoadDone, fuseLoadDone_right hphase retried hright]
      rfl
    case failed =>
      rw [exec_fuseLoadDone, fuseLoadDone_failed hphase retried hfail]
      rfl
    case sram =>
      rw [exec_sramInitDone, sramInitDone_of_sram hphase]
      rfl
    case first =>
      rw [exec_firmwareLoad, firmwareLoad_first hphase hfirst]
      rfl
    case other =>
      rw [exec_firmwareLoad, firmwareLoad_other hphase hfirst hother]
      rfl
    case none => rw [exec_firmwareLoad, firmwareLoad_none hphase hfirst hother]
    case early =>
      rw [exec_noFirmwareTimeout, noFirmware_of_waiting hphase hfirst]
      rfl

end Sys2Proof.Proofs
end

section
/-! PROOFS of the statement of 18_reset_and_startup about host-domain, port and block resets (R587 to R590). -/

namespace Sys2Proof.Proofs
open Sys2Proof.Machine Sys2Proof.Laws

section
variable {s : State}

/-! ### Host-domain resets (R587, R588) -/

/-- A reset of domain `d` has begun: the containment of the domain and its ports is over, its configuration clear. -/
def domainCleared (s : State) (d : Nat) : State :=
  let b := ({ s with rst := { s.rst with hds := s.rst.hds ++ [(d, s.ns)] } } : State).setOn RST_HD_BUSY
  let c := (s.hdPorts d).foldl (fun (u : State) p => u.dpcRelease p) b
  (c.wr FAULT_HD_CONTAINED_VALUE (setBit (c.rd FAULT_HD_CONTAINED_VALUE (d / 32)) (d % 32) false) (d / 32)).clearHdCfg d

/-- A port in hot reset, its PERST asserted and its slot powered as configured, with dark indicators. -/
def portHeldDown (u : State) (p : Nat) : State :=
  let v := (u.hotReset p).assertPerst p
  match v.slotChan p with
  | some _ => ((v.setPower p (!v.on PORT_SLOT_CFG_AUTO_POWER p)).setInd p true 3).setInd p false 3
  | none => v

/-- The VFs of an upstream port's PF are removed, and the PF is reset. -/
def portPfReset (u : State) (p : Nat) : State :=
  match u.portPf p with
  | some n => (u.vfEnableClear n).fnReset (pfIndex n) false none
  | none => u

/-- The PFs of domain `d` reset. -/
def domainPfsReset (s : State) (d : Nat) : State :=
  (s.upPorts.filter (fun p => s.rd PORT_CFG_HD p == d)).foldl portPfReset s

theorem hdReset_of_running {d : Nat} (h : s.rst.hds.any (fun e => e.1 == d) = false) :
    s.hdReset d = domainPfsReset ((s.hdPorts d).foldl portHeldDown (domainCleared s d)) d :=
  if_neg (Bool.eq_false_iff.mp h)

/-- The ports of a domain whose reset is over detect again. -/
def domainDone (s : State) (d : Nat) : State :=
  let rest := s.rst.hds.filter (fun e => e.1 != d)
  let b := ({ s with rst := { s.rst with hds := rest } } : State).wr RST_HD_BUSY (b2n (!rest.isEmpty))
  ((b.hdPorts d).foldl (fun (u : State) p => (u.setPport p { u.pport p with hot := false }).wr PORT_STATUS_LTSSM lsDETECT p) b).raise 195

theorem hdResetDone_of_idle {d n at_ : Nat} (hfound : s.rst.hds.find? (fun e => e.1 == d) = some (n, at_)) (hdue : at_ + 2000000 ≤ s.ns)
    (hidle : ∀ m ∈ (s.upPorts.filter (fun p => s.rd PORT_CFG_HD p == d)).filterMap s.portPf, (s.fn (pfIndex m)).reset = none ∧
      ∀ i < s.rd RING_PF_VF_VF_LIMIT m, (s.fn (s.rd RING_PF_VF_VF_BASE m + i)).reset = none) :
    s.hdResetDone d = domainDone s d := by
  have hthrough : ((s.upPorts.filter (fun p => s.rd PORT_CFG_HD p == d)).filterMap s.portPf).any (fun m =>
      (s.fn (pfIndex m)).reset.isSome || (List.range (s.rd RING_PF_VF_VF_LIMIT m)).any (fun i =>
        (s.fn (s.rd RING_PF_VF_VF_BASE m + i)).reset.isSome)) = false := by
    refine List.any_eq_false.mpr fun m hm => ?_
    obtain ⟨hpf, hvfs⟩ := hidle m hm
    have hall : (List.range (s.rd RING_PF_VF_VF_LIMIT m)).any (fun i => (s.fn (s.rd RING_PF_VF_VF_BASE m + i)).reset.isSome) = false :=
      List.any_eq_false.mpr fun i hi => by simp [hvfs i (List.mem_range.mp hi)]
    simp [hpf, hall]
  have hlate : decide (s.ns < at_ + 2000000) = false := decide_eq_false (Nat.not_lt.mpr hdue)
  simp only [State.hdResetDone, hfound, hthrough, hlate, Bool.or_self, Bool.false_eq_true, if_false]
  rfl

/-! ### Port resets (R589) -/

/-- A port whose reset waits for it to train again. -/
def portBusy (s : State) (p : Nat) : State := { s with rst := { s.rst with ports := s.rst.ports.filter (· != p) ++ [p] } }

section
variable {p : Nat} (hexists : s.portExists p = true) (hen : s.portEn p = true)
include hexists hen

theorem portReset_fabric (hfab : s.isFab p = true) (hfree : s.portContained p = false) : s.portReset p =
    (if (portBusy s p).linkLive (p / 4) = true then (portBusy s p).linkDown (p / 4) ldPORT_DISABLED
      else ((portBusy s p).lanesIdle (p / 4)).trainTo (p / 4) trDETECT).syncPortBusy := by
  refine (if_neg (by simp [hexists, hen])).trans ?_
  simp only [hfab, hfree, if_true, Bool.false_eq_true, if_false]
  rfl

theorem portReset_pcie (hfab : s.isFab p = false) : s.portReset p =
    ((((portBusy s p).pcieOff p).releasePort p).claimPort p).syncPortBusy := by
  refine (if_neg (by simp [hexists, hen])).trans ?_
  simp only [hfab, Bool.false_eq_true, if_false]
  rfl

end

theorem rstPortWrite_of_go {v : Nat} (hgo : bit v 31 = true) : s.rstPortWrite v = s.portReset (v % 128) := if_pos hgo

/-! ### Block resets (R590) -/

theorem rstBlockWrite_of_free {v : Nat} (hgo : bit v 31 = true) (hnamed : blockNamed (v % 256) = true) (hfree : s.rst.block = none) :
    s.rstBlockWrite v = (((({ s with rst := { s.rst with block := some (v % 256, s.ns) } } : State).setOn RST_BLOCK_STATUS_BUSY).wr
      RST_BLOCK_STATUS_DONE 0).wr RST_BLOCK_STATUS_FORCED 0).wr RST_BLOCK_STATUS_BLOCK (v % 256) :=
  if_pos (by simp [hgo, hnamed, hfree])

/-- No block reset runs any more. -/
def blockEnded (s : State) : State :=
  (({ s with rst := { s.rst with block := none } } : State).wr RST_BLOCK_STATUS_BUSY 0).setOn RST_BLOCK_STATUS_DONE

section
variable {n at_ : Nat} (hblock : s.rst.block = some (n, at_))
include hblock

theorem blockIdleAck_of_idle (hidle : s.blockIdle n = true) : s.blockIdleAck = (blockEnded s).blockReset n false := by
  simp only [State.blockIdleAck, hblock, if_pos hidle]
  rfl

section
variable (hdue : at_ + s.rd RST_BLOCK_TIMEOUT_TIMEOUT * 10000 ≤ s.ns)
include hdue

theorem blockTimeout_idle (hidle : s.blockIdle n = true) : s.blockTimeout = (blockEnded s).blockReset n false := by
  simp only [State.blockTimeout, hblock, if_pos hdue, hidle]
  rfl

theorem blockTimeout_forced (hbusy : s.blockIdle n = false) :
    s.blockTimeout = (((blockEnded s).setOn RST_BLOCK_STATUS_FORCED).raise 194).blockReset n true := by
  simp only [State.blockTimeout, hblock, if_pos hdue, hbusy]
  rfl

end

end

section
variable {path v : Nat}

theorem regCmd_rstPort (h : Safety.takes s path RST_PORT 0 0 v = true) : s.regCmd path RST_PORT.off v = s.rstPortWrite v :=
  regCmd_sys h (by decide +kernel) rfl (by decide) (by decide) (by decide) rfl

theorem regCmd_rstBlockCmd (h : Safety.takes s path RST_BLOCK_CMD 0 0 v = true) : s.regCmd path RST_BLOCK_CMD.off v = s.rstBlockWrite v :=
  regCmd_sys h (by decide +kernel) rfl (by decide) (by decide) (by decide) rfl

end

end

/-! ### The rows of partial resets -/

section
variable {s : State} {t : Nat}

theorem exec_hostDomainReset (hup : Safety.linksUp (s.advance t) = true) (d : Nat) :
    exec (.hostDomainReset t d) s = .next (settle ((s.advance t).hdReset d)) := done_whenLinks hup

theorem exec_hostDomainResetDone (hup : Safety.linksUp (s.advance t) = true) (d : Nat) :
    exec (.hostDomainResetDone t d) s = .next (settle ((s.advance t).hdResetDone d)) := done_whenLinks hup

theorem exec_portReset {path v : Nat} (h : Safety.takes (s.advance t) path RST_PORT 0 0 v = true) :
    exec (.portReset t path v) s = .next (settle ((s.advance t).rstPortWrite v)) := congrArg done (regCmd_rstPort h)

theorem exec_blockReset {path v : Nat} (h : Safety.takes (s.advance t) path RST_BLOCK_CMD 0 0 v = true) :
    exec (.blockReset t path v) s = .next (settle ((s.advance t).rstBlockWrite v)) := congrArg done (regCmd_rstBlockCmd h)

section
variable (hloaded : (s.advance t).loadedUp = true) (hhalt : (s.advance t).on FAULT_STATUS_HALTED = false)
include hloaded hhalt

theorem exec_blockIdleAck : exec (.blockIdleAck t) s = .next (settle (s.advance t).blockIdleAck) := done_whenLoaded hloaded hhalt

theorem exec_blockResetTimeout : exec (.blockResetTimeout t) s = .next (settle (s.advance t).blockTimeout) :=
  done_whenLoaded hloaded hhalt

end

end

/-- Settles O46: the start and the end of a reset of each kind (one of a block clears DONE and FORCED of the one before,
log entry 8). -/
theorem partialResetsComplete : Obligations.PartialResetsComplete := by
  unfold Obligations.PartialResetsComplete
  refine ⟨fun s t d => ?domain, fun s t path v => ?port, fun s t path v => ?block, fun s t n at_ => ?ended⟩
  case domain =>
    intro a hup
    refine ⟨fun hrunning => ?_, fun n at_ hfound hdue hidle => ?_⟩
    · intro b c e f
      rw [exec_hostDomainReset hup, hdReset_of_running hrunning]
      rfl
    · intro rest b
      rw [exec_hostDomainResetDone hup, hdResetDone_of_idle hfound hdue hidle]
      rfl
  case port =>
    intro a p b htakes hgo hexists hen
    refine ⟨fun hfab hfree => ?_, fun hfab => ?_⟩
    · rw [exec_portReset htakes, rstPortWrite_of_go hgo, portReset_fabric hexists hen hfab hfree]
      rfl
    · rw [exec_portReset htakes, rstPortWrite_of_go hgo, portReset_pcie hexists hen hfab]
      rfl
  case block =>
    intro a htakes hgo hnamed hfree
    rw [exec_blockReset htakes, rstBlockWrite_of_free hgo hnamed hfree]
  case ended =>
    intro a b hloaded hhalt hblock
    refine ⟨fun hidle => ?_, fun hdue => ⟨fun hidle => ?_, fun hbusy => ?_⟩⟩
    · rw [exec_blockIdleAck hloaded hhalt, blockIdleAck_of_idle hblock hidle]
      rfl
    · rw [exec_blockResetTimeout hloaded hhalt, blockTimeout_idle hblock hdue hidle]
      rfl
    · rw [exec_blockResetTimeout hloaded hhalt, blockTimeout_forced hblock hdue hbusy]
      rfl

end Sys2Proof.Proofs
end

section
/-! PROOFS of the statement of 18_reset_and_startup about power states and fuses (R593 to R601). -/

namespace Sys2Proof.Proofs
open Sys2Proof.Machine Sys2Proof.Laws

section
variable {s : State}

/-! ### Quiet (R593, R594) -/

theorem quietEntry_of_idle (hen : s.on PWR_CTRL_QUIET_EN = true) (hactive : s.rd PWR_STATUS_STATE = pwACTIVE) (hok : s.quietOk = true)
    (hedges : s.rd PWR_CTRL_QUIET_IDLE ≤ s.rst.idleEdges) : s.quietEntry = s.wr PWR_STATUS_STATE pwQUIET :=
  if_pos (by simp [hen, hactive, hok, hedges])

theorem quietExit_of_quiet (hquiet : s.rd PWR_STATUS_STATE = pwQUIET) :
    s.quietExit = (s.wr PWR_STATUS_STATE pwACTIVE).setRst (fun r => { r with idleEdges := 0 }) := if_pos hquiet

/-! ### Rest (R595 to R597) -/

/-- Rest begins: the arming clears and DRAM refreshes itself. -/
def restBegun (s : State) : State :=
  (((s.wr PWR_STATUS_STATE pwREST).wr PWR_CTRL_REST_ARM 0).wr PWR_STATUS_REST_WAIT 0).enterSelfRefresh

section
variable (harmed : s.on PWR_CTRL_REST_ARM = true) (hawake : s.rd PWR_STATUS_STATE ≠ pwREST) (hok : s.restOk = true)
include harmed hawake hok

theorem restEntry_of_armed :
    s.restEntry = if (restBegun s).timeState = tsLOCKED then (restBegun s).enterHoldover.raise 97 else restBegun s :=
  if_pos (by simp [harmed, hok, State.resting, hawake])

theorem restEntry_locked (hlocked : (restBegun s).timeState = tsLOCKED) : s.restEntry = (restBegun s).enterHoldover.raise 97 :=
  (restEntry_of_armed harmed hawake hok).trans (if_pos hlocked)

theorem restEntry_unlocked (hunlocked : (restBegun s).timeState ≠ tsLOCKED) : s.restEntry = restBegun s :=
  (restEntry_of_armed harmed hawake hok).trans (if_neg hunlocked)

end

/-- Rest is over, ended by source `n`. -/
def restEnded (s : State) (n : Nat) : State :=
  let b := ((s.wr PWR_STATUS_STATE pwACTIVE).wr PWR_STATUS_WAKE_SRC (2 ^ n)).wr DRAM_STATUS_SELF_REFRESH 0
  { b with rst := { b.rst with idleEdges := 0 }, buf := { b.buf with idleTicks := 0 } }

/-- Every octet in Hibernate starts its exit. -/
def octetsWoken (s : State) : State :=
  s.fabOcts.foldl (fun (u : State) k => if u.trState k = trHIBERNATE then u.hibernateExit k else u) s

theorem restWake_of_enabled {n : Nat} (hrest : s.rd PWR_STATUS_STATE = pwREST) (hn : n < 5) (hen : bit (s.rd PWR_WAKE_EN_EN) n = true) :
    s.restWake n = octetsWoken (restEnded s n) :=
  if_pos (by simp [State.resting, hrest, hn, hen])

/-- What a wake source names wakes the device: the channel of an enabled slot, or a selected input pin (R597). -/
theorem wakes_of_selected {n arg : Nat} (hslot : n < 2 → ∃ p, s.chanPort arg = some p ∧ s.portEn p = true)
    (hpin : n = 2 → (s.pin arg).mode = 0 ∧ bit (s.rd64 PWR_WAKE_CUE_LO_VALUE PWR_WAKE_CUE_HI_VALUE) arg = true) : s.wakes n arg = true := by
  unfold State.wakes
  split
  next hfew =>
    obtain ⟨p, hchan, hen⟩ := hslot hfew
    rw [hchan]
    exact hen
  next =>
    split
    next hcue =>
      obtain ⟨hmode, hselected⟩ := hpin hcue
      simp [hmode, hselected]
    next => rfl

theorem wakeBy_of_selected {n arg : Nat} (hwakes : s.wakes n arg = true) : s.wakeBy n arg = s.restWake n := if_pos hwakes

theorem regCmd_pwrCtrl {path v : Nat} (h : Safety.takes s path PWR_CTRL 0 0 v = true) : s.regCmd path PWR_CTRL.off v = s.pwrCtrlWrite v :=
  regCmd_sys h (by decide +kernel) rfl (by decide) (by decide) (by decide) rfl

/-! ### Programming fuses (R600, R601) -/

theorem regCmd_fuseProgCmd {path v : Nat} (h : Safety.takes s path FUSE_PROG_CMD 0 0 v = true) :
    s.regCmd path FUSE_PROG_CMD.off v = s.fuseProgram path v :=
  regCmd_sys h (by decide +kernel) rfl (by decide) (by decide) (by decide) rfl

/-- Whether a path may program a row with data (R601). -/
def programs (s : State) (path row data : Nat) : Prop :=
  (path = 0 ∨ path = 2) ∧ 128 ≤ row ∧ row ≤ 288 ∧ SMap.get s.rst.fuses row 0 = 0 ∧ data ≠ 0

section
variable {path v : Nat} (hkey : bits v 31 16 = 0x9192) (hfree : s.rst.progBusy = none)
include hkey hfree

theorem fuseProgram_starts (h : programs s path (v % 512) (s.rd64 FUSE_PROG_DATA_LO_VALUE FUSE_PROG_DATA_HI_VALUE)) :
    s.fuseProgram path v = ({ s with rst := { s.rst with
      progBusy := some (v % 512, s.rd64 FUSE_PROG_DATA_LO_VALUE FUSE_PROG_DATA_HI_VALUE) } } : State).wr FUSE_PROG_STATUS_RESULT 1 :=
  (if_neg (by simp [hkey, hfree])).trans (if_pos h)

theorem fuseProgram_refused (h : ¬ programs s path (v % 512) (s.rd64 FUSE_PROG_DATA_LO_VALUE FUSE_PROG_DATA_HI_VALUE)) :
    s.fuseProgram path v = s.wr FUSE_PROG_STATUS_RESULT 3 :=
  (if_neg (by simp [hkey, hfree])).trans (if_neg h)

end

theorem fuseProgramDone_of_busy {row data : Nat} (hbusy : s.rst.progBusy = some (row, data)) : s.fuseProgramDone =
    ({ s with rst := { s.rst with progBusy := none, fuses := SMap.set s.rst.fuses row (fuseRow data) 0 } } : State).wr
      FUSE_PROG_STATUS_RESULT 2 := by
  simp only [State.fuseProgramDone, hbusy]
  rfl

end

/-! ### The rows of power states and fuses -/

section
variable {s : State} {t : Nat}

section
variable (hup : (s.advance t).portsUp = true)
include hup

theorem exec_quietEntry : exec (.quietEntry t) s = .next (settle (s.advance t).quietEntry) := done_whenUp hup

theorem exec_quietExit : exec (.quietExit t) s = .next (settle (s.advance t).quietExit) := done_whenUp hup

theorem exec_restEntry : exec (.restEntry t) s = .next (settle (s.advance t).restEntry) := done_whenUp hup

end

theorem exec_restArm {path v : Nat} (h : Safety.takes (s.advance t) path PWR_CTRL 0 0 v = true) :
    exec (.restArm t path v) s = .next (settle ((s.advance t).pwrCtrlWrite v)) := congrArg done (regCmd_pwrCtrl h)

theorem exec_restWake (hloaded : (s.advance t).loadedUp = true) (hhalt : (s.advance t).on FAULT_STATUS_HALTED = false) (n arg : Nat) :
    exec (.restWake t n arg) s = .next (settle ((s.advance t).wakeBy n arg)) := done_whenLoaded hloaded hhalt

theorem exec_fuseProgram {path v : Nat} (h : Safety.takes (s.advance t) path FUSE_PROG_CMD 0 0 v = true) :
    exec (.fuseProgram t path v) s = .next (settle ((s.advance t).fuseProgram path v)) := congrArg done (regCmd_fuseProgCmd h)

theorem exec_fuseProgramDone : exec (.fuseProgramDone t) s = .next (settle (s.advance t).fuseProgramDone) := rfl

end

/-- Settles O47: the ways into and out of Quiet and Rest, and the programming of a fuse row (WAKE_SRC names the latest source,
log entry 9). -/
theorem powerAndFuseCommandsComplete : Obligations.PowerAndFuseCommandsComplete := by
  unfold Obligations.PowerAndFuseCommandsComplete
  refine ⟨fun s t => ?state, fun s t path v => ?arm, fun s t path v => ?program, fun s t row data => ?programmed, fun s t n arg => ?wake⟩
  case state =>
    intro a hup
    refine ⟨fun hen hactive hok hedges => ?entry, fun hquiet => ?exit, ?rest⟩
    case entry => rw [exec_quietEntry hup, quietEntry_of_idle hen hactive hok hedges]
    case exit =>
      rw [exec_quietExit hup, quietExit_of_quiet hquiet]
      rfl
    case rest =>
      intro b harmed hawake hok
      refine ⟨fun hlocked => ?_, fun hunlocked => ?_⟩
      · rw [exec_restEntry hup, restEntry_locked harmed hawake hok hlocked]
        rfl
      · rw [exec_restEntry hup, restEntry_unlocked harmed hawake hok hunlocked]
        rfl
  case arm =>
    intro a b htakes
    exact exec_restArm htakes
  case program =>
    intro a row data htakes hkey hfree
    refine ⟨fun hpath hlo hhi hblank hdata => ?_, fun hillegal => ?_⟩
    · rw [exec_fuseProgram htakes, fuseProgram_starts hkey hfree ⟨hpath, hlo, hhi, hblank, hdata⟩]
    · rw [exec_fuseProgram htakes, fuseProgram_refused hkey hfree hillegal]
  case programmed =>
    intro a hbusy
    rw [exec_fuseProgramDone, fuseProgramDone_of_busy hbusy]
  case wake =>
    intro a b c hloaded hhalt hrest hn hen hslot hpin
    rw [exec_restWake hloaded hhalt, wakeBy_of_selected (wakes_of_selected hslot hpin), restWake_of_enabled hrest hn hen]
    rfl

end Sys2Proof.Proofs
end

section
/-! PROOFS of the statement of 20_address_map about SMBus, the table window and the debug window (R628 to R634). -/

namespace Sys2Proof.Proofs
open Sys2Proof.Machine Sys2Proof.Laws

section
variable {s : State}

/-! ### SMBus transactions, after the wake (R566, R597, R628, R629) -/

section
variable {off : Nat} (hopen : s.busyAt off = false) (hdefined : s.defined 2 off = true)
include hopen hdefined

theorem smbResult_of_open : s.smbResult off = 0 := by simp [State.smbResult, hopen, hdefined]

end

section
variable {w : State} (hwake : s.restWake 3 = w)
include hwake

section
variable {off : Nat} (hopen : w.busyAt off = false) (hdefined : w.defined 2 off = true)
include hopen hdefined

theorem smbWrite_of_open (v : Nat) : s.smbWrite off v false =
    (({ w.setupWr 2 off v with bus := { (w.setupWr 2 off v).bus with result := 0 } } : State).emit (.smbus 0 [])) := by
  simp only [State.smbWrite, State.smbWake, hwake, Bool.false_eq_true, if_false, smbResult_of_open hopen hdefined, if_true]

theorem smbRead_of_open {x : Nat} {u : State} (hread : w.setupRd 2 off = (some x, u)) :
    s.smbRead off false = u.emit (.smbus 0 (leBytes 4 x)) := by
  simp only [State.smbRead, State.smbWake, hwake, Bool.false_eq_true, if_false, smbResult_of_open hopen hdefined, if_true, hread]

end

theorem smbStatus_eq : s.smbStatus false = w.emit (.smbus 0 [w.statusByte, w.bus.result]) := by
  simp only [State.smbStatus, State.smbWake, hwake, Bool.false_eq_true, if_false]

theorem smbReset_of_kind {arg : Nat} (harg : arg < 2) (hphase : w.rst.phase ≠ .safeHold) :
    s.smbReset arg false = resetDueBy w rsSMBUS (arg == 1) := by
  have hasks : s.smbReset arg false = w.smbusReset arg := by
    simp only [State.smbReset, State.smbWake, hwake, Bool.false_eq_true, if_false]
  rw [hasks]
  obtain rfl | rfl : arg = 0 ∨ arg = 1 := by omega
  · exact trigger_of_counted hphase rsSMBUS false
  · exact trigger_of_counted hphase rsSMBUS true

end

/-! ### The table window (R630, R631) -/

section
variable {path : Nat} (h : Safety.opens s path tblCmdOff = true)
include h

theorem regCmd_tblCmd (v : Nat) : s.regCmd path tblCmdOff v = s.windowWrite path tblCmdOff v := by
  obtain ⟨-, hreach⟩ := opens_iff.mp h
  rw [regCmd_of_opens h]
  exact (ite_not_of_true hreach).trans ((if_neg (by decide)).trans ((if_neg (by decide)).trans (if_pos (by decide))))

theorem regCmd_tblRead : s.regCmd path tblCmdOff 1 = s.tblRead (busBank path) := regCmd_tblCmd h 1

theorem regCmd_tblWrite : s.regCmd path tblCmdOff 2 = s.tblWrite (busBank path) := regCmd_tblCmd h 2

end

section
variable {b : Nat} {ws : List Nat} (himage : s.tblImage (s.bank_ b).sel (s.bank_ b).index = some (some ws))
include himage

theorem tblRead_of_entry (hsel : (s.bank_ b).sel ≠ 0x60) :
    s.tblRead b = s.setBank_ b { s.bank_ b with data := (ws ++ List.replicate 8 0).take 8, result := trOK } := by
  have hstated : ¬ ((s.bank_ b).sel == 0x60 && (s.bank_ b).index % 32 == 0) = true := by simp [hsel]
  simp only [State.tblRead, himage, if_neg hstated]

theorem tblWrite_of_entry {r : Nat} {u : State} (hput : s.tblPut (s.bank_ b).sel (s.bank_ b).index (s.bank_ b).data = some (r, u)) :
    s.tblWrite b = u.setBank_ b { u.bank_ b with result := r } := by
  simp only [State.tblWrite, himage, hput]
  rfl

end

/-! ### The debug window (R633, R634) -/

theorem regCmd_debug {path off v m n : Nat} (h : Safety.opens s path off = true) (hwindow : 0x800000 ≤ off)
    (hat : s.debugAt path off = some (m, n)) (hon : s.domainOn n = true) : s.regCmd path off v = s.memWrite 8 m (leBytes 4 v) := by
  obtain ⟨-, hreach⟩ := opens_iff.mp h
  rw [regCmd_of_opens h]
  refine (ite_not_of_true hreach).trans ((if_pos hwindow).trans ?_)
  simp only [State.debugWrite, hat, if_pos hon]

end

/-! ### The rows of SMBus and the windows -/

section
variable (s : State) (t : Nat)

theorem exec_smbusRegWrite (off v : Nat) (bad : Bool) :
    exec (.smbusRegWrite t off v bad) s = .next (settle ((s.advance t).smbWrite off v bad)) := rfl

theorem exec_smbusRegRead (off : Nat) (bad : Bool) :
    exec (.smbusRegRead t off bad) s = .next (settle ((s.advance t).smbRead off bad)) := rfl

theorem exec_smbusStatus (bad : Bool) : exec (.smbusStatus t bad) s = .next (settle ((s.advance t).smbStatus bad)) := rfl

theorem exec_smbusReset (arg : Nat) (bad : Bool) :
    exec (.smbusReset t arg bad) s = .next (settle ((s.advance t).smbReset arg bad)) := rfl

end

section
variable {s : State} {t path : Nat}

theorem exec_tblRead (h : Safety.opens (s.advance t) path tblCmdOff = true) :
    exec (.tblRead t path) s = .next (settle ((s.advance t).tblRead (busBank path))) := congrArg done (regCmd_tblRead h)

theorem exec_tblWrite (h : Safety.opens (s.advance t) path tblCmdOff = true) :
    exec (.tblWrite t path) s = .next (settle ((s.advance t).tblWrite (busBank path))) := congrArg done (regCmd_tblWrite h)

theorem exec_debugWindowWrite {off : Nat} (hwindow : 0x800000 ≤ off) (v : Nat) :
    exec (.debugWindowWrite t path off v) s = .next (settle ((s.advance t).regCmd path off v)) := congrArg done (if_pos hwindow)

end

/-- Settles O10: each SMBus transaction after its wake, and the commands of the two windows (the phases that answer BUSY are those
of log entry 65; a table command's result is there at once, log entry 82). -/
theorem setupBusCommandsComplete : Obligations.SetupBusCommandsComplete := by
  unfold Obligations.SetupBusCommandsComplete
  refine ⟨fun s t off v => ?write, fun s u t off x => ?read, fun s t => ?status, fun s t arg => ?reset, fun s t path ws => ?tblRead,
    fun s u t path r ws => ?tblWrite, fun s t path off v m n => ?debug⟩
  case write =>
    intro w hopen hdefined
    rw [exec_smbusRegWrite, smbWrite_of_open rfl hopen hdefined]
  case read =>
    intro w hopen hdefined hread
    rw [exec_smbusRegRead, smbRead_of_open rfl hopen hdefined hread]
  case status =>
    intro w
    rw [exec_smbusStatus, smbStatus_eq rfl]
  case reset =>
    intro w harg hphase
    rw [exec_smbusReset, smbReset_of_kind rfl harg hphase]
    rfl
  case tblRead =>
    intro a b hopens hsel himage
    rw [exec_tblRead hopens, tblRead_of_entry himage hsel]
  case tblWrite =>
    intro a b hopens himage hput
    rw [exec_tblWrite hopens, tblWrite_of_entry himage hput]
  case debug =>
    intro a hopens hwindow hat hon
    rw [exec_debugWindowWrite hwindow, regCmd_debug hopens hwindow hat hon]

end Sys2Proof.Proofs
end
